-- ==== Sys2Proof/Word.lean ====
section
/-! DEFINITION. The byte, the byte string and sparse maps: the plainest data of the model. -/

namespace Sys2Proof

/-- One byte. -/
abbrev Byte := BitVec 8

/-- A byte string, first byte first. -/
abbrev Bytes := List Byte

/-- A sparse map: keys strictly rising, an absent key reads as a default the reader names. -/
abbrev Map (α : Type) := List (Nat × α)

end Sys2Proof
end

