-- ==== Sys2Proof/Syntax.lean ====
section
/-! DEFINITION. The commands: one constructor for each row of spec/opcode_table.json, and the data they carry. -/

namespace Sys2Proof

/-- How a message reaches the dictionary pair (R408, R420). -/
inductive Transport where
  | ipv4 | ipv6 | mailbox
deriving DecidableEq, Repr

/-- What every tagged IDP request carries around its body (R408): session id, sequence, the client's address and port,
the 16-byte tag, how many requests stood in the dictionary pair's queue when it arrived (R412), and the header's last two bytes, flags and
reserved, whose reserved bits the device ignores (R9), and its version byte. -/
structure Req where
  sid : Nat
  seq : Nat
  via : Transport
  peer : Bytes
  tag : Bytes
  depth : Nat
  rsv : Nat
  version : Nat
deriving DecidableEq, Repr

/-- Messages the cores post at one doorbell (R420), and how many requests stood in the dictionary pair's queue then (R412). -/
structure MailPost where
  msgs : List Bytes
  depth : Nat
deriving DecidableEq, Repr

/-- A dictionary value: a number (every scalar type; WTIME as nanoseconds) or a byte string (STR, BLOB). -/
inductive Val where
  | n (v : Int)
  | b (v : Bytes)
deriving DecidableEq, Repr

/-- The dictionary types, R403. -/
inductive Ty where
  | bool | u8 | u16 | u32 | u64 | i16 | i32 | i64 | q16 | f32 | wtime | str | blob | oper
deriving DecidableEq, Repr

/-- A wall time as WTIME carries it (R11). -/
structure Wtime where
  sec : Nat
  ns : Nat
deriving DecidableEq, Repr

/-- A value as a WRITE carries it: WTIME keeps its two fields so that R37 can refuse it. -/
inductive WireVal where
  | n (v : Int)
  | w (t : Wtime)
  | b (v : Bytes)
deriving DecidableEq, Repr

/-- PTP message types of R66. -/
inductive PtpType where
  | sync | delayReq | followUp | delayResp | announce | signaling | management
  | pdelayReq | pdelayResp | pdelayRespFollowUp
deriving DecidableEq, Repr

/-- Encapsulations of R64. -/
inductive PtpEncap where
  | ipv4 | ipv6 | ethernet
deriving DecidableEq, Repr

/-- A PTP message: the fields the time-stamp units read or write, and the rest as bytes. `dest` is the UDP port it is sent to, or its
EtherType (R64). -/
structure PtpMsg where
  ty : PtpType
  encap : PtpEncap
  tags : Nat
  version : Nat
  dest : Nat
  domain : Nat
  twoStep : Bool
  correction : Int
  originSec : Nat
  originNs : Nat
  checksum : Nat
  body : Bytes
deriving DecidableEq, Repr

/-- Words as they come in on a rod's UP lane, each its sync header and its content: the link frame is the last 64, and words that came before
it stand in front (R215, R217, R219). On the lane the contents are scrambled (R216). -/
structure UpFrame where
  words : List (Nat × Nat)
deriving DecidableEq, Repr

/-- Settings of a slicer path (R287). -/
structure Slicer where
  phase : Int
  threshold : Int
  taps : List Int
deriving DecidableEq, Repr

/-- What an eye monitor has observed of a slicer path (R285): microseconds with signal, eye height and width, words observed, words with an
invalid sync header, and the counts of the vertical and of the horizontal histogram. -/
structure Eye where
  us : Nat
  h : Nat
  w : Nat
  words : Nat
  invalid : Nat
  vert : List Nat
  horiz : List Nat
deriving DecidableEq, Repr

/-- What an eye monitor has observed but for the eye's height and width. -/
structure EyeSeen where
  us : Nat
  words : Nat
  invalid : Nat
  vert : List Nat
  horiz : List Nat
deriving DecidableEq, Repr

/-- An eye of a height and a width, with what was observed beside. -/
def eyeOf (size : Nat × Nat) (y : EyeSeen) : Eye := ⟨y.us, size.1, size.2, y.words, y.invalid, y.vert, y.horiz⟩

/-- Words that come in on a rod's UP lane, as the link frames have them (R215, R218). -/
structure RodWords where
  rod : Nat
  words : List (Nat × Nat)
deriving DecidableEq, Repr

/-- One 64 microsecond measurement (R286, R288): the spare's and the active's eye, whether every decision agreed, and
whether the lane slept for more than half of it (R289). -/
structure CalMeas where
  spare : Eye
  active : Eye
  agreed : Bool
  slept : Bool
deriving DecidableEq, Repr

/-- A UDP packet's RTP view, as the flow receivers read it (R331 to R333). `rows` holds the sample rows of an
ST 2110-20 packet (row, first sample column, components); `nal` the bytes of an H.265 packet. -/
structure RtpPacket where
  dst : Bytes
  src : Bytes
  udp : Nat
  pt : Nat
  seq : Nat
  ts : Nat
  marker : Bool
  rows : List (Nat × Nat × List (List Nat))
  wholeGroups : Bool
  paci : Bool
  irap : Bool
  nal : Bytes
deriving DecidableEq, Repr

/-- A received Ethernet frame, by what it matches in R326 and R327: a PTP message, whether it is addressed to the port, and its length; a
membership query with its sources and the delay drawn for its answer; a UDP packet; ARP (whether it asks, the sender's MAC and IP address, the
target); neighbour discovery (whether it asks, the MAC address it names, its source, the target); an echo request; other traffic addressed to
the port; anything else. -/
inductive MediaFrame where
  | ptp (m : PtpMsg) (mine : Bool) (bytes : Nat)
  | membershipQuery (v6 : Bool) (group : Bytes) (sources : List Bytes) (version : Nat) (delayMs : Nat)
  | membershipReport (v6 : Bool) (group : Bytes) (version : Nat) (leave : Bool)
  | udp (p : RtpPacket) (bytes : Nat)
  | arp (asks : Bool) (mac ip target : Bytes)
  | nd (asks : Bool) (mac src target : Bytes)
  | echo (mac src dst data : Bytes)
  | host (bytes : Nat)
  | other (bytes : Nat)
deriving DecidableEq, Repr

/-- What the parity and residue checks of the media path find while a frame or picture passes: nothing, an error in its receiver or decoder, or
one in a scaler as it makes its copy (R438, Detection times). -/
inductive PathCheck where
  | good | source | scaler (n : Nat)
deriving DecidableEq, Repr

/-- A received frame with the VLAN of its tag, none untagged (R326), and what the checks of its path find. -/
structure TaggedFrame where
  tag : Option Nat
  frame : MediaFrame
  check : PathCheck
deriving DecidableEq, Repr

/-- A decoded picture as a decode engine ends it (R340, R343 to R349): what its bitstream says. `level` is general_level_idc, `fieldCoded`
field_seq_flag, `packed` a frame-packing SEI in force; `stShort` and `stLong` are the POCs its reference picture set names; `ctb` is the
size of a CTU and `missing` the addresses of the CTUs whose segments did not come; `outFlag` says that the picture is to be output, `fresh` that
it begins a coded sequence and `noPrior` that what waits then is not output; `reorder` and `latency` bound the pictures that wait for output
and how long. `vui` is coded as `flow.colour` where it is known; `chroma` is chroma_format_idc, and `check` what the checks of the datapath find. -/
structure Picture where
  stream : Nat
  poc : Int
  irap : Bool
  rasl : Bool
  width : Nat
  height : Nat
  profile : Nat
  needDpb : Nat
  level : Nat
  fieldCoded : Bool
  packed : Bool
  vuiKnown : Bool
  vui : Nat
  depth : Nat
  ctb : Nat
  missing : List Nat
  syntaxError : Bool
  outFlag : Bool
  fresh : Bool
  noPrior : Bool
  reorder : Nat
  latency : Option Nat
  stShort : List Int
  stLong : List Int
  planes : List (List Nat)
  chroma : Nat
  check : PathCheck
deriving DecidableEq, Repr

/-- The agents of the firewall table (R31). -/
inductive Agent where
  | island | cores | engines | media | scalers | rods | rake
deriving DecidableEq, Repr

/-- An HBM request; the controller splits one longer than a unit (R365). A request of the application cores on their own port carries a core physical address
(R381), and `cached` says that their caches serve and keep it (R382). -/
structure MemReq where
  agent : Agent
  port : Nat
  buffer : Nat
  addr : Nat
  write : Bool
  data : Bytes
  len : Nat
  cached : Bool
deriving DecidableEq, Repr

/-- What the ECC of a read finds (R373): a double error with the syndromes of the unit's words, an uncorrectable on-die
severity. -/
inductive EccFound where
  | clean | corrected | command
  | double (syndromes : List Nat)
  | onDie (severity : Nat)
deriving DecidableEq, Repr

/-- A command slot of a pseudo-channel (R366): the bank whose activated access has a command due, and the banks whose timing permits an activate. -/
structure CmdSlot where
  due : Option Nat
  ready : List Nat
deriving DecidableEq, Repr

/-- The answer of a DMA request (R396). -/
inductive DmaAnswer where
  | ok | firewall | memerr
deriving DecidableEq, Repr

/-- One part of a boot container as the ROM reads it (R505 to R507). `sigOk` and `digestOk` are the outcomes of the
cryptographic checks (log entry 11). -/
structure BootPart where
  magic : Nat
  version : Nat
  headerLen : Nat
  secver : Nat
  count : Nat
  crcOk : Bool
  keyOk : Bool
  sigOk : Bool
  images : List (Nat × Nat × Nat × Bool × Bytes)
deriving DecidableEq, Repr

/-- The flash on the xSPI pins as its SFDP describes it (R504): its bytes, and whether it declares 8D-8D-8D. -/
structure Flash where
  bytes : Nat
  octal : Bool
deriving DecidableEq, Repr

/-- A boot source under trial (R503): its parts, none where one cannot be read; the bytes from the start of the container to the end of its
last image; and the flash that answers on the xSPI pins, none where none does (R504). -/
structure BootImage where
  vendor : Option BootPart
  owner : Option BootPart
  span : Nat
  flash : Option Flash
deriving DecidableEq, Repr

/-- What an engine in error reports in place of the right record (R97, R135): codes, and guard bytes with their gain. -/
structure BeadFault where
  codes : List Nat
  guard : Option (Bytes × Nat)
deriving DecidableEq, Repr

/-- The outcome of the steps of a thaw (R379); the test fails with what a read of a unit finds. -/
inductive ThawResult where
  | ok | train
  | test (found : EccFound) (unit : Nat)
  | image (n : Nat)
deriving DecidableEq, Repr

/-- The header of a pairing message (R451). -/
structure PairHdr where
  seq : Nat
  fromActive : Bool
  t64 : Nat
deriving DecidableEq, Repr

/-- A DECISION message (R452). -/
structure DecisionMsg where
  n : Nat
  layer : Nat
  kind : Nat
  epoch : Nat
  content : Nat
  srcKind : Nat
  srcNum : Nat
  pt : Nat
  sig : Nat
deriving DecidableEq, Repr

/-- The commands, one for each row of the table, in the table's order. -/
inductive Instr where
  | pllLossOfLock (domain : Nat)
  | pllRelock (domain : Nat) (imageOk : Bool)
  | refclkSupervisionWindow (hz0 hz1 : Nat)
  | wallClockTick (ticks : Nat)
  | timeIncrWrite (r : Req) (v : Nat)
  | timeStepWrite (r : Req) (v : Int)
  | stepHoldExpiry
  | timeForce (r : Req)
  | ttArm (r : Req) (t : Nat)
  | ttDisarm (r : Req) (t : Nat)
  | ttLeadingEdge (t : Nat)
  | ttTrailingEdge (t : Nat)
  | tcLevelChange (c : Nat) (level : Bool)
  | tcEdgeQualified (c : Nat)
  | ptpMessageReceived (port : Nat) (m : PtpMsg)
  | ptpMessageTransmit (port : Nat) (m : PtpMsg)
  | transparentClockForward (port : Nat)
  | forwardDrop (port : Nat)
  | tsPairModeWrite (r : Req) (pair v : Nat)
  | subframeLatch
  | beadIssue
  | beadComplete (tag : Nat) (wrong : Option BeadFault)
  | hungBeadTimeout (tag : Nat)
  | stagingRecordGrant
  | subframeRetire (miswoven : List Nat)
  | shadowWrite (r : Req) (idx sub : Nat) (v : WireVal)
  | cfgCommit (r : Req)
  | cfgDiscard (r : Req)
  | guardSignatureComputed
  | stillLoad (r : Req) (still : Nat) (data : Bytes)
  | stillFree (r : Req) (still : Nat)
  | bufferDeferredRelease (buf : Nat)
  | lampStateWrite (r : Req) (v : Nat)
  | corrProbeRead (r : Req)
  | corrLoadStart (r : Req)
  | corrLoadComplete
  | mapLoadStart (r : Req)
  | mapLoadComplete
  | modeEntryWrite (r : Req) (idx sub : Nat) (v : Int)
  | modeSwitchStart (r : Req)
  | darkPathDark
  | darkPathResume
  | freezeClear (r : Req) (layer : Nat)
  | linkFrameSend (rod idle : Nat)
  | tokenDue (rod : Nat)
  | telemetryReceive (rod : Nat) (f : UpFrame)
  | enumRspReceive (rod : Nat) (f : UpFrame)
  | cmdRspReceive (rod : Nat) (f : UpFrame)
  | commandRetryTimeout (rod pos : Nat)
  | enumStart (r : Req)
  | enumCollectTimeout (rod : Nat)
  | enumComplete
  | echoRspReceive (rod : Nat) (f : UpFrame) (rtt : Nat)
  | echoTimeout (rod pos : Nat)
  | echoPeriodTimer
  | tileSilent (rod pos : Nat)
  | upWordLockLost (x : RodWords)
  | bringupStart (rod : Nat)
  | laneRestart (r : Req) (rod : Nat)
  | bringupRetryTimer (rod : Nat)
  | trainTimeExpiry (rod : Nat) (last : Option CalMeas)
  | laneStep (rod : Nat)
  | laneReportReceive (rod : Nat) (f : UpFrame)
  | laneCheckTimeout (rod : Nat) (size : Nat × Nat) (seen : EyeSeen)
  | fclkAlignTimer (rod : Nat)
  | recoveryStart (rod : Nat)
  | dnSleep (rod : Nat)
  | dnWake (rod : Nat)
  | upsleepGrant (rod start duration : Nat)
  | calStep (rod : Nat) (m : CalMeas)
  | quadTempRead (temps : List Int)
  | laneCalStart (r : Req)
  | laneCalComplete
  | setpointInstant
  | panCommandWake (r : Req) (pan : Nat)
  | panCommandSleep (r : Req) (pan : Nat)
  | tilePowerWake (r : Req)
  | tilePowerSleep (r : Req)
  | wakeSlotRelease (rod pos : Nat)
  | faultReportReceive (rod : Nat) (f : UpFrame)
  | healthChannelWrite (r : Req) (v : Nat)
  | doseTileReset (r : Req) (v : Nat)
  | doseExportStart (r : Req)
  | doseExportComplete
  | doseImportStart (r : Req)
  | doseImportComplete
  | retentionLoad (r : Req) (data : Bytes)
  | reckonStart (r : Req)
  | reckonComplete
  | autoReckonTimer
  | portLinkDown (port : Nat)
  | portLinkUp (port : Nat)
  | modulePoll (port : Nat) (pages : Option Bytes)
  | mediaFrameReceive (port : Nat) (f : TaggedFrame)
  | incompleteFrameDiscard (flow : Nat)
  | legTimeout (flow leg : Nat)
  | flowAdmit (r : Req) (flow : Nat)
  | joinReportRepeat (flow : Nat)
  | flowDelete (r : Req) (flow : Nat)
  | streamStart (r : Req) (stream : Nat)
  | streamStop (r : Req) (stream : Nat)
  | decodePictureComplete (engine : Nat) (pic : Picture)
  | auWaitTimeout (stream : Nat)
  | confEnable (r : Req) (enc : Nat)
  | confDisable (r : Req) (enc : Nat)
  | confPictureComplete (enc : Nat) (rowBits : List Nat) (nals : List Bytes)
  | hbmRequest (q : MemReq)
  | hbmCommandPick (pc : Nat) (slot : CmdSlot) (found : EccFound)
  | refreshDue (pc : Nat)
  | rakeRead (found : EccFound)
  | repairEntryAged (unit : Nat)
  | thawStart (r : Req)
  | thawComplete (res : ThawResult)
  | hbmTrainingComplete (ok : Bool) (failedPc : Nat) (imageOk : List Bool)
  | dmaStart (ch : Nat) (prog : Nat)
  | dmaStop (ch : Nat)
  | move (ch : Nat)
  | movex (ch : Nat)
  | loop (ch : Nat)
  | wait (ch : Nat)
  | dmaWaitMet (ch : Nat)
  | signal (ch : Nat)
  | endProg (ch : Nat)
  | dmaResponse (ch : Nat) (id : Nat) (a : DmaAnswer)
  | dmaResponseTimeout (ch : Nat)
  | hello (via : Transport) (peer : Bytes) (version cred idle : Nat) (nc nd : Bytes)
  | prove (via : Transport) (peer : Bytes) (version sid : Nat) (proof : Bytes)
  | read (r : Req) (idx sub count : Nat)
  | write (r : Req) (idx sub : Nat) (ty : Ty) (v : WireVal)
  | describe (r : Req) (idx sub : Nat)
  | blobOpen (r : Req) (idx sub dir len : Nat)
  | blobData (r : Req) (tid off : Nat) (data : Bytes)
  | blobClose (r : Req) (tid crc : Nat)
  | blobAck (r : Req) (tid status off : Nat)
  | blobReadRetransmit (slot : Nat)
  | blobTransferTimeout (slot dir : Nat)
  | notifyAck (r : Req) (nseq : Nat)
  | notifyGatherExpiry (slot : Nat)
  | notifyRetransmit (slot nseq : Nat)
  | keepalive (r : Req) (body : Bytes)
  | close (r : Req) (body : Bytes)
  | handshakeExpiry (sid : Nat)
  | sessionIdleTimeout (slot : Nat)
  | sessEndWrite (r : Req) (slot : Nat)
  | lockoutExpiry (cred : Nat)
  | lockLevelReset (cred : Nat)
  | credKeyWrite (r : Req) (cred : Nat) (wrapped : Bytes)
  | credWrite (r : Req) (idx cred : Nat) (v : Nat)
  | mailboxDoorbell (posted : MailPost)
  | mailboxFdRead (v : Nat)
  | opSuspend (r : Req) (idx : Nat)
  | opResume (r : Req) (idx : Nat)
  | opCancel (r : Req) (idx : Nat)
  | evtConfigWrite (r : Req) (src v : Nat)
  | evtStatusWrite (r : Req) (src v : Nat)
  | linePendingWrite (v : Nat)
  | lockstepMismatch (pair : Nat)
  | supplySample (mv : List Nat)
  | tempSample (temps : List Int)
  | faultEnterSafe (r : Req)
  | recoverStart (r : Req)
  | recoverComplete
  | activeNReleased
  | splitBrainSensed
  | seekingActive
  | pairStatusSend
  | pairTimeSend
  | status (h : PairHdr) (pairState devState doubt epoch latched highest : Nat)
  | demote (h : PairHdr) (cause : Nat)
  | ack (h : PairHdr) (highest : Nat)
  | time (h : PairHdr) (t1 t2 t3 t4 : Nat)
  | pairWrite (h : PairHdr) (order idx sub : Nat) (ty : Ty) (v : WireVal)
  | commit (h : PairHdr) (order n : Nat)
  | latch (h : PairHdr) (n order crc : Nat)
  | decision (h : PairHdr) (d : DecisionMsg)
  | seal (h : PairHdr) (n count : Nat)
  | operation (h : PairHdr) (idx cmd : Nat) (args : List (Nat × Int))
  | result (h : PairHdr) (first : Nat) (lamps : List (Nat × Nat × Nat × Nat)) (final : Option (Nat × Nat))
  | pan (h : PairHdr) (pan rod pos action : Nat)
  | override (h : PairHdr) (lamp flags n : Nat)
  | signature (h : PairHdr) (n first : Nat) (rods : List (Nat × Nat))
  | attrib (h : PairHdr) (n rod result : Nat)
  | attribTimeout (n rod : Nat)
  | snapshot (h : PairHdr) (off : Nat) (entries : List (Nat × Val)) (overrides : List (Nat × Nat × Nat × Nat))
      (pans : List (Nat × Nat × Nat)) (last : Bool)
  | join (h : PairHdr) (n : Nat)
  | handover (h : PairHdr) (n : Nat)
  | pairSwitch (r : Req)
  | pairRetransmit (seq : Nat)
  | pairLinkDown
  | pairGapTimeout
  | latchMissingTimeout
  | clockOffsetTimeout
  | tallySecond (temps : List Int) (mv : List Nat)
  | attestNonceWrite (r : Req) (nonce : Bytes)
  | attestReportReady (slot : Nat)
  | harvestStart (r : Req)
  | harvestComplete
  | slackSample (ps : List Int)
  | siReckonStart (r : Req)
  | siReckonPeriod
  | avsSettleCheck (rail mv : Nat)
  | siReckonComplete
  | resetAssert (cause : Nat)
  | devResetWrite (r : Req)
  | resetEnd (bootSel role : Nat) (fuseOk : Bool) (temps : List Int) (damaged : List (Nat × Nat)) (levels : List Bool)
  | bootSourceTry (img : BootImage)
  | netbootTimeout
  | bootRetryTimer
  | devTargetWrite (r : Req) (v : Nat)
  | linkTimeout
  | liveExitDark
  | jtagBoundaryScan
  | upWordLockGained (x : RodWords)
  | bufferPanic (port buffer level : Nat)
  | queryResponseTimer (port : Nat) (v6 : Bool) (group : Bytes)
deriving DecidableEq, Repr

end Sys2Proof
end

