-- ==== Sys2Proof/Config.lean ====
section
/-! DEFINITION. What one part fixes, and the values the spec leaves open: constants without a body. -/

namespace Sys2Proof

/-- Fused number of an identity entry (R469, R485), by register key; log entry 3. -/
opaque Config.fusedNum : Nat → Nat

/-- Fused byte string of an identity entry (R469, R471), by register key; log entry 3. -/
opaque Config.fusedBytes : Nat → Bytes

/-- Latency a port was characterised with at stepping A1 (R65), by register key, ns; log entry 3. -/
opaque Config.portLatency : Nat → BitVec 16

/-- How point i of 0 to 4,096 of a display transfer table is rounded, in units of 2^-22 (R149): transfer code, white level, point; log
entry 8. -/
opaque Config.transferPoint : Nat → Nat → Nat → Nat

/-- How point i of the HLG gain table Y_s^(gamma - 1) is rounded, in units of 2^-22, and its point 0 for a gamma of 1 or less (R149); log
entry 8. -/
opaque Config.hlgGain : Nat → Nat → Nat

/-- Coefficient of the built-in scaler set (R125): taps, crop size, destination size, phase, tap; log entry 9. -/
opaque Config.builtinCoeff : Nat → Nat → Nat → Nat → Nat → Int

/-- Effective dose floor(D * A^((T - T_ref)/10)) to 2^-20 (R318): dose, acceleration Q8.8, and T - T_ref in 1/16 degree as a
numerator and a denominator; the model keeps it within that error (log entry 10). -/
opaque Config.effectiveDose : Nat → Nat → Int → Nat → Nat

/-- The 96-byte ECDSA P-384 signature of the die over a SHA-384 digest (R471, R473, R482); log entry 11. -/
opaque Config.dieSignature : Bytes → Bytes

/-- Deviation in ns, within the 2 ns that R26 allows, of a clock domain's follower at a timebase tick: domain, tick; log entry 82. -/
opaque Config.followerSkew : Nat → Nat → Int

/-- What lies at an address of the System region, whose inner layout the spec does not state (R30, R31): 1 the confidence canvas, 2 a rod
map, anything else the rest of the region; log entry 83. -/
opaque Config.systemPart : Nat → Nat

/-- The rate of the xSPI pins in 8D-8D-8D, in MHz; R504 bounds it by 200 and names no value; log entry 87. -/
opaque Config.octalMhz : Nat

/-- How far, in ns of a 1 Gb/s line, traffic for the host queue of a media port may run ahead of that rate: R327 names no interval; log
entry 91. -/
opaque Config.hostBurst : Nat

/-- The MAC address of a media port, which no rule names (R326); log entry 92. -/
opaque Config.portMac : Nat → Bytes

/-- Where buffer id lies in the Layer region, in bytes from its base: no rule gives the place (R334, R342); log entry 56. -/
opaque Config.bufferAt : Nat → Nat

/-- Bits of the motion vector difference of a vector, given the vectors beside it (R354): the coding of H.265; log entry 93. -/
opaque Config.mvdBits : Int × Int → List (Option (Int × Int)) → Nat

/-- The vectors a skipped CU may take, its merge candidates, given the vectors beside it (R353, R356); log entry 93. -/
opaque Config.mergeVectors : List (Option (Int × Int)) → List (Int × Int)

/-- What H.265 codes a block to: its bits, and its samples as they are reconstructed. Mode (0 skip, 1 inter, 2 planar, 3 DC, 4 horizontal,
5 vertical, 6 DC with no residual), QP, the samples of the source, those predicted, and the reconstructed blocks beside it (R353); log entry 93. -/
opaque Config.coded : Nat → Nat → List Nat → List Nat → List (List Nat) → Nat × List Nat

/-- What H.265 codes the VPS, SPS and PPS of a sequence to (R357): 0, 1 or 2, the profile, the coded size, the cropped columns and rows, and the
codes of the VUI; log entry 93. -/
opaque Config.paramSet : Nat → List Nat → Bytes

/-- A byte whose value the spec leaves undefined, by a count of such bytes (R397, R428); log entry 1. -/
opaque Config.freeByte : Nat → Byte

/-- A number whose value the spec leaves open, by a count of such numbers; log entry 1. -/
opaque Config.freeNum : Nat → Nat

/-- A component of a lamp's light in the confidence canvas where R300 has limited its drive code: the composed value, the code and the
limited code; the spec states no formula; log entry 85. -/
opaque Config.limitedLight : Nat → Nat → Nat → Nat

/-- V = L^(1/2.4) of the confidence path, both in units of 2^-22, rounded as it may be (R351); log entry 8. -/
opaque Config.confGamma : Nat → Nat

/-- round(6 * log2(used / budget)) of rate control (R355) where one of the two is 0: bits used, budget; log entry 12. -/
opaque Config.sixLog2 : Nat → Nat → Int

/-- The twin's idle generation of a kind has a serial and a map tag (R173): no message of the pairing link carries them,
so the answer is free. Count of free values, kind, serial, tag; log entry 14. -/
opaque Config.twinHas : Nat → Nat → Nat → Nat → Bool

end Sys2Proof
end

