-- ==== Sys2Proof/Machine/Bits.lean ====
section
/-! DEFINITION. Byte orders, checks and rounding shared by every family. -/

namespace Sys2Proof.Machine

/-- The low n bytes of v, most significant first (R10). -/
def be : Nat → Nat → Bytes
  | 0, _ => []
  | n + 1, v => BitVec.ofNat 8 (v / 256 ^ n) :: be n v

/-- The low n bytes of v, least significant first (R10). -/
def le : Nat → Nat → Bytes
  | 0, _ => []
  | n + 1, v => BitVec.ofNat 8 v :: le n (v / 256)

/-- A big-endian number. -/
def ofBE (bs : Bytes) : Nat := bs.foldl (fun a b => a * 256 + b.toNat) 0

/-- A little-endian number. -/
def ofLE : Bytes → Nat
  | [] => 0
  | b :: bs => b.toNat + 256 * ofLE bs

/-- A bit of a number. -/
def bit (v i : Nat) : Bool := v / 2 ^ i % 2 == 1

/-- Bits hi to lo of a number. -/
def field (v hi lo : Nat) : Nat := v / 2 ^ lo % 2 ^ (hi + 1 - lo)

/-- v with bit i set or cleared. -/
def setBit (v i : Nat) (on : Bool) : Nat :=
  if on then (if bit v i then v else v + 2 ^ i) else (if bit v i then v - 2 ^ i else v)

/-- 1 or 0. -/
def b2n (b : Bool) : Nat := if b then 1 else 0

/-- The number of bits set among the low n. -/
def popCount (v : Nat) : Nat → Nat
  | 0 => 0
  | n + 1 => popCount v n + v / 2 ^ n % 2

/-- Slice of a byte string. -/
def slice (bs : Bytes) (off n : Nat) : Bytes := (bs.drop off).take n

/-- Big-endian field of a byte string. -/
def beAt (bs : Bytes) (off n : Nat) : Nat := ofBE (slice bs off n)

/-- Little-endian field of a byte string. -/
def leAt (bs : Bytes) (off n : Nat) : Nat := ofLE (slice bs off n)

/-- Two's complement reading of an n-bit number. -/
def toSigned (n v : Nat) : Int :=
  if v % 2 ^ n < 2 ^ (n - 1) then (v % 2 ^ n : Nat) else (v % 2 ^ n : Nat) - 2 ^ n

/-- Two's complement bits of a number. -/
def ofSigned (n : Nat) (v : Int) : Nat := (v % (2 ^ n : Nat)).toNat

/-- Quotient rounded to nearest, halves up. -/
def divRound (a b : Nat) : Nat := (2 * a + b) / (2 * b)

/-- Quotient rounded up. -/
def divUp (a b : Nat) : Nat := (a + b - 1) / b

/-- v limited to 0 to m. -/
def clampN (m : Nat) (v : Int) : Nat := if v < 0 then 0 else if v > m then m else v.toNat

/-- v limited to lo to hi. -/
def clampI (lo hi v : Int) : Int := if v < lo then lo else if v > hi then hi else v

/-- One reflected CRC step of a bit. -/
def crcBit (poly c : Nat) : Nat := if c % 2 = 1 then Nat.xor (c / 2) poly else c / 2

/-- One reflected CRC step of a byte. -/
def crcByte (poly c : Nat) (b : Byte) : Nat :=
  crcBit poly (crcBit poly (crcBit poly (crcBit poly
    (crcBit poly (crcBit poly (crcBit poly (crcBit poly (Nat.xor c b.toNat))))))))

/-- f of n, with n evaluated first, so that long folds stay flat when the kernel evaluates them. -/
def strictly (f : Nat → Nat) : Nat → Nat
  | 0 => f 0
  | n + 1 => f (n + 1)

/-- The CRC register after a byte string. -/
def crcFold (poly : Nat) : Bytes → Nat → Nat
  | [], c => c
  | b :: bs, c => strictly (crcFold poly bs) (crcByte poly c b)

/-- CRC-32C of a byte string (R221). -/
def crc32c (bs : Bytes) : Nat := Nat.xor (crcFold 0x82F63B78 bs 0xFFFFFFFF) 0xFFFFFFFF

/-- CRC-64/XZ of a byte string. -/
def crc64xz (bs : Bytes) : Nat := Nat.xor (crcFold 0xC96C5795D7870F42 bs 0xFFFFFFFFFFFFFFFF) 0xFFFFFFFFFFFFFFFF

/-- Consecutive runs of k items, at most n runs. -/
def chunks {α : Type} (k : Nat) : Nat → List α → List (List α)
  | 0, _ => []
  | n + 1, l => if l.isEmpty then [] else l.take k :: chunks k n (l.drop k)

/-- The natural numbers lo to lo + n - 1. -/
def upFrom (lo : Nat) : Nat → List Nat
  | 0 => []
  | n + 1 => lo :: upFrom (lo + 1) n

/-- The first index of a list whose item satisfies p. -/
def firstIdx {α : Type} (p : α → Bool) : Nat → List α → Option Nat
  | _, [] => none
  | i, x :: xs => if p x then some i else firstIdx p (i + 1) xs

/-- l with item i replaced; unchanged beyond its end. -/
def setAt {α : Type} : List α → Nat → α → List α
  | [], _, _ => []
  | _ :: xs, 0, v => v :: xs
  | x :: xs, i + 1, v => x :: setAt xs i v

/-- Smallest of a list of numbers. -/
def minList : List Nat → Option Nat
  | [] => none
  | x :: xs => some (xs.foldl Nat.min x)

/-- Fixed-length list: cut or filled with d. -/
def fit {α : Type} (d : α) : Nat → List α → List α
  | 0, _ => []
  | n + 1, [] => d :: fit d n []
  | n + 1, x :: xs => x :: fit d n xs

end Sys2Proof.Machine
end

