-- ==== Sys2Proof/Machine/Curves.lean ====
section
/-! DEFINITION. Roots, logarithms and powers in fixed point, the display transfers (R148, R149, R351) and the acceleration of dose
(R318). Fixed-point numbers are in units of 2^-64; what they lose is far below the errors the spec allows. The constants of SMPTE
ST 2084 and BT.2100, which R148 names, are PRESUMED (log entry 8). -/

namespace Sys2Proof.Machine

/-- The greatest r below 2^m above r0 with r^k d ≤ n, bit by bit. -/
def rootBits (k n d : Nat) : Nat → Nat → Nat
  | 0, r => r
  | m + 1, r => if (r + 2 ^ m) ^ k * d ≤ n then rootBits k n d m (r + 2 ^ m) else rootBits k n d m r

/-- Bits of the base-2 logarithm of x, between 1 and 2, by squaring. -/
def log2Bits : Nat → Nat → Nat → Nat
  | 0, _, a => a
  | k + 1, x, a =>
    let y := x * x / 2 ^ 64
    if 2 ^ 65 ≤ y then log2Bits k (y / 2) (2 * a + 1) else log2Bits k y (2 * a)

/-- log2(n / d), for n and d above 0. -/
def lg (n d : Nat) : Int :=
  let k : Int := (Nat.log2 n : Int) - (Nat.log2 d : Nat)
  let m := if 0 ≤ k then n * 2 ^ 64 / (d * 2 ^ k.toNat) else n * 2 ^ 64 * 2 ^ (-k).toNat / d
  if m < 2 ^ 64 then (k - 1) * 2 ^ 64 + (log2Bits 64 (2 * m) 0 : Nat) else k * 2 ^ 64 + (log2Bits 64 m 0 : Nat)

/-- 2 to a fraction f, bit by bit: `c` is 2 to the weight of the bit before. -/
def exp2Bits : Nat → Nat → Nat → Nat → Nat
  | 0, _, _, a => a
  | k + 1, c, f, a =>
    let r := rootBits 2 (c * 2 ^ 64) 1 66 0
    exp2Bits k r f (if bit f k then a * r / 2 ^ 64 else a)

/-- 2 to the power x. -/
def exp2 (x : Int) : Nat :=
  let q := x / 2 ^ 64
  let e := exp2Bits 64 (2 ^ 65) (x % 2 ^ 64).toNat (2 ^ 64)
  if 0 ≤ q then e * 2 ^ q.toNat else e / 2 ^ (-q).toNat

/-! ## Display transfers: light in units of 2^-22, rounded down, of a component V = n / d -/

/-- BT.1886: V^2.4. -/
def bt1886 (n d : Nat) : Nat := rootBits 5 (n ^ 12 * 2 ^ 110) (d ^ 12) 23 0

/-- PQ: the EOTF over the white level (ST 2084: m1 = 2610 / 16384, m2 = 2523 / 32, c1 = 3424 / 4096, c2 = 2413 / 128, c3 = 2392 / 128). -/
def pqLight (white n d : Nat) : Nat :=
  if n = 0 then 0
  else
    let p := exp2 (lg n d * 32 / 2523)
    let a := p - 3424 * 2 ^ 52
    if a = 0 then 0 else 10000 * exp2 (lg a (2413 * 2 ^ 57 - 2392 * p / 128) * 8192 / 1305) / (Nat.max 1 white * 2 ^ 42)

/-- HLG scene light E, in units of 2^-64 (BT.2100: a = 0.17883277, b = 0.28466892, c = 0.55991073). -/
def hlgScene (n d : Nat) : Nat :=
  if 2 * n ≤ d then n * n * 2 ^ 64 / (3 * d * d)
  else
    let y : Int := ((n : Int) * 100000000 - 55991073 * (d : Int)) * 2 ^ 64 / (17883277 * (d : Int))
    (exp2 (y * 14426950408889634074 / 10000000000000000000) + 28466892 * 2 ^ 64 / 100000000) / 12

/-- Exponent gamma - 1 of HLG at a white level, in units of 2^-64 (R148). -/
def hlgExponent (white : Nat) : Int := 2 ^ 64 / 5 + lg (Nat.max 1 white) 1000 * 30102999566398119521 * 42 / (100000000000000000000 * 100)

/-- HLG display light of scene light e with luminance y, both in units of 2^-64 (R148). -/
def hlgLight (white y e : Nat) : Nat :=
  if y = 0 then 0
  else
    exp2 (hlgExponent white * lg y (2 ^ 64) / 2 ^ 64) * e / 2 ^ 106

/-- A value t kept within 2^-18, 16 units of 2^-22, of one whose floor in those units is r (R149). -/
def nearLight (r t : Nat) : Nat := Nat.min (r + 16) (Nat.max (r - 15) t)

/-- A number rounded as it may be, from its floor r: r, or the unit above. -/
def nearUnit (r t : Nat) : Nat := Nat.min (r + 1) (Nat.max r t)

/-- Point i of 4,097 of a display transfer table: the formula of R148 at i / 4096, its rounding free (R149; log entry 8). -/
def tablePoint (transfer white i : Nat) : Nat :=
  nearUnit (match transfer with
    | 0 => bt1886 i 4096
    | 1 => pqLight white i 4096
    | _ => hlgScene i 4096 / 2 ^ 42) (Config.transferPoint transfer white i)

/-- Point i of 4,097 of the HLG gain table: Y_s^(gamma - 1) at i / 4096, its rounding free (R149). At Y_s = 0 a negative exponent gives no
value, and the point is free (log entry 8). -/
def gainPoint (white i : Nat) : Nat :=
  if i = 0 then (if 0 < hlgExponent white then 0 else Config.hlgGain white 0)
  else nearUnit (exp2 (hlgExponent white * lg i 4096 / 2 ^ 64) / 2 ^ 42) (Config.hlgGain white i)

/-- V = L^(1/2.4) of the confidence path in units of 2^-22: the unit below or above the exact value, free where the two differ
(R351; log entry 8). -/
def confV (v : Nat) : Nat :=
  let r := rootBits 12 (v ^ 5 * 2 ^ 154) 1 23 0
  Nat.min (if r ^ 12 = v ^ 5 * 2 ^ 154 then r else r + 1) (Nat.max r (Config.confGamma v))

/-! ## Effective dose -/

/-- The least and the greatest effective dose that R318 allows: a dose, an acceleration in Q8.8, and a temperature difference of
num / den in 1/16 degree. -/
def effDoseRange (d a : Nat) (num : Int) (den : Nat) : Nat × Nat :=
  let x := exp2 (lg (Nat.max 1 a) 256 * num / (160 * Nat.max 1 den : Nat))
  (d * (x - x / 2 ^ 40) * (2 ^ 20 - 1) / 2 ^ 84, d * (x + x / 2 ^ 40 + 1) * (2 ^ 20 + 1) / 2 ^ 84)

/-- Effective dose: free within that range (R318; log entry 10). -/
def effDose (d a : Nat) (num : Int) (den : Nat) : Nat :=
  let r := effDoseRange d a num den
  Nat.min r.2 (Nat.max r.1 (Config.effectiveDose d a num den))

end Sys2Proof.Machine
end

