-- ==== Sys2Proof/Machine/Entries.lean ====
section
/-! DEFINITION. The dictionary: every allocated entry with its type, access, role, class, default, ranges and reserved
bits, from the entry tables of the chapters. -/

namespace Sys2Proof.Machine

/-- Access codes (R404). -/
inductive Access where
  | const | ro | rw | wo | rws
deriving DecidableEq, Repr

/-- Roles, ascending (R406). -/
inductive Role where
  | observer | operator | engineer | safety | custodian
deriving DecidableEq, Repr

/-- Applies classes (R403). -/
inductive Cls where
  | immediate | latch | mode | reset | none
deriving DecidableEq, Repr

/-- One row of an entry table: indices idx0 to idx1, sub-indices sub0 to sub1, name, type, access, role, applies class,
default, the ranges a value must lie in (none: the type's), and the bits a value may set (0: every bit). -/
structure Entry where
  idx0 : Nat
  idx1 : Nat
  sub0 : Nat
  sub1 : Nat
  name : String
  ty : Ty
  access : Access
  role : Role
  cls : Cls
  dflt : Int
  rng : List (Int × Int)
  mask : Nat
deriving DecidableEq, Repr

/-- Entries of range 0x0100 to 0x01FF. -/
def entries01 : List Entry :=
  [ ⟨0x0100, 0x0100, 0x00, 0x00, "id.serial", .u64, .const, .observer, .none, 0, [], 0x0⟩,
    ⟨0x0101, 0x0101, 0x00, 0x00, "id.lot", .str, .const, .observer, .none, 0, [], 0x0⟩,
    ⟨0x0102, 0x0102, 0x00, 0x00, "id.wafer", .u8, .const, .observer, .none, 0, [], 0x0⟩,
    ⟨0x0103, 0x0103, 0x00, 0x00, "id.die", .u16, .const, .observer, .none, 0, [], 0x0⟩,
    ⟨0x0104, 0x0104, 0x00, 0x00, "id.sites", .u16, .const, .observer, .none, 0, [], 0x0⟩,
    ⟨0x0105, 0x0105, 0x00, 0x00, "id.test_date", .u32, .const, .observer, .none, 0, [], 0x0⟩,
    ⟨0x0106, 0x0106, 0x00, 0x00, "id.fingerprint", .blob, .const, .observer, .none, 0, [], 0x0⟩,
    ⟨0x0107, 0x0107, 0x00, 0x00, "id.attest_key", .blob, .ro, .observer, .immediate, 0, [], 0x0⟩,
    ⟨0x0108, 0x0108, 0x00, 0x00, "id.attest_nonce", .blob, .wo, .observer, .immediate, 0, [], 0x0⟩,
    ⟨0x0109, 0x0109, 0x00, 0x00, "id.attest", .blob, .ro, .observer, .immediate, 0, [], 0x0⟩,
    ⟨0x010A, 0x010A, 0x00, 0x00, "dev.state", .u8, .ro, .observer, .immediate, 0, [], 0x0⟩,
    ⟨0x010B, 0x010B, 0x00, 0x00, "dev.target", .u8, .rw, .operator, .immediate, 3, [(3, 6)], 0x0⟩,
    ⟨0x010C, 0x010C, 0x00, 0x00, "dev.state_time", .wtime, .ro, .observer, .immediate, 0, [], 0x0⟩,
    ⟨0x010D, 0x010D, 0x00, 0x00, "dev.reset", .u8, .wo, .engineer, .immediate, 0, [(1, 1)], 0x0⟩,
    ⟨0x010E, 0x010E, 0x00, 0x00, "dev.reset_cause", .u8, .ro, .observer, .immediate, 0, [], 0x0⟩,
    ⟨0x010F, 0x010F, 0x00, 0x00, "dev.link_timeout", .u16, .rw, .engineer, .immediate, 10000, [(1000, 60000)], 0x0⟩,
    ⟨0x0110, 0x0110, 0x00, 0x00, "dev.live_partial", .bool, .rw, .engineer, .immediate, 0, [], 0x0⟩,
    ⟨0x0111, 0x0111, 0x00, 0x00, "dev.live_result", .u16, .ro, .observer, .immediate, 0, [], 0x0⟩,
    ⟨0x0112, 0x0112, 0x00, 0x00, "dev.rail", .u8, .const, .observer, .none, 8, [], 0x0⟩,
    ⟨0x0112, 0x0112, 0x01, 0x08, "dev.rail", .u16, .ro, .observer, .immediate, 0, [], 0x0⟩ ] ++
  [ ⟨0x0113, 0x0113, 0x00, 0x00, "dev.stepping", .u8, .const, .observer, .none, 161, [], 0x0⟩,
    ⟨0x0114, 0x0114, 0x00, 0x00, "boot.sel", .u8, .ro, .observer, .immediate, 0, [], 0x0⟩,
    ⟨0x0115, 0x0115, 0x00, 0x00, "boot.source", .u8, .ro, .observer, .immediate, 0, [], 0x0⟩,
    ⟨0x0116, 0x0116, 0x00, 0x00, "boot.secver", .u8, .const, .observer, .none, 2, [], 0x0⟩,
    ⟨0x0116, 0x0116, 0x01, 0x02, "boot.secver", .u32, .ro, .observer, .immediate, 0, [], 0x0⟩,
    ⟨0x0117, 0x0117, 0x00, 0x00, "boot.digest", .u8, .const, .observer, .none, 3, [], 0x0⟩,
    ⟨0x0117, 0x0117, 0x01, 0x03, "boot.digest", .blob, .ro, .observer, .immediate, 0, [], 0x0⟩,
    ⟨0x0118, 0x0118, 0x00, 0x00, "boot.owner_key", .blob, .rw, .custodian, .reset, 0, [], 0x0⟩,
    ⟨0x0119, 0x0119, 0x00, 0x00, "boot.secver_floor", .u8, .const, .observer, .none, 2, [], 0x0⟩,
    ⟨0x0119, 0x0119, 0x01, 0x02, "boot.secver_floor", .u32, .rw, .custodian, .reset, 0, [], 0x0⟩,
    ⟨0x0120, 0x0120, 0x00, 0x00, "dev.clk_state", .u8, .const, .observer, .none, 60, [], 0x0⟩,
    ⟨0x0120, 0x0120, 0x01, 0x3C, "dev.clk_state", .u8, .ro, .observer, .immediate, 0, [], 0x0⟩,
    ⟨0x0121, 0x0121, 0x00, 0x00, "dev.clk_freq", .u8, .const, .observer, .none, 60, [], 0x0⟩,
    ⟨0x0121, 0x0121, 0x01, 0x3C, "dev.clk_freq", .u32, .ro, .observer, .immediate, 0, [], 0x0⟩,
    ⟨0x0122, 0x0122, 0x00, 0x00, "dev.clk_lost", .u8, .const, .observer, .none, 60, [], 0x0⟩,
    ⟨0x0122, 0x0122, 0x01, 0x3C, "dev.clk_lost", .u32, .ro, .observer, .immediate, 0, [], 0x0⟩,
    ⟨0x0123, 0x0123, 0x00, 0x00, "dev.refclk", .u8, .ro, .observer, .immediate, 0, [], 0x0⟩ ]

/-- Entries of range 0x0200 to 0x02FF. -/
def entries02 : List Entry :=
  [ ⟨0x0200, 0x0200, 0x00, 0x00, "sess.self", .u8, .ro, .observer, .immediate, 0, [], 0x0⟩,
    ⟨0x0201, 0x0201, 0x00, 0x00, "sess.cred", .u8, .const, .observer, .none, 8, [], 0x0⟩,
    ⟨0x0201, 0x0201, 0x01, 0x08, "sess.cred", .u8, .ro, .observer, .immediate, 255, [], 0x0⟩,
    ⟨0x0202, 0x0202, 0x00, 0x00, "sess.role", .u8, .const, .observer, .none, 8, [], 0x0⟩,
    ⟨0x0202, 0x0202, 0x01, 0x08, "sess.role", .u8, .ro, .observer, .immediate, 0, [], 0x0⟩,
    ⟨0x0203, 0x0203, 0x00, 0x00, "sess.transport", .u8, .const, .observer, .none, 8, [], 0x0⟩,
    ⟨0x0203, 0x0203, 0x01, 0x08, "sess.transport", .u8, .ro, .observer, .immediate, 0, [], 0x0⟩,
    ⟨0x0204, 0x0204, 0x00, 0x00, "sess.peer", .u8, .const, .observer, .none, 8, [], 0x0⟩,
    ⟨0x0204, 0x0204, 0x01, 0x08, "sess.peer", .str, .ro, .observer, .immediate, 0, [], 0x0⟩,
    ⟨0x0205, 0x0205, 0x00, 0x00, "sess.opened", .u8, .const, .observer, .none, 8, [], 0x0⟩,
    ⟨0x0205, 0x0205, 0x01, 0x08, "sess.opened", .wtime, .ro, .observer, .immediate, 0, [], 0x0⟩,
    ⟨0x0206, 0x0206, 0x00, 0x00, "sess.end", .u8, .const, .observer, .none, 8, [], 0x0⟩,
    ⟨0x0206, 0x0206, 0x01, 0x08, "sess.end", .u8, .wo, .custodian, .immediate, 0, [(1, 1)], 0x0⟩,
    ⟨0x0207, 0x0207, 0x00, 0x00, "sess.tag_fail", .u8, .const, .observer, .none, 8, [], 0x0⟩,
    ⟨0x0207, 0x0207, 0x01, 0x08, "sess.tag_fail", .u32, .ro, .observer, .immediate, 0, [], 0x0⟩,
    ⟨0x0210, 0x0210, 0x00, 0x00, "sess.sub_severity", .u8, .rw, .observer, .immediate, 1, [(0, 3)], 0x0⟩,
    ⟨0x0211, 0x0211, 0x00, 0x00, "sess.sub_sources", .u8, .const, .observer, .none, 16, [], 0x0⟩,
    ⟨0x0211, 0x0211, 0x01, 0x10, "sess.sub_sources", .u64, .rw, .observer, .immediate, 0, [], 0x0⟩,
    ⟨0x0220, 0x0220, 0x00, 0x00, "cred.enable", .u8, .const, .observer, .none, 32, [], 0x0⟩,
    ⟨0x0220, 0x0220, 0x01, 0x20, "cred.enable", .bool, .rw, .custodian, .immediate, 0, [], 0x0⟩ ] ++
  [ ⟨0x0221, 0x0221, 0x00, 0x00, "cred.role", .u8, .const, .observer, .none, 32, [], 0x0⟩,
    ⟨0x0221, 0x0221, 0x01, 0x20, "cred.role", .u8, .rw, .custodian, .immediate, 0, [(0, 4)], 0x0⟩,
    ⟨0x0222, 0x0222, 0x00, 0x00, "cred.name", .u8, .const, .observer, .none, 32, [], 0x0⟩,
    ⟨0x0222, 0x0222, 0x01, 0x20, "cred.name", .str, .rw, .custodian, .immediate, 0, [], 0x0⟩,
    ⟨0x0223, 0x0223, 0x00, 0x00, "cred.key", .u8, .const, .observer, .none, 32, [], 0x0⟩,
    ⟨0x0223, 0x0223, 0x01, 0x20, "cred.key", .blob, .wo, .custodian, .immediate, 0, [], 0x0⟩,
    ⟨0x0224, 0x0224, 0x00, 0x00, "cred.fails", .u8, .const, .observer, .none, 32, [], 0x0⟩,
    ⟨0x0224, 0x0224, 0x01, 0x20, "cred.fails", .u8, .ro, .custodian, .immediate, 0, [], 0x0⟩,
    ⟨0x0225, 0x0225, 0x00, 0x00, "cred.locked", .u8, .const, .observer, .none, 32, [], 0x0⟩,
    ⟨0x0225, 0x0225, 0x01, 0x20, "cred.locked", .u16, .ro, .custodian, .immediate, 0, [], 0x0⟩,
    ⟨0x0226, 0x0226, 0x00, 0x00, "cred.lock_level", .u8, .const, .observer, .none, 32, [], 0x0⟩,
    ⟨0x0226, 0x0226, 0x01, 0x20, "cred.lock_level", .u8, .ro, .custodian, .immediate, 0, [], 0x0⟩,
    ⟨0x0227, 0x0227, 0x00, 0x00, "cred.changed", .u8, .const, .observer, .none, 32, [], 0x0⟩,
    ⟨0x0227, 0x0227, 0x01, 0x20, "cred.changed", .wtime, .ro, .custodian, .immediate, 0, [], 0x0⟩,
    ⟨0x0230, 0x0230, 0x00, 0x00, "dict.queue_drop", .u32, .ro, .observer, .immediate, 0, [], 0x0⟩ ]

/-- Entries of range 0x0300 to 0x03FF. -/
def entries03 : List Entry :=
  [ ⟨0x0300, 0x0300, 0x00, 0x00, "evt.config", .u8, .const, .observer, .none, 128, [], 0x0⟩,
    ⟨0x0300, 0x0307, 0x01, 0x80, "evt.config", .u32, .rw, .engineer, .immediate, 0, [], 0xCEFBF000⟩,
    ⟨0x0301, 0x0301, 0x00, 0x00, "evt.config", .u8, .const, .observer, .none, 128, [], 0x0⟩,
    ⟨0x0302, 0x0302, 0x00, 0x00, "evt.config", .u8, .const, .observer, .none, 128, [], 0x0⟩,
    ⟨0x0303, 0x0303, 0x00, 0x00, "evt.config", .u8, .const, .observer, .none, 128, [], 0x0⟩,
    ⟨0x0304, 0x0304, 0x00, 0x00, "evt.config", .u8, .const, .observer, .none, 128, [], 0x0⟩,
    ⟨0x0305, 0x0305, 0x00, 0x00, "evt.config", .u8, .const, .observer, .none, 128, [], 0x0⟩,
    ⟨0x0306, 0x0306, 0x00, 0x00, "evt.config", .u8, .const, .observer, .none, 128, [], 0x0⟩,
    ⟨0x0307, 0x0307, 0x00, 0x00, "evt.config", .u8, .const, .observer, .none, 128, [], 0x0⟩,
    ⟨0x0308, 0x0308, 0x00, 0x00, "evt.status", .u8, .const, .observer, .none, 128, [], 0x0⟩,
    ⟨0x0308, 0x030F, 0x01, 0x80, "evt.status", .u32, .rw, .operator, .immediate, 0, [], 0x80000001⟩,
    ⟨0x0309, 0x0309, 0x00, 0x00, "evt.status", .u8, .const, .observer, .none, 128, [], 0x0⟩,
    ⟨0x030A, 0x030A, 0x00, 0x00, "evt.status", .u8, .const, .observer, .none, 128, [], 0x0⟩,
    ⟨0x030B, 0x030B, 0x00, 0x00, "evt.status", .u8, .const, .observer, .none, 128, [], 0x0⟩,
    ⟨0x030C, 0x030C, 0x00, 0x00, "evt.status", .u8, .const, .observer, .none, 128, [], 0x0⟩,
    ⟨0x030D, 0x030D, 0x00, 0x00, "evt.status", .u8, .const, .observer, .none, 128, [], 0x0⟩,
    ⟨0x030E, 0x030E, 0x00, 0x00, "evt.status", .u8, .const, .observer, .none, 128, [], 0x0⟩,
    ⟨0x030F, 0x030F, 0x00, 0x00, "evt.status", .u8, .const, .observer, .none, 128, [], 0x0⟩,
    ⟨0x0310, 0x0310, 0x00, 0x00, "evt.history", .blob, .ro, .observer, .immediate, 0, [], 0x0⟩ ]

/-- Entries of range 0x0400 to 0x04FF. -/
def entries04 : List Entry :=
  [ ⟨0x0410, 0x0410, 0x00, 0x00, "op.corr_load", .oper, .const, .observer, .none, 19, [], 0x0⟩,
    ⟨0x0410, 0x0410, 0x01, 0x01, "op.corr_load", .u8, .wo, .engineer, .immediate, 0, [(1, 4)], 0x0⟩,
    ⟨0x0410, 0x0410, 0x02, 0x02, "op.corr_load", .u8, .ro, .observer, .immediate, 0, [], 0x0⟩,
    ⟨0x0410, 0x0410, 0x03, 0x03, "op.corr_load", .u16, .ro, .observer, .immediate, 0, [], 0x0⟩,
    ⟨0x0410, 0x0410, 0x04, 0x04, "op.corr_load", .u16, .ro, .observer, .immediate, 0, [], 0x0⟩,
    ⟨0x0410, 0x0410, 0x05, 0x05, "op.corr_load", .u32, .ro, .observer, .immediate, 0, [], 0x0⟩,
    ⟨0x0410, 0x0410, 0x06, 0x06, "op.corr_load", .wtime, .ro, .observer, .immediate, 0, [], 0x0⟩,
    ⟨0x0410, 0x0410, 0x07, 0x07, "op.corr_load", .wtime, .ro, .observer, .immediate, 0, [], 0x0⟩,
    ⟨0x0410, 0x0410, 0x08, 0x08, "op.corr_load", .u8, .ro, .observer, .immediate, 255, [], 0x0⟩,
    ⟨0x0410, 0x0410, 0x09, 0x09, "op.corr_load", .u32, .ro, .observer, .immediate, 0, [], 0x0⟩,
    ⟨0x0410, 0x0410, 0x10, 0x10, "op.corr_load", .u8, .rw, .engineer, .immediate, 0, [(0, 1)], 0x0⟩,
    ⟨0x0410, 0x0410, 0x11, 0x11, "op.corr_load", .u64, .rw, .engineer, .immediate, 0, [], 0x0⟩,
    ⟨0x0410, 0x0410, 0x12, 0x12, "op.corr_load", .u64, .rw, .engineer, .immediate, 0, [], 0x0⟩,
    ⟨0x0410, 0x0410, 0x13, 0x13, "op.corr_load", .u8, .rw, .engineer, .immediate, 0, [], 0x3⟩,
    ⟨0x0411, 0x0411, 0x00, 0x00, "op.map_load", .oper, .const, .observer, .none, 19, [], 0x0⟩,
    ⟨0x0411, 0x0411, 0x01, 0x01, "op.map_load", .u8, .wo, .engineer, .immediate, 0, [(1, 4)], 0x0⟩,
    ⟨0x0411, 0x0411, 0x02, 0x02, "op.map_load", .u8, .ro, .observer, .immediate, 0, [], 0x0⟩,
    ⟨0x0411, 0x0411, 0x03, 0x03, "op.map_load", .u16, .ro, .observer, .immediate, 0, [], 0x0⟩,
    ⟨0x0411, 0x0411, 0x04, 0x04, "op.map_load", .u16, .ro, .observer, .immediate, 0, [], 0x0⟩,
    ⟨0x0411, 0x0411, 0x05, 0x05, "op.map_load", .u32, .ro, .observer, .immediate, 0, [], 0x0⟩ ] ++
  [ ⟨0x0411, 0x0411, 0x06, 0x06, "op.map_load", .wtime, .ro, .observer, .immediate, 0, [], 0x0⟩,
    ⟨0x0411, 0x0411, 0x07, 0x07, "op.map_load", .wtime, .ro, .observer, .immediate, 0, [], 0x0⟩,
    ⟨0x0411, 0x0411, 0x08, 0x08, "op.map_load", .u8, .ro, .observer, .immediate, 255, [], 0x0⟩,
    ⟨0x0411, 0x0411, 0x09, 0x09, "op.map_load", .u32, .ro, .observer, .immediate, 0, [], 0x0⟩,
    ⟨0x0411, 0x0411, 0x10, 0x10, "op.map_load", .u8, .rw, .engineer, .immediate, 0, [(0, 1)], 0x0⟩,
    ⟨0x0411, 0x0411, 0x11, 0x11, "op.map_load", .u64, .rw, .engineer, .immediate, 0, [], 0x0⟩,
    ⟨0x0411, 0x0411, 0x12, 0x12, "op.map_load", .u64, .rw, .engineer, .immediate, 0, [], 0x0⟩,
    ⟨0x0411, 0x0411, 0x13, 0x13, "op.map_load", .u8, .rw, .engineer, .immediate, 0, [], 0x1⟩,
    ⟨0x0412, 0x0412, 0x00, 0x00, "op.mode_switch", .oper, .const, .observer, .none, 42, [], 0x0⟩,
    ⟨0x0412, 0x0412, 0x01, 0x01, "op.mode_switch", .u8, .wo, .engineer, .immediate, 0, [(1, 4)], 0x0⟩,
    ⟨0x0412, 0x0412, 0x02, 0x02, "op.mode_switch", .u8, .ro, .observer, .immediate, 0, [], 0x0⟩,
    ⟨0x0412, 0x0412, 0x03, 0x03, "op.mode_switch", .u16, .ro, .observer, .immediate, 0, [], 0x0⟩,
    ⟨0x0412, 0x0412, 0x04, 0x04, "op.mode_switch", .u16, .ro, .observer, .immediate, 0, [], 0x0⟩,
    ⟨0x0412, 0x0412, 0x05, 0x05, "op.mode_switch", .u32, .ro, .observer, .immediate, 0, [], 0x0⟩,
    ⟨0x0412, 0x0412, 0x06, 0x06, "op.mode_switch", .wtime, .ro, .observer, .immediate, 0, [], 0x0⟩,
    ⟨0x0412, 0x0412, 0x07, 0x07, "op.mode_switch", .wtime, .ro, .observer, .immediate, 0, [], 0x0⟩,
    ⟨0x0412, 0x0412, 0x08, 0x08, "op.mode_switch", .u8, .ro, .observer, .immediate, 255, [], 0x0⟩,
    ⟨0x0412, 0x0412, 0x09, 0x09, "op.mode_switch", .u32, .ro, .observer, .immediate, 0, [], 0x0⟩,
    ⟨0x0412, 0x0412, 0x10, 0x10, "op.mode_switch", .u8, .rw, .engineer, .immediate, 8, [(0, 12)], 0x0⟩,
    ⟨0x0412, 0x0412, 0x11, 0x11, "op.mode_switch", .u8, .rw, .engineer, .immediate, 1, [(1, 8)], 0x0⟩ ] ++
  [ ⟨0x0412, 0x0412, 0x12, 0x19, "op.mode_switch", .i32, .rw, .engineer, .immediate, 0, [(-1000000, 1000000)], 0x0⟩,
    ⟨0x0412, 0x0412, 0x1A, 0x21, "op.mode_switch", .u32, .rw, .engineer, .immediate, 0, [], 0x0⟩,
    ⟨0x0412, 0x0412, 0x22, 0x22, "op.mode_switch", .u16, .rw, .engineer, .immediate, 0, [(0, 0), (2, 65535)], 0x0⟩,
    ⟨0x0412, 0x0412, 0x23, 0x23, "op.mode_switch", .u8, .rw, .engineer, .immediate, 4, [(0, 250)], 0x0⟩,
    ⟨0x0412, 0x0412, 0x24, 0x24, "op.mode_switch", .u8, .rw, .engineer, .immediate, 2, [(0, 2)], 0x0⟩,
    ⟨0x0412, 0x0412, 0x25, 0x25, "op.mode_switch", .q16, .rw, .engineer, .immediate, 65536, [(16384, 131072)], 0x0⟩,
    ⟨0x0412, 0x0412, 0x26, 0x26, "op.mode_switch", .bool, .rw, .engineer, .immediate, 0, [], 0x0⟩,
    ⟨0x0412, 0x0412, 0x27, 0x27, "op.mode_switch", .u8, .ro, .observer, .immediate, 0, [], 0x0⟩,
    ⟨0x0412, 0x0412, 0x28, 0x28, "op.mode_switch", .u64, .ro, .observer, .immediate, 0, [], 0x0⟩,
    ⟨0x0412, 0x0412, 0x29, 0x29, "op.mode_switch", .wtime, .ro, .observer, .immediate, 0, [], 0x0⟩,
    ⟨0x0412, 0x0412, 0x2A, 0x2A, "op.mode_switch", .u32, .ro, .observer, .immediate, 0, [], 0x0⟩,
    ⟨0x0413, 0x0413, 0x00, 0x00, "op.enum", .oper, .const, .observer, .none, 17, [], 0x0⟩,
    ⟨0x0413, 0x0413, 0x01, 0x01, "op.enum", .u8, .wo, .engineer, .immediate, 0, [(1, 4)], 0x0⟩,
    ⟨0x0413, 0x0413, 0x02, 0x02, "op.enum", .u8, .ro, .observer, .immediate, 0, [], 0x0⟩,
    ⟨0x0413, 0x0413, 0x03, 0x03, "op.enum", .u16, .ro, .observer, .immediate, 0, [], 0x0⟩,
    ⟨0x0413, 0x0413, 0x04, 0x04, "op.enum", .u16, .ro, .observer, .immediate, 0, [], 0x0⟩,
    ⟨0x0413, 0x0413, 0x05, 0x05, "op.enum", .u32, .ro, .observer, .immediate, 0, [], 0x0⟩,
    ⟨0x0413, 0x0413, 0x06, 0x06, "op.enum", .wtime, .ro, .observer, .immediate, 0, [], 0x0⟩,
    ⟨0x0413, 0x0413, 0x07, 0x07, "op.enum", .wtime, .ro, .observer, .immediate, 0, [], 0x0⟩,
    ⟨0x0413, 0x0413, 0x08, 0x08, "op.enum", .u8, .ro, .observer, .immediate, 255, [], 0x0⟩ ] ++
  [ ⟨0x0413, 0x0413, 0x09, 0x09, "op.enum", .u32, .ro, .observer, .immediate, 0, [], 0x0⟩,
    ⟨0x0413, 0x0413, 0x10, 0x10, "op.enum", .u8, .rw, .engineer, .immediate, 255, [(0, 191), (255, 255)], 0x0⟩,
    ⟨0x0413, 0x0413, 0x11, 0x11, "op.enum", .u8, .rw, .engineer, .immediate, 0, [(0, 1)], 0x0⟩,
    ⟨0x0414, 0x0414, 0x00, 0x00, "op.lane_cal", .oper, .const, .observer, .none, 17, [], 0x0⟩,
    ⟨0x0414, 0x0414, 0x01, 0x01, "op.lane_cal", .u8, .wo, .engineer, .immediate, 0, [(1, 4)], 0x0⟩,
    ⟨0x0414, 0x0414, 0x02, 0x02, "op.lane_cal", .u8, .ro, .observer, .immediate, 0, [], 0x0⟩,
    ⟨0x0414, 0x0414, 0x03, 0x03, "op.lane_cal", .u16, .ro, .observer, .immediate, 0, [], 0x0⟩,
    ⟨0x0414, 0x0414, 0x04, 0x04, "op.lane_cal", .u16, .ro, .observer, .immediate, 0, [], 0x0⟩,
    ⟨0x0414, 0x0414, 0x05, 0x05, "op.lane_cal", .u32, .ro, .observer, .immediate, 0, [], 0x0⟩,
    ⟨0x0414, 0x0414, 0x06, 0x06, "op.lane_cal", .wtime, .ro, .observer, .immediate, 0, [], 0x0⟩,
    ⟨0x0414, 0x0414, 0x07, 0x07, "op.lane_cal", .wtime, .ro, .observer, .immediate, 0, [], 0x0⟩,
    ⟨0x0414, 0x0414, 0x08, 0x08, "op.lane_cal", .u8, .ro, .observer, .immediate, 255, [], 0x0⟩,
    ⟨0x0414, 0x0414, 0x09, 0x09, "op.lane_cal", .u32, .ro, .observer, .immediate, 0, [], 0x0⟩,
    ⟨0x0414, 0x0414, 0x10, 0x10, "op.lane_cal", .u8, .rw, .engineer, .immediate, 255, [(0, 191), (255, 255)], 0x0⟩,
    ⟨0x0414, 0x0414, 0x11, 0x11, "op.lane_cal", .u8, .rw, .engineer, .immediate, 3, [], 0x3⟩,
    ⟨0x0415, 0x0415, 0x00, 0x00, "op.reckon", .oper, .const, .observer, .none, 19, [], 0x0⟩,
    ⟨0x0415, 0x0415, 0x01, 0x01, "op.reckon", .u8, .wo, .engineer, .immediate, 0, [(1, 4)], 0x0⟩,
    ⟨0x0415, 0x0415, 0x02, 0x02, "op.reckon", .u8, .ro, .observer, .immediate, 0, [], 0x0⟩,
    ⟨0x0415, 0x0415, 0x03, 0x03, "op.reckon", .u16, .ro, .observer, .immediate, 0, [], 0x0⟩,
    ⟨0x0415, 0x0415, 0x04, 0x04, "op.reckon", .u16, .ro, .observer, .immediate, 0, [], 0x0⟩ ] ++
  [ ⟨0x0415, 0x0415, 0x05, 0x05, "op.reckon", .u32, .ro, .observer, .immediate, 0, [], 0x0⟩,
    ⟨0x0415, 0x0415, 0x06, 0x06, "op.reckon", .wtime, .ro, .observer, .immediate, 0, [], 0x0⟩,
    ⟨0x0415, 0x0415, 0x07, 0x07, "op.reckon", .wtime, .ro, .observer, .immediate, 0, [], 0x0⟩,
    ⟨0x0415, 0x0415, 0x08, 0x08, "op.reckon", .u8, .ro, .observer, .immediate, 255, [], 0x0⟩,
    ⟨0x0415, 0x0415, 0x09, 0x09, "op.reckon", .u32, .ro, .observer, .immediate, 0, [], 0x0⟩,
    ⟨0x0415, 0x0415, 0x10, 0x10, "op.reckon", .u64, .rw, .engineer, .immediate, 0, [], 0x0⟩,
    ⟨0x0415, 0x0415, 0x11, 0x11, "op.reckon", .u64, .rw, .engineer, .immediate, 0, [], 0x0⟩,
    ⟨0x0415, 0x0415, 0x12, 0x12, "op.reckon", .u8, .rw, .engineer, .immediate, 0, [], 0x3⟩,
    ⟨0x0415, 0x0415, 0x13, 0x13, "op.reckon", .bool, .rw, .engineer, .immediate, 0, [], 0x0⟩,
    ⟨0x0416, 0x0416, 0x00, 0x00, "op.dose_export", .oper, .const, .observer, .none, 17, [], 0x0⟩,
    ⟨0x0416, 0x0416, 0x01, 0x01, "op.dose_export", .u8, .wo, .engineer, .immediate, 0, [(1, 4)], 0x0⟩,
    ⟨0x0416, 0x0416, 0x02, 0x02, "op.dose_export", .u8, .ro, .observer, .immediate, 0, [], 0x0⟩,
    ⟨0x0416, 0x0416, 0x03, 0x03, "op.dose_export", .u16, .ro, .observer, .immediate, 0, [], 0x0⟩,
    ⟨0x0416, 0x0416, 0x04, 0x04, "op.dose_export", .u16, .ro, .observer, .immediate, 0, [], 0x0⟩,
    ⟨0x0416, 0x0416, 0x05, 0x05, "op.dose_export", .u32, .ro, .observer, .immediate, 0, [], 0x0⟩,
    ⟨0x0416, 0x0416, 0x06, 0x06, "op.dose_export", .wtime, .ro, .observer, .immediate, 0, [], 0x0⟩,
    ⟨0x0416, 0x0416, 0x07, 0x07, "op.dose_export", .wtime, .ro, .observer, .immediate, 0, [], 0x0⟩,
    ⟨0x0416, 0x0416, 0x08, 0x08, "op.dose_export", .u8, .ro, .observer, .immediate, 255, [], 0x0⟩,
    ⟨0x0416, 0x0416, 0x09, 0x09, "op.dose_export", .u32, .ro, .observer, .immediate, 0, [], 0x0⟩,
    ⟨0x0416, 0x0416, 0x10, 0x11, "op.dose_export", .u64, .rw, .engineer, .immediate, 0, [], 0x0⟩ ] ++
  [ ⟨0x0417, 0x0417, 0x00, 0x00, "op.dose_import", .oper, .const, .observer, .none, 17, [], 0x0⟩,
    ⟨0x0417, 0x0417, 0x01, 0x01, "op.dose_import", .u8, .wo, .engineer, .immediate, 0, [(1, 4)], 0x0⟩,
    ⟨0x0417, 0x0417, 0x02, 0x02, "op.dose_import", .u8, .ro, .observer, .immediate, 0, [], 0x0⟩,
    ⟨0x0417, 0x0417, 0x03, 0x03, "op.dose_import", .u16, .ro, .observer, .immediate, 0, [], 0x0⟩,
    ⟨0x0417, 0x0417, 0x04, 0x04, "op.dose_import", .u16, .ro, .observer, .immediate, 0, [], 0x0⟩,
    ⟨0x0417, 0x0417, 0x05, 0x05, "op.dose_import", .u32, .ro, .observer, .immediate, 0, [], 0x0⟩,
    ⟨0x0417, 0x0417, 0x06, 0x06, "op.dose_import", .wtime, .ro, .observer, .immediate, 0, [], 0x0⟩,
    ⟨0x0417, 0x0417, 0x07, 0x07, "op.dose_import", .wtime, .ro, .observer, .immediate, 0, [], 0x0⟩,
    ⟨0x0417, 0x0417, 0x08, 0x08, "op.dose_import", .u8, .ro, .observer, .immediate, 255, [], 0x0⟩,
    ⟨0x0417, 0x0417, 0x09, 0x09, "op.dose_import", .u32, .ro, .observer, .immediate, 0, [], 0x0⟩,
    ⟨0x0417, 0x0417, 0x10, 0x10, "op.dose_import", .u64, .rw, .engineer, .immediate, 0, [], 0x0⟩,
    ⟨0x0417, 0x0417, 0x11, 0x11, "op.dose_import", .bool, .rw, .engineer, .immediate, 0, [], 0x0⟩,
    ⟨0x0418, 0x0418, 0x00, 0x00, "op.thaw", .oper, .const, .observer, .none, 16, [], 0x0⟩,
    ⟨0x0418, 0x0418, 0x01, 0x01, "op.thaw", .u8, .wo, .engineer, .immediate, 0, [(1, 4)], 0x0⟩,
    ⟨0x0418, 0x0418, 0x02, 0x02, "op.thaw", .u8, .ro, .observer, .immediate, 0, [], 0x0⟩,
    ⟨0x0418, 0x0418, 0x03, 0x03, "op.thaw", .u16, .ro, .observer, .immediate, 0, [], 0x0⟩,
    ⟨0x0418, 0x0418, 0x04, 0x04, "op.thaw", .u16, .ro, .observer, .immediate, 0, [], 0x0⟩,
    ⟨0x0418, 0x0418, 0x05, 0x05, "op.thaw", .u32, .ro, .observer, .immediate, 0, [], 0x0⟩,
    ⟨0x0418, 0x0418, 0x06, 0x06, "op.thaw", .wtime, .ro, .observer, .immediate, 0, [], 0x0⟩,
    ⟨0x0418, 0x0418, 0x07, 0x07, "op.thaw", .wtime, .ro, .observer, .immediate, 0, [], 0x0⟩ ] ++
  [ ⟨0x0418, 0x0418, 0x08, 0x08, "op.thaw", .u8, .ro, .observer, .immediate, 255, [], 0x0⟩,
    ⟨0x0418, 0x0418, 0x09, 0x09, "op.thaw", .u32, .ro, .observer, .immediate, 0, [], 0x0⟩,
    ⟨0x0418, 0x0418, 0x10, 0x10, "op.thaw", .u8, .rw, .engineer, .immediate, 0, [], 0x3⟩,
    ⟨0x0419, 0x0419, 0x00, 0x00, "op.recover", .oper, .const, .observer, .none, 9, [], 0x0⟩,
    ⟨0x0419, 0x0419, 0x01, 0x01, "op.recover", .u8, .wo, .engineer, .immediate, 0, [(1, 4)], 0x0⟩,
    ⟨0x0419, 0x0419, 0x02, 0x02, "op.recover", .u8, .ro, .observer, .immediate, 0, [], 0x0⟩,
    ⟨0x0419, 0x0419, 0x03, 0x03, "op.recover", .u16, .ro, .observer, .immediate, 0, [], 0x0⟩,
    ⟨0x0419, 0x0419, 0x04, 0x04, "op.recover", .u16, .ro, .observer, .immediate, 0, [], 0x0⟩,
    ⟨0x0419, 0x0419, 0x05, 0x05, "op.recover", .u32, .ro, .observer, .immediate, 0, [], 0x0⟩,
    ⟨0x0419, 0x0419, 0x06, 0x06, "op.recover", .wtime, .ro, .observer, .immediate, 0, [], 0x0⟩,
    ⟨0x0419, 0x0419, 0x07, 0x07, "op.recover", .wtime, .ro, .observer, .immediate, 0, [], 0x0⟩,
    ⟨0x0419, 0x0419, 0x08, 0x08, "op.recover", .u8, .ro, .observer, .immediate, 255, [], 0x0⟩,
    ⟨0x0419, 0x0419, 0x09, 0x09, "op.recover", .u32, .ro, .observer, .immediate, 0, [], 0x0⟩,
    ⟨0x041A, 0x041A, 0x00, 0x00, "op.harvest", .oper, .const, .observer, .none, 17, [], 0x0⟩,
    ⟨0x041A, 0x041A, 0x01, 0x01, "op.harvest", .u8, .wo, .operator, .immediate, 0, [(1, 4)], 0x0⟩,
    ⟨0x041A, 0x041A, 0x02, 0x02, "op.harvest", .u8, .ro, .observer, .immediate, 0, [], 0x0⟩,
    ⟨0x041A, 0x041A, 0x03, 0x03, "op.harvest", .u16, .ro, .observer, .immediate, 0, [], 0x0⟩,
    ⟨0x041A, 0x041A, 0x04, 0x04, "op.harvest", .u16, .ro, .observer, .immediate, 0, [], 0x0⟩,
    ⟨0x041A, 0x041A, 0x05, 0x05, "op.harvest", .u32, .ro, .observer, .immediate, 0, [], 0x0⟩,
    ⟨0x041A, 0x041A, 0x06, 0x06, "op.harvest", .wtime, .ro, .observer, .immediate, 0, [], 0x0⟩ ] ++
  [ ⟨0x041A, 0x041A, 0x07, 0x07, "op.harvest", .wtime, .ro, .observer, .immediate, 0, [], 0x0⟩,
    ⟨0x041A, 0x041A, 0x08, 0x08, "op.harvest", .u8, .ro, .observer, .immediate, 255, [], 0x0⟩,
    ⟨0x041A, 0x041A, 0x09, 0x09, "op.harvest", .u32, .ro, .observer, .immediate, 0, [], 0x0⟩,
    ⟨0x041A, 0x041A, 0x10, 0x10, "op.harvest", .u8, .rw, .operator, .immediate, 0, [(0, 1)], 0x0⟩,
    ⟨0x041A, 0x041A, 0x11, 0x11, "op.harvest", .u64, .rw, .operator, .immediate, 0, [], 0x0⟩,
    ⟨0x041B, 0x041B, 0x00, 0x00, "op.si_reckon", .oper, .const, .observer, .none, 16, [], 0x0⟩,
    ⟨0x041B, 0x041B, 0x01, 0x01, "op.si_reckon", .u8, .wo, .engineer, .immediate, 0, [(1, 4)], 0x0⟩,
    ⟨0x041B, 0x041B, 0x02, 0x02, "op.si_reckon", .u8, .ro, .observer, .immediate, 0, [], 0x0⟩,
    ⟨0x041B, 0x041B, 0x03, 0x03, "op.si_reckon", .u16, .ro, .observer, .immediate, 0, [], 0x0⟩,
    ⟨0x041B, 0x041B, 0x04, 0x04, "op.si_reckon", .u16, .ro, .observer, .immediate, 0, [], 0x0⟩,
    ⟨0x041B, 0x041B, 0x05, 0x05, "op.si_reckon", .u32, .ro, .observer, .immediate, 0, [], 0x0⟩,
    ⟨0x041B, 0x041B, 0x06, 0x06, "op.si_reckon", .wtime, .ro, .observer, .immediate, 0, [], 0x0⟩,
    ⟨0x041B, 0x041B, 0x07, 0x07, "op.si_reckon", .wtime, .ro, .observer, .immediate, 0, [], 0x0⟩,
    ⟨0x041B, 0x041B, 0x08, 0x08, "op.si_reckon", .u8, .ro, .observer, .immediate, 255, [], 0x0⟩,
    ⟨0x041B, 0x041B, 0x09, 0x09, "op.si_reckon", .u32, .ro, .observer, .immediate, 0, [], 0x0⟩,
    ⟨0x041B, 0x041B, 0x10, 0x10, "op.si_reckon", .u8, .rw, .engineer, .immediate, 0, [], 0x1⟩ ]

/-- Entries of range 0x0800 to 0x08FF. -/
def entries08 : List Entry :=
  [ ⟨0x0800, 0x0800, 0x00, 0x00, "time.now", .wtime, .ro, .observer, .immediate, 0, [], 0x0⟩,
    ⟨0x0801, 0x0801, 0x00, 0x00, "time.incr", .u64, .rw, .operator, .immediate, 2199023255552, [], 0x0⟩,
    ⟨0x0802, 0x0802, 0x00, 0x00, "time.step", .i64, .wo, .operator, .immediate, 0, [], 0x0⟩,
    ⟨0x0803, 0x0803, 0x00, 0x00, "time.jump_threshold", .u32, .rw, .engineer, .immediate, 1000000, [(1000, 1000000000)], 0x0⟩,
    ⟨0x0804, 0x0804, 0x00, 0x00, "time.refused", .u8, .const, .observer, .none, 5, [], 0x0⟩,
    ⟨0x0804, 0x0804, 0x01, 0x01, "time.refused", .u8, .ro, .observer, .immediate, 0, [], 0x0⟩,
    ⟨0x0804, 0x0804, 0x02, 0x02, "time.refused", .i64, .ro, .observer, .immediate, 0, [], 0x0⟩,
    ⟨0x0804, 0x0804, 0x03, 0x03, "time.refused", .wtime, .ro, .observer, .immediate, 0, [], 0x0⟩,
    ⟨0x0804, 0x0804, 0x04, 0x04, "time.refused", .bool, .ro, .observer, .immediate, 0, [], 0x0⟩,
    ⟨0x0804, 0x0804, 0x05, 0x05, "time.refused", .u32, .ro, .observer, .immediate, 0, [], 0x0⟩,
    ⟨0x0805, 0x0805, 0x00, 0x00, "time.force", .u8, .wo, .engineer, .immediate, 0, [(1, 1)], 0x0⟩,
    ⟨0x0806, 0x0806, 0x00, 0x00, "time.status", .u8, .ro, .observer, .immediate, 0, [], 0x0⟩,
    ⟨0x0807, 0x0807, 0x00, 0x00, "time.servo_state", .u8, .rw, .operator, .immediate, 0, [(0, 3)], 0x0⟩,
    ⟨0x0810, 0x0810, 0x00, 0x00, "tt.mode", .u8, .const, .observer, .none, 16, [], 0x0⟩,
    ⟨0x0810, 0x0810, 0x01, 0x10, "tt.mode", .u8, .rw, .operator, .immediate, 0, [(0, 3)], 0x0⟩,
    ⟨0x0811, 0x0811, 0x00, 0x00, "tt.start", .u8, .const, .observer, .none, 16, [], 0x0⟩,
    ⟨0x0811, 0x0811, 0x01, 0x10, "tt.start", .wtime, .rw, .operator, .immediate, 0, [], 0x0⟩,
    ⟨0x0812, 0x0812, 0x00, 0x00, "tt.period_num", .u8, .const, .observer, .none, 16, [], 0x0⟩,
    ⟨0x0812, 0x0812, 0x01, 0x10, "tt.period_num", .u64, .rw, .operator, .immediate, 0, [], 0x0⟩,
    ⟨0x0813, 0x0813, 0x00, 0x00, "tt.period_den", .u8, .const, .observer, .none, 16, [], 0x0⟩ ] ++
  [ ⟨0x0813, 0x0813, 0x01, 0x10, "tt.period_den", .u16, .rw, .operator, .immediate, 1, [], 0x0⟩,
    ⟨0x0814, 0x0814, 0x00, 0x00, "tt.width", .u8, .const, .observer, .none, 16, [], 0x0⟩,
    ⟨0x0814, 0x0814, 0x01, 0x10, "tt.width", .u32, .rw, .operator, .immediate, 1000, [], 0x0⟩,
    ⟨0x0815, 0x0815, 0x00, 0x00, "tt.polarity", .u8, .const, .observer, .none, 16, [], 0x0⟩,
    ⟨0x0815, 0x0815, 0x01, 0x10, "tt.polarity", .u8, .rw, .operator, .immediate, 0, [(0, 1)], 0x0⟩,
    ⟨0x0816, 0x0816, 0x00, 0x00, "tt.phase_mask", .u8, .const, .observer, .none, 16, [], 0x0⟩,
    ⟨0x0816, 0x0816, 0x01, 0x10, "tt.phase_mask", .u8, .rw, .operator, .immediate, 1, [], 0x0⟩,
    ⟨0x0817, 0x0817, 0x00, 0x00, "tt.offset", .u8, .const, .observer, .none, 16, [], 0x0⟩,
    ⟨0x0817, 0x0817, 0x01, 0x10, "tt.offset", .i32, .rw, .operator, .immediate, 0, [], 0x0⟩,
    ⟨0x0818, 0x0818, 0x00, 0x00, "tt.arm", .u8, .const, .observer, .none, 16, [], 0x0⟩,
    ⟨0x0818, 0x0818, 0x01, 0x10, "tt.arm", .u8, .wo, .operator, .immediate, 0, [(0, 1)], 0x0⟩,
    ⟨0x0819, 0x0819, 0x00, 0x00, "tt.state", .u8, .const, .observer, .none, 16, [], 0x0⟩,
    ⟨0x0819, 0x0819, 0x01, 0x10, "tt.state", .u8, .ro, .observer, .immediate, 0, [], 0x0⟩,
    ⟨0x081A, 0x081A, 0x00, 0x00, "tt.active_only", .u8, .const, .observer, .none, 16, [], 0x0⟩,
    ⟨0x081A, 0x081A, 0x01, 0x10, "tt.active_only", .bool, .rw, .engineer, .immediate, 0, [], 0x0⟩,
    ⟨0x0820, 0x0820, 0x00, 0x00, "tc.edge", .u8, .const, .observer, .none, 8, [], 0x0⟩,
    ⟨0x0820, 0x0820, 0x01, 0x08, "tc.edge", .u8, .rw, .operator, .immediate, 0, [(0, 3)], 0x0⟩,
    ⟨0x0821, 0x0821, 0x00, 0x00, "tc.min_pulse", .u8, .const, .observer, .none, 8, [], 0x0⟩,
    ⟨0x0821, 0x0821, 0x01, 0x08, "tc.min_pulse", .u16, .rw, .operator, .immediate, 20, [(4, 65534)], 0x0⟩,
    ⟨0x0822, 0x0822, 0x00, 0x00, "tc.last", .u8, .const, .observer, .none, 8, [], 0x0⟩ ] ++
  [ ⟨0x0822, 0x0822, 0x01, 0x08, "tc.last", .wtime, .ro, .observer, .immediate, 0, [], 0x0⟩,
    ⟨0x0823, 0x0823, 0x00, 0x00, "tc.e_offset", .u8, .const, .observer, .none, 8, [], 0x0⟩,
    ⟨0x0823, 0x0823, 0x01, 0x08, "tc.e_offset", .i32, .ro, .observer, .immediate, 0, [], 0x0⟩,
    ⟨0x0824, 0x0824, 0x00, 0x00, "tc.phase", .u8, .const, .observer, .none, 8, [], 0x0⟩,
    ⟨0x0824, 0x0824, 0x01, 0x08, "tc.phase", .u8, .ro, .observer, .immediate, 0, [], 0x0⟩,
    ⟨0x0825, 0x0825, 0x00, 0x00, "tc.last_level", .u8, .const, .observer, .none, 8, [], 0x0⟩,
    ⟨0x0825, 0x0825, 0x01, 0x08, "tc.last_level", .u8, .ro, .observer, .immediate, 0, [], 0x0⟩,
    ⟨0x0826, 0x0826, 0x00, 0x00, "tc.history", .u8, .const, .observer, .none, 128, [], 0x0⟩,
    ⟨0x0826, 0x0826, 0x01, 0x80, "tc.history", .wtime, .ro, .observer, .immediate, 0, [], 0x0⟩,
    ⟨0x0827, 0x0827, 0x00, 0x00, "tc.count", .u8, .const, .observer, .none, 8, [], 0x0⟩,
    ⟨0x0827, 0x0827, 0x01, 0x08, "tc.count", .u32, .ro, .observer, .immediate, 0, [], 0x0⟩,
    ⟨0x0828, 0x0828, 0x00, 0x00, "tc.lost", .u8, .const, .observer, .none, 8, [], 0x0⟩,
    ⟨0x0828, 0x0828, 0x01, 0x08, "tc.lost", .u32, .ro, .observer, .immediate, 0, [], 0x0⟩,
    ⟨0x0830, 0x0830, 0x00, 0x00, "ts.pair_mode", .u8, .const, .observer, .none, 2, [], 0x0⟩,
    ⟨0x0830, 0x0830, 0x01, 0x02, "ts.pair_mode", .u8, .rw, .engineer, .immediate, 0, [(0, 2)], 0x0⟩,
    ⟨0x0831, 0x0831, 0x00, 0x00, "ts.domain", .u8, .rw, .engineer, .immediate, 127, [], 0x0⟩,
    ⟨0x0832, 0x0832, 0x00, 0x00, "ts.ingress_lat", .u8, .const, .observer, .none, 4, [], 0x0⟩,
    ⟨0x0832, 0x0832, 0x01, 0x04, "ts.ingress_lat", .u16, .rw, .engineer, .immediate, 0, [], 0x0⟩,
    ⟨0x0833, 0x0833, 0x00, 0x00, "ts.egress_lat", .u8, .const, .observer, .none, 4, [], 0x0⟩,
    ⟨0x0833, 0x0833, 0x01, 0x04, "ts.egress_lat", .u16, .rw, .engineer, .immediate, 0, [], 0x0⟩ ] ++
  [ ⟨0x0834, 0x0834, 0x00, 0x00, "ts.fwd_drop", .u8, .const, .observer, .none, 4, [], 0x0⟩,
    ⟨0x0834, 0x0834, 0x01, 0x04, "ts.fwd_drop", .u32, .ro, .observer, .immediate, 0, [], 0x0⟩ ]

/-- Entries of range 0x0900 to 0x09FF. -/
def entries09 : List Entry :=
  [ ⟨0x0900, 0x0900, 0x00, 0x00, "mode.rate", .u8, .rw, .engineer, .mode, 8, [(0, 12)], 0x0⟩,
    ⟨0x0901, 0x0901, 0x00, 0x00, "mode.phases", .u8, .rw, .engineer, .mode, 1, [(1, 8)], 0x0⟩,
    ⟨0x0902, 0x0902, 0x00, 0x00, "mode.shift", .u8, .const, .observer, .none, 8, [], 0x0⟩,
    ⟨0x0902, 0x0902, 0x01, 0x08, "mode.shift", .i32, .rw, .engineer, .mode, 0, [(-1000000, 1000000)], 0x0⟩,
    ⟨0x0903, 0x0903, 0x00, 0x00, "mode.window", .u8, .const, .observer, .none, 8, [], 0x0⟩,
    ⟨0x0903, 0x0903, 0x01, 0x08, "mode.window", .u32, .rw, .engineer, .mode, 0, [], 0x0⟩,
    ⟨0x0904, 0x0904, 0x00, 0x00, "mode.unit", .u16, .rw, .engineer, .mode, 0, [(0, 0), (2, 65535)], 0x0⟩,
    ⟨0x0905, 0x0905, 0x00, 0x00, "mode.gap", .u8, .rw, .engineer, .mode, 4, [(0, 250)], 0x0⟩,
    ⟨0x0906, 0x0906, 0x00, 0x00, "mode.order", .u8, .rw, .engineer, .mode, 2, [(0, 2)], 0x0⟩,
    ⟨0x0907, 0x0907, 0x00, 0x00, "mode.t_em", .u32, .ro, .observer, .immediate, 0, [], 0x0⟩,
    ⟨0x0908, 0x0908, 0x00, 0x00, "mode.unit_used", .u16, .ro, .observer, .immediate, 0, [], 0x0⟩,
    ⟨0x0909, 0x0909, 0x00, 0x00, "mode.state", .u8, .ro, .observer, .immediate, 0, [], 0x0⟩,
    ⟨0x0910, 0x0910, 0x00, 0x00, "phase.camera", .u8, .const, .observer, .none, 8, [], 0x0⟩,
    ⟨0x0910, 0x0910, 0x01, 0x08, "phase.camera", .u8, .rw, .operator, .immediate, 255, [(0, 7), (255, 255)], 0x0⟩,
    ⟨0x0911, 0x0911, 0x00, 0x00, "phase.shutter", .u8, .const, .observer, .none, 8, [], 0x0⟩,
    ⟨0x0911, 0x0911, 0x01, 0x08, "phase.shutter", .u32, .rw, .operator, .immediate, 0, [], 0x0⟩,
    ⟨0x0912, 0x0912, 0x00, 0x00, "phase.margin_lead", .u8, .const, .observer, .none, 8, [], 0x0⟩,
    ⟨0x0912, 0x0912, 0x01, 0x08, "phase.margin_lead", .i32, .ro, .observer, .immediate, 0, [], 0x0⟩,
    ⟨0x0913, 0x0913, 0x00, 0x00, "phase.margin_trail", .u8, .const, .observer, .none, 8, [], 0x0⟩,
    ⟨0x0913, 0x0913, 0x01, 0x08, "phase.margin_trail", .i32, .ro, .observer, .immediate, 0, [], 0x0⟩ ] ++
  [ ⟨0x0914, 0x0914, 0x00, 0x00, "phase.margin_clear", .u8, .const, .observer, .none, 8, [], 0x0⟩,
    ⟨0x0914, 0x0914, 0x01, 0x08, "phase.margin_clear", .i32, .ro, .observer, .immediate, 0, [], 0x0⟩,
    ⟨0x0980, 0x0980, 0x00, 0x00, "sched.run_ahead", .q16, .rw, .engineer, .mode, 65536, [(16384, 131072)], 0x0⟩,
    ⟨0x0981, 0x0981, 0x00, 0x00, "sched.subframe", .u64, .ro, .observer, .immediate, 0, [], 0x0⟩,
    ⟨0x0982, 0x0982, 0x00, 0x00, "sched.next", .u8, .const, .observer, .none, 4, [], 0x0⟩,
    ⟨0x0982, 0x0982, 0x01, 0x01, "sched.next", .u64, .ro, .observer, .immediate, 0, [], 0x0⟩,
    ⟨0x0982, 0x0982, 0x02, 0x02, "sched.next", .wtime, .ro, .observer, .immediate, 0, [], 0x0⟩,
    ⟨0x0982, 0x0982, 0x03, 0x03, "sched.next", .wtime, .ro, .observer, .immediate, 0, [], 0x0⟩,
    ⟨0x0982, 0x0982, 0x04, 0x04, "sched.next", .wtime, .ro, .observer, .immediate, 0, [], 0x0⟩,
    ⟨0x0983, 0x0983, 0x00, 0x00, "sched.tsf", .u8, .const, .observer, .none, 2, [], 0x0⟩,
    ⟨0x0983, 0x0983, 0x01, 0x01, "sched.tsf", .u64, .ro, .observer, .immediate, 0, [], 0x0⟩,
    ⟨0x0983, 0x0983, 0x02, 0x02, "sched.tsf", .u16, .ro, .observer, .immediate, 0, [], 0x0⟩,
    ⟨0x0984, 0x0984, 0x00, 0x00, "sched.late", .u32, .ro, .observer, .immediate, 0, [], 0x0⟩ ]

/-- Entries of range 0x0A00 to 0x0AFF. -/
def entries0A : List Entry :=
  [ ⟨0x0A00, 0x0A00, 0x00, 0x00, "port.state", .u8, .const, .observer, .none, 4, [], 0x0⟩,
    ⟨0x0A00, 0x0A00, 0x01, 0x04, "port.state", .u8, .ro, .observer, .immediate, 0, [], 0x0⟩,
    ⟨0x0A01, 0x0A01, 0x00, 0x00, "port.fec", .u8, .const, .observer, .none, 4, [], 0x0⟩,
    ⟨0x0A01, 0x0A01, 0x01, 0x04, "port.fec", .bool, .rw, .engineer, .immediate, 1, [], 0x0⟩,
    ⟨0x0A02, 0x0A02, 0x00, 0x00, "port.ipv4", .u8, .const, .observer, .none, 4, [], 0x0⟩,
    ⟨0x0A02, 0x0A02, 0x01, 0x04, "port.ipv4", .str, .rw, .engineer, .immediate, 0, [], 0x0⟩,
    ⟨0x0A03, 0x0A03, 0x00, 0x00, "port.ipv6", .u8, .const, .observer, .none, 4, [], 0x0⟩,
    ⟨0x0A03, 0x0A03, 0x01, 0x04, "port.ipv6", .str, .rw, .engineer, .immediate, 0, [], 0x0⟩,
    ⟨0x0A04, 0x0A04, 0x00, 0x00, "port.gateway", .u8, .const, .observer, .none, 4, [], 0x0⟩,
    ⟨0x0A04, 0x0A04, 0x01, 0x04, "port.gateway", .str, .rw, .engineer, .immediate, 0, [], 0x0⟩,
    ⟨0x0A05, 0x0A05, 0x00, 0x00, "port.vlan", .u8, .const, .observer, .none, 4, [], 0x0⟩,
    ⟨0x0A05, 0x0A05, 0x01, 0x04, "port.vlan", .u16, .rw, .engineer, .immediate, 0, [(0, 4094)], 0x0⟩,
    ⟨0x0A06, 0x0A06, 0x00, 0x00, "port.rx_drop", .u8, .const, .observer, .none, 4, [], 0x0⟩,
    ⟨0x0A06, 0x0A06, 0x01, 0x04, "port.rx_drop", .u32, .ro, .observer, .immediate, 0, [], 0x0⟩,
    ⟨0x0A07, 0x0A07, 0x00, 0x00, "port.load", .u8, .const, .observer, .none, 4, [], 0x0⟩,
    ⟨0x0A07, 0x0A07, 0x01, 0x04, "port.load", .u32, .ro, .observer, .immediate, 0, [], 0x0⟩,
    ⟨0x0A08, 0x0A08, 0x00, 0x00, "port.module", .u8, .const, .observer, .none, 4, [], 0x0⟩,
    ⟨0x0A08, 0x0A08, 0x01, 0x04, "port.module", .blob, .ro, .observer, .immediate, 0, [], 0x0⟩,
    ⟨0x0A09, 0x0A09, 0x00, 0x00, "port.cause", .u8, .const, .observer, .none, 4, [], 0x0⟩,
    ⟨0x0A09, 0x0A09, 0x01, 0x04, "port.cause", .u16, .rw, .operator, .immediate, 0, [], 0x1D⟩ ] ++
  [ ⟨0x0A10, 0x0A10, 0x00, 0x00, "flow.kind", .u8, .const, .observer, .none, 16, [], 0x0⟩,
    ⟨0x0A10, 0x0A10, 0x01, 0x10, "flow.kind", .u8, .rw, .engineer, .immediate, 0, [(0, 2)], 0x0⟩,
    ⟨0x0A11, 0x0A11, 0x00, 0x00, "flow.ports", .u8, .const, .observer, .none, 16, [], 0x0⟩,
    ⟨0x0A11, 0x0A11, 0x01, 0x10, "flow.ports", .u8, .rw, .engineer, .immediate, 240, [], 0x0⟩,
    ⟨0x0A12, 0x0A12, 0x00, 0x00, "flow.group", .u8, .const, .observer, .none, 16, [], 0x0⟩,
    ⟨0x0A12, 0x0A12, 0x01, 0x10, "flow.group", .str, .rw, .engineer, .immediate, 0, [], 0x0⟩,
    ⟨0x0A13, 0x0A13, 0x00, 0x00, "flow.source", .u8, .const, .observer, .none, 16, [], 0x0⟩,
    ⟨0x0A13, 0x0A13, 0x01, 0x10, "flow.source", .str, .rw, .engineer, .immediate, 0, [], 0x0⟩,
    ⟨0x0A14, 0x0A14, 0x00, 0x00, "flow.group_b", .u8, .const, .observer, .none, 16, [], 0x0⟩,
    ⟨0x0A14, 0x0A14, 0x01, 0x10, "flow.group_b", .str, .rw, .engineer, .immediate, 0, [], 0x0⟩,
    ⟨0x0A15, 0x0A15, 0x00, 0x00, "flow.source_b", .u8, .const, .observer, .none, 16, [], 0x0⟩,
    ⟨0x0A15, 0x0A15, 0x01, 0x10, "flow.source_b", .str, .rw, .engineer, .immediate, 0, [], 0x0⟩,
    ⟨0x0A16, 0x0A16, 0x00, 0x00, "flow.udp", .u8, .const, .observer, .none, 16, [], 0x0⟩,
    ⟨0x0A16, 0x0A16, 0x01, 0x10, "flow.udp", .u32, .rw, .engineer, .immediate, 0, [], 0x0⟩,
    ⟨0x0A17, 0x0A17, 0x00, 0x00, "flow.pt", .u8, .const, .observer, .none, 16, [], 0x0⟩,
    ⟨0x0A17, 0x0A17, 0x01, 0x10, "flow.pt", .u8, .rw, .engineer, .immediate, 96, [], 0x0⟩,
    ⟨0x0A18, 0x0A18, 0x00, 0x00, "flow.format", .u8, .const, .observer, .none, 16, [], 0x0⟩,
    ⟨0x0A18, 0x0A18, 0x01, 0x10, "flow.format", .u64, .rw, .engineer, .immediate, 0, [], 0xFFFFFFFFFFFFFF00⟩,
    ⟨0x0A19, 0x0A19, 0x00, 0x00, "flow.rate", .u8, .const, .observer, .none, 16, [], 0x0⟩,
    ⟨0x0A19, 0x0A19, 0x01, 0x10, "flow.rate", .u8, .rw, .engineer, .immediate, 8, [(0, 12)], 0x0⟩ ] ++
  [ ⟨0x0A1A, 0x0A1A, 0x00, 0x00, "flow.colour", .u8, .const, .observer, .none, 16, [], 0x0⟩,
    ⟨0x0A1A, 0x0A1A, 0x01, 0x10, "flow.colour", .u16, .rw, .engineer, .immediate, 0, [], 0x0⟩,
    ⟨0x0A1B, 0x0A1B, 0x00, 0x00, "flow.payload", .u8, .const, .observer, .none, 16, [], 0x0⟩,
    ⟨0x0A1B, 0x0A1B, 0x01, 0x10, "flow.payload", .u16, .rw, .engineer, .immediate, 1200, [(1, 8960)], 0x0⟩,
    ⟨0x0A1C, 0x0A1C, 0x00, 0x00, "flow.sender", .u8, .const, .observer, .none, 16, [], 0x0⟩,
    ⟨0x0A1C, 0x0A1C, 0x01, 0x10, "flow.sender", .u8, .rw, .engineer, .immediate, 0, [(0, 2)], 0x0⟩,
    ⟨0x0A1D, 0x0A1D, 0x00, 0x00, "flow.max_rate", .u8, .const, .observer, .none, 16, [], 0x0⟩,
    ⟨0x0A1D, 0x0A1D, 0x01, 0x10, "flow.max_rate", .u32, .rw, .engineer, .immediate, 0, [(1, 1000)], 0x0⟩,
    ⟨0x0A1E, 0x0A1E, 0x00, 0x00, "flow.admit", .u8, .const, .observer, .none, 16, [], 0x0⟩,
    ⟨0x0A1E, 0x0A1E, 0x01, 0x10, "flow.admit", .u8, .rw, .operator, .immediate, 0, [(0, 1)], 0x0⟩,
    ⟨0x0A1F, 0x0A1F, 0x00, 0x00, "flow.result", .u8, .const, .observer, .none, 16, [], 0x0⟩,
    ⟨0x0A1F, 0x0A1F, 0x01, 0x10, "flow.result", .u8, .ro, .observer, .immediate, 0, [], 0x0⟩,
    ⟨0x0A20, 0x0A20, 0x00, 0x00, "flow.wire_rate", .u8, .const, .observer, .none, 16, [], 0x0⟩,
    ⟨0x0A20, 0x0A20, 0x01, 0x10, "flow.wire_rate", .u32, .ro, .observer, .immediate, 0, [], 0x0⟩,
    ⟨0x0A21, 0x0A21, 0x00, 0x00, "flow.frames", .u8, .const, .observer, .none, 16, [], 0x0⟩,
    ⟨0x0A21, 0x0A21, 0x01, 0x10, "flow.frames", .u32, .ro, .observer, .immediate, 0, [], 0x0⟩,
    ⟨0x0A22, 0x0A22, 0x00, 0x00, "flow.incomplete", .u8, .const, .observer, .none, 16, [], 0x0⟩,
    ⟨0x0A22, 0x0A22, 0x01, 0x10, "flow.incomplete", .u32, .ro, .observer, .immediate, 0, [], 0x0⟩,
    ⟨0x0A23, 0x0A23, 0x00, 0x00, "flow.repaired", .u8, .const, .observer, .none, 16, [], 0x0⟩,
    ⟨0x0A23, 0x0A23, 0x01, 0x10, "flow.repaired", .u32, .ro, .observer, .immediate, 0, [], 0x0⟩ ] ++
  [ ⟨0x0A24, 0x0A24, 0x00, 0x00, "flow.cause", .u8, .const, .observer, .none, 16, [], 0x0⟩,
    ⟨0x0A24, 0x0A24, 0x01, 0x10, "flow.cause", .u16, .rw, .operator, .immediate, 0, [], 0x7F⟩,
    ⟨0x0A30, 0x0A30, 0x00, 0x00, "media.skew", .u16, .rw, .engineer, .immediate, 10, [(1, 50)], 0x0⟩,
    ⟨0x0A31, 0x0A31, 0x00, 0x00, "media.timeout", .u16, .rw, .engineer, .immediate, 100, [(10, 5000)], 0x0⟩,
    ⟨0x0A32, 0x0A32, 0x00, 0x00, "media.aggregate", .u32, .ro, .observer, .immediate, 0, [], 0x0⟩ ]

/-- Entries of range 0x0B00 to 0x0BFF. -/
def entries0B : List Entry :=
  [ ⟨0x0B00, 0x0B00, 0x00, 0x00, "stream.flow", .u8, .const, .observer, .none, 32, [], 0x0⟩,
    ⟨0x0B00, 0x0B00, 0x01, 0x20, "stream.flow", .u8, .rw, .engineer, .immediate, 255, [(0, 15), (255, 255)], 0x0⟩,
    ⟨0x0B01, 0x0B01, 0x00, 0x00, "stream.engine", .u8, .const, .observer, .none, 32, [], 0x0⟩,
    ⟨0x0B01, 0x0B01, 0x01, 0x20, "stream.engine", .u8, .rw, .engineer, .immediate, 255, [(0, 3), (255, 255)], 0x0⟩,
    ⟨0x0B02, 0x0B02, 0x00, 0x00, "stream.max_size", .u8, .const, .observer, .none, 32, [], 0x0⟩,
    ⟨0x0B02, 0x0B02, 0x01, 0x20, "stream.max_size", .u32, .rw, .engineer, .immediate, 251660400, [], 0x0⟩,
    ⟨0x0B03, 0x0B03, 0x00, 0x00, "stream.dpb", .u8, .const, .observer, .none, 32, [], 0x0⟩,
    ⟨0x0B03, 0x0B03, 0x01, 0x20, "stream.dpb", .u8, .rw, .engineer, .immediate, 6, [(2, 16)], 0x0⟩,
    ⟨0x0B04, 0x0B04, 0x00, 0x00, "stream.enable", .u8, .const, .observer, .none, 32, [], 0x0⟩,
    ⟨0x0B04, 0x0B04, 0x01, 0x20, "stream.enable", .u8, .rw, .operator, .immediate, 0, [(0, 1)], 0x0⟩,
    ⟨0x0B05, 0x0B05, 0x00, 0x00, "stream.result", .u8, .const, .observer, .none, 32, [], 0x0⟩,
    ⟨0x0B05, 0x0B05, 0x01, 0x20, "stream.result", .u8, .ro, .observer, .immediate, 0, [], 0x0⟩,
    ⟨0x0B06, 0x0B06, 0x00, 0x00, "stream.engine_used", .u8, .const, .observer, .none, 32, [], 0x0⟩,
    ⟨0x0B06, 0x0B06, 0x01, 0x20, "stream.engine_used", .u8, .ro, .observer, .immediate, 255, [], 0x0⟩,
    ⟨0x0B07, 0x0B07, 0x00, 0x00, "stream.profile", .u8, .const, .observer, .none, 32, [], 0x0⟩,
    ⟨0x0B07, 0x0B07, 0x01, 0x20, "stream.profile", .u8, .ro, .observer, .immediate, 0, [], 0x0⟩,
    ⟨0x0B08, 0x0B08, 0x00, 0x00, "stream.pictures", .u8, .const, .observer, .none, 32, [], 0x0⟩,
    ⟨0x0B08, 0x0B08, 0x01, 0x20, "stream.pictures", .u32, .ro, .observer, .immediate, 0, [], 0x0⟩,
    ⟨0x0B09, 0x0B09, 0x00, 0x00, "stream.concealed", .u8, .const, .observer, .none, 32, [], 0x0⟩,
    ⟨0x0B09, 0x0B09, 0x01, 0x20, "stream.concealed", .u32, .ro, .observer, .immediate, 0, [], 0x0⟩ ] ++
  [ ⟨0x0B0A, 0x0B0A, 0x00, 0x00, "stream.cause", .u8, .const, .observer, .none, 32, [], 0x0⟩,
    ⟨0x0B0A, 0x0B0A, 0x01, 0x20, "stream.cause", .u16, .rw, .operator, .immediate, 0, [], 0x3F⟩,
    ⟨0x0B20, 0x0B20, 0x00, 0x00, "dec.load", .u8, .const, .observer, .none, 4, [], 0x0⟩,
    ⟨0x0B20, 0x0B20, 0x01, 0x04, "dec.load", .u16, .ro, .observer, .immediate, 0, [], 0x0⟩,
    ⟨0x0B3F, 0x0B3F, 0x00, 0x00, "conf.decimate", .u8, .rws, .engineer, .latch, 4, [(1, 32)], 0x0⟩,
    ⟨0x0B40, 0x0B40, 0x00, 0x00, "conf.enable", .u8, .const, .observer, .none, 2, [], 0x0⟩,
    ⟨0x0B40, 0x0B40, 0x01, 0x02, "conf.enable", .u8, .rw, .operator, .immediate, 0, [(0, 1)], 0x0⟩,
    ⟨0x0B41, 0x0B41, 0x00, 0x00, "conf.phase", .u8, .const, .observer, .none, 2, [], 0x0⟩,
    ⟨0x0B41, 0x0B41, 0x01, 0x02, "conf.phase", .u8, .rw, .operator, .immediate, 0, [(0, 7)], 0x0⟩,
    ⟨0x0B42, 0x0B42, 0x00, 0x00, "conf.divisor", .u8, .const, .observer, .none, 2, [], 0x0⟩,
    ⟨0x0B42, 0x0B42, 0x01, 0x02, "conf.divisor", .u8, .rw, .engineer, .immediate, 1, [(1, 8)], 0x0⟩,
    ⟨0x0B43, 0x0B43, 0x00, 0x00, "conf.rc", .u8, .const, .observer, .none, 2, [], 0x0⟩,
    ⟨0x0B43, 0x0B43, 0x01, 0x02, "conf.rc", .u8, .rw, .engineer, .immediate, 0, [(0, 1)], 0x0⟩,
    ⟨0x0B44, 0x0B44, 0x00, 0x00, "conf.bitrate", .u8, .const, .observer, .none, 2, [], 0x0⟩,
    ⟨0x0B44, 0x0B44, 0x01, 0x02, "conf.bitrate", .u32, .rw, .engineer, .immediate, 20000, [(1000, 100000)], 0x0⟩,
    ⟨0x0B45, 0x0B45, 0x00, 0x00, "conf.qp", .u8, .const, .observer, .none, 2, [], 0x0⟩,
    ⟨0x0B45, 0x0B45, 0x01, 0x02, "conf.qp", .u8, .rw, .engineer, .immediate, 30, [(0, 51)], 0x0⟩,
    ⟨0x0B46, 0x0B46, 0x00, 0x00, "conf.gop", .u8, .const, .observer, .none, 2, [], 0x0⟩,
    ⟨0x0B46, 0x0B46, 0x01, 0x02, "conf.gop", .u16, .rw, .engineer, .immediate, 60, [(1, 600)], 0x0⟩,
    ⟨0x0B47, 0x0B47, 0x00, 0x00, "conf.i_ratio", .u8, .const, .observer, .none, 2, [], 0x0⟩ ] ++
  [ ⟨0x0B47, 0x0B47, 0x01, 0x02, "conf.i_ratio", .u8, .rw, .engineer, .immediate, 4, [(1, 8)], 0x0⟩,
    ⟨0x0B48, 0x0B48, 0x00, 0x00, "conf.port", .u8, .const, .observer, .none, 2, [], 0x0⟩,
    ⟨0x0B48, 0x0B48, 0x01, 0x02, "conf.port", .u8, .rw, .engineer, .immediate, 0, [(0, 3)], 0x0⟩,
    ⟨0x0B49, 0x0B49, 0x00, 0x00, "conf.dest", .u8, .const, .observer, .none, 2, [], 0x0⟩,
    ⟨0x0B49, 0x0B49, 0x01, 0x02, "conf.dest", .str, .rw, .engineer, .immediate, 0, [], 0x0⟩,
    ⟨0x0B4A, 0x0B4A, 0x00, 0x00, "conf.udp", .u8, .const, .observer, .none, 2, [], 0x0⟩,
    ⟨0x0B4A, 0x0B4A, 0x01, 0x02, "conf.udp", .u16, .rw, .engineer, .immediate, 5004, [], 0x0⟩,
    ⟨0x0B4B, 0x0B4B, 0x00, 0x00, "conf.pt", .u8, .const, .observer, .none, 2, [], 0x0⟩,
    ⟨0x0B4B, 0x0B4B, 0x01, 0x02, "conf.pt", .u8, .rw, .engineer, .immediate, 96, [(96, 127)], 0x0⟩,
    ⟨0x0B4C, 0x0B4C, 0x00, 0x00, "conf.dscp", .u8, .const, .observer, .none, 2, [], 0x0⟩,
    ⟨0x0B4C, 0x0B4C, 0x01, 0x02, "conf.dscp", .u8, .rw, .engineer, .immediate, 34, [(0, 63)], 0x0⟩,
    ⟨0x0B4D, 0x0B4D, 0x00, 0x00, "conf.matrix", .u8, .const, .observer, .none, 18, [], 0x0⟩,
    ⟨0x0B4D, 0x0B4D, 0x01, 0x12, "conf.matrix", .i16, .rw, .engineer, .immediate, 0, [], 0x0⟩,
    ⟨0x0B4E, 0x0B4E, 0x00, 0x00, "conf.size", .u8, .const, .observer, .none, 2, [], 0x0⟩,
    ⟨0x0B4E, 0x0B4E, 0x01, 0x02, "conf.size", .u32, .ro, .observer, .immediate, 0, [], 0x0⟩,
    ⟨0x0B4F, 0x0B4F, 0x00, 0x00, "conf.pictures", .u8, .const, .observer, .none, 2, [], 0x0⟩,
    ⟨0x0B4F, 0x0B4F, 0x01, 0x02, "conf.pictures", .u32, .ro, .observer, .immediate, 0, [], 0x0⟩,
    ⟨0x0B50, 0x0B50, 0x00, 0x00, "conf.starved", .u8, .const, .observer, .none, 2, [], 0x0⟩,
    ⟨0x0B50, 0x0B50, 0x01, 0x02, "conf.starved", .u32, .ro, .observer, .immediate, 0, [], 0x0⟩,
    ⟨0x0B51, 0x0B51, 0x00, 0x00, "conf.cause", .u8, .const, .observer, .none, 2, [], 0x0⟩ ] ++
  [ ⟨0x0B51, 0x0B51, 0x01, 0x02, "conf.cause", .u16, .rw, .operator, .immediate, 0, [], 0x7⟩ ]

/-- Entries of range 0x0C00 to 0x0CFF. -/
def entries0C : List Entry :=
  [ ⟨0x0C00, 0x0C00, 0x00, 0x00, "layer.enable", .u8, .const, .observer, .none, 31, [], 0x0⟩,
    ⟨0x0C00, 0x0C00, 0x01, 0x1F, "layer.enable", .bool, .rws, .operator, .latch, 0, [], 0x0⟩,
    ⟨0x0C01, 0x0C01, 0x00, 0x00, "layer.src_kind", .u8, .const, .observer, .none, 31, [], 0x0⟩,
    ⟨0x0C01, 0x0C01, 0x01, 0x1F, "layer.src_kind", .u8, .rws, .operator, .latch, 0, [(0, 5)], 0x0⟩,
    ⟨0x0C02, 0x0C02, 0x00, 0x00, "layer.src", .u8, .const, .observer, .none, 31, [], 0x0⟩,
    ⟨0x0C02, 0x0C02, 0x01, 0x1F, "layer.src", .u8, .rws, .operator, .latch, 0, [(0, 63)], 0x0⟩,
    ⟨0x0C03, 0x0C03, 0x00, 0x00, "layer.bk_kind", .u8, .const, .observer, .none, 31, [], 0x0⟩,
    ⟨0x0C03, 0x0C03, 0x01, 0x1F, "layer.bk_kind", .u8, .rws, .operator, .latch, 0, [(0, 5)], 0x0⟩,
    ⟨0x0C04, 0x0C04, 0x00, 0x00, "layer.bk", .u8, .const, .observer, .none, 31, [], 0x0⟩,
    ⟨0x0C04, 0x0C04, 0x01, 0x1F, "layer.bk", .u8, .rws, .operator, .latch, 0, [(0, 63)], 0x0⟩,
    ⟨0x0C05, 0x0C05, 0x00, 0x00, "layer.crop", .u8, .const, .observer, .none, 31, [], 0x0⟩,
    ⟨0x0C05, 0x0C05, 0x01, 0x1F, "layer.crop", .u64, .rws, .operator, .latch, 0, [], 0x0⟩,
    ⟨0x0C06, 0x0C06, 0x00, 0x00, "layer.dest", .u8, .const, .observer, .none, 31, [], 0x0⟩,
    ⟨0x0C06, 0x0C06, 0x01, 0x1F, "layer.dest", .u64, .rws, .operator, .latch, 0, [], 0x0⟩,
    ⟨0x0C07, 0x0C07, 0x00, 0x00, "layer.scaler", .u8, .const, .observer, .none, 31, [], 0x0⟩,
    ⟨0x0C07, 0x0C07, 0x01, 0x1F, "layer.scaler", .u8, .rws, .operator, .latch, 255, [(0, 15), (255, 255)], 0x0⟩,
    ⟨0x0C08, 0x0C08, 0x00, 0x00, "layer.alpha", .u8, .const, .observer, .none, 31, [], 0x0⟩,
    ⟨0x0C08, 0x0C08, 0x01, 0x1F, "layer.alpha", .u16, .rws, .operator, .latch, 32768, [(0, 32768)], 0x0⟩,
    ⟨0x0C09, 0x0C09, 0x00, 0x00, "layer.pixel_alpha", .u8, .const, .observer, .none, 31, [], 0x0⟩,
    ⟨0x0C09, 0x0C09, 0x01, 0x1F, "layer.pixel_alpha", .bool, .rws, .operator, .latch, 1, [], 0x0⟩ ] ++
  [ ⟨0x0C0A, 0x0C0A, 0x00, 0x00, "layer.blend", .u8, .const, .observer, .none, 31, [], 0x0⟩,
    ⟨0x0C0A, 0x0C0A, 0x01, 0x1F, "layer.blend", .u8, .rws, .operator, .latch, 0, [(0, 2)], 0x0⟩,
    ⟨0x0C0B, 0x0C0B, 0x00, 0x00, "layer.phase_mask", .u8, .const, .observer, .none, 31, [], 0x0⟩,
    ⟨0x0C0B, 0x0C0B, 0x01, 0x1F, "layer.phase_mask", .u8, .rws, .operator, .latch, 255, [], 0x0⟩,
    ⟨0x0C0C, 0x0C0C, 0x00, 0x00, "layer.not_ready", .u8, .const, .observer, .none, 31, [], 0x0⟩,
    ⟨0x0C0C, 0x0C0C, 0x01, 0x1F, "layer.not_ready", .u8, .rws, .operator, .latch, 0, [(0, 3)], 0x0⟩,
    ⟨0x0C0D, 0x0C0D, 0x00, 0x00, "layer.fill", .u8, .const, .observer, .none, 31, [], 0x0⟩,
    ⟨0x0C0D, 0x0C0D, 0x01, 0x1F, "layer.fill", .u64, .rws, .operator, .latch, 0, [], 0xFFFFFFFFFFFF⟩,
    ⟨0x0C0E, 0x0C0E, 0x00, 0x00, "layer.solid", .u8, .const, .observer, .none, 31, [], 0x0⟩,
    ⟨0x0C0E, 0x0C0E, 0x01, 0x1F, "layer.solid", .u64, .rws, .operator, .latch, 0, [], 0xFFFFFFFFFFFF⟩,
    ⟨0x0C0F, 0x0C0F, 0x00, 0x00, "layer.timing", .u8, .const, .observer, .none, 31, [], 0x0⟩,
    ⟨0x0C0F, 0x0C0F, 0x01, 0x1F, "layer.timing", .u8, .rws, .engineer, .latch, 0, [(0, 1)], 0x0⟩,
    ⟨0x0C10, 0x0C10, 0x00, 0x00, "layer.pres_offset", .u8, .const, .observer, .none, 31, [], 0x0⟩,
    ⟨0x0C10, 0x0C10, 0x01, 0x1F, "layer.pres_offset", .i32, .rws, .engineer, .latch, 0, [(-1000000000, 1000000000)], 0x0⟩,
    ⟨0x0C11, 0x0C11, 0x00, 0x00, "layer.stale", .u8, .const, .observer, .none, 31, [], 0x0⟩,
    ⟨0x0C11, 0x0C11, 0x01, 0x1F, "layer.stale", .u16, .rws, .engineer, .latch, 100, [(10, 10000)], 0x0⟩,
    ⟨0x0C12, 0x0C12, 0x00, 0x00, "layer.concealed_nr", .u8, .const, .observer, .none, 31, [], 0x0⟩,
    ⟨0x0C12, 0x0C12, 0x01, 0x1F, "layer.concealed_nr", .bool, .rws, .operator, .latch, 0, [], 0x0⟩,
    ⟨0x0C13, 0x0C13, 0x00, 0x00, "layer.tap_reduce", .u8, .const, .observer, .none, 31, [], 0x0⟩,
    ⟨0x0C13, 0x0C13, 0x01, 0x1F, "layer.tap_reduce", .bool, .rws, .engineer, .latch, 0, [], 0x0⟩ ] ++
  [ ⟨0x0C14, 0x0C14, 0x00, 0x00, "layer.live", .u8, .const, .observer, .none, 31, [], 0x0⟩,
    ⟨0x0C14, 0x0C14, 0x01, 0x1F, "layer.live", .bool, .rws, .operator, .latch, 0, [], 0x0⟩,
    ⟨0x0C15, 0x0C15, 0x00, 0x00, "layer.on_backup", .u8, .const, .observer, .none, 31, [], 0x0⟩,
    ⟨0x0C15, 0x0C15, 0x01, 0x1F, "layer.on_backup", .bool, .rws, .operator, .latch, 0, [], 0x0⟩,
    ⟨0x0C16, 0x0C16, 0x00, 0x00, "layer.content", .u8, .const, .observer, .none, 31, [], 0x0⟩,
    ⟨0x0C16, 0x0C16, 0x01, 0x1F, "layer.content", .u8, .ro, .observer, .immediate, 0, [], 0x0⟩,
    ⟨0x0C17, 0x0C17, 0x00, 0x00, "layer.frame_pt", .u8, .const, .observer, .none, 31, [], 0x0⟩,
    ⟨0x0C17, 0x0C17, 0x01, 0x1F, "layer.frame_pt", .wtime, .ro, .observer, .immediate, 0, [], 0x0⟩,
    ⟨0x0C18, 0x0C18, 0x00, 0x00, "layer.late", .u8, .const, .observer, .none, 31, [], 0x0⟩,
    ⟨0x0C18, 0x0C18, 0x01, 0x1F, "layer.late", .u32, .ro, .observer, .immediate, 0, [], 0x0⟩,
    ⟨0x0C19, 0x0C19, 0x00, 0x00, "layer.nr_count", .u8, .const, .observer, .none, 31, [], 0x0⟩,
    ⟨0x0C19, 0x0C19, 0x01, 0x1F, "layer.nr_count", .u32, .ro, .observer, .immediate, 0, [], 0x0⟩,
    ⟨0x0C1A, 0x0C1A, 0x00, 0x00, "layer.taps", .u8, .const, .observer, .none, 31, [], 0x0⟩,
    ⟨0x0C1A, 0x0C1A, 0x01, 0x1F, "layer.taps", .u8, .ro, .observer, .immediate, 0, [], 0x0⟩,
    ⟨0x0C1B, 0x0C1B, 0x00, 0x00, "layer.cause", .u8, .const, .observer, .none, 31, [], 0x0⟩,
    ⟨0x0C1B, 0x0C1B, 0x01, 0x1F, "layer.cause", .u16, .rw, .operator, .immediate, 0, [], 0xFF⟩,
    ⟨0x0C20, 0x0C20, 0x00, 0x00, "layer.order", .u8, .const, .observer, .none, 31, [], 0x0⟩,
    ⟨0x0C20, 0x0C20, 0x01, 0x1F, "layer.order", .u8, .rws, .operator, .latch, 0, [], 0x0⟩,
    ⟨0x0C21, 0x0C21, 0x00, 0x00, "canvas.background", .u64, .rws, .operator, .latch, 0, [], 0xFFFFFFFFFFFF⟩,
    ⟨0x0C22, 0x0C22, 0x00, 0x00, "canvas.dimming", .u16, .rws, .operator, .latch, 32768, [(0, 32768)], 0x0⟩ ] ++
  [ ⟨0x0C23, 0x0C23, 0x00, 0x00, "canvas.size", .u32, .ro, .observer, .immediate, 0, [], 0x0⟩,
    ⟨0x0C28, 0x0C28, 0x00, 0x00, "cfg.commit", .u8, .wo, .operator, .immediate, 0, [(1, 1)], 0x0⟩,
    ⟨0x0C29, 0x0C29, 0x00, 0x00, "cfg.discard", .u8, .wo, .operator, .immediate, 0, [(1, 1)], 0x0⟩,
    ⟨0x0C2A, 0x0C2A, 0x00, 0x00, "cfg.shadow_used", .u16, .ro, .observer, .immediate, 0, [], 0x0⟩,
    ⟨0x0C2B, 0x0C2B, 0x00, 0x00, "cfg.armed", .u16, .ro, .observer, .immediate, 0, [], 0x0⟩,
    ⟨0x0C2C, 0x0C2C, 0x00, 0x00, "cfg.refused", .u32, .ro, .observer, .immediate, 0, [], 0x0⟩,
    ⟨0x0C30, 0x0C30, 0x00, 0x00, "clone.enable", .u8, .const, .observer, .none, 16, [], 0x0⟩,
    ⟨0x0C30, 0x0C30, 0x01, 0x10, "clone.enable", .bool, .rws, .operator, .latch, 0, [], 0x0⟩,
    ⟨0x0C31, 0x0C31, 0x00, 0x00, "clone.src", .u8, .const, .observer, .none, 16, [], 0x0⟩,
    ⟨0x0C31, 0x0C31, 0x01, 0x10, "clone.src", .u64, .rws, .operator, .latch, 0, [], 0x0⟩,
    ⟨0x0C32, 0x0C32, 0x00, 0x00, "clone.dst", .u8, .const, .observer, .none, 16, [], 0x0⟩,
    ⟨0x0C32, 0x0C32, 0x01, 0x10, "clone.dst", .u32, .rws, .operator, .latch, 0, [], 0x0⟩,
    ⟨0x0C33, 0x0C33, 0x00, 0x00, "clone.mirror", .u8, .const, .observer, .none, 16, [], 0x0⟩,
    ⟨0x0C33, 0x0C33, 0x01, 0x10, "clone.mirror", .u8, .rws, .operator, .latch, 0, [], 0x3⟩,
    ⟨0x0C34, 0x0C34, 0x00, 0x00, "clone.phase_mask", .u8, .const, .observer, .none, 16, [], 0x0⟩,
    ⟨0x0C34, 0x0C34, 0x01, 0x10, "clone.phase_mask", .u8, .rws, .operator, .latch, 255, [], 0x0⟩,
    ⟨0x0C40, 0x0C40, 0x00, 0x00, "guard.enable", .bool, .rws, .safety, .latch, 0, [], 0x0⟩,
    ⟨0x0C41, 0x0C41, 0x00, 0x00, "guard.still", .u8, .rws, .safety, .latch, 0, [(0, 63)], 0x0⟩,
    ⟨0x0C42, 0x0C42, 0x00, 0x00, "guard.dest", .u64, .rws, .safety, .latch, 0, [], 0x0⟩,
    ⟨0x0C43, 0x0C43, 0x00, 0x00, "guard.alpha", .u16, .rws, .safety, .latch, 32768, [(0, 32768)], 0x0⟩ ] ++
  [ ⟨0x0C44, 0x0C44, 0x00, 0x00, "guard.floor", .u16, .rws, .safety, .latch, 16384, [(0, 32768)], 0x0⟩,
    ⟨0x0C45, 0x0C45, 0x00, 0x00, "guard.signature", .u32, .ro, .observer, .immediate, 0, [], 0x0⟩,
    ⟨0x0C46, 0x0C46, 0x00, 0x00, "guard.lamps", .u32, .ro, .observer, .immediate, 0, [], 0x0⟩,
    ⟨0x0C47, 0x0C47, 0x00, 0x00, "guard.mismatch", .u32, .ro, .observer, .immediate, 0, [], 0x0⟩,
    ⟨0x0C50, 0x0C50, 0x00, 0x00, "still.data", .u8, .const, .observer, .none, 64, [], 0x0⟩,
    ⟨0x0C50, 0x0C50, 0x01, 0x40, "still.data", .blob, .rws, .operator, .latch, 0, [], 0x0⟩,
    ⟨0x0C51, 0x0C51, 0x00, 0x00, "still.free", .u8, .const, .observer, .none, 64, [], 0x0⟩,
    ⟨0x0C51, 0x0C51, 0x01, 0x40, "still.free", .u8, .wo, .operator, .immediate, 0, [(1, 1)], 0x0⟩,
    ⟨0x0C52, 0x0C52, 0x00, 0x00, "still.size", .u8, .const, .observer, .none, 64, [], 0x0⟩,
    ⟨0x0C52, 0x0C52, 0x01, 0x40, "still.size", .u32, .ro, .observer, .immediate, 0, [], 0x0⟩,
    ⟨0x0C58, 0x0C58, 0x00, 0x00, "buffer.ring_depth", .u8, .rw, .engineer, .reset, 4, [(3, 8)], 0x0⟩,
    ⟨0x0C59, 0x0C59, 0x00, 0x00, "buffer.free", .u64, .ro, .observer, .immediate, 0, [], 0x0⟩,
    ⟨0x0C5A, 0x0C5A, 0x00, 0x00, "buffer.leased", .u32, .ro, .observer, .immediate, 0, [], 0x0⟩,
    ⟨0x0C5B, 0x0C5B, 0x00, 0x00, "buffer.premature", .u32, .ro, .observer, .immediate, 0, [], 0x0⟩,
    ⟨0x0C5C, 0x0C5C, 0x00, 0x00, "buffer.writer_drop", .u32, .ro, .observer, .immediate, 0, [], 0x0⟩ ]

/-- Entries of range 0x0D00 to 0x0DFF. -/
def entries0D : List Entry :=
  [ ⟨0x0D00, 0x0D00, 0x00, 0x00, "scaler.h_taps", .u8, .const, .observer, .none, 16, [], 0x0⟩,
    ⟨0x0D00, 0x0D00, 0x01, 0x10, "scaler.h_taps", .u8, .rws, .engineer, .latch, 8, [(2, 8)], 0x0⟩,
    ⟨0x0D01, 0x0D01, 0x00, 0x00, "scaler.v_taps", .u8, .const, .observer, .none, 16, [], 0x0⟩,
    ⟨0x0D01, 0x0D01, 0x01, 0x10, "scaler.v_taps", .u8, .rws, .engineer, .latch, 8, [(2, 8)], 0x0⟩,
    ⟨0x0D02, 0x0D02, 0x00, 0x00, "scaler.h_coeff", .u8, .const, .observer, .none, 16, [], 0x0⟩,
    ⟨0x0D02, 0x0D02, 0x01, 0x10, "scaler.h_coeff", .blob, .rws, .engineer, .latch, 0, [], 0x0⟩,
    ⟨0x0D03, 0x0D03, 0x00, 0x00, "scaler.v_coeff", .u8, .const, .observer, .none, 16, [], 0x0⟩,
    ⟨0x0D03, 0x0D03, 0x01, 0x10, "scaler.v_coeff", .blob, .rws, .engineer, .latch, 0, [], 0x0⟩,
    ⟨0x0D04, 0x0D04, 0x00, 0x00, "scaler.dither", .u8, .const, .observer, .none, 16, [], 0x0⟩,
    ⟨0x0D04, 0x0D04, 0x01, 0x10, "scaler.dither", .bool, .rws, .engineer, .latch, 1, [], 0x0⟩,
    ⟨0x0D05, 0x0D05, 0x00, 0x00, "scaler.lines", .u8, .const, .observer, .none, 16, [], 0x0⟩,
    ⟨0x0D05, 0x0D05, 0x01, 0x10, "scaler.lines", .u8, .ro, .observer, .immediate, 48, [], 0x0⟩,
    ⟨0x0D06, 0x0D06, 0x00, 0x00, "scaler.layer", .u8, .const, .observer, .none, 16, [], 0x0⟩,
    ⟨0x0D06, 0x0D06, 0x01, 0x10, "scaler.layer", .u8, .ro, .observer, .immediate, 255, [], 0x0⟩,
    ⟨0x0D07, 0x0D07, 0x00, 0x00, "scaler.overrun", .u8, .const, .observer, .none, 16, [], 0x0⟩,
    ⟨0x0D07, 0x0D07, 0x01, 0x10, "scaler.overrun", .u32, .ro, .observer, .immediate, 0, [], 0x0⟩ ]

/-- Entries of range 0x0E00 to 0x0EFF. -/
def entries0E : List Entry :=
  [ ⟨0x0E00, 0x0E00, 0x00, 0x00, "bead.count", .u32, .ro, .observer, .immediate, 0, [], 0x0⟩,
    ⟨0x0E01, 0x0E01, 0x00, 0x00, "bead.rod_beads", .u8, .const, .observer, .none, 192, [], 0x0⟩,
    ⟨0x0E01, 0x0E01, 0x01, 0xC0, "bead.rod_beads", .u16, .ro, .observer, .immediate, 0, [], 0x0⟩,
    ⟨0x0E02, 0x0E02, 0x00, 0x00, "bead.load", .u16, .ro, .observer, .immediate, 0, [], 0x0⟩,
    ⟨0x0E03, 0x0E03, 0x00, 0x00, "bead.tags", .u16, .ro, .observer, .immediate, 0, [], 0x0⟩,
    ⟨0x0E04, 0x0E04, 0x00, 0x00, "bead.tag_stall", .u32, .ro, .observer, .immediate, 0, [], 0x0⟩,
    ⟨0x0E05, 0x0E05, 0x00, 0x00, "bead.tag_timeout", .u32, .rw, .engineer, .immediate, 1000000, [(100000, 10000000)], 0x0⟩,
    ⟨0x0E06, 0x0E06, 0x00, 0x00, "bead.quota", .u32, .ro, .observer, .immediate, 0, [], 0x0⟩,
    ⟨0x0E07, 0x0E07, 0x00, 0x00, "bead.squash", .u8, .const, .observer, .none, 5, [], 0x0⟩,
    ⟨0x0E07, 0x0E07, 0x01, 0x01, "bead.squash", .u32, .ro, .observer, .immediate, 0, [], 0x0⟩,
    ⟨0x0E07, 0x0E07, 0x02, 0x02, "bead.squash", .u32, .ro, .observer, .immediate, 0, [], 0x0⟩,
    ⟨0x0E07, 0x0E07, 0x03, 0x03, "bead.squash", .u32, .ro, .observer, .immediate, 0, [], 0x0⟩,
    ⟨0x0E07, 0x0E07, 0x04, 0x04, "bead.squash", .u32, .ro, .observer, .immediate, 0, [], 0x0⟩,
    ⟨0x0E07, 0x0E07, 0x05, 0x05, "bead.squash", .u32, .ro, .observer, .immediate, 0, [], 0x0⟩,
    ⟨0x0E08, 0x0E08, 0x00, 0x00, "bead.fallback", .u8, .const, .observer, .none, 192, [], 0x0⟩,
    ⟨0x0E08, 0x0E08, 0x01, 0xC0, "bead.fallback", .u32, .ro, .observer, .immediate, 0, [], 0x0⟩,
    ⟨0x0E09, 0x0E09, 0x00, 0x00, "bead.squash_mode", .u8, .rws, .engineer, .latch, 1, [(0, 1)], 0x0⟩,
    ⟨0x0E0A, 0x0E0A, 0x00, 0x00, "bead.staging_free", .u32, .ro, .observer, .immediate, 174762, [], 0x0⟩,
    ⟨0x0E0B, 0x0E0B, 0x00, 0x00, "bead.epoch", .u16, .ro, .observer, .immediate, 0, [], 0x0⟩,
    ⟨0x0E0C, 0x0E0C, 0x00, 0x00, "engine.state", .u8, .const, .observer, .none, 192, [], 0x0⟩ ] ++
  [ ⟨0x0E0C, 0x0E0C, 0x01, 0xC0, "engine.state", .u8, .ro, .observer, .immediate, 0, [], 0x0⟩,
    ⟨0x0E0D, 0x0E0D, 0x00, 0x00, "engine.last_check", .u8, .const, .observer, .none, 192, [], 0x0⟩,
    ⟨0x0E0D, 0x0E0D, 0x01, 0xC0, "engine.last_check", .u64, .ro, .observer, .immediate, 0, [], 0x0⟩,
    ⟨0x0E0E, 0x0E0E, 0x00, 0x00, "shadow.rotation", .u8, .const, .observer, .none, 2, [], 0x0⟩,
    ⟨0x0E0E, 0x0E0E, 0x01, 0x01, "shadow.rotation", .u16, .ro, .observer, .immediate, 0, [], 0x0⟩,
    ⟨0x0E0E, 0x0E0E, 0x02, 0x02, "shadow.rotation", .u8, .ro, .observer, .immediate, 0, [], 0x0⟩,
    ⟨0x0E0F, 0x0E0F, 0x00, 0x00, "shadow.mismatch", .u32, .ro, .observer, .immediate, 0, [], 0x0⟩ ]

/-- Entries of range 0x1000 to 0x10FF. -/
def entries10 : List Entry :=
  [ ⟨0x1000, 0x1000, 0x00, 0x00, "corr.gen_state", .u8, .const, .observer, .none, 2, [], 0x0⟩,
    ⟨0x1000, 0x1000, 0x01, 0x02, "corr.gen_state", .u8, .ro, .observer, .immediate, 0, [], 0x0⟩,
    ⟨0x1001, 0x1001, 0x00, 0x00, "corr.gen_serial", .u8, .const, .observer, .none, 2, [], 0x0⟩,
    ⟨0x1001, 0x1001, 0x01, 0x02, "corr.gen_serial", .u32, .ro, .observer, .immediate, 0, [], 0x0⟩,
    ⟨0x1002, 0x1002, 0x00, 0x00, "corr.gen_map_tag", .u8, .const, .observer, .none, 2, [], 0x0⟩,
    ⟨0x1002, 0x1002, 0x01, 0x02, "corr.gen_map_tag", .u32, .ro, .observer, .immediate, 0, [], 0x0⟩,
    ⟨0x1003, 0x1003, 0x00, 0x00, "corr.gen_ceiling", .u8, .const, .observer, .none, 2, [], 0x0⟩,
    ⟨0x1003, 0x1003, 0x01, 0x02, "corr.gen_ceiling", .u16, .ro, .observer, .immediate, 0, [], 0x0⟩,
    ⟨0x1004, 0x1004, 0x00, 0x00, "corr.in_force", .u8, .ro, .observer, .immediate, 255, [], 0x0⟩,
    ⟨0x1005, 0x1005, 0x00, 0x00, "corr.swap", .u8, .rws, .engineer, .latch, 0, [], 0x3⟩,
    ⟨0x1006, 0x1006, 0x00, 0x00, "corr.ceiling", .u16, .ro, .observer, .immediate, 0, [], 0x0⟩,
    ⟨0x1008, 0x1008, 0x00, 0x00, "corr.prim_709", .u8, .const, .observer, .none, 9, [], 0x0⟩,
    ⟨0x1008, 0x1008, 0x01, 0x09, "corr.prim_709", .i16, .rws, .engineer, .latch, 0, [], 0x0⟩,
    ⟨0x1009, 0x1009, 0x00, 0x00, "corr.prim_2020", .u8, .const, .observer, .none, 9, [], 0x0⟩,
    ⟨0x1009, 0x1009, 0x01, 0x09, "corr.prim_2020", .i16, .rws, .engineer, .latch, 0, [], 0x0⟩,
    ⟨0x100A, 0x100A, 0x00, 0x00, "corr.pq_white", .u16, .rws, .engineer, .latch, 1000, [(100, 10000)], 0x0⟩,
    ⟨0x100B, 0x100B, 0x00, 0x00, "corr.hlg_white", .u16, .rws, .engineer, .latch, 1000, [(100, 10000)], 0x0⟩,
    ⟨0x100C, 0x100C, 0x00, 0x00, "corr.dither", .bool, .rws, .engineer, .latch, 1, [], 0x0⟩,
    ⟨0x100D, 0x100D, 0x00, 0x00, "corr.conceal_gain", .u16, .rws, .engineer, .latch, 24576, [(0, 32768)], 0x0⟩,
    ⟨0x100E, 0x100E, 0x00, 0x00, "corr.conceal", .bool, .rws, .engineer, .latch, 1, [], 0x0⟩ ] ++
  [ ⟨0x1010, 0x1010, 0x00, 0x00, "corr.image", .blob, .wo, .engineer, .immediate, 0, [], 0x0⟩,
    ⟨0x1011, 0x1011, 0x00, 0x00, "map.image", .blob, .wo, .engineer, .immediate, 0, [], 0x0⟩,
    ⟨0x1012, 0x1012, 0x00, 0x00, "map.gen_state", .u8, .const, .observer, .none, 2, [], 0x0⟩,
    ⟨0x1012, 0x1012, 0x01, 0x02, "map.gen_state", .u8, .ro, .observer, .immediate, 0, [], 0x0⟩,
    ⟨0x1013, 0x1013, 0x00, 0x00, "map.gen_tag", .u8, .const, .observer, .none, 2, [], 0x0⟩,
    ⟨0x1013, 0x1013, 0x01, 0x02, "map.gen_tag", .u32, .ro, .observer, .immediate, 0, [], 0x0⟩,
    ⟨0x1014, 0x1014, 0x00, 0x00, "map.in_force", .u8, .ro, .observer, .immediate, 255, [], 0x0⟩,
    ⟨0x1018, 0x1018, 0x00, 0x00, "corr.lamp_state", .u64, .wo, .engineer, .immediate, 0, [], 0xFFFFFFFF000000FF⟩,
    ⟨0x1019, 0x1019, 0x00, 0x00, "corr.overrides", .u16, .ro, .observer, .immediate, 0, [], 0x0⟩,
    ⟨0x101A, 0x101A, 0x00, 0x00, "corr.probe_index", .u32, .rw, .observer, .immediate, 0, [], 0x0⟩,
    ⟨0x101B, 0x101B, 0x00, 0x00, "corr.probe", .blob, .ro, .observer, .immediate, 0, [], 0x0⟩,
    ⟨0x101C, 0x101C, 0x00, 0x00, "corr.clamps", .u32, .ro, .observer, .immediate, 0, [], 0x0⟩ ]

/-- Entries of range 0x1100 to 0x11FF. -/
def entries11 : List Entry :=
  [ ⟨0x1100, 0x1100, 0x00, 0x00, "emit.static", .bool, .rws, .engineer, .latch, 1, [], 0x0⟩,
    ⟨0x1101, 0x1101, 0x00, 0x00, "emit.refresh", .u16, .rws, .engineer, .latch, 60, [(1, 1000)], 0x0⟩,
    ⟨0x1102, 0x1102, 0x00, 0x00, "emit.repeat", .u8, .const, .observer, .none, 192, [], 0x0⟩,
    ⟨0x1102, 0x1102, 0x01, 0xC0, "emit.repeat", .u32, .ro, .observer, .immediate, 0, [], 0x0⟩,
    ⟨0x1103, 0x1103, 0x00, 0x00, "emit.sent", .u8, .const, .observer, .none, 192, [], 0x0⟩,
    ⟨0x1103, 0x1103, 0x01, 0xC0, "emit.sent", .u32, .ro, .observer, .immediate, 0, [], 0x0⟩,
    ⟨0x1104, 0x1104, 0x00, 0x00, "emit.signature", .u8, .const, .observer, .none, 192, [], 0x0⟩,
    ⟨0x1104, 0x1104, 0x01, 0xC0, "emit.signature", .u64, .ro, .observer, .immediate, 0, [], 0x0⟩,
    ⟨0x1105, 0x1105, 0x00, 0x00, "emit.overrun", .u8, .const, .observer, .none, 192, [], 0x0⟩,
    ⟨0x1105, 0x1105, 0x01, 0xC0, "emit.overrun", .u32, .ro, .observer, .immediate, 0, [], 0x0⟩,
    ⟨0x1106, 0x1106, 0x00, 0x00, "emit.send_time", .u8, .const, .observer, .none, 192, [], 0x0⟩,
    ⟨0x1106, 0x1106, 0x01, 0xC0, "emit.send_time", .u32, .ro, .observer, .immediate, 0, [], 0x0⟩,
    ⟨0x1120, 0x1120, 0x00, 0x00, "freeze.frames", .u8, .const, .observer, .none, 31, [], 0x0⟩,
    ⟨0x1120, 0x1120, 0x01, 0x1F, "freeze.frames", .u8, .rws, .operator, .latch, 3, [(2, 255)], 0x0⟩,
    ⟨0x1121, 0x1121, 0x00, 0x00, "freeze.action", .u8, .const, .observer, .none, 31, [], 0x0⟩,
    ⟨0x1121, 0x1121, 0x01, 0x1F, "freeze.action", .u8, .rws, .operator, .latch, 0, [(0, 3)], 0x0⟩,
    ⟨0x1122, 0x1122, 0x00, 0x00, "freeze.auto_clear", .u8, .const, .observer, .none, 31, [], 0x0⟩,
    ⟨0x1122, 0x1122, 0x01, 0x1F, "freeze.auto_clear", .bool, .rws, .operator, .latch, 1, [], 0x0⟩,
    ⟨0x1123, 0x1123, 0x00, 0x00, "freeze.state", .u8, .const, .observer, .none, 31, [], 0x0⟩,
    ⟨0x1123, 0x1123, 0x01, 0x1F, "freeze.state", .u8, .ro, .observer, .immediate, 0, [], 0x0⟩ ] ++
  [ ⟨0x1124, 0x1124, 0x00, 0x00, "freeze.clear", .u8, .const, .observer, .none, 31, [], 0x0⟩,
    ⟨0x1124, 0x1124, 0x01, 0x1F, "freeze.clear", .u8, .wo, .operator, .immediate, 0, [(1, 1)], 0x0⟩,
    ⟨0x1125, 0x1125, 0x00, 0x00, "freeze.count", .u8, .const, .observer, .none, 31, [], 0x0⟩,
    ⟨0x1125, 0x1125, 0x01, 0x1F, "freeze.count", .u32, .ro, .observer, .immediate, 0, [], 0x0⟩ ]

/-- Entries of range 0x1200 to 0x12FF. -/
def entries12 : List Entry :=
  [ ⟨0x1200, 0x1200, 0x00, 0x00, "rod.link_state", .u8, .const, .observer, .none, 192, [], 0x0⟩,
    ⟨0x1200, 0x1200, 0x01, 0xC0, "rod.link_state", .u8, .ro, .observer, .immediate, 0, [], 0x0⟩,
    ⟨0x1201, 0x1201, 0x00, 0x00, "rod.tiles", .u8, .const, .observer, .none, 192, [], 0x0⟩,
    ⟨0x1201, 0x1201, 0x01, 0xC0, "rod.tiles", .u8, .ro, .observer, .immediate, 0, [], 0x0⟩,
    ⟨0x1202, 0x1202, 0x00, 0x00, "rod.enum_result", .u8, .const, .observer, .none, 192, [], 0x0⟩,
    ⟨0x1202, 0x1202, 0x01, 0xC0, "rod.enum_result", .u8, .ro, .observer, .immediate, 1, [], 0x0⟩,
    ⟨0x1203, 0x1203, 0x00, 0x00, "rod.side", .u8, .const, .observer, .none, 192, [], 0x0⟩,
    ⟨0x1203, 0x1203, 0x01, 0xC0, "rod.side", .u8, .rw, .engineer, .reset, 0, [(0, 1)], 0x0⟩,
    ⟨0x1204, 0x1204, 0x00, 0x00, "rod.lane_rate", .u8, .const, .observer, .none, 192, [], 0x0⟩,
    ⟨0x1204, 0x1204, 0x01, 0xC0, "rod.lane_rate", .u8, .ro, .observer, .immediate, 0, [], 0x0⟩,
    ⟨0x1205, 0x1205, 0x00, 0x00, "rod.up_damaged", .u8, .const, .observer, .none, 192, [], 0x0⟩,
    ⟨0x1205, 0x1205, 0x01, 0xC0, "rod.up_damaged", .u32, .ro, .observer, .immediate, 0, [], 0x0⟩,
    ⟨0x1206, 0x1206, 0x00, 0x00, "rod.up_gap", .u8, .const, .observer, .none, 192, [], 0x0⟩,
    ⟨0x1206, 0x1206, 0x01, 0xC0, "rod.up_gap", .u32, .ro, .observer, .immediate, 0, [], 0x0⟩,
    ⟨0x1207, 0x1207, 0x00, 0x00, "rod.token", .u8, .const, .observer, .none, 192, [], 0x0⟩,
    ⟨0x1207, 0x1207, 0x01, 0xC0, "rod.token", .u32, .ro, .observer, .immediate, 0, [], 0x0⟩,
    ⟨0x1208, 0x1208, 0x00, 0x00, "rod.ring", .u8, .const, .observer, .none, 192, [], 0x0⟩,
    ⟨0x1208, 0x1208, 0x01, 0xC0, "rod.ring", .u8, .ro, .observer, .immediate, 0, [], 0x0⟩,
    ⟨0x1209, 0x1209, 0x00, 0x00, "rod.cause", .u8, .const, .observer, .none, 192, [], 0x0⟩,
    ⟨0x1209, 0x1209, 0x01, 0xC0, "rod.cause", .u16, .rw, .operator, .immediate, 0, [], 0x1FFF⟩ ] ++
  [ ⟨0x1210, 0x1210, 0x00, 0x00, "kz.echo_period", .u16, .rw, .engineer, .immediate, 1000, [(100, 10000)], 0x0⟩,
    ⟨0x1211, 0x1211, 0x00, 0x00, "kz.tele_period", .u16, .rw, .engineer, .immediate, 10, [(2, 1000)], 0x0⟩,
    ⟨0x1220, 0x1220, 0x00, 0x00, "tile.select", .u16, .rw, .observer, .immediate, 0, [], 0x0⟩,
    ⟨0x1221, 0x1221, 0x00, 0x00, "tile.cap", .blob, .ro, .observer, .immediate, 0, [], 0x0⟩,
    ⟨0x1222, 0x1222, 0x00, 0x00, "tile.telemetry", .blob, .ro, .observer, .immediate, 0, [], 0x0⟩,
    ⟨0x1223, 0x1223, 0x00, 0x00, "tile.trim", .u32, .ro, .observer, .immediate, 0, [], 0x0⟩,
    ⟨0x1224, 0x1224, 0x00, 0x00, "tile.rtt", .u32, .ro, .observer, .immediate, 0, [], 0x0⟩ ]

/-- Entries of range 0x1300 to 0x13FF. -/
def entries13 : List Entry :=
  [ ⟨0x1300, 0x1300, 0x00, 0x00, "lane.state", .u8, .const, .observer, .none, 192, [], 0x0⟩,
    ⟨0x1300, 0x1300, 0x01, 0xC0, "lane.state", .u8, .ro, .observer, .immediate, 0, [], 0x0⟩,
    ⟨0x1301, 0x1301, 0x00, 0x00, "lane.rate_cap", .u8, .const, .observer, .none, 192, [], 0x0⟩,
    ⟨0x1301, 0x1301, 0x01, 0xC0, "lane.rate_cap", .u8, .rw, .engineer, .immediate, 4, [(1, 4)], 0x0⟩,
    ⟨0x1302, 0x1302, 0x00, 0x00, "lane.restart", .u8, .const, .observer, .none, 192, [], 0x0⟩,
    ⟨0x1302, 0x1302, 0x01, 0xC0, "lane.restart", .u8, .wo, .engineer, .immediate, 0, [(1, 1)], 0x0⟩,
    ⟨0x1303, 0x1303, 0x00, 0x00, "lane.train_time", .u16, .rw, .engineer, .immediate, 5, [(1, 50)], 0x0⟩,
    ⟨0x1304, 0x1304, 0x00, 0x00, "lane.margin_h", .u16, .rw, .engineer, .immediate, 256, [], 0x0⟩,
    ⟨0x1305, 0x1305, 0x00, 0x00, "lane.margin_w", .u16, .rw, .engineer, .immediate, 358, [], 0x0⟩,
    ⟨0x1306, 0x1306, 0x00, 0x00, "lane.cal_delta", .u8, .rw, .engineer, .immediate, 8, [(2, 32)], 0x0⟩,
    ⟨0x1307, 0x1307, 0x00, 0x00, "lane.sleep", .u8, .const, .observer, .none, 192, [], 0x0⟩,
    ⟨0x1307, 0x1307, 0x01, 0xC0, "lane.sleep", .u8, .rw, .engineer, .immediate, 3, [], 0x3⟩,
    ⟨0x1308, 0x1308, 0x00, 0x00, "lane.rx_path", .u8, .const, .observer, .none, 192, [], 0x0⟩,
    ⟨0x1308, 0x1308, 0x01, 0xC0, "lane.rx_path", .u8, .ro, .observer, .immediate, 0, [], 0x0⟩,
    ⟨0x1309, 0x1309, 0x00, 0x00, "lane.rx_eye", .u8, .const, .observer, .none, 192, [], 0x0⟩,
    ⟨0x1309, 0x1309, 0x01, 0xC0, "lane.rx_eye", .blob, .ro, .observer, .immediate, 0, [], 0x0⟩,
    ⟨0x130A, 0x130A, 0x00, 0x00, "lane.rx_settings", .u8, .const, .observer, .none, 192, [], 0x0⟩,
    ⟨0x130A, 0x130A, 0x01, 0xC0, "lane.rx_settings", .u64, .ro, .observer, .immediate, 0, [], 0x0⟩,
    ⟨0x130B, 0x130B, 0x00, 0x00, "lane.tx_taps", .u8, .const, .observer, .none, 192, [], 0x0⟩,
    ⟨0x130B, 0x130B, 0x01, 0xC0, "lane.tx_taps", .u32, .ro, .observer, .immediate, 16128, [], 0x0⟩ ] ++
  [ ⟨0x130C, 0x130C, 0x00, 0x00, "lane.cal_temp", .u8, .const, .observer, .none, 192, [], 0x0⟩,
    ⟨0x130C, 0x130C, 0x01, 0xC0, "lane.cal_temp", .i16, .ro, .observer, .immediate, 0, [], 0x0⟩,
    ⟨0x130D, 0x130D, 0x00, 0x00, "lane.cal_count", .u8, .const, .observer, .none, 192, [], 0x0⟩,
    ⟨0x130D, 0x130D, 0x01, 0xC0, "lane.cal_count", .u32, .ro, .observer, .immediate, 0, [], 0x0⟩,
    ⟨0x130E, 0x130E, 0x00, 0x00, "lane.recoveries", .u8, .const, .observer, .none, 192, [], 0x0⟩,
    ⟨0x130E, 0x130E, 0x01, 0xC0, "lane.recoveries", .u32, .ro, .observer, .immediate, 0, [], 0x0⟩,
    ⟨0x130F, 0x130F, 0x00, 0x00, "lane.cause", .u8, .const, .observer, .none, 192, [], 0x0⟩,
    ⟨0x130F, 0x130F, 0x01, 0xC0, "lane.cause", .u16, .rw, .operator, .immediate, 0, [], 0xFF⟩,
    ⟨0x1310, 0x1310, 0x00, 0x00, "lane.sleep_time", .u8, .const, .observer, .none, 192, [], 0x0⟩,
    ⟨0x1310, 0x1310, 0x01, 0xC0, "lane.sleep_time", .u32, .ro, .observer, .immediate, 0, [], 0x0⟩,
    ⟨0x1311, 0x1311, 0x00, 0x00, "lane.quad_temp", .u8, .const, .observer, .none, 48, [], 0x0⟩,
    ⟨0x1311, 0x1311, 0x01, 0x30, "lane.quad_temp", .i16, .ro, .observer, .immediate, 0, [], 0x0⟩ ]

/-- Entries of range 0x1400 to 0x14FF. -/
def entries14 : List Entry :=
  [ ⟨0x1400, 0x1400, 0x00, 0x00, "supply.lead", .u16, .rw, .engineer, .mode, 3000, [(500, 8000)], 0x0⟩,
    ⟨0x1401, 0x1401, 0x00, 0x00, "supply.clamps", .u8, .const, .observer, .none, 192, [], 0x0⟩,
    ⟨0x1401, 0x1401, 0x01, 0xC0, "supply.clamps", .u32, .ro, .observer, .immediate, 0, [], 0x0⟩,
    ⟨0x1402, 0x1402, 0x00, 0x00, "supply.raised", .u8, .const, .observer, .none, 192, [], 0x0⟩,
    ⟨0x1402, 0x1402, 0x01, 0xC0, "supply.raised", .u32, .ro, .observer, .immediate, 0, [], 0x0⟩,
    ⟨0x1410, 0x1410, 0x00, 0x00, "pan.max_wakes", .u8, .const, .observer, .none, 128, [], 0x0⟩,
    ⟨0x1410, 0x1410, 0x01, 0x80, "pan.max_wakes", .u8, .rw, .engineer, .immediate, 8, [(1, 64)], 0x0⟩,
    ⟨0x1411, 0x1411, 0x00, 0x00, "pan.max_wakes", .u8, .const, .observer, .none, 128, [], 0x0⟩,
    ⟨0x1411, 0x1411, 0x01, 0x80, "pan.max_wakes", .u8, .rw, .engineer, .immediate, 8, [(1, 64)], 0x0⟩,
    ⟨0x1412, 0x1412, 0x00, 0x00, "pan.ramp", .u8, .const, .observer, .none, 128, [], 0x0⟩,
    ⟨0x1412, 0x1412, 0x01, 0x80, "pan.ramp", .u16, .rw, .engineer, .immediate, 200, [(0, 10000)], 0x0⟩,
    ⟨0x1413, 0x1413, 0x00, 0x00, "pan.ramp", .u8, .const, .observer, .none, 128, [], 0x0⟩,
    ⟨0x1413, 0x1413, 0x01, 0x80, "pan.ramp", .u16, .rw, .engineer, .immediate, 200, [(0, 10000)], 0x0⟩,
    ⟨0x1414, 0x1414, 0x00, 0x00, "pan.settle", .u8, .const, .observer, .none, 128, [], 0x0⟩,
    ⟨0x1414, 0x1414, 0x01, 0x80, "pan.settle", .u16, .rw, .engineer, .immediate, 20, [(0, 1000)], 0x0⟩,
    ⟨0x1415, 0x1415, 0x00, 0x00, "pan.settle", .u8, .const, .observer, .none, 128, [], 0x0⟩,
    ⟨0x1415, 0x1415, 0x01, 0x80, "pan.settle", .u16, .rw, .engineer, .immediate, 20, [(0, 1000)], 0x0⟩,
    ⟨0x1416, 0x1416, 0x00, 0x00, "pan.slew", .u8, .const, .observer, .none, 128, [], 0x0⟩,
    ⟨0x1416, 0x1416, 0x01, 0x80, "pan.slew", .u16, .rws, .engineer, .latch, 0, [(0, 1000)], 0x0⟩,
    ⟨0x1417, 0x1417, 0x00, 0x00, "pan.slew", .u8, .const, .observer, .none, 128, [], 0x0⟩ ] ++
  [ ⟨0x1417, 0x1417, 0x01, 0x80, "pan.slew", .u16, .rws, .engineer, .latch, 0, [(0, 1000)], 0x0⟩,
    ⟨0x1418, 0x1418, 0x00, 0x00, "pan.command", .u8, .const, .observer, .none, 128, [], 0x0⟩,
    ⟨0x1418, 0x1418, 0x01, 0x80, "pan.command", .u8, .wo, .operator, .immediate, 0, [(1, 2)], 0x0⟩,
    ⟨0x1419, 0x1419, 0x00, 0x00, "pan.command", .u8, .const, .observer, .none, 128, [], 0x0⟩,
    ⟨0x1419, 0x1419, 0x01, 0x80, "pan.command", .u8, .wo, .operator, .immediate, 0, [(1, 2)], 0x0⟩,
    ⟨0x141A, 0x141A, 0x00, 0x00, "pan.queued", .u8, .const, .observer, .none, 128, [], 0x0⟩,
    ⟨0x141A, 0x141A, 0x01, 0x80, "pan.queued", .u16, .ro, .observer, .immediate, 0, [], 0x0⟩,
    ⟨0x141B, 0x141B, 0x00, 0x00, "pan.queued", .u8, .const, .observer, .none, 128, [], 0x0⟩,
    ⟨0x141B, 0x141B, 0x01, 0x80, "pan.queued", .u16, .ro, .observer, .immediate, 0, [], 0x0⟩,
    ⟨0x141C, 0x141C, 0x00, 0x00, "pan.delayed", .u8, .const, .observer, .none, 128, [], 0x0⟩,
    ⟨0x141C, 0x141C, 0x01, 0x80, "pan.delayed", .u32, .ro, .observer, .immediate, 0, [], 0x0⟩,
    ⟨0x141D, 0x141D, 0x00, 0x00, "pan.delayed", .u8, .const, .observer, .none, 128, [], 0x0⟩,
    ⟨0x141D, 0x141D, 0x01, 0x80, "pan.delayed", .u32, .ro, .observer, .immediate, 0, [], 0x0⟩,
    ⟨0x141E, 0x141E, 0x00, 0x00, "pan.delay_max", .u8, .const, .observer, .none, 128, [], 0x0⟩,
    ⟨0x141E, 0x141E, 0x01, 0x80, "pan.delay_max", .u32, .ro, .observer, .immediate, 0, [], 0x0⟩,
    ⟨0x141F, 0x141F, 0x00, 0x00, "pan.delay_max", .u8, .const, .observer, .none, 128, [], 0x0⟩,
    ⟨0x141F, 0x141F, 0x01, 0x80, "pan.delay_max", .u32, .ro, .observer, .immediate, 0, [], 0x0⟩,
    ⟨0x1420, 0x1420, 0x00, 0x00, "pan.slewed", .u8, .const, .observer, .none, 128, [], 0x0⟩,
    ⟨0x1420, 0x1420, 0x01, 0x80, "pan.slewed", .u32, .ro, .observer, .immediate, 0, [], 0x0⟩,
    ⟨0x1421, 0x1421, 0x00, 0x00, "pan.slewed", .u8, .const, .observer, .none, 128, [], 0x0⟩ ] ++
  [ ⟨0x1421, 0x1421, 0x01, 0x80, "pan.slewed", .u32, .ro, .observer, .immediate, 0, [], 0x0⟩,
    ⟨0x1428, 0x1428, 0x00, 0x00, "tile.power", .u8, .wo, .operator, .immediate, 0, [(1, 2)], 0x0⟩,
    ⟨0x1430, 0x1430, 0x00, 0x00, "health.open_action", .u8, .rw, .engineer, .immediate, 1, [(0, 1)], 0x0⟩,
    ⟨0x1431, 0x1431, 0x00, 0x00, "health.faults", .u32, .ro, .observer, .immediate, 0, [], 0x0⟩,
    ⟨0x1432, 0x1432, 0x00, 0x00, "health.pending", .u32, .ro, .observer, .immediate, 0, [], 0x0⟩,
    ⟨0x1433, 0x1433, 0x00, 0x00, "health.channel", .u64, .wo, .engineer, .immediate, 0, [], 0x7FFFFFFFF⟩ ]

/-- Entries of range 0x1500 to 0x15FF. -/
def entries15 : List Entry :=
  [ ⟨0x1500, 0x1500, 0x00, 0x00, "dose.state", .u8, .ro, .observer, .immediate, 0, [], 0x0⟩,
    ⟨0x1501, 0x1501, 0x00, 0x00, "dose.uncounted", .u8, .const, .observer, .none, 192, [], 0x0⟩,
    ⟨0x1501, 0x1501, 0x01, 0xC0, "dose.uncounted", .u32, .ro, .observer, .immediate, 0, [], 0x0⟩,
    ⟨0x1502, 0x1502, 0x00, 0x00, "dose.saturated", .u32, .ro, .observer, .immediate, 0, [], 0x0⟩,
    ⟨0x1503, 0x1503, 0x00, 0x00, "dose.export_serial", .u32, .ro, .observer, .immediate, 0, [], 0x0⟩,
    ⟨0x1504, 0x1504, 0x00, 0x00, "dose.tile_reset", .u16, .wo, .engineer, .immediate, 0, [], 0x0⟩,
    ⟨0x1508, 0x1508, 0x00, 0x00, "age.retention", .blob, .rw, .engineer, .immediate, 0, [], 0x0⟩,
    ⟨0x1509, 0x1509, 0x00, 0x00, "age.target", .u16, .rw, .engineer, .immediate, 28672, [], 0x0⟩,
    ⟨0x150A, 0x150A, 0x00, 0x00, "age.fraction", .u32, .rw, .engineer, .immediate, 999000, [(900000, 1000000)], 0x0⟩,
    ⟨0x150B, 0x150B, 0x00, 0x00, "age.ceiling_max", .u16, .rw, .engineer, .immediate, 32768, [], 0x0⟩,
    ⟨0x150C, 0x150C, 0x00, 0x00, "age.over_aged", .u32, .ro, .observer, .immediate, 0, [], 0x0⟩,
    ⟨0x150D, 0x150D, 0x00, 0x00, "age.last", .wtime, .ro, .observer, .immediate, 0, [], 0x0⟩,
    ⟨0x150E, 0x150E, 0x00, 0x00, "age.period", .u16, .rw, .engineer, .immediate, 168, [], 0x0⟩,
    ⟨0x150F, 0x150F, 0x00, 0x00, "age.auto_src", .u64, .rw, .engineer, .immediate, 0, [], 0x0⟩ ]

/-- Entries of range 0x1800 to 0x18FF. -/
def entries18 : List Entry :=
  [ ⟨0x1800, 0x1800, 0x00, 0x00, "hbm.order", .u8, .rw, .engineer, .reset, 2, [(0, 3)], 0x0⟩,
    ⟨0x1801, 0x1801, 0x00, 0x00, "hbm.layer_size", .u16, .rw, .engineer, .reset, 12288, [(1024, 12288)], 0x0⟩,
    ⟨0x1802, 0x1802, 0x00, 0x00, "hbm.codec_size", .u16, .rw, .engineer, .reset, 6144, [(256, 6144)], 0x0⟩,
    ⟨0x1803, 0x1803, 0x00, 0x00, "hbm.app_size", .u16, .rw, .engineer, .reset, 16384, [(1024, 16384)], 0x0⟩,
    ⟨0x1804, 0x1804, 0x00, 0x00, "hbm.region_base", .u8, .const, .observer, .none, 8, [], 0x0⟩,
    ⟨0x1804, 0x1804, 0x01, 0x08, "hbm.region_base", .u64, .ro, .observer, .immediate, 0, [], 0x0⟩,
    ⟨0x1805, 0x1805, 0x00, 0x00, "hbm.state", .u8, .ro, .observer, .immediate, 0, [], 0x0⟩,
    ⟨0x1808, 0x1808, 0x00, 0x00, "qos.class", .u8, .const, .observer, .none, 13, [], 0x0⟩,
    ⟨0x1808, 0x1808, 0x01, 0x0D, "qos.class", .u8, .ro, .observer, .immediate, 0, [], 0x0⟩,
    ⟨0x1809, 0x1809, 0x00, 0x00, "qos.panic", .u8, .const, .observer, .none, 3, [], 0x0⟩,
    ⟨0x1809, 0x1809, 0x01, 0x03, "qos.panic", .u8, .rw, .engineer, .immediate, 25, [(5, 75)], 0x0⟩,
    ⟨0x180A, 0x180A, 0x00, 0x00, "qos.target", .u8, .const, .observer, .none, 9, [], 0x0⟩,
    ⟨0x180A, 0x180A, 0x04, 0x0C, "qos.target", .u32, .rw, .engineer, .immediate, 0, [(100, 100000)], 0x0⟩,
    ⟨0x180B, 0x180B, 0x00, 0x00, "qos.panic_count", .u8, .const, .observer, .none, 3, [], 0x0⟩,
    ⟨0x180B, 0x180B, 0x01, 0x03, "qos.panic_count", .u32, .ro, .observer, .immediate, 0, [], 0x0⟩,
    ⟨0x180C, 0x180C, 0x00, 0x00, "qos.late", .u8, .const, .observer, .none, 9, [], 0x0⟩,
    ⟨0x180C, 0x180C, 0x04, 0x0C, "qos.late", .u32, .ro, .observer, .immediate, 0, [], 0x0⟩,
    ⟨0x1810, 0x1810, 0x00, 0x00, "ecc.corrected", .u8, .const, .observer, .none, 64, [], 0x0⟩,
    ⟨0x1810, 0x1810, 0x01, 0x40, "ecc.corrected", .u32, .ro, .observer, .immediate, 0, [], 0x0⟩,
    ⟨0x1812, 0x1812, 0x00, 0x00, "ecc.last", .u64, .ro, .observer, .immediate, 0, [], 0x0⟩ ] ++
  [ ⟨0x1813, 0x1813, 0x00, 0x00, "ecc.warn_rate", .u32, .rw, .engineer, .immediate, 100, [], 0x0⟩,
    ⟨0x1818, 0x1818, 0x00, 0x00, "rake.period", .u16, .rw, .engineer, .immediate, 4, [(1, 168)], 0x0⟩,
    ⟨0x1819, 0x1819, 0x00, 0x00, "rake.progress", .u16, .ro, .observer, .immediate, 0, [], 0x0⟩,
    ⟨0x181A, 0x181A, 0x00, 0x00, "rake.rewrites", .u32, .ro, .observer, .immediate, 0, [], 0x0⟩,
    ⟨0x1820, 0x1820, 0x00, 0x00, "hbm.freeze_log", .blob, .ro, .observer, .immediate, 0, [], 0x0⟩ ]

/-- Entries of range 0x1900 to 0x19FF. -/
def entries19 : List Entry :=
  [ ⟨0x1900, 0x1900, 0x00, 0x00, "dma.budget", .u8, .const, .observer, .none, 32, [], 0x0⟩,
    ⟨0x1900, 0x1900, 0x01, 0x20, "dma.budget", .u32, .rw, .engineer, .immediate, 1000000, [(1, 4294967295)], 0x0⟩,
    ⟨0x1901, 0x1901, 0x00, 0x00, "dma.timeout", .u8, .const, .observer, .none, 32, [], 0x0⟩,
    ⟨0x1901, 0x1901, 0x01, 0x20, "dma.timeout", .u32, .rw, .engineer, .immediate, 10000, [(1000, 1000000)], 0x0⟩,
    ⟨0x1902, 0x1902, 0x00, 0x00, "dma.state", .u8, .const, .observer, .none, 32, [], 0x0⟩,
    ⟨0x1902, 0x1902, 0x01, 0x20, "dma.state", .u8, .ro, .observer, .immediate, 0, [], 0x0⟩,
    ⟨0x1903, 0x1903, 0x00, 0x00, "dma.result", .u8, .const, .observer, .none, 32, [], 0x0⟩,
    ⟨0x1903, 0x1903, 0x01, 0x20, "dma.result", .u8, .ro, .observer, .immediate, 0, [], 0x0⟩,
    ⟨0x1904, 0x1904, 0x00, 0x00, "dma.fault_record", .u8, .const, .observer, .none, 32, [], 0x0⟩,
    ⟨0x1904, 0x1904, 0x01, 0x20, "dma.fault_record", .blob, .ro, .observer, .immediate, 0, [], 0x0⟩,
    ⟨0x1905, 0x1905, 0x00, 0x00, "dma.signal_code", .u8, .const, .observer, .none, 32, [], 0x0⟩,
    ⟨0x1905, 0x1905, 0x01, 0x20, "dma.signal_code", .u32, .ro, .observer, .immediate, 0, [], 0x0⟩,
    ⟨0x1906, 0x1906, 0x00, 0x00, "dma.executed", .u8, .const, .observer, .none, 32, [], 0x0⟩,
    ⟨0x1906, 0x1906, 0x01, 0x20, "dma.executed", .u32, .ro, .observer, .immediate, 0, [], 0x0⟩,
    ⟨0x1908, 0x1908, 0x00, 0x00, "dma.counter", .u8, .const, .observer, .none, 64, [], 0x0⟩,
    ⟨0x1908, 0x1908, 0x01, 0x40, "dma.counter", .u32, .ro, .observer, .immediate, 0, [], 0x0⟩ ]

/-- Entries of range 0x1A00 to 0x1AFF. -/
def entries1A : List Entry :=
  [ ⟨0x1A00, 0x1A00, 0x00, 0x00, "pair.mode", .u8, .rw, .engineer, .reset, 0, [(0, 1)], 0x0⟩,
    ⟨0x1A01, 0x1A01, 0x00, 0x00, "pair.role", .u8, .ro, .observer, .immediate, 0, [], 0x0⟩,
    ⟨0x1A02, 0x1A02, 0x00, 0x00, "pair.state", .u8, .ro, .observer, .immediate, 0, [], 0x0⟩,
    ⟨0x1A03, 0x1A03, 0x00, 0x00, "pair.epoch", .u32, .ro, .observer, .immediate, 0, [], 0x0⟩,
    ⟨0x1A04, 0x1A04, 0x00, 0x00, "pair.twin", .u8, .ro, .observer, .immediate, 255, [], 0x0⟩,
    ⟨0x1A05, 0x1A05, 0x00, 0x00, "pair.link", .u8, .ro, .observer, .immediate, 0, [], 0x0⟩,
    ⟨0x1A06, 0x1A06, 0x00, 0x00, "pair.switch", .u8, .wo, .engineer, .immediate, 0, [(1, 1)], 0x0⟩,
    ⟨0x1A07, 0x1A07, 0x00, 0x00, "pair.clock_offset", .i32, .ro, .observer, .immediate, 0, [], 0x0⟩,
    ⟨0x1A08, 0x1A08, 0x00, 0x00, "pair.mismatch", .u8, .const, .observer, .none, 192, [], 0x0⟩,
    ⟨0x1A08, 0x1A08, 0x01, 0xC0, "pair.mismatch", .u32, .ro, .observer, .immediate, 0, [], 0x0⟩,
    ⟨0x1A09, 0x1A09, 0x00, 0x00, "pair.unfollowed", .u8, .const, .observer, .none, 192, [], 0x0⟩,
    ⟨0x1A09, 0x1A09, 0x01, 0xC0, "pair.unfollowed", .u32, .ro, .observer, .immediate, 0, [], 0x0⟩,
    ⟨0x1A0A, 0x1A0A, 0x00, 0x00, "pair.switchovers", .u32, .ro, .observer, .immediate, 0, [], 0x0⟩,
    ⟨0x1A0B, 0x1A0B, 0x00, 0x00, "pair.last_switch", .wtime, .ro, .observer, .immediate, 0, [], 0x0⟩,
    ⟨0x1A0C, 0x1A0C, 0x00, 0x00, "pair.last_margin", .i32, .ro, .observer, .immediate, 0, [], 0x0⟩,
    ⟨0x1A0D, 0x1A0D, 0x00, 0x00, "pair.join_n", .u64, .ro, .observer, .immediate, 0, [], 0x0⟩,
    ⟨0x1A10, 0x1A10, 0x00, 0x00, "fault.doubt", .u8, .ro, .observer, .immediate, 0, [], 0x0⟩,
    ⟨0x1A11, 0x1A11, 0x00, 0x00, "fault.doubt_time", .wtime, .ro, .observer, .immediate, 0, [], 0x0⟩,
    ⟨0x1A12, 0x1A12, 0x00, 0x00, "fault.detail", .u32, .ro, .observer, .immediate, 0, [], 0x0⟩,
    ⟨0x1A13, 0x1A13, 0x00, 0x00, "fault.enter_safe", .u8, .wo, .safety, .immediate, 0, [(1, 1)], 0x0⟩ ]

/-- Entries of range 0x1C00 to 0x1CFF. -/
def entries1C : List Entry :=
  [ ⟨0x1C00, 0x1C00, 0x00, 0x00, "tally.power_on", .u64, .ro, .observer, .immediate, 0, [], 0x0⟩,
    ⟨0x1C01, 0x1C01, 0x00, 0x00, "tally.boots", .u64, .ro, .observer, .immediate, 0, [], 0x0⟩,
    ⟨0x1C02, 0x1C02, 0x00, 0x00, "tally.temp_hist", .u8, .const, .observer, .none, 192, [], 0x0⟩,
    ⟨0x1C02, 0x1C02, 0x01, 0xC0, "tally.temp_hist", .u32, .ro, .observer, .immediate, 0, [], 0x0⟩,
    ⟨0x1C03, 0x1C03, 0x00, 0x00, "tally.temp_peak", .u8, .const, .observer, .none, 12, [], 0x0⟩,
    ⟨0x1C03, 0x1C03, 0x01, 0x0C, "tally.temp_peak", .i16, .ro, .observer, .immediate, 0, [], 0x0⟩,
    ⟨0x1C04, 0x1C04, 0x00, 0x00, "tally.temp_sum", .u8, .const, .observer, .none, 12, [], 0x0⟩,
    ⟨0x1C04, 0x1C04, 0x01, 0x0C, "tally.temp_sum", .i64, .ro, .observer, .immediate, 0, [], 0x0⟩,
    ⟨0x1C05, 0x1C05, 0x00, 0x00, "tally.supply_hist", .u8, .const, .observer, .none, 128, [], 0x0⟩,
    ⟨0x1C05, 0x1C05, 0x01, 0x80, "tally.supply_hist", .u32, .ro, .observer, .immediate, 0, [], 0x0⟩,
    ⟨0x1C06, 0x1C06, 0x00, 0x00, "tally.supply_min", .u8, .const, .observer, .none, 8, [], 0x0⟩,
    ⟨0x1C06, 0x1C06, 0x01, 0x08, "tally.supply_min", .u16, .ro, .observer, .immediate, 0, [], 0x0⟩,
    ⟨0x1C07, 0x1C07, 0x00, 0x00, "tally.supply_max", .u8, .const, .observer, .none, 8, [], 0x0⟩,
    ⟨0x1C07, 0x1C07, 0x01, 0x08, "tally.supply_max", .u16, .ro, .observer, .immediate, 0, [], 0x0⟩,
    ⟨0x1C08, 0x1C08, 0x00, 0x00, "tally.rod_link", .u8, .const, .observer, .none, 192, [], 0x0⟩,
    ⟨0x1C08, 0x1C08, 0x01, 0xC0, "tally.rod_link", .u64, .ro, .observer, .immediate, 0, [], 0x0⟩,
    ⟨0x1C09, 0x1C09, 0x00, 0x00, "tally.rod_lane", .u8, .const, .observer, .none, 192, [], 0x0⟩,
    ⟨0x1C09, 0x1C09, 0x01, 0xC0, "tally.rod_lane", .u64, .ro, .observer, .immediate, 0, [], 0x0⟩,
    ⟨0x1C0A, 0x1C0A, 0x00, 0x00, "tally.switchovers", .u64, .ro, .observer, .immediate, 0, [], 0x0⟩,
    ⟨0x1C0B, 0x1C0B, 0x00, 0x00, "tally.freezes", .u64, .ro, .observer, .immediate, 0, [], 0x0⟩ ] ++
  [ ⟨0x1C0C, 0x1C0C, 0x00, 0x00, "tally.safe", .u8, .const, .observer, .none, 11, [], 0x0⟩,
    ⟨0x1C0C, 0x1C0C, 0x01, 0x0B, "tally.safe", .u64, .ro, .observer, .immediate, 0, [], 0x0⟩,
    ⟨0x1C0D, 0x1C0D, 0x00, 0x00, "tally.lamp_faults", .u8, .const, .observer, .none, 2, [], 0x0⟩,
    ⟨0x1C0D, 0x1C0D, 0x01, 0x02, "tally.lamp_faults", .u64, .ro, .observer, .immediate, 0, [], 0x0⟩,
    ⟨0x1C0E, 0x1C0E, 0x00, 0x00, "tally.reckonings", .u8, .const, .observer, .none, 2, [], 0x0⟩,
    ⟨0x1C0E, 0x1C0E, 0x01, 0x02, "tally.reckonings", .u64, .ro, .observer, .immediate, 0, [], 0x0⟩,
    ⟨0x1C0F, 0x1C0F, 0x00, 0x00, "tally.clock", .u8, .const, .observer, .none, 2, [], 0x0⟩,
    ⟨0x1C0F, 0x1C0F, 0x01, 0x02, "tally.clock", .u64, .ro, .observer, .immediate, 0, [], 0x0⟩,
    ⟨0x1C10, 0x1C10, 0x00, 0x00, "tally.pinned", .u32, .ro, .observer, .immediate, 0, [], 0x0⟩,
    ⟨0x1C11, 0x1C11, 0x00, 0x00, "tally.full", .u32, .ro, .observer, .immediate, 0, [], 0x0⟩,
    ⟨0x1C12, 0x1C12, 0x00, 0x00, "tally.damaged", .u32, .ro, .observer, .immediate, 0, [], 0x0⟩,
    ⟨0x1C13, 0x1C13, 0x00, 0x00, "tally.image", .blob, .ro, .observer, .immediate, 0, [], 0x0⟩,
    ⟨0x1C14, 0x1C14, 0x00, 0x00, "tally.harvest_serial", .u32, .ro, .observer, .immediate, 0, [], 0x0⟩ ]

/-- Entries of range 0x1D00 to 0x1DFF. -/
def entries1D : List Entry :=
  [ ⟨0x1D00, 0x1D00, 0x00, 0x00, "si.slack", .u8, .const, .observer, .none, 96, [], 0x0⟩,
    ⟨0x1D00, 0x1D00, 0x01, 0x60, "si.slack", .i16, .ro, .observer, .immediate, 0, [], 0x0⟩,
    ⟨0x1D01, 0x1D01, 0x00, 0x00, "si.slack_win", .u8, .const, .observer, .none, 96, [], 0x0⟩,
    ⟨0x1D01, 0x1D01, 0x01, 0x60, "si.slack_win", .i16, .ro, .observer, .immediate, 0, [], 0x0⟩,
    ⟨0x1D02, 0x1D02, 0x00, 0x00, "si.monitor_map", .u8, .const, .observer, .none, 96, [], 0x0⟩,
    ⟨0x1D02, 0x1D02, 0x01, 0x60, "si.monitor_map", .u8, .const, .observer, .none, 0, [], 0x0⟩,
    ⟨0x1D03, 0x1D03, 0x00, 0x00, "si.vfuse", .u8, .const, .observer, .none, 2, [], 0x0⟩,
    ⟨0x1D03, 0x1D03, 0x01, 0x02, "si.vfuse", .u16, .const, .observer, .none, 0, [], 0x0⟩,
    ⟨0x1D04, 0x1D04, 0x00, 0x00, "si.offset", .u8, .const, .observer, .none, 2, [], 0x0⟩,
    ⟨0x1D04, 0x1D04, 0x01, 0x02, "si.offset", .u16, .ro, .observer, .immediate, 0, [], 0x0⟩,
    ⟨0x1D05, 0x1D05, 0x00, 0x00, "si.margin", .u8, .const, .observer, .none, 2, [], 0x0⟩,
    ⟨0x1D05, 0x1D05, 0x01, 0x02, "si.margin", .u16, .rw, .engineer, .immediate, 50, [(20, 200)], 0x0⟩,
    ⟨0x1D06, 0x1D06, 0x00, 0x00, "si.gain", .u16, .rw, .engineer, .immediate, 500, [(100, 2000)], 0x0⟩,
    ⟨0x1D07, 0x1D07, 0x00, 0x00, "si.period", .u16, .rw, .engineer, .immediate, 24, [(0, 8760)], 0x0⟩,
    ⟨0x1D08, 0x1D08, 0x00, 0x00, "si.steps", .u8, .const, .observer, .none, 3, [], 0x0⟩,
    ⟨0x1D08, 0x1D08, 0x01, 0x03, "si.steps", .u8, .ro, .observer, .immediate, 0, [], 0x0⟩,
    ⟨0x1D09, 0x1D09, 0x00, 0x00, "si.budget", .u64, .ro, .observer, .immediate, 12079595520, [], 0x0⟩,
    ⟨0x1D0A, 0x1D0A, 0x00, 0x00, "si.rail_mv", .u8, .const, .observer, .none, 2, [], 0x0⟩,
    ⟨0x1D0A, 0x1D0A, 0x01, 0x02, "si.rail_mv", .u16, .ro, .observer, .immediate, 0, [], 0x0⟩,
    ⟨0x1D0B, 0x1D0B, 0x00, 0x00, "si.temp", .u8, .const, .observer, .none, 12, [], 0x0⟩ ] ++
  [ ⟨0x1D0B, 0x1D0B, 0x01, 0x0C, "si.temp", .i16, .ro, .observer, .immediate, 0, [], 0x0⟩,
    ⟨0x1D0C, 0x1D0C, 0x00, 0x00, "si.last", .wtime, .ro, .observer, .immediate, 0, [], 0x0⟩,
    ⟨0x1D0D, 0x1D0D, 0x00, 0x00, "si.slack_life", .u8, .const, .observer, .none, 96, [], 0x0⟩,
    ⟨0x1D0D, 0x1D0D, 0x01, 0x60, "si.slack_life", .i16, .ro, .observer, .immediate, 0, [], 0x0⟩ ]

/-- The rows of the range with high index byte g (R29). -/
def entriesOf (g : Nat) : List Entry :=
  match g with
  | 0x01 => entries01
  | 0x02 => entries02
  | 0x03 => entries03
  | 0x04 => entries04
  | 0x08 => entries08
  | 0x09 => entries09
  | 0x0A => entries0A
  | 0x0B => entries0B
  | 0x0C => entries0C
  | 0x0D => entries0D
  | 0x0E => entries0E
  | 0x10 => entries10
  | 0x11 => entries11
  | 0x12 => entries12
  | 0x13 => entries13
  | 0x14 => entries14
  | 0x15 => entries15
  | 0x18 => entries18
  | 0x19 => entries19
  | 0x1A => entries1A
  | 0x1C => entries1C
  | 0x1D => entries1D
  | _ => []

/-- First and last of each run of allocated event sources (R73, R104, R145, R178, R214, R265, R296, R324, R360, R401, R436, R468, R494, R530). -/
def sourceRuns : List (Nat × Nat) :=
  [(0, 10), (32, 43), (64, 69), (72, 97), (128, 131), (144, 159), (192, 225), (256, 311), (336, 342), (352, 359), (384, 775), (832, 837),
    (848, 848), (864, 908), (960, 966), (976, 979), (992, 998), (1000, 1002)]

/-- Event source s is allocated. -/
def sourceExists (s : Nat) : Bool := sourceRuns.any (fun p => decide (p.1 ≤ s) && decide (s ≤ p.2))

/-- The element belongs to an event source that is not allocated, and so is absent (R29). -/
def noSource (idx sub : Nat) : Bool :=
  decide (0x0300 ≤ idx ∧ idx < 0x0310) && decide (0 < sub) && !(sourceExists (idx % 8 * 128 + sub - 1))

/-- The entry that allocates an index and sub-index (R402), or none. -/
def lookup (idx sub : Nat) : Option Entry :=
  if noSource idx sub then none else
  (entriesOf (idx / 256)).find? (fun t =>
    decide (t.idx0 ≤ idx) && decide (idx ≤ t.idx1) && decide (t.sub0 ≤ sub) && decide (sub ≤ t.sub1))

/-- The key of a sub-entry in the stores of the state. -/
def key (idx sub : Nat) : Nat := idx * 256 + sub

/-- Severity of an event source: 0 info, 1 warn, 2 fault, 3 safety, as the chapters allocate it; info for a reserved
source, which is never raised. -/
def severity (s : Nat) : Nat :=
  if s = 834 || s = 896 || s = 287 then 3
  else if [3, 4, 5, 10, 68, 307, 308, 310, 342, 773, 774, 836, 899, 900, 901, 904, 905, 995, 996, 997].contains s then 2
  else if [2, 6, 7, 8, 9, 34, 35, 36, 38, 39, 42, 43, 64, 65, 66, 96, 97, 304, 309, 311, 336, 338, 340, 341, 353, 355,
      356, 357, 359, 768, 771, 772, 775, 832, 833, 848, 897, 902, 907, 908, 961, 962, 963, 964, 965, 976, 977, 978, 993, 994,
      1000, 1001, 1002].contains s then 1
  else if (128 ≤ s ∧ s < 132) ∨ (144 ≤ s ∧ s < 160) ∨ (192 ≤ s ∧ s < 226) ∨ (256 ≤ s ∧ s < 287) ∨ (288 ≤ s ∧ s < 304)
      ∨ (384 ≤ s ∧ s < 768) then 1
  else 0

/-- Default configuration of event source s (R430). -/
def evtConfigDefault (s : Nat) : Nat :=
  2 ^ 31 + 2 ^ 30 + severity s * 2 ^ 26 + (if severity s ≥ 2 then 2 ^ 25 else 0) + (if s = 40 then 2 ^ 19 else 0)


end Sys2Proof.Machine
end

