-- ==== Sys2Proof/Machine/Maps.lean ====
section
/-! DEFINITION. Sparse maps in canonical form: keys strictly rising, no entry equal to the default. -/

namespace Sys2Proof.Machine

/-- The value under key k. -/
def mfind {α : Type} (k : Nat) : Map α → Option α
  | [] => none
  | (j, v) :: m => if k = j then some v else mfind k m

/-- m without its entries under key k. -/
def merase {α : Type} (k : Nat) : Map α → Map α
  | [] => []
  | (j, v) :: m => if k = j then merase k m else (j, v) :: merase k m

/-- m with v under key k, kept in rising order of keys. -/
def minsert {α : Type} (k : Nat) (v : α) : Map α → Map α
  | [] => [(k, v)]
  | (j, w) :: m =>
    if k = j then (k, v) :: m
    else if k < j then (k, v) :: (j, w) :: m
    else (j, w) :: minsert k v m

/-- The value under key k, or the default. -/
def mgetD {α : Type} (d : α) (k : Nat) (m : Map α) : α := (mfind k m).getD d

/-- m with v under key k; writing the default removes the entry. -/
def mputD {α : Type} [DecidableEq α] (d : α) (k : Nat) (v : α) (m : Map α) : Map α :=
  if v = d then merase k m else minsert k v m

/-- Change the value under key k. -/
def mmodD {α : Type} [DecidableEq α] (d : α) (k : Nat) (f : α → α) (m : Map α) : Map α :=
  mputD d k (f (mgetD d k m)) m

/-- Every key of m is at least k and keys rise strictly. -/
def mrising {α : Type} (k : Nat) : Map α → Bool
  | [] => true
  | (j, _) :: m => decide (k ≤ j) && mrising (j + 1) m

/-- The canonical form: keys strictly rising, no entry equal to the default. -/
def mwf {α : Type} [DecidableEq α] (d : α) (m : Map α) : Bool :=
  mrising 0 m && m.all (fun p => decide (p.2 ≠ d))

end Sys2Proof.Machine
end

