-- ==== Sys2Proof/Machine/State.lean ====
section
/-! DEFINITION. The state of the block as plain data: every register, buffer, counter, mode and pin the spec gives it. -/

namespace Sys2Proof.Machine

/-- What every effect reads of the clocks: the wall time in ns since the PTP epoch, and the count of 2 ns ticks of the
500 MHz timebase since power-on (R532). -/
structure Env where
  wt : Nat
  tb : Nat
  frac : Nat
  incr : Nat
deriving DecidableEq, Repr

/-- The wall clock (R33), the increment in force and the timebase tick count. -/
structure Clock where
  sec : Nat
  ns : Nat
  frac : Nat
  incr : Nat
  tb : Nat
deriving DecidableEq, Repr

/-- A change of the clock accepted and waiting for its tick (R36). -/
inductive ClockChange where
  | incr (v : Nat)
  | step (v : Int)
  | force (v : Int)
deriving DecidableEq, Repr

/-- The pulse train of a trigger: the leading edge that comes next and its pulse number, the trailing edge of the pulse in
progress, the electrical level, and for a phase-locked trigger the leading edges after the next (R55 to R61, R208). `kept` holds
the trailing edges of pulses that were in progress when a later pulse began, which a backward step can cause (R59). -/
structure Trig where
  lead : Option Int
  num : Nat
  trail : Option Int
  level : Bool
  more : List Int
  kept : List Int
deriving DecidableEq, Repr

/-- A capture input: its pin, the level qualified last, and the change under qualification with the wall time and the
tick at which it began (R62). -/
structure Capture where
  raw : Bool
  qual : Bool
  change : Option (Nat × Nat)
  asked : Nat
  hist : Nat
deriving DecidableEq, Repr

/-- A transparent-clock forward that came in on port `ingress` and waits to leave the other (R66 to R68). -/
structure Forward where
  ingress : Nat
  stamp : Nat
  tb : Nat
  msg : PtpMsg
deriving DecidableEq, Repr

/-- The time unit and the port time-stamp units. -/
structure TimeUnit where
  changes : List ClockChange
  held : Option (Int × Nat)
  trig : Map Trig
  cap : Map Capture
  fwd : List Forward
deriving DecidableEq, Repr

/-- An event record (R429, R433). -/
structure EvRec where
  t64 : Nat
  src : Nat
  sev : Nat
  line : Nat
  detail : Nat
  count : Nat
deriving DecidableEq, Repr

/-- The event unit (R429 to R435). `histNext` is the place of the history ring written next; `marks` holds the tick of the last raise of each source limited in rate. -/
structure EventUnit where
  history : List EvRec
  histNext : Nat
  ring : List EvRec
  evWrite : Nat
  evRead : Nat
  evLost : Nat
  linePending : Nat
  marks : Map Nat
deriving DecidableEq, Repr

/-- A response of the device (R410). -/
inductive Rsp where
  | challenge (nd par : Bytes)
  | welcome (role idle : Nat) (t : Wtime)
  | reject (code remaining : Nat)
  | read (status : Nat) (vals : List (Ty × Bool × Val))
  | write (status kind outcome : Nat)
  | describe (status ty access role applies sub0 : Nat) (name : String) (dflt : Val)
  | blobOpen (status tid len : Nat)
  | blobClose (status : Nat)
  | echo (close : Bool) (body : Bytes)
deriving DecidableEq, Repr

/-- A NOTIFY sent and not acknowledged (R435). -/
structure Notify where
  nseq : Nat
  lost : Nat
  recs : List EvRec
  tries : Nat
  tb : Nat
deriving DecidableEq, Repr

/-- A BLOB transfer (R422 to R425). A write transfer gathers `data` from the start and holds later segments in `segs`; a
read transfer sends `data` up to `sent`. `done` is the offset acknowledged, `tb` the tick of the last progress, `air` the segments sent and not
acknowledged, by offset, each with the tick it last left. -/
structure Transfer where
  tid : Nat
  idx : Nat
  sub : Nat
  len : Nat
  data : Bytes
  segs : Map Bytes
  sent : Nat
  done : Nat
  tb : Nat
  air : Map Nat
deriving DecidableEq, Repr

/-- The attestation of a session (R472, R473): its nonce, the tick of the write, the report being formed, the report ready. -/
structure Attest where
  nonce : Option Bytes
  tb : Nat
  forming : Option Bytes
  report : Option Bytes
deriving DecidableEq, Repr

/-- A response kept for repeats (R410): the request's sequence and bytes, the device's sequence, the response. -/
structure Kept where
  seq : Nat
  bytes : Bytes
  tx : Nat
  rsp : Option Rsp
deriving DecidableEq, Repr

/-- An open session (R408 to R417). `own` holds its own values of entries described so (R407). -/
structure Session where
  sid : Nat
  cred : Nat
  role : Nat
  via : Transport
  peer : Bytes
  kc2d : Bytes
  kd2c : Bytes
  idle : Nat
  opened : Nat
  last : Nat
  hi : Nat
  window : Nat
  kept : List Kept
  tx : Nat
  own : Map Int
  shadow : Map Int
  shadowB : Map Bytes
  gather : List EvRec
  gatherTb : Option Nat
  sent : List Notify
  lost : Nat
  wr : Option Transfer
  rd : Option Transfer
  attest : Attest
  tagFail : Nat
deriving DecidableEq, Repr

/-- A handshake between CHALLENGE and PROVE (R413). -/
structure Handshake where
  sid : Nat
  slot : Nat
  cred : Nat
  via : Transport
  peer : Bytes
  idle : Nat
  nc : Bytes
  nd : Bytes
  tb : Nat
deriving DecidableEq, Repr

/-- The dictionary pair: sessions by slot, handshakes, the session id counter, the transfer id counter, credential keys
(MRAM), lockout ends and the tick of the last failure of each credential. -/
structure Dict where
  sess : Map Session
  hand : List Handshake
  sidCtr : Nat
  tidCtr : Nat
  keys : Map Bytes
  lockEnd : Map Nat
  lastFail : Map Nat
deriving DecidableEq, Repr

/-- The mailbox (R420): counters, the bytes of the to-device ring from its start, the messages in the from-device ring, and messages held
while it is full. -/
structure Mailbox where
  tdWrite : Nat
  tdRead : Nat
  td : List Host.Cell
  fdWrite : Nat
  fdRead : Nat
  fdRing : List Bytes
  held : List Bytes
deriving DecidableEq, Repr

/-- What an operation in progress keeps besides its entries: its arguments as copied, the result code it has gathered, the tick
of its start and the rods it is for (R426, R427). -/
structure OpRun where
  args : Map Int
  step : Nat
  tb : Nat
  rods : List Nat
deriving DecidableEq, Repr

/-- A timing mode (R179): rate code, P, shifts, windows, unit, gap, order, run-ahead Q16.16. -/
structure Mode where
  rate : Nat
  phases : Nat
  shift : List Int
  window : List Nat
  unit : Nat
  gap : Nat
  order : Nat
  ra : Nat
deriving DecidableEq, Repr

/-- A timing-mode switch in progress (R201 to R209), or the leave of LIVE (R512), or a forced step (R44). `first` and
`newE` are the first new sub-frame and its E once chosen; `step` is the step applied on the tick of E_d; `rates` holds the lane rate of
each rod at which R188 was checked for the switch (R189); `old` is the mode before it, which a cancel keeps (R209). -/
structure Switch where
  mode : Mode
  old : Mode
  seamless : Bool
  leave : Bool
  step : Option Int
  nL : Nat
  cd : Int
  ed : Int
  first : Option Nat
  newE : Int
  dark : Bool
  latched : Bool
  rates : Map Nat
deriving DecidableEq, Repr

/-- The sequencer: the mode of the last latch, the number of the next latch, the switch in progress, the transition to
LIVE waiting for its first latch, the count of timing-mode changes, and the sub-frames whose
setpoint instant came before their latch (R298). `emitted` holds E and phase of the latest sub-frames that emit (R208), `force` a forced step
that waits for the switch in progress to end (R44; log entry 98). -/
structure Seq where
  mode : Mode
  next : Option Nat
  sw : Option Switch
  entering : Bool
  gen : Nat
  early : List Nat
  emitted : List (Int × Nat)
  force : Option Int
deriving DecidableEq, Repr

/-- How a source codes its pixels (R146, R330): sampling 0 4:2:2, 1 4:4:4 Y'CbCr, 2 R'G'B'; bits; matrix and primaries 0
BT.709, 1 BT.2020; transfer 0 BT.1886, 1 PQ, 2 HLG; full range. -/
structure Fmt where
  sampling : Nat
  depth : Nat
  matrix : Nat
  transfer : Nat
  primaries : Nat
  full : Bool
deriving DecidableEq, Repr

/-- A frame buffer (R137 to R139): the ring it belongs to (kind 1 flow, 2 stream, 3 still, 6 scaler) and its number, the
picture, and what the inclusion rule reads of it. Pixels are rows of pixels, each a list of samples: an odd column of
4:2:2 holds Y' alone; stills and scaled copies hold linear U16 components and perhaps alpha. `done` is the tick of
completion, `rank` counts completions, `count` the frames of its source. A scaled copy names its source ring and the
geometry it was scaled for. -/
structure FrameBuf where
  kind : Nat
  num : Nat
  w : Nat
  h : Nat
  alpha : Bool
  fmt : Fmt
  px : List (List (List Nat))
  count : Nat
  pt : Int
  rank : Nat
  done : Option Nat
  sig : Nat
  concealed : Bool
  ofKind : Nat
  ofNum : Nat
  geom : List Int
  dying : Bool
  late : Bool
deriving DecidableEq, Repr

/-- An inclusion decision of a layer for a sub-frame (R117): the code of `layer.content`, the source kind and number that
supply it, the buffer shown, whether the not-ready policy applied, and the cadence times of the expected frames that were
not ready (R120). -/
structure Decision where
  content : Nat
  kind : Nat
  num : Nat
  buf : Option Nat
  policy : Bool
  missed : List Int
deriving DecidableEq, Repr

/-- A staging record: the drive codes in scan order, three a lamp, the composed values of the same lamps (R105), the bytes
its guard partial signature covers with the gain applied (R135), the lamps the ceiling scaled, and the engine. -/
structure Rec where
  codes : List Nat
  canvas : List Nat
  guard : Option (Bytes × Nat)
  clamps : List Bool
  engine : Nat
deriving DecidableEq, Repr

/-- A group of R84: the first pass, or one recompute with its layer and its decision; the decisions it computes with; its
beads in issue order, each with the engine it went to (255 before), and the records completed. At a standby `act` is the epoch
under which its active told the group, and `told` says that the active has switched it in (R93). -/
structure Group where
  epoch : Nat
  live : Bool
  layer : Option Nat
  dec : Option Decision
  decs : Map Decision
  beads : List (Nat × Nat)
  recs : Map Rec
  told : Bool
  act : Option Nat
deriving DecidableEq, Repr

/-- A configuration: the values of RWS entries, numbers and byte strings. -/
structure Cfg where
  num : Map Int
  blob : Map Bytes
deriving DecidableEq, Repr

/-- A sub-frame issued and not ended. Beads are keyed by rod times 512 plus number. `gen` is the count
of timing-mode changes at its latch; `use` and `epochs` hold the record in
use of each bead and the epoch that made it; `recomps` counts recomputes issued, `admitted` squashes admitted, `held` the staging records each rod
holds after the retire; `open1` the layers of kind 1 decisions not resolved and `absent` the layers whose named frame a
standby does not hold (R456); `slews` the factor, a numerator and a divisor, by which R306 scaled the codes of a pan; `setSent` says that its setpoint instant has come, `await` the rods whose comparison with the
twin has not ended (R458). -/
structure Sub where
  n : Nat
  mode : Mode
  e : Int
  c : Int
  i : Int
  cfg : Cfg
  crc : Nat
  gen : Nat
  corrGen : Nat
  mapGen : Nat
  decs : Map Decision
  groups : List Group
  use : Map Rec
  epochs : Map Nat
  charged : Nat
  recomps : Nat
  admitted : Nat
  picked : Bool
  retired : Bool
  votes : List Nat
  starved : Bool
  held : Map Nat
  decCount : Nat
  open1 : List Nat
  absent : List Nat
  slews : Map (Nat × Nat)
  setSent : Bool
  await : List Nat
deriving DecidableEq, Repr

/-- What a bead is for (R81, R98, R99, R459): the first pass or a recompute, a shadow of engine e's bead, a vote between
engine e and its checker, the check of an output mismatch. -/
inductive JobKind where
  | normal
  | shadow (e : Nat)
  | vote (e checker : Nat)
  | attrib
deriving DecidableEq, Repr

/-- A bead waiting or outstanding. `cls` and `rank` are its class and its place within it (R81); `record` says that its
staging record is allocated (R90); `eng` the engine a shadow or vote bead must take. -/
structure Job where
  n : Nat
  epoch : Nat
  bead : Nat
  kind : JobKind
  cls : Nat
  rank : Nat
  eng : Option Nat
  record : Bool
deriving DecidableEq, Repr

/-- A bead outstanding: its tag, its engine, the tick of its start. -/
structure Out1 where
  tag : Nat
  job : Job
  engine : Nat
  tb : Nat
deriving DecidableEq, Repr

/-- A shadow check in progress (R98): the engine and bead checked, the checker, and the records completed. -/
structure Check where
  n : Nat
  epoch : Nat
  bead : Nat
  e : Nat
  checker : Nat
  orig : Option Rec
  copy : Option Rec
deriving DecidableEq, Repr

/-- A squash admitted and held (R89): its place in the order of admission. At a standby `epoch` is the epoch under which its active has
issued the recompute, once it has, and `told` says that the active has switched it in (R93). -/
structure Held where
  n : Nat
  layer : Nat
  dec : Decision
  rank : Nat
  epoch : Option Nat
  told : Bool
deriving DecidableEq, Repr

/-- The bead scheduler: sub-frames in the order of their latches, beads waiting and outstanding, checks in progress,
squashes held, the last engine the rotation took, engines whose check was missed, per engine the sub-frames computed
without an agreeing check and those told late by event 309 (R100), and whether issue is stopped. `stall` is the tick from which issue has stalled for tags,
`stallNs` the ns of past stalls that make no whole microsecond of `bead.tag_stall`. -/
structure Beads where
  subs : List Sub
  waiting : List Job
  out : List Out1
  checks : List Check
  held : List Held
  rot : Nat
  missed : List Nat
  unchecked : Map Nat
  overdue : List Nat
  stopped : Bool
  stall : Option Nat
  stallNs : Nat
deriving DecidableEq, Repr

/-- A commit that has not executed: its set, its session and request, or the operation it is made for, and whether it
waits for the guard signature (R134, R142, R175). -/
structure GuardWait where
  slot : Nat
  seq : Nat
  set : Cfg
  guard : Bool
  forOp : Option Nat
deriving DecidableEq, Repr

/-- A layer's freeze (R194 to R196): the source that froze and its frame signature, and whether its action put the layer on its backup. -/
structure Frozen where
  kind : Nat
  num : Nat
  sig : Nat
  backup : Bool
deriving DecidableEq, Repr

/-- Consecutive equal frames of a layer's serving source (R194): their count, the source, the frame signature and the newest PT. -/
structure FreezeRun where
  count : Nat
  kind : Nat
  num : Nat
  sig : Nat
  pt : Int
deriving DecidableEq, Repr

/-- Layers, buffers and the armed set; commits that wait; the held frame of each layer (R118), the cadence times counted
late and the frames late on arrival not yet counted, by layer and source (R120), the count of equal frames of each layer with their source, signature and PT (R194), and what froze each layer;
the buffers leased (R137), and by layer and source what its format means for the layer's scaler: 1 taps reduced (R128), 2 no longer fitting (R129). -/
structure Layers where
  bufs : Map FrameBuf
  bufCtr : Nat
  armed : Cfg
  waits : List GuardWait
  heldFrame : Map Nat
  lateSeen : Map (List Int)
  latePend : Map Nat
  freezeRun : Map FreezeRun
  frozen : Map Frozen
  leases : List Nat
  scaleMark : Map Nat
deriving DecidableEq, Repr

/-- A tile record of a rod map (R163), with its scan order as tile-local positions and the rod-local index of its first
lamp. -/
structure TileRec where
  x : Nat
  y : Nat
  w : Nat
  h : Nat
  rot : Nat
  depth : Nat
  pan : Nat
  sw : Nat
  sh : Nat
  zc : Nat
  zr : Nat
  scan : Nat
  list : List Nat
  first : Nat
deriving DecidableEq, Repr

/-- A rod map (R163): tag, canvas, and per rod its tiles in chain order. -/
structure RodMap where
  tag : Nat
  cw : Nat
  ch : Nat
  total : Nat
  rods : List (Nat × List TileRec)
deriving DecidableEq, Repr

/-- An override (R160). `til` is none while no later override or swap has set its until. -/
structure Override where
  lamp : Nat
  flags : Nat
  from_ : Nat
  til : Option Nat
deriving DecidableEq, Repr

/-- A load in progress (R169, R167): the image bytes taken so far from a stream, and how far it has been consumed. -/
structure Load where
  data : Bytes
  closed : Bool
deriving DecidableEq, Repr

/-- A lamp fault that waits for an override slot (R309): the lamp, the flags it is to have, and whether a short was reported. -/
structure PendFault where
  lamp : Nat
  flags : Nat
  short : Bool
deriving DecidableEq, Repr

/-- Correction and rod maps: both map generations, overrides, the overrides in force at the fold into the idle generation, the map each correction generation was written for, lamp faults
pending (R309), loads, per kind (0 correction, 1 rod map) the sub-frame of the last swap, the last sampled sub-frame
counted (R316), and the dose accumulators, by lamp times 3 plus emitter, that have saturated (R313). -/
structure Corr where
  maps : Map RodMap
  overrides : List Override
  folded : List Override
  genMaps : Map RodMap
  faults : List PendFault
  loads : Map Load
  swapAt : Map Nat
  doseLast : Nat
  full : List Nat
deriving DecidableEq, Repr

/-- A downstream link frame (R224), by the fields of its body. -/
inductive DnFrame where
  | set (pos n phase depth count sig : Nat)
  | plane (pos n : Nat) (body : Bytes)
  | schedule (n phase phases : Nat) (e : Int) (durs : List Nat) (gap order : Nat)
  | repeatSet (addr n phase : Nat) (ms : List (Nat × Nat))
  | dark (n : Nat) (ed : Int)
  | headroom (pos n : Nat) (zones : List (List Nat))
  | token
  | command (addr seq code : Nat) (args : Bytes)
  | enum (next step mode : Nat)
  | config (pos seq depth pan zc zr trim tele : Nat)
  | echoReq (pos id : Nat)
  | lane (op code start dur : Nat)
deriving DecidableEq, Repr

/-- The words a rod's upstream receiver has seen (R216, R218): the 58 bits its descrambler holds, valid sync headers in a row while it has
no word lock, and which of the last 64 words were invalid while it has, the newest first. -/
structure UpMon where
  reg : Nat
  good : Nat
  recent : List Bool
deriving DecidableEq, Repr

/-- Where bring-up or recovery of a rod stands (R275 to R279). `stepWait` and `recoverWait` wait for the STEP, or the IR, to leave;
`check` waits for REPORTs; `back` says that the check
follows a step back from a failed code; `fclk` that it follows FCLK. -/
inductive LanePhase where
  | idle
  | train
  | enumerate
  | stepWait (code : Nat)
  | stepTrain
  | check (back fclk : Bool)
  | fclkWait
  | recoverWait
  | recoverTrain
  | recoverCheck
  | recoverEnum
  | service
deriving DecidableEq, Repr

/-- Why an enumeration runs on a rod: bring-up, op.enum, a dark path, op.recover, recovery of the lane. -/
inductive EnumWhy where
  | bringup | op | dark | recover | lane
deriving DecidableEq, Repr

/-- An enumeration on a rod (R244): its mode (0 assign, 1 check), P, when it began, the blocks collected with the header
address they came from, and whether it is in its CONFIG and delay step. -/
structure EnumRun where
  why : EnumWhy
  mode : Nat
  phases : Nat
  tb : Nat
  rsps : List Bytes
  measuring : Bool
  failed : Bool
deriving DecidableEq, Repr

/-- A calibration pass (R286, R290): started by the operation or not, parameter index, which candidate is being measured (0 base,
1 raised, 2 lowered), the settings before the pass, those the parameter began with and the best so far with its merit, whether the round changed
anything, the rounds done, the reports seen under the candidate. -/
structure Pass where
  byOp : Bool
  par : Nat
  cand : Nat
  orig : Slicer
  base : Slicer
  best : Slicer
  bestMerit : Nat
  changed : Bool
  rounds : Nat
  reports : Nat
deriving DecidableEq, Repr

/-- The answer a tile gave to CHECK (R273). -/
structure Report where
  pos : Nat
  status : Nat
  height : Nat
  width : Nat
deriving DecidableEq, Repr

/-- One output port: transmit stage, tile manager and lane set. `upEnd` is the tick at which the last upstream sleep window ends, `upWall` the wall time at which it does; `enumq` the enumerations that wait for the one that runs; `up` what its receiver has seen; `held` the positions enumerated on it; `echoTb`
the tick at which its tiles were last to be measured; `slept` the
ns the DN lane has slept; `rateRef` the lane rate at which R188 was checked for the mode of the newest latch, `ratePrev` that of the mode before; `scr` the 58 bits of the DN lane's scrambler (R216); `taps` the transmit taps c+1 and c-1 wanted; `passes` the passes `op.lane_cal` still waits to start. -/
structure Rod where
  txq : List DnFrame
  inSet : Option Nat
  seqDn : Nat
  lastToken : Nat
  tokenDue : Bool
  lock : Bool
  lockLost : Option Nat
  sleepTb : Option Nat
  waking : Bool
  upEnd : Nat
  upWall : Int
  phase : LanePhase
  tb : Nat
  target : Nat
  from_ : Nat
  enumr : Option EnumRun
  enumq : List EnumRun
  reports : List Report
  paths : List Slicer
  rx : Option Pass
  tx : Option Pass
  passes : Nat
  cmdSeq : Nat
  echoId : Nat
  rateRef : Nat
  ratePrev : Nat
  used : Bool
  rush : Bool
  slept : Nat
  taps : List Int
  scr : Nat
  up : UpMon
  held : List Nat
  echoTb : Nat
deriving DecidableEq, Repr

/-- Why a command was sent to a tile. -/
inductive CmdWhy where
  | wake | sleep | channel (report : Nat) | ack | channelOn | config
deriving DecidableEq, Repr

/-- A command or CONFIG to a tile, waiting or outstanding (R239). `frame` is none until it is issued. -/
structure Cmd where
  why : CmdWhy
  code : Nat
  args : Bytes
  seq : Nat
  tries : Nat
  tb : Nat
  onAir : Bool
deriving DecidableEq, Repr

/-- A delay measurement (R247): the echo id outstanding and when it left, its repeats, and the samples so far. -/
structure EchoRun where
  id : Nat
  tb : Nat
  tries : Nat
  left : Nat
  sum : Nat
deriving DecidableEq, Repr

/-- What a tile was last sent for one phase (R191): the sub-frame of its planes, its signature, REPEATs in a row, the
setpoints it needs, the last sub-frame it was sent for, the count of timing-mode changes then, and whether the tile has
reported an error since. -/
structure PhaseSet where
  m : Nat
  sig : Nat
  reps : Nat
  zones : List (List Nat)
  last : Nat
  gen : Nat
  bad : Bool
deriving DecidableEq, Repr

/-- A record of a FAULT report (R252): scan index, lamp index, emitters, short or open. -/
structure FaultRec where
  scan : Nat
  lamp : Nat
  mask : Nat
  short : Bool
deriving DecidableEq, Repr

/-- A FAULT report being handled (R308): its number, the CHANNEL_OFF commands not yet answered, and the records that a unit which makes no
overrides waits for. -/
structure FaultRun where
  number : Nat
  waits : Nat
  left : List FaultRec
deriving DecidableEq, Repr

/-- One tile of one rod, as the unit knows it. `commits` holds the setpoints committed for each sub-frame, with the count of
timing-mode changes then (R300); `sets` what it was last sent for each phase; `turn` adds the turnarounds
of the measurement's echoes; `hold` says that no SET may leave for it before it is measured (R249). -/
structure Tile where
  cap : Bytes
  tele : Bytes
  trim : Nat
  trimHeld : Option Nat
  rtt : Nat
  turn : Nat
  ldn : Nat
  lup : Nat
  echo : Option EchoRun
  measured : Bool
  hold : Bool
  serial : Option Nat
  lastUp : Nat
  upSeq : Option Nat
  silent : Bool
  awake : Bool
  cmd : Option Cmd
  cmdq : List Cmd
  faults : List FaultRun
  sets : Map PhaseSet
  commits : Map (Nat × List (List Nat))
  thermCount : Nat
  thermSum : Int
  resetDose : Bool
  bothFresh : Bool
deriving DecidableEq, Repr

/-- A tile that waits for a wake slot (R303). -/
structure Wake where
  rod : Nat
  pos : Nat
  tb : Nat
deriving DecidableEq, Repr

/-- A wake slot in use: its tile, the tick of its egress, whether its CMD_RSP came. -/
structure Slot where
  rod : Nat
  pos : Nat
  tb : Nat
  answered : Bool
deriving DecidableEq, Repr

/-- A pan (R302 to R306). -/
structure Pan where
  queue : List Wake
  slots : List Slot
  told : Bool
  prevD : Nat
  prevE : Option Int
deriving DecidableEq, Repr

/-- The body of a pairing message (R452). -/
inductive PairMsg where
  | status (pairState devState doubt epoch latched highest : Nat)
  | demote (cause : Nat)
  | ack (highest : Nat)
  | time (t1 t2 t3 t4 : Nat)
  | write (order idx sub : Nat) (ty : Ty) (v : Val)
  | commit (order n : Nat)
  | latch (n order crc : Nat)
  | decision (d : DecisionMsg)
  | seal (n count : Nat)
  | operation (idx cmd : Nat) (args : List (Nat × Int))
  | result (first : Nat) (lamps : List (Nat × Nat × Nat × Nat)) (final : Option (Nat × Nat))
  | pan (pan rod pos action : Nat)
  | override (lamp flags n : Nat)
  | signature (n first : Nat) (rods : List (Nat × Nat))
  | attrib (n rod result : Nat)
  | snapshot (off : Nat) (entries : List (Nat × Val)) (overrides : List (Nat × Nat × Nat × Nat))
      (pans : List (Nat × Nat × Nat)) (last : Bool)
  | join (n : Nat)
  | handover (n : Nat)
deriving DecidableEq, Repr

/-- A pairing message sent and not acknowledged, or received out of order. -/
structure PairSent where
  seq : Nat
  msg : PairMsg
  tb : Nat
deriving DecidableEq, Repr

/-- An output mismatch under attribution (R459): results known of this unit and of the twin, and when it began. -/
structure Attrib where
  n : Nat
  rod : Nat
  own : Option Nat
  twin : Option Nat
  left : Nat
  differ : Bool
  tb : Nat
deriving DecidableEq, Repr

/-- A LATCH received (R455). -/
structure LatchRec where
  n : Nat
  order : Nat
  crc : Nat
deriving DecidableEq, Repr

/-- The pairing unit (R446 to R466): the next sequence to send, messages without ACK, the next sequence to accept, messages
that came early and the tick of the gap before them, messages that wait until fewer than 4,096 are without ACK, the tick of the last frame, orders sent and executed, the twin's last STATUS,
the last TIME received (the twin's time and this unit's), whether ACTIVE_N is driven low, the tick since which it reads high;
LATCHes and DECISIONs held, signatures waiting for their counterpart, attributions; the join (a sub-frame not equal, sub-frames
equal in a row and the next of them), the hand-over sub-frame, the tick since which the offset is too large, the wall time of a
promotion; the snapshot gathered, whether one has been applied, and the one sent (1 sent, 2 join named), the shadow set of forwarded writes, the latch that waits
for its LATCH, the commits that follow a latch still to come, by order, whether JOIN has come, whether a STATUS has told the twin that this unit is OUT_OF_STEP, every token epoch that a tile has reported, and the pieces received of a value that
comes in several WRITE messages. -/
structure Pair where
  txSeq : Nat
  unacked : List PairSent
  backlog : List PairMsg
  rxNext : Nat
  early : List (PairHdr × PairMsg)
  gap : Option Nat
  lastRx : Nat
  order : Nat
  done : Nat
  twinDev : Nat
  twinDoubt : Nat
  twinEpoch : Nat
  twinLatched : Nat
  timeRx : Option (Nat × Nat)
  drive : Bool
  released : Option Nat
  latches : List LatchRec
  decs : List DecisionMsg
  sigOwn : Map (Nat × Nat)
  sigTwin : Map (Nat × Nat)
  attribs : List Attrib
  joinBad : Option Nat
  good : Nat
  goodN : Nat
  handover : Option Nat
  offBad : Option Nat
  completed : Option Nat
  snap : Map Val
  snapOv : List (Nat × Nat × Nat × Nat)
  snapPan : List (Nat × Nat × Nat)
  snapOut : Nat
  applied : Bool
  shadow : Map Int
  shadowB : Map Bytes
  latchWait : Option (Nat × Nat)
  commits : List (Nat × Cfg)
  joined : Bool
  toldOut : Bool
  reported : List Nat
  part : Bytes
deriving DecidableEq, Repr

/-- The fault collector: for each of doubt causes 3 to 5 the conditions present (by detail) and the tick at which the
last of them went away; consecutive bad samples. -/
structure Fault1 where
  present : Map Nat
  cleared : Map Nat
  refBad : Map Nat
  railBad : Map Nat
  tempBad : Map Nat
  cutTb : Option Nat
  cutTold : Bool
deriving DecidableEq, Repr

/-- Boot, reset and progression (R495 to R514): the reset asserted and the tick before which it does not end, the pins sampled,
the boot sources left and failed, the lowest image that failed, the source in use, the tick of the trial, a valid source
found, the epoch set once (MRAM, R447), firmware running. `octal` says that the boot controller has switched the flash to 8D-8D-8D
(R504). `force` and `forceB` hold the values in force of Reset-class entries
that are not at their defaults. -/
structure Device where
  cause : Option Nat
  resetDue : Option Nat
  role : Nat
  bootSel : Nat
  sources : List Nat
  tried : Nat
  failed : Option Nat
  source : BootImage
  bootTb : Nat
  found : Bool
  epochSet : Bool
  fw : Bool
  octal : Bool
  coresHalted : Bool
  linkTb : Option Nat
  waking : List (Nat × Nat)
  wakeAsked : Bool
  recoverRods : List Nat
  darkRods : List Nat
  lastRail : Map Nat
  railTold : Map Nat
  force : Map Int
  forceB : Map Bytes
deriving DecidableEq, Repr

/-- A picture a confidence encoder has started (R350 to R352): its sub-frame, E(N), canvas size, sample planes, and whether it
stands for an abandoned sub-frame. -/
structure ConfJob where
  n : Nat
  e : Int
  cw : Nat
  ch : Nat
  w : Nat
  h : Nat
  planes : List (List Nat)
  skip : Bool
  kbps : Nat
deriving DecidableEq, Repr

/-- A confidence encoder (R353 to R357): pictures started, pictures coded since the last IDR, whether the next must be an IDR,
the coded size, and per picture type the mean QP, the bits used and the budget of the last picture; budget debits owed; the
next RTP sequence number; the vectors of the last picture by CU (R354) and its reconstructed planes, the reference of the next. -/
structure Enc where
  jobs : List ConfJob
  count : Nat
  idr : Bool
  w : Nat
  h : Nat
  meanI : Nat
  meanP : Nat
  usedI : Nat
  usedP : Nat
  budI : Nat
  budP : Nat
  hadI : Bool
  hadP : Bool
  debits : List Nat
  rtp : Nat
  field : Map (Int × Int)
  recon : List (List Nat)
deriving DecidableEq, Repr

/-- What the parameter sets before an IDR signal (R351): the profile, the coded size, the columns and rows that the conformance window
crops, and the VUI's codes of primaries, transfer and matrix and its full-range flag. -/
structure ConfSeq where
  profile : Nat
  w : Nat
  h : Nat
  cropRight : Nat
  cropBottom : Nat
  primaries : Nat
  transfer : Nat
  matrix : Nat
  fullRange : Bool
deriving DecidableEq, Repr

/-- An RTP packet that a port sends: port, destination address, UDP port, DSCP, and the bytes behind the UDP header (R357). -/
structure RtpOut where
  port : Nat
  dst : Bytes
  udp : Nat
  dscp : Nat
  bytes : Bytes
deriving DecidableEq, Repr

/-- An answer owed to a membership query (R338): port, version, group (none for a general query), the tick it is due, the sources asked
for (none asks for the group), and groups that another member has answered for. -/
structure Query where
  port : Nat
  v6 : Bool
  group : Bytes
  due : Nat
  sources : List Bytes
  muted : List Bytes
deriving DecidableEq, Repr

/-- A packet a flow keeps (R332): extended sequence number, tick, RTP timestamp, marker bit, and whether it came on leg B
alone. -/
structure RxPkt where
  seq : Nat
  tb : Nat
  ts : Nat
  marker : Bool
  fromB : Bool
deriving DecidableEq, Repr

/-- A frame or access unit in progress (R333, R344): RTP timestamp, buffer (0 for kind 2), ingress stamp of its first kept
packet, PT, its lowest and highest sequence numbers, tick of its last kept packet, tick at which a packet of a later one was
kept, the sequence number of its marker, samples received, bytes, IRAP. -/
structure RxFrame where
  ts : Nat
  buf : Nat
  ta : Nat
  pt : Int
  first : Nat
  hi : Nat
  lastTb : Nat
  later : Option Nat
  marker : Option Nat
  pieces : List (Nat × Nat × List (List Nat))
  bytes : Nat
  irap : Bool
deriving DecidableEq, Repr

/-- The receiver of an admitted flow: packets kept, the highest sequence number beyond the skew window, frames in progress,
timestamps of frames ended of late, per leg the tick of its last packet and whether it is silent, and the tick of a join to
be repeated. -/
structure FlowRx where
  kept : List RxPkt
  floor : Nat
  frames : List RxFrame
  gone : List Nat
  legTb : List Nat
  silent : List Bool
  joinTb : Option Nat
deriving DecidableEq, Repr

/-- An access unit in a bitstream buffer (R344): its sequence numbers from the first after the one before to its marker, and, once its flow
has been deleted, whether packets of it were lost. -/
structure Au where
  ts : Nat
  pt : Int
  lo : Nat
  hi : Nat
  irap : Bool
  bytes : Nat
  tb : Nat
  fixed : Option Bool
deriving DecidableEq, Repr

/-- A picture of a reference pool (R346): mark 0 unused, 1 short-term, 2 long-term; whether it waits for output, and how many pictures to
be output have been decoded since (R345). `irap` says that it is an IRAP picture, whose output, not CONCEALED itself, ends the spread of CONCEALED (R349). -/
structure PoolPic where
  poc : Int
  mark : Nat
  waiting : Bool
  w : Nat
  h : Nat
  fmt : Fmt
  planes : List (List Nat)
  pt : Int
  irap : Bool
  concealed : Bool
  late : Nat
deriving DecidableEq, Repr

/-- A started stream (R341 to R349): what it was started with, its load and that of a switch before each picture (R344) in units of
1/100,100 of a sample a second, its access units waiting, its pool, the picture decoded last,
whether CONCEALED spreads to what is output next, whether RASL pictures are skipped, its last VUI. -/
structure Stream where
  flow : Nat
  engine : Nat
  ctx : Nat
  w : Nat
  h : Nat
  dpb : Nat
  load : Nat
  turn : Nat
  aus : List Au
  pool : List PoolPic
  last : Option PoolPic
  spread : Bool
  skipRasl : Bool
  vui : Option Nat
deriving DecidableEq, Repr

/-- Media ports and codecs. `confLast` holds, per rod times 8 plus phase, the lamps a rod gave the confidence canvas of its
last retired sub-frame of the phase (R350). `rank` counts complete frames; `compat` the tick of the last query of an older
version, per port times 2 plus 1 for IPv6 (R338), times 4 plus the version; `modes` the compatibility mode a port took last, per port times 2 plus 1 for IPv6; `unjoin` the legs, by flow
and leg, whose repeated join a change of mode cancelled; `queries` the answers owed; `mods` the upper page of the last module seen in each port
(R328); `hops` the MAC addresses that next hops have answered, by port and address, and `waiting` the packets that wait for one (R326); `host`
the time, in ns of the timebase, at which a line of 1 Gb/s has carried what each port gave the host queue (R327). -/
structure Media where
  enc : Map Enc
  confLast : Map (List (Nat × Nat × List Nat))
  rx : Map FlowRx
  streams : Map Stream
  rank : Nat
  compat : Map Nat
  modes : Map Nat
  unjoin : List (Nat × Nat)
  queries : List Query
  mods : Map Bytes
  hops : List (Nat × Bytes × Bytes)
  waiting : List (Bytes × RtpOut)
  host : Map Nat
deriving DecidableEq, Repr

/-- A request in a bank queue (R365): port, buffer of the port, agent, unit, first byte in the unit, write, data, length, the tick of its
arrival, whether the cores' caches keep what it returns (R382), and the channel and request it was issued by (R394). A rake read's buffer is 1 where
it is of the repair list (R374). -/
structure MemEntry where
  port : Nat
  buffer : Nat
  agent : Agent
  unit : Nat
  off : Nat
  write : Bool
  data : Bytes
  len : Nat
  tb : Nat
  cached : Bool
  dma : Option (Nat × Nat)
deriving DecidableEq, Repr

/-- A pseudo-channel (R365, R366, R372): its bank queues, the requests that wait in the fabric for a full queue, by bank the activated
access with its commands issued and whether it was corrected, the rotation pointer, by bank the refreshes due and not issued, the banks of which some
were postponed under panic, the next bank to refresh. -/
structure PseudoCh where
  queues : Map (List MemEntry)
  fabric : Map (List MemEntry)
  act : Map (MemEntry × Nat × Bool)
  ptr : Nat
  owed : Map Nat
  held : List Nat
  refPtr : Nat
deriving DecidableEq, Repr

/-- The HBM controllers: address order and sizes of regions 6 to 8 in MiB in force (R363), pseudo-channels, the last 256
command records of each controller (R378), buffers in panic, per pseudo-channel the hour and its corrections (R373), the
rake's next unit, its repair list (unit, tick, aged), the cause of the freeze, the safety island's SRAM (R383), and the copies of
bytes of the application-core region in the cores' caches, by device address (R382). `hour` tells with each count whether event 833
has been raised in that hour, `failRow` names the row a freeze found failing: pseudo-channel, bank and row (R379), and `slot` holds the tick of a freeze that controller 1
found with what the queues held then (R378). -/
structure Hbm where
  order : Nat
  sizes : List Nat
  pcs : Map PseudoCh
  cmds : Map (List Bytes)
  panic : List (Nat × Nat)
  hour : Map (Nat × Nat × Bool)
  rake : Nat
  repair : List (Nat × Nat × Bool)
  cause : Nat
  sram : List Host.Cell
  copies : Map Byte
  failRow : Option (Nat × Nat × Nat)
  slot : Option (Nat × Map PseudoCh)
deriving DecidableEq, Repr

/-- A loop frame of a channel (R390): start and end of its body as DMA addresses, count, iteration index. -/
structure LoopFrame where
  start : Nat
  stop : Nat
  count : Nat
  idx : Nat
deriving DecidableEq, Repr

/-- A DMA request without response: its id, tick of issue, address, length, whether it writes, the bytes it writes or has read, and its answer on
the way to the channel. -/
structure DmaReq where
  id : Nat
  tb : Nat
  addr : Nat
  len : Nat
  write : Bool
  data : Bytes
  ans : Option DmaAnswer
deriving DecidableEq, Repr

/-- A move in progress: its instruction words, reads to issue, bytes read by address, writes to issue once all reads have
returned. -/
structure DmaWork where
  words : List Nat
  src : Nat
  dst : Nat
  reads : List (Nat × Nat)
  got : List (Nat × Bytes)
  writes : Option (List (Nat × Bytes))
deriving DecidableEq, Repr

/-- A WAIT in progress (R391): mode, word 1, event source, wall time and tick of its begin, event seen. -/
structure DmaWait where
  mode : Nat
  arg : Nat
  src : Nat
  wt : Nat
  tb : Nat
  met : Bool
deriving DecidableEq, Repr

/-- A DMA channel (R384, R385): registers, loop frames, innermost first, requests without response, the work in progress,
budget and timeout taken at its start, whether END asked for the event. -/
structure DmaCh where
  prog : Nat
  pc : Nat
  refused : Bool
  loops : List LoopFrame
  executed : Nat
  budget : Nat
  timeout : Nat
  reqs : List DmaReq
  nextId : Nat
  lastWr : Nat
  work : Option DmaWork
  wait : Option DmaWait
  wantEvent : Bool
deriving DecidableEq, Repr

/-- An AVSBus change that has not settled (R488): rail, old and new setpoint in mV, the tick of its write, writes made again, and the
supervisor's own last sample of the rail since that write, mV. -/
structure AvsChange where
  rail : Nat
  old : Nat
  new : Nat
  tb : Nat
  tries : Nat
  sample : Option Nat
deriving DecidableEq, Repr

/-- A silicon reckoning in progress (R486, R487, R489): rails not yet re-planned, rails skipped as bits of its detail, whether a
rail was held at its maximum, whether an AVSBus write has been made, and whether it re-plans from 0 steps. -/
structure SiRun where
  todo : List Nat
  skipped : Nat
  held : Bool
  wrote : Bool
  fresh : Bool
deriving DecidableEq, Repr

/-- A limit of R491: seconds above it, event told, seconds below the rearm temperature. -/
structure Heat where
  above : Nat
  told : Bool
  below : Nat
deriving DecidableEq, Repr

/-- The AVS controller, the monitors and the tally's working state (R476 to R491): setpoints in force of rails 0 and 1, the change
that settles, writes waiting (rail, urgent), the reckoning, per monitor its samples of the last 24 h that may yet be the
least, monitors whose last sample was below half the margin, ticks of urgent raises, the tick of the last reset, the budget of
the last latch, the two heat limits, whether event 1002 is told, tally elements that hold a sample (MRAM), and the harvest
image being built. -/
structure Silicon where
  set : Map Nat
  busy : Option AvsChange
  queue : List (Nat × Bool)
  run : Option SiRun
  win : Map (List (Nat × Int))
  low : List Nat
  urgent : Map Nat
  winTb : Nat
  budget : Nat
  hot : Heat
  hotter : Heat
  oldTold : Bool
  seen : List Nat
  harvest : Bytes
deriving DecidableEq, Repr

/-- What leaves the block, in the order in which it leaves: the model's own record of its outputs. -/
inductive Out where
  | rsp (sid : Nat) (via : Transport) (peer : Bytes) (seq : Nat) (reply : Nat) (body : Rsp)
  | blobData (sid tid off : Nat) (data : Bytes)
  | blobAck (sid tid status off : Nat)
  | notify (sid nseq lost : Nat) (recs : List EvRec)
  | ptpCores (port : Nat) (m : PtpMsg) (stamp : Nat)
  | ptpSent (port : Nat) (m : PtpMsg) (stamp : Option Nat)
  | ptpForward (port : Nat) (m : PtpMsg)
  | trigger (t : Nat) (level : Bool)
  | link (rod seq time : Nat) (epoch : Nat) (active : Bool) (f : DnFrame)
  | tx (rod : Nat) (words : List Nat)
  | pair (frame : Bytes)
  | coreLine (line : Nat) (on : Bool)
  | islandLine (line : Nat)
  | frame (port : Nat) (bytes : Bytes)
  | hostFrame (port bytes : Nat)
  | report (port : Nat) (v6 : Bool) (version : Nat) (kind : Nat) (group : Bytes) (sources : List Bytes)
  | rtp (port : Nat) (mac dest : Bytes) (udp dscp : Nat) (bytes : Bytes)
  | confSeq (enc : Nat) (s : ConfSeq)
  | datagram (udp : Nat) (via : Transport) (peer : Bytes) (bytes : Bytes)
  | avs (rail mv : Nat)
  | xspi (octal : Bool) (mhz addr len : Nat)
  | memRsp (port : Nat) (ok : Bool) (data : Bytes)
  | busError (addr : Nat)
  | softRepair (pc bank row : Nat)
deriving DecidableEq, Repr

/-- Everything the block holds but its clock and its queue of commands. `num` and `blob` are the dictionary's stored
values (numbers, and byte strings), by index times 256 plus sub-index, in canonical form against the defaults; `mem` is
HBM; `out` and `free` are the model's own: what has left the block, and how many free values have been taken. -/
structure Body where
  num : Map Int
  blob : Map Bytes
  mem : List Host.Cell
  tu : TimeUnit
  ev : EventUnit
  dict : Dict
  mbox : Mailbox
  ops : Map OpRun
  seq : Seq
  beads : Beads
  lay : Layers
  cor : Corr
  rods : Map Rod
  tiles : Map Tile
  pans : Map Pan
  media : Media
  hbm : Hbm
  dma : Map DmaCh
  pair : Pair
  flt : Fault1
  si : Silicon
  dev : Device
  out : List Out
  free : Nat
deriving DecidableEq, Repr

/-- The state: the clock, the rest, and the commands waiting, first in first out (the model's own queue). -/
structure State where
  clk : Clock
  b : Body
  pending : List Instr
deriving DecidableEq, Repr

/-- Faults: none. The spec gives every command an effect, so no meaning stops; the one constructor stands for an access
that no meaning of this model makes, and stopping on it would be safe. -/
inductive Fault where
  | unreachable
deriving DecidableEq, Repr

/-- Refusals. `notModelled` is raised by an arm of `exec` whose command has no meaning yet (safe: the machine stops). -/
inductive Refusal where
  | notModelled (mnemonic : String)
deriving DecidableEq, Repr

/-- The wall clock at reset: zero, nominal increment (R34). -/
def Clock.reset : Clock := ⟨0, 0, 0, 2199023255552, 0⟩

/-- A trigger at reset: no pulse, its output low (R501). -/
def Trig.reset : Trig := ⟨none, 0, none, false, [], []⟩

/-- A capture input before its first level is taken. -/
def Capture.reset : Capture := ⟨false, false, none, 0, 0⟩

/-- The default timing mode (R212, R54). -/
def Mode.reset : Mode :=
  ⟨8, 1, [0, 0, 0, 0, 0, 0, 0, 0], [0, 0, 0, 0, 0, 0, 0, 0], 0, 4, 2, 0x10000⟩

/-- Slicer settings at reset (R295). -/
def Slicer.reset : Slicer := ⟨0, 0, [0, 0, 0, 0, 0]⟩

/-- A receiver that has seen no word; its descrambler begins at 0 (DESIGN CHOICE; log entry 15). -/
def UpMon.reset : UpMon := ⟨0, 0, []⟩

/-- A rod at reset: down, nothing waiting. Its scrambler and the number of its first frame are 0 (R216, R222; DESIGN CHOICE, log entry 15). -/
def Rod.reset : Rod :=
  { txq := [], inSet := none, seqDn := 0, lastToken := 0, tokenDue := false, lock := false, lockLost := none,
    sleepTb := none, waking := false, upEnd := 0, upWall := 0, phase := .idle, tb := 0, target := 0, from_ := 0,
    enumr := none, enumq := [], reports := [], paths := [Slicer.reset, Slicer.reset], rx := none, tx := none, passes := 0,
    cmdSeq := 0, echoId := 0, rateRef := 0, ratePrev := 0, used := false, rush := false,
    slept := 0, taps := [0, 0], scr := 0, up := UpMon.reset, held := [], echoTb := 0 }

/-- A tile of which nothing is known. -/
def Tile.reset : Tile :=
  { cap := [], tele := [], trim := 0, trimHeld := none, rtt := 0, turn := 0, ldn := 0, lup := 0, echo := none,
    measured := false, hold := false, serial := none, lastUp := 0, upSeq := none, silent := false, awake := false, cmd := none,
    cmdq := [], faults := [], sets := [], commits := [], thermCount := 0, thermSum := 0, resetDose := false,
    bothFresh := false }

/-- A pan at reset. -/
def Pan.reset : Pan := ⟨[], [], false, 0, none⟩

/-- The pairing unit at reset: ACTIVE_N released (R501). -/
def Pair.reset : Pair :=
  { txSeq := 1, unacked := [], backlog := [], rxNext := 1, early := [], gap := none, lastRx := 0, order := 0, done := 0, twinDev := 0,
    twinDoubt := 0, twinEpoch := 0, twinLatched := 0, timeRx := none, drive := false, released := none,
    latches := [], decs := [], sigOwn := [], sigTwin := [], attribs := [],
    joinBad := none, good := 0, goodN := 0, handover := none, offBad := none, completed := none, snap := [], snapOv := [], snapPan := [], snapOut := 0, applied := false,
    shadow := [], shadowB := [], latchWait := none, commits := [], joined := false, toldOut := false, reported := [], part := [] }

/-- The media block at reset. -/
def Media.reset : Media :=
  { enc := [], confLast := [], rx := [], streams := [], rank := 0, compat := [], modes := [], unjoin := [], queries := [], mods := [], hops := [], waiting := [],
    host := [] }

/-- The controllers at reset: untrained, the default order and sizes. -/
def Hbm.reset : Hbm := ⟨2, [12288, 6144, 16384], [], [], [], [], 0, [], 0, [], [], none, none⟩

/-- A pseudo-channel with nothing queued. -/
def PseudoCh.reset : PseudoCh := ⟨[], [], [], 0, [], [], 0⟩

/-- A DMA channel at reset: IDLE. -/
def DmaCh.reset : DmaCh := ⟨0, 0, false, [], 0, 0, 0, [], 0, 0, none, none, false⟩

/-- The AVS controller and monitors at reset: boot voltage, no sample, no step. -/
def Silicon.reset : Silicon :=
  { set := [], busy := none, queue := [], run := none, win := [], low := [], urgent := [], winTb := 0, budget := 12079595520,
    hot := ⟨0, false, 0⟩, hotter := ⟨0, false, 0⟩, oldTold := false, seen := [], harvest := [] }

/-- An encoder at reset. -/
def Enc.reset : Enc :=
  { jobs := [], count := 0, idr := true, w := 0, h := 0, meanI := 0, meanP := 0, usedI := 0, usedP := 0, budI := 0, budP := 0,
    hadI := false, hadP := false, debits := [], rtp := 0, field := [], recon := [] }

/-- The body at the assertion of a power-on reset in a part whose MRAM holds nothing yet (R500, R501). -/
def Body.reset : Body :=
  { num := [], blob := [], mem := [],
    tu := ⟨[], none, [], [], []⟩,
    ev := ⟨[], 0, [], 0, 0, 0, 0, []⟩,
    dict := ⟨[], [], 0, 0, [], [], []⟩,
    mbox := ⟨0, 0, [], 0, 0, [], []⟩,
    ops := [],
    seq := ⟨Mode.reset, none, none, false, 0, [], [], none⟩,
    beads := ⟨[], [], [], [], [], 191, [], [], [], true, none, 0⟩,
    lay := ⟨[], 0, ⟨[], []⟩, [], [], [], [], [], [], [], []⟩,
    cor := ⟨[], [], [], [], [], [], [], 0, []⟩,
    rods := [], tiles := [], pans := [],
    media := Media.reset, hbm := Hbm.reset, dma := [],
    pair := Pair.reset,
    flt := ⟨[], [], [], [], [], none, false⟩,
    si := Silicon.reset,
    dev := ⟨some 1, none, 0, 0, [], 0, none, ⟨none, none, 0, none⟩, 0, false, false, false, false, true, none, [], false, [], [], [], [], [], []⟩,
    out := [], free := 0 }

/-- The machine at reset: a power-on reset asserted, the device OFF (R500), the queue empty. -/
def State.reset : State := ⟨Clock.reset, Body.reset, []⟩

end Sys2Proof.Machine
end

