-- ==== Sys2Proof/Machine/PairWire.lean ====
section
/-! DEFINITION. The wire form of the pairing link: values, message bodies, the header and the Ethernet frame (R10, R403, R450 to R452). -/

namespace Sys2Proof

/-- Type codes (R403). -/
def Ty.code : Ty → Nat
  | .bool => 1 | .u8 => 2 | .u16 => 3 | .u32 => 4 | .u64 => 5 | .i16 => 6 | .i32 => 7 | .i64 => 8 | .q16 => 9
  | .f32 => 10 | .wtime => 11 | .str => 12 | .blob => 13 | .oper => 14

/-- Bytes of a fixed-size type; 0 for STR and BLOB. -/
def Ty.size : Ty → Nat
  | .bool => 1 | .u8 => 1 | .u16 => 2 | .u32 => 4 | .u64 => 8 | .i16 => 2 | .i32 => 4 | .i64 => 8 | .q16 => 4
  | .f32 => 4 | .wtime => 10 | .str => 0 | .blob => 0 | .oper => 1

end Sys2Proof

namespace Sys2Proof.Machine

/-- A value on the wire (R403). -/
def encodeVal (t : Ty) : Val → Bytes
  | .n v =>
    match t with
    | .wtime => be 6 (v.toNat / 1000000000) ++ be 4 (v.toNat % 1000000000)
    | .str => [0]
    | .blob => [0, 0]
    | _ => be t.size (ofSigned (8 * t.size) v)
  | .b s => if t = .str then be 1 s.length ++ s else be 2 s.length ++ s

/-- A part of a snapshot on the wire: entries, then overrides, then pans, each with its count. The layout is the model's own (log entry 64). -/
def snapBytes (es : List (Nat × Val)) (os : List (Nat × Nat × Nat × Nat)) (ps : List (Nat × Nat × Nat)) : Bytes :=
  be 2 es.length ++ (es.map (fun q => be 6 q.1 ++ (match q.2 with
    | .n v => be 1 0 ++ be 8 (ofSigned 64 v)
    | .b s => be 1 1 ++ be 2 s.length ++ s))).flatten ++
  be 2 os.length ++ (os.map (fun o => be 4 o.1 ++ be 1 o.2.1 ++ be 8 o.2.2.1 ++ be 8 o.2.2.2)).flatten ++
  be 2 ps.length ++ (ps.map (fun p => be 2 p.1 ++ be 1 p.2.1 ++ be 1 p.2.2)).flatten

/-- Type and body of a message of the pairing link (R452). -/
def PairMsg.wire : PairMsg → Nat × Bytes
  | .status ps dev doubt epoch latched highest =>
    (0x01, be 1 ps ++ be 1 dev ++ be 1 doubt ++ be 1 0 ++ be 4 epoch ++ be 8 latched ++ be 4 highest)
  | .demote cause => (0x02, be 1 cause)
  | .ack highest => (0x03, be 4 highest)
  | .time t1 t2 t3 t4 => (0x04, be 8 t1 ++ be 8 t2 ++ be 8 t3 ++ be 8 t4)
  | .write order idx sub ty v => (0x10, be 8 order ++ be 2 idx ++ be 1 sub ++ be 1 ty.code ++ encodeVal ty v)
  | .commit order n => (0x11, be 8 order ++ be 8 n)
  | .latch n order crc => (0x12, be 8 n ++ be 8 order ++ be 8 crc)
  | .decision d => (0x13, be 8 d.n ++ be 1 d.layer ++ be 1 d.kind ++ be 2 d.epoch ++ be 1 d.content ++ be 1 d.srcKind ++ be 1 d.srcNum ++
      encodeVal .wtime (.n (d.pt : Nat)) ++ be 8 d.sig)
  | .seal n count => (0x14, be 8 n ++ be 2 count)
  | .operation idx cmd args => (0x15, be 2 idx ++ be 1 cmd ++
      (args.map (fun a => encodeVal (((lookup idx a.1).map (fun t => t.ty)).getD .u8) (.n a.2))).flatten)
  | .result first lamps final => (0x16, be 4 first ++ be 2 lamps.length ++
      (lamps.map (fun l => be 2 l.1 ++ be 2 l.2.1 ++ be 2 l.2.2.1 ++ be 1 l.2.2.2)).flatten ++ (match final with
        | some x => be 2 x.1 ++ be 4 x.2
        | none => []))
  | .pan p rod pos action => (0x17, be 1 p ++ be 1 rod ++ be 1 pos ++ be 1 action)
  | .override lamp flags n => (0x18, be 4 lamp ++ be 1 flags ++ be 8 n)
  | .signature n first rods => (0x20, be 8 n ++ be 1 first ++ be 1 rods.length ++ (rods.map (fun r => be 8 r.1 ++ be 1 r.2)).flatten)
  | .attrib n rod res => (0x21, be 8 n ++ be 1 rod ++ be 1 res)
  | .snapshot off es os ps last => (0x30, be 4 off ++ (if last then [] else snapBytes es os ps))
  | .join n => (0x31, be 8 n)
  | .handover n => (0x32, be 8 n)

/-- A message with its header (R451): big-endian, reserved fields 0. -/
def pairBytes (seq : Nat) (active : Bool) (t64 : Nat) (m : PairMsg) : Bytes :=
  be 1 m.wire.1 ++ be 1 (b2n active) ++ be 2 m.wire.2.length ++ be 4 seq ++ be 8 t64 ++ m.wire.2

/-- The frame check sequence of Ethernet, CRC-32, as it leaves. -/
def ethFcs (bs : Bytes) : Bytes := le 4 (Nat.xor (crcFold 0xEDB88320 bs 0xFFFFFFFF) 0xFFFFFFFF)

/-- A message as one Ethernet frame: both MAC addresses zero, EtherType 0x88B5, the check sequence (R450). A frame shorter than Ethernet's least
is filled with zeros (PRESUMED; log entry 29). -/
def pairFrame (seq : Nat) (active : Bool) (t64 : Nat) (m : PairMsg) : Bytes :=
  let f := be 12 0 ++ be 2 0x88B5 ++ pairBytes seq active t64 m
  let g := fit 0 (Nat.max 60 f.length) f
  g ++ ethFcs g

end Sys2Proof.Machine
end

