-- ==== Sys2Proof/Machine/Ops.lean ====
section
/-! DEFINITION. The named operations over registers, memory, events, operations, rods and the device state. -/

namespace Sys2Proof.Machine

/-! ## Time -/

/-- What effects read of the clock. -/
def State.env (s : State) : Env := ⟨s.clk.sec * 1000000000 + s.clk.ns, s.clk.tb, s.clk.frac, s.clk.incr⟩

/-- The answer of a meaning that changes the body alone. -/
def State.act (s : State) (f : Body → Body) : Host.Outcome State Fault Refusal := .next { s with b := f s.b }

/-- t64 (R45). -/
def Env.t64 (e : Env) : Nat := e.wt % 2 ^ 64

/-- The signed difference of two times modulo 2^64 (R45). -/
def tdiff (a b : Int) : Int := Int.bmod (a - b) (2 ^ 64)

/-- Time a is earlier than time b (R45). -/
def earlier (a b : Int) : Bool := decide (tdiff a b < 0)

/-- The wall time that clock domain d's follower reads: within 2 ns of the master, as a free value says (R26; log entry 82). -/
def Env.follow (e : Env) (d : Nat) : Nat := ((e.wt : Int) + Int.bmod (Config.followerSkew d e.tb) 5).toNat

/-- The environment as clock domain d's follower reads the time (R26). -/
def Env.inDomain (e : Env) (d : Nat) : Env := { e with wt := e.follow d }

/-- The wall clock reads the instant or later (R51). -/
def Env.reached (e : Env) (t : Int) : Bool := decide (0 ≤ tdiff e.wt t)

/-- The full time of a 32-bit link time (R46). -/
def time32 (e : Env) (x : Nat) : Int := (e.wt : Int) + Int.bmod ((x : Int) - (e.wt : Int)) (2 ^ 32)

/-- More than n ns have passed since tick t (R415, R532). -/
def Env.beyond (e : Env) (t ns : Nat) : Bool := decide (t * 2 + ns < e.tb * 2)

/-- n ns have passed since tick t (R532). -/
def Env.after (e : Env) (t ns : Nat) : Bool := decide (t * 2 + ns ≤ e.tb * 2)

/-! ## Registers -/

/-- Latency target of a memory port, ns (R368). -/
def qosTarget (q : Nat) : Int := [0, 0, 0, 500, 1000, 2000, 1000, 2000, 2000, 4000, 1000, 1000].getD q 0

/-- Domain of path-delay monitor m (R483). -/
def monitorDomain (m : Nat) : Nat :=
  if m < 40 then 56 else if m < 56 then 57 else if m < 66 then 58 else if m < 74 then 54 + (m - 66) / 4
  else if m < 80 then m - 26 else if m < 92 then 4 * (m - 80) else 59

/-- Default of a number entry: the table's, and those that vary along an array. -/
def dflt (idx sub : Nat) : Int :=
  if sub = 0 then
    if idx = 0x0100 ∨ idx = 0x0102 ∨ idx = 0x0103 ∨ idx = 0x0104 ∨ idx = 0x0105 then Config.fusedNum (key idx sub)
    else ((lookup idx sub).map (fun t => t.dflt)).getD 0
  else if idx = 0x0C20 then (sub - 1 : Nat)
  else if idx = 0x1008 ∨ idx = 0x1009 then (if sub % 4 = 1 then 0x4000 else 0)
  else if idx = 0x0B4D then (if (sub - 1) % 9 % 4 = 0 then 0x4000 else 0)
  else if 0x0300 ≤ idx ∧ idx < 0x0308 then evtConfigDefault ((idx - 0x0300) * 128 + sub - 1)
  else if idx = 0x0832 ∨ idx = 0x0833 then (Config.portLatency (key idx sub)).toNat
  else if idx = 0x1808 then (if sub ≤ 3 then 0 else if sub ≤ 12 then 1 else 2)
  else if idx = 0x180A then qosTarget (sub - 1)
  else if idx = 0x1D02 then monitorDomain (sub - 1)
  else if idx = 0x1D03 then Config.fusedNum (key idx sub)
  else ((lookup idx sub).map (fun t => t.dflt)).getD 0

/-- The stored value of a number entry. -/
def Body.reg (b : Body) (idx sub : Nat) : Int := mgetD (dflt idx sub) (key idx sub) b.num

/-- The stored value of an unsigned entry. -/
def Body.regN (b : Body) (idx sub : Nat) : Nat := (b.reg idx sub).toNat

/-- The value in force of a Reset-class entry (R363, R404). -/
def Body.force (b : Body) (idx sub : Nat) : Int :=
  if idx = 0x1800 then (b.hbm.order : Nat)
  else if 0x1801 ≤ idx ∧ idx ≤ 0x1803 then (b.hbm.sizes.getD (idx - 0x1801) 0 : Nat)
  else mgetD (dflt idx sub) (key idx sub) b.dev.force

/-- The value in force of an unsigned Reset-class entry. -/
def Body.forceN (b : Body) (idx sub : Nat) : Nat := (b.force idx sub).toNat

/-- Store a number entry. -/
def Body.setReg (b : Body) (idx sub : Nat) (v : Int) : Body :=
  { b with num := mputD (dflt idx sub) (key idx sub) v b.num }

/-- The stored value of a byte-string entry; empty by default. -/
def Body.str (b : Body) (idx sub : Nat) : Bytes := mgetD [] (key idx sub) b.blob

/-- Store a byte-string entry. -/
def Body.setStr (b : Body) (idx sub : Nat) (v : Bytes) : Body :=
  { b with blob := mputD [] (key idx sub) v b.blob }

/-- Add n to a diagnostic rate counter, which wraps (R479). -/
def Body.bump (b : Body) (idx sub n : Nat) : Body := b.setReg idx sub (((b.regN idx sub + n) % 2 ^ 32 : Nat))

/-- A free value of the spec: the next of an uninterpreted sequence (log entry 1). -/
def Body.freeNat (b : Body) : Nat := Config.freeNum b.free

/-- The counter of free values advanced. -/
def Body.tookFree (b : Body) (n : Nat) : Body := { b with free := b.free + n }

/-- A quotient whose rounding the spec does not state: rounded down or up, as a free value says (log entry 8). -/
def Body.looseDiv (b : Body) (n : Int) (d : Nat) : Int := (n + (b.freeNat % d : Nat)) / d

/-- Append what leaves the block. -/
def Body.emit (b : Body) (o : Out) : Body := { b with out := b.out ++ [o] }

/-! ## Device states (R15, R529) -/

abbrev devOff : Nat := 0
abbrev devBoot : Nat := 1
abbrev devVerified : Nat := 2
abbrev devMemory : Nat := 3
abbrev devLinked : Nat := 4
abbrev devWarm : Nat := 5
abbrev devLive : Nat := 6
abbrev devSafe : Nat := 7
abbrev devFrozen : Nat := 8

/-- `dev.state`. -/
def Body.devState (b : Body) : Nat := b.regN 0x010A 0

/-- The device is LIVE. -/
def Body.live (b : Body) : Bool := b.devState == devLive

/-- The output SAFE_N is driven low (R502). -/
def Body.safeLow (b : Body) : Bool := !(b.devState == devLinked || b.devState == devWarm || b.devState == devLive)

/-! ## Events (R429 to R435) -/

/-- Configuration of source s. -/
def Body.evCfg (b : Body) (s : Nat) : Nat := b.regN (0x0300 + s / 128) (s % 128 + 1)

/-- A value of a session's own (R407). -/
def Session.reg (x : Session) (idx sub : Nat) : Int := mgetD (dflt idx sub) (key idx sub) x.own

/-- Records a session holds, gathered or sent (R435). -/
def Session.holds (x : Session) : Nat := x.gather.length + (x.sent.map (fun n => n.recs.length)).foldl (· + ·) 0

/-- The session wants records of this source and severity (R435). -/
def Session.wants (x : Session) (src sev : Nat) : Bool :=
  decide (x.reg 0x0210 0 ≤ sev) && bit (x.reg 0x0211 (src / 64 + 1)).toNat (src % 64)

/-- Offer a record to one session: queued, or refused and counted when 64 are held (R435). -/
def Session.offer (tb : Nat) (r : EvRec) (x : Session) : Session :=
  if x.wants r.src r.sev then
    if x.holds < 64 then
      { x with gather := x.gather ++ [r], gatherTb := some (x.gatherTb.getD tb) }
    else { x with lost := x.lost + 1 }
  else x

/-- Some session refuses the record for a full queue. -/
def Dict.full (d : Dict) (r : EvRec) : Bool := d.sess.any (fun p => p.2.wants r.src r.sev && decide (64 ≤ p.2.holds))

/-- A source limited to once per second may be raised now. -/
def Body.mayMark (b : Body) (e : Env) (mark : Nat) : Bool :=
  match mfind mark b.ev.marks with
  | none => true
  | some t => e.after t 1000000000

/-- Note the tick of a raise limited in rate. -/
def Body.mark (b : Body) (e : Env) (mark : Nat) : Body :=
  { b with ev := { b.ev with marks := minsert mark e.tb b.ev.marks } }

/-- Deliver a record to the history of the safety island: record i stands at place i mod 256, as in the ring of R433 (R434). -/
def Body.toIsland (b : Body) (line : Nat) (r : EvRec) : Body :=
  let h := b.ev.history
  let x : EvRec := { r with line := line }
  { b with ev := { b.ev with history := if h.length < 256 then h ++ [x] else setAt h b.ev.histNext x,
                             histNext := (b.ev.histNext + 1) % 256 },
           out := b.out ++ [.islandLine line] }

/-- Deliver a record to the core ring (R433); a full ring drops it. -/
def Body.toCores (b : Body) (r : EvRec) : Body :=
  if b.ev.evWrite - b.ev.evRead = 252 then { b with ev := { b.ev with evLost := (b.ev.evLost + 1) % 2 ^ 32 } }
  else
    { b with
      ev := { b.ev with
        ring := (b.ev.ring ++ [r]).drop (b.ev.ring.length + 1 - 252)
        evWrite := b.ev.evWrite + 1
        linePending := setBit b.ev.linePending r.line true }
      out := b.out ++ [.coreLine r.line true] }

/-- Channels that WAIT for source s have seen it raised (R391). -/
def Body.waitSeen (b : Body) (s : Nat) : Body :=
  { b with dma := b.dma.map (fun (p : Nat × DmaCh) => (p.1, match p.2.wait with
      | some w => if w.mode = 0 ∧ w.src = s then { p.2 with wait := some { w with met := true } } else p.2
      | none => p.2)) }

/-- A source raised, with at most `fuel` raises that follow from it (38 and 39). A disabled source records and delivers nothing, but the
channels that wait for it see it raised (R391, R429). -/
def raiseN : Nat → Env → Nat → Nat → Body → Body
  | 0, _, _, _, b => b
  | fuel + 1, e, s, det, b =>
    let c := b.evCfg s
    if bit c 31 then
      let n := Nat.min (b.regN (0x0308 + s / 128) (s % 128 + 1) % 65536 + 1) 0xFFFF
      let b1 := (b.waitSeen s).setReg (0x0308 + s / 128) (s % 128 + 1) (2 ^ 31 + n : Nat)
      let r : EvRec := ⟨e.t64, s, field c 27 26, field c 17 12, det % 65536, n⟩
      let b2 := if bit c 25 then b1.toIsland (field c 23 20) r else b1
      let b3 :=
        if bit c 19 then
          if b2.ev.evWrite - b2.ev.evRead = 252 && b2.mayMark e 39 then
            raiseN fuel e 39 0 ((b2.toCores r).mark e 39)
          else b2.toCores r
        else b2
      if bit c 30 then
        let overrun := b3.dict.full r
        let b4 := { b3 with dict := { b3.dict with sess := b3.dict.sess.map (fun p => (p.1, p.2.offer e.tb r)) } }
        if overrun && s != 38 then raiseN fuel e 38 0 b4 else b4
      else b3
    else b.waitSeen s

/-- Raise source s with a detail (R429); sources are 0 to 1,023. -/
def Body.raise (b : Body) (e : Env) (s det : Nat) : Body := if s < 1024 then raiseN 3 e s det b else b

/-- Raise source s at most once per second. -/
def Body.raiseSlow (b : Body) (e : Env) (mark s det : Nat) : Body :=
  if b.mayMark e mark then (b.mark e mark).raise e s det else b

/-- Set sticky cause bits of a cause entry; its event is raised when a bit was clear, with those bits as detail (R429). -/
def Body.setCause (b : Body) (e : Env) (idx sub bits ev : Nat) : Body :=
  let old := b.regN idx sub
  let all := Nat.lor old bits
  if all = old then b else (b.setReg idx sub (all : Nat)).raise e ev (all - old)

/-- Set cause bits of rod n's link (R265). -/
def Body.linkCause (b : Body) (e : Env) (n bitNo : Nat) : Body := b.setCause e 0x1209 (n + 1) (2 ^ bitNo) (384 + n)

/-- Set cause bits of rod n's lane (R296). -/
def Body.laneCause (b : Body) (e : Env) (n bitNo : Nat) : Body := b.setCause e 0x130F (n + 1) (2 ^ bitNo) (576 + n)

/-- Set cause bits of layer l (R145). -/
def Body.layerCause (b : Body) (e : Env) (l bitNo : Nat) : Body := b.setCause e 0x0C1B (l + 1) (2 ^ bitNo) (256 + l)

/-- Add n to a lifetime counter of the tally, which saturates (R474, R479). -/
def Body.tally (b : Body) (e : Env) (rec sub n : Nat) : Body :=
  let v := b.regN (0x1C00 + rec) sub + n
  if v < 2 ^ 64 then b.setReg (0x1C00 + rec) sub (v : Nat)
  else
    let b1 := b.setReg (0x1C00 + rec) sub (2 ^ 64 - 1 : Nat)
    if bit (b1.regN 0x1C10 0) rec then b1
    else (b1.setReg 0x1C10 0 (Nat.lor (b1.regN 0x1C10 0) (2 ^ rec) : Nat)).raise e 976 rec

/-- Enter a device state (R509). -/
def Body.enter (b : Body) (e : Env) (st : Nat) : Body :=
  ((b.setReg 0x010A 0 (st : Nat)).setReg 0x010C 0 (e.wt : Nat)).raise e 0 st

/-! ## Memory (R30, R31) -/

/-- HBM holds 48 GiB (R5). -/
abbrev hbmSize : Nat := 48 * 2 ^ 30

/-- The byte at an address; an address never written reads 0 (R380). -/
def Body.byte (b : Body) (a : Nat) : Byte := mgetD 0 a b.mem

/-- The canonical form of memory: addresses strictly rising, no entry equal to what an unlisted address reads as. -/
abbrev Memory.wf (m : List Host.Cell) : Bool := mwf 0 m

/-- Write consecutive bytes into memory. -/
def memStore : List Host.Cell → Nat → Bytes → List Host.Cell
  | m, _, [] => m
  | m, a, v :: vs => memStore (mputD 0 a v m) (a + 1) vs

/-- Store consecutive bytes. -/
def Body.store (b : Body) (a : Nat) (bs : Bytes) : Body := { b with mem := memStore b.mem a bs }

/-- Zero n bytes from an address. -/
def Body.zeroMem (b : Body) (a n : Nat) : Body :=
  { b with mem := b.mem.filter (fun c => !(decide (a ≤ c.1) && decide (c.1 < a + n))) }

/-- Consecutive bytes from an address. -/
def Body.bytes (b : Body) (a n : Nat) : Bytes := (upFrom a n).map b.byte

/-- The regions of R30, in order: number and size in bytes under the sizes in force. -/
def Body.regions (b : Body) : List (Nat × Nat) :=
  [(1, 512 * 2 ^ 20), (2, 1536 * 2 ^ 20), (3, 1536 * 2 ^ 20), (4, 576 * 2 ^ 20), (5, 2 ^ 30),
   (6, b.forceN 0x1801 0 * 2 ^ 20), (7, b.forceN 0x1802 0 * 2 ^ 20), (8, b.forceN 0x1803 0 * 2 ^ 20)]

/-- The region of an address: its number and base; none beyond the last. -/
def regionAt : List (Nat × Nat) → Nat → Nat → Option (Nat × Nat)
  | [], _, _ => none
  | (k, sz) :: rs, base, a => if a < base + sz then some (k, base) else regionAt rs (base + sz) a

/-- Base address of region k. -/
def regionBase : List (Nat × Nat) → Nat → Nat → Nat
  | [], _, base => base
  | (j, sz) :: rs, k, base => if j = k then base else regionBase rs k (base + sz)

/-- Base of region k under the sizes in force. -/
def Body.base (b : Body) (k : Nat) : Nat := regionBase b.regions k 0

/-- The firewall's grant (R31) of a whole region: agent, region, write. What it grants a part of, `grantedPart` judges. -/
def granted (a : Agent) (k : Nat) (w : Bool) : Bool :=
  match a, k with
  | .island, 5 => !w
  | .island, 7 => !w
  | .island, _ => true
  | .cores, 8 => true
  | .engines, 1 => !w
  | .engines, 2 => !w
  | .engines, 3 => !w
  | .engines, 4 => !w
  | .engines, 5 => true
  | .engines, 6 => !w
  | .media, 6 => w
  | .media, 7 => true
  | .scalers, 6 => true
  | .rods, 4 => true
  | .rods, 5 => !w
  | _, _ => false

/-- Every byte of an access to the System region lies in one part of it (log entry 83). -/
def inPart (part a n : Nat) : Bool := (upFrom a n).all (fun x => Config.systemPart x == part)

/-- The firewall's grant of a part of a region (R31): engines write the confidence canvas, and a correction generation while
`op.reckon` builds it; rods read rod maps. -/
def Body.grantedPart (b : Body) (ag : Agent) (k a n : Nat) (w : Bool) : Bool :=
  match ag, k with
  | .engines, 1 => w && inPart 1 a n
  | .engines, 2 => w && b.regN 0x0415 2 == 1 && b.regN 0x1000 1 == 1
  | .engines, 3 => w && b.regN 0x0415 2 == 1 && b.regN 0x1000 2 == 1
  | .rods, 1 => !w && inPart 2 a n
  | _, _ => false

/-- The whole access lies in one region that grants it, or grants the part of itself that the access lies in. An access across two regions is
refused, though both grant it (DESIGN CHOICE; log entry 96). -/
def Body.allowed (b : Body) (ag : Agent) (a n : Nat) (w : Bool) : Bool :=
  match regionAt b.regions 0 a, regionAt b.regions 0 (a + n - 1) with
  | some (k, _), some (j, _) => decide (k = j) && decide (0 < n) && (granted ag k w || b.grantedPart ag k a n w)
  | _, _ => false

/-- HBM holds values: trained, and not frozen (R377, R380). -/
def Body.memUp (b : Body) : Bool :=
  let st := b.devState
  decide (devMemory ≤ st) && decide (st ≠ devFrozen)

/-! ## Operations (R426, R427) -/

/-- State of operation idx: 0 IDLE, 1 RUNNING, 2 SUSPENDED, 3 CANCELLING, 4 DONE, 5 FAILED. -/
def Body.opState (b : Body) (idx : Nat) : Nat := b.regN idx 2

/-- The operation is in use: a start is BUSY. -/
def Body.opBusy (b : Body) (idx : Nat) : Bool := b.opState idx == 1 || b.opState idx == 2 || b.opState idx == 3

/-- Copy of the arguments of operation idx. -/
def Body.opArgs (b : Body) (idx : Nat) : Map Int := b.num.filter (fun p => p.1 / 256 == idx && decide (0x10 ≤ p.1 % 256))

/-- The argument block of operation idx: every argument with its value, in the order of its sub-indices (R426, R452). -/
def Body.argBlock (b : Body) (idx : Nat) : List (Nat × Int) :=
  (upFrom 0x10 0x30).filterMap (fun j =>
    match lookup idx j with
    | some t => if t.access = .rw then some (j, b.reg idx j) else none
    | none => none)

/-- A start whose checks pass (R427). -/
def Body.opBegin (b : Body) (e : Env) (idx slot : Nat) (rods : List Nat) : Body :=
  let b1 := ((((((b.setReg idx 2 1).setReg idx 3 0).setReg idx 4 0).setReg idx 5 0).setReg idx 6 (e.wt : Nat)).setReg idx 8
    (slot : Nat)).bump idx 9 1
  { b1 with ops := minsert idx ⟨b.opArgs idx, 0, e.tb, rods⟩ b1.ops }

/-- A start whose check fails with `code` (R427). -/
def Body.opRefuse (b : Body) (e : Env) (idx code det : Nat) : Body :=
  ((((b.setReg idx 2 5).setReg idx 4 (code : Nat)).setReg idx 5 (det : Nat)).setReg idx 7 (e.wt : Nat)).raise e 42 idx

/-- The operation ends: DONE with OK or PARTIAL, or FAILED with a result, how far it came then being free (log entry 24). -/
def Body.opFinish (b : Body) (e : Env) (idx : Nat) (ok : Bool) (code det : Nat) : Body :=
  let b1 := (((b.setReg idx 2 (if ok then 4 else 5)).setReg idx 4 (code : Nat)).setReg idx 5 (det : Nat)).setReg idx 7 (e.wt : Nat)
  let b2 := { (if ok then b1.setReg idx 3 1000 else (b1.setReg idx 3 (b1.freeNat % 1001 : Nat)).tookFree 1) with ops := merase idx b1.ops }
  b2.raise e (if ok then 41 else 42) idx

/-- The work of an operation ends with a result; one in CANCELLING ends FAILED with CANCELLED, whatever its result would have been (R427). -/
def Body.opEnd (b : Body) (e : Env) (idx : Nat) (ok : Bool) (code det : Nat) : Body :=
  if b.opState idx = 3 then b.opFinish e idx false 2 0 else b.opFinish e idx ok code det

/-- Argument `sub` of the running operation, as copied at its start. -/
def Body.opArg (b : Body) (idx sub : Nat) : Int :=
  mgetD (dflt idx sub) (key idx sub) ((mfind idx b.ops).map (fun o => o.args) |>.getD [])

/-! ## Rods, tiles and pans -/

/-- Rod n. -/
def Body.rod (b : Body) (n : Nat) : Rod := mgetD Rod.reset n b.rods

/-- Replace rod n. -/
def Body.setRod (b : Body) (n : Nat) (r : Rod) : Body := { b with rods := mputD Rod.reset n r b.rods }

/-- Change rod n. -/
def Body.modRod (b : Body) (n : Nat) (f : Rod → Rod) : Body := b.setRod n (f (b.rod n))

/-- The tile at position p of rod n. -/
def Body.tile (b : Body) (n p : Nat) : Tile := mgetD Tile.reset (n * 64 + p) b.tiles

/-- Replace a tile. -/
def Body.setTile (b : Body) (n p : Nat) (t : Tile) : Body := { b with tiles := mputD Tile.reset (n * 64 + p) t b.tiles }

/-- Change a tile. -/
def Body.modTile (b : Body) (n p : Nat) (f : Tile → Tile) : Body := b.setTile n p (f (b.tile n p))

/-- Pan p. -/
def Body.pan (b : Body) (p : Nat) : Pan := mgetD Pan.reset p b.pans

/-- Replace pan p. -/
def Body.setPan (b : Body) (p : Nat) (x : Pan) : Body := { b with pans := mputD Pan.reset p x b.pans }

/-- Index and sub-index of pan p in a pair of pan arrays that starts at idx (R323). -/
def panKey (idx p : Nat) : Nat × Nat := if p < 128 then (idx, p + 1) else (idx + 1, p - 127)

/-- A value of pan p. -/
def Body.panReg (b : Body) (idx p : Nat) : Nat := b.regN (panKey idx p).1 (panKey idx p).2

/-- Store a value of pan p. -/
def Body.setPanReg (b : Body) (idx p v : Nat) : Body := b.setReg (panKey idx p).1 (panKey idx p).2 (v : Nat)

/-- `lane.state` of rod n. -/
def Body.laneState (b : Body) (n : Nat) : Nat := b.regN 0x1300 (n + 1)

/-- Rod n is in FC service (R271). -/
def Body.inService (b : Body) (n : Nat) : Bool := b.laneState n == 4

/-- Queue a downstream frame on rod n. -/
def Body.send (b : Body) (n : Nat) (f : DnFrame) : Body := b.modRod n (fun r => { r with txq := r.txq ++ [f] })

/-- The rod map generation in force, or none. -/
def Body.map? (b : Body) : Option RodMap :=
  let g := b.regN 0x1014 0
  if g = 0xFF then none else mfind g b.cor.maps

/-- The tiles the rod map in force gives rod n. -/
def RodMap.tilesOf (m : RodMap) (n : Nat) : List TileRec := ((m.rods.find? (fun p => p.1 == n)).map (fun p => p.2)).getD []

/-- Rods in use: those of the rod map in force. -/
def Body.rodsInUse (b : Body) : List Nat := (b.map?.map (fun m => m.rods.map (fun p => p.1))).getD []

/-- The tile record at a position of a rod, in the map in force. -/
def Body.tileRec? (b : Body) (n p : Nat) : Option TileRec := b.map?.bind (fun m => (m.tilesOf n)[p]?)

/-- This unit is the active unit of a pair, or a single unit. -/
def Body.isActive (b : Body) : Bool := b.regN 0x1A02 0 == 0 || b.regN 0x1A02 0 == 2

/-- The unit is a standby or joins (its clock and its configuration follow the active's). -/
def Body.follows (b : Body) : Bool := b.regN 0x1A02 0 == 3 || b.regN 0x1A02 0 == 4

/-- The unit belongs to a pair and is not active. -/
def Body.isStandby (b : Body) : Bool := !(b.isActive)

/-! ## The pairing link (R451 to R453) -/

/-- The sequence number after s: 0 is that of unsequenced messages. -/
def nextSeq (s : Nat) : Nat := if s + 1 < 2 ^ 32 then s + 1 else 1

/-- t64 as the pairing link's domain reads it (R26, R45, R451). -/
def Env.pairTime (e : Env) : Nat := e.follow 53 % 2 ^ 64

/-- Send a message under the next sequence number and hold it until acknowledged. -/
def Body.pairNumber (b : Body) (e : Env) (m : PairMsg) : Body :=
  { b with
    pair := { b.pair with txSeq := nextSeq b.pair.txSeq, unacked := b.pair.unacked ++ [⟨b.pair.txSeq, m, e.tb⟩] }
    out := b.out ++ [.pair (pairFrame b.pair.txSeq b.isActive e.pairTime m)] }

/-- Send a message that takes a sequence number; while 4,096 are without acknowledgement it waits, in order (R453). -/
def Body.pairSend (b : Body) (e : Env) (m : PairMsg) : Body :=
  if b.pair.unacked.length < 4096 ∧ b.pair.backlog.isEmpty then b.pairNumber e m
  else { b with pair := { b.pair with backlog := b.pair.backlog ++ [m] } }

/-- Messages that wait leave while fewer than 4,096 are without acknowledgement; at most k of them. -/
def pairDrain (e : Env) : Nat → Body → Body
  | 0, b => b
  | k + 1, b =>
    match b.pair.backlog with
    | [] => b
    | m :: ms => if b.pair.unacked.length < 4096 then pairDrain e k ({ b with pair := { b.pair with backlog := ms } }.pairNumber e m) else b

/-- Send a message of sequence 0. -/
def Body.pairTell (b : Body) (e : Env) (m : PairMsg) : Body := b.emit (.pair (pairFrame 0 b.isActive e.pairTime m))

/-- Bytes of a value that one WRITE carries; a frame holds no more than 9,216 (R450). -/
abbrev writePiece : Nat := 8192

/-- A value in the WRITE messages that carry it, all of one order: whole, or in pieces of the greatest size behind which a shorter one ends it.
R452 states no WRITE of a value longer than a frame (DESIGN CHOICE; log entry 29). -/
def valPieces (v : Val) : List Val :=
  match v with
  | .n x => [.n x]
  | .b s => (chunks writePiece (s.length / writePiece) s).map Val.b ++ [.b (s.drop (s.length / writePiece * writePiece))]

/-- Forward a value to the twin under the next order number (R452, R454). -/
def Body.tellWrite (b : Body) (e : Env) (idx sub : Nat) (ty : Ty) (v : Val) : Body :=
  (valPieces v).foldl (fun x p => x.pairSend e (.write (b.pair.order + 1) idx sub ty p))
    { b with pair := { b.pair with order := b.pair.order + 1 } }

/-- This unit forwards to a twin: paired, active, link up. -/
def Body.forwards (b : Body) : Bool := b.regN 0x1A02 0 == 2 && b.regN 0x1A05 0 == 1

/-! ## Triggers -/

/-- Trigger t. -/
def Body.trig (b : Body) (t : Nat) : Trig := mgetD Trig.reset t b.tu.trig

/-- Replace trigger t. -/
def Body.setTrig (b : Body) (t : Nat) (x : Trig) : Body :=
  { b with tu := { b.tu with trig := mputD Trig.reset t x b.tu.trig } }

/-- Drive TT t, telling the outside when the level changes. -/
def Body.drive (b : Body) (t : Nat) (level : Bool) : Body :=
  let x := b.trig t
  if x.level = level then b else (b.setTrig t { x with level := level }).emit (.trigger t level)

/-- The unit is no longer active: armed triggers with `tt.active_only` go to their inactive level (R61). -/
def Body.holdTrigs (b : Body) : Body :=
  (upFrom 0 16).foldl (fun x t =>
    if x.reg 0x081A (t + 1) = 1 ∧ (x.reg 0x0819 (t + 1) = 1 ∨ x.reg 0x0819 (t + 1) = 2) then x.drive t (x.reg 0x0815 (t + 1) == 1) else x) b

/-- Disarm trigger t and drive it low (R60). -/
def Body.trigLow (b : Body) (t : Nat) : Body :=
  let b1 := b.setReg 0x0819 (t + 1) 0
  (b1.setTrig t { b1.trig t with lead := none, trail := none, more := [], kept := [] }).drive t false

/-- Every disarmed trigger returns to its inactive level: SAFE or FROZEN, which drove it low, is left (R55, R57, R60). -/
def Body.trigsIdle (b : Body) : Body :=
  (upFrom 0 16).foldl (fun x t =>
    if x.reg 0x0819 (t + 1) = 1 ∨ x.reg 0x0819 (t + 1) = 2 then x else x.drive t (x.reg 0x0815 (t + 1) == 1)) b

/-- Disarm every trigger and drive it low (R60). -/
def Body.trigsLow (b : Body) : Body := (upFrom 0 16).foldl (fun x t => x.trigLow t) b

/-! ## Issue stalls (R80) -/

/-- A tag has become free: a stall of issue ends, and its whole microseconds enter `bead.tag_stall` (R80). -/
def Body.endStall (b : Body) (e : Env) : Body :=
  match b.beads.stall with
  | none => b
  | some t =>
    let ns := b.beads.stallNs + (e.tb - t) * 2
    let b1 := b.bump 0x0E04 0 (ns / 1000)
    { b1 with beads := { b1.beads with stall := none, stallNs := ns % 1000 } }

/-! ## Doubt (R442, R443) -/

/-- A mode switch in progress ends at the entry to SAFE or FROZEN (R210). -/
def Body.dropSwitch (b : Body) (e : Env) : Body :=
  let b1 := { b with seq := { b.seq with sw := none, next := none, entering := false } }
  if b1.regN 0x0909 0 = 0 then b1
  else
    let b2 := b1.setReg 0x0909 0 0
    if b2.opBusy 0x0412 then b2.opEnd e 0x0412 false 2 0 else b2

/-- The frames waiting on a rod are lost: its echoes end, its commands count as sent (R239, R247), and its tiles, which stop their
supply stages without a fresh port, count as asleep (R254; DEDUCED, log entry 71). -/
def Body.lostFrames (b : Body) (n : Nat) : Body :=
  (upFrom 0 64).foldl (fun x p =>
    if (x.tile n p) = Tile.reset then x
    else x.modTile n p (fun t => { t with echo := none, awake := false, cmd := t.cmd.map (fun (c : Cmd) => { c with onAir := true }) })) b

/-- Transmit taps c+1 and c-1 as `lane.tx_taps` holds them; c0 follows (R290, R295). -/
def tapWord (taps : List Int) : Nat :=
  let post := taps.getD 0 0
  let pre := taps.getD 1 0
  ofSigned 8 pre * 2 ^ 24 + (63 - pre.natAbs - post.natAbs) * 256 + ofSigned 8 post

/-- The taps wanted take effect at a frame boundary outside a set (R291). -/
def Body.applyTaps (b : Body) (n : Nat) : Body :=
  if (b.rod n).inSet.isSome then b else b.setReg 0x130B (n + 1) (tapWord (b.rod n).taps : Nat)

/-- A rod's set in progress ends: taps that waited for its end take effect (R291). -/
def Body.endSet (b : Body) (n : Nat) : Body :=
  if (b.rod n).inSet.isSome then (b.modRod n (fun r => { r with inSet := none })).applyTaps n else b

/-- Every rod in service abandons what waits and sends one DARK (R443 step 3). -/
def Body.darkAll (b : Body) (ed : Int) : Body :=
  let n := b.regN 0x0981 0
  (upFrom 0 192).foldl (fun x r =>
    if x.inService r then ((x.lostFrames r).modRod r (fun y => { y with txq := [.dark n ed] })).endSet r else x) b

/-- No sub-frame is left and none will be latched: DRAINING generations are IDLE, and overrides that have an end hold no slot (R162, R170). -/
def Body.allEnded (b : Body) : Body :=
  let b1 := [(0x1000, 1), (0x1000, 2), (0x1012, 1), (0x1012, 2)].foldl (fun x (p : Nat × Nat) =>
    if x.regN p.1 p.2 = 5 then x.setReg p.1 p.2 2 else x) b
  { b1 with cor := { b1.cor with overrides := b1.cor.overrides.filter (fun o => o.til.isNone) } }

/-- Doubt: record it, demote, stop the beads, send DARK, drop the triggers, enter SAFE or FROZEN (R442, R443). A later
doubt in SAFE or FROZEN changes nothing. The armed set stays, as it is not R512 that ends LIVE: the first latch of the next LIVE takes it (DESIGN
CHOICE; log entry 99). -/
def Body.doubt (b : Body) (e : Env) (cause det : Nat) : Body :=
  if b.devState = devSafe ∨ b.devState = devFrozen ∨ b.devState = devOff then b
  else
    let b1 := (((b.setReg 0x1A10 0 (cause : Nat)).setReg 0x1A11 0 (e.wt : Nat)).setReg 0x1A12 0 ((det % 2 ^ 32 : Nat))).raise
      e 896 cause
    let b2 := b1.tally e 12 cause 1
    let paired := b2.regN 0x1A02 0 != 0
    let b3 := if paired then b2.pairSend e (.demote cause) else b2
    let b4 := { b3 with pair := { b3.pair with drive := false, attribs := [], handover := none, latchWait := none } }
    let b5 := if paired then b4.setReg 0x1A02 0 6 else b4
    let b6 := { b5 with beads := { b5.beads with stopped := true, waiting := [], out := [], checks := [], held := [],
                                                 subs := [] } }
    let b7 := ((b6.endStall e).setReg 0x0E03 0 0).setReg 0x0E0A 0 174762
    let b8 := (b7.darkAll ((e.wt : Int) + 100000)).trigsLow
    let b9 := (b8.dropSwitch e).allEnded
    b9.enter e (if cause = 2 then devFrozen else devSafe)

end Sys2Proof.Machine
end

