-- ==== Sys2Proof/Machine/Operands.lean ====
section
/-! DEFINITION. Operand forms: status codes, the wire forms of values and messages, and the checks a written value meets
alone (R403, R404, R406, R408, R421, R531). -/

namespace Sys2Proof

/-- The type of a code. -/
def Ty.ofCode (c : Nat) : Option Ty :=
  [Ty.bool, .u8, .u16, .u32, .u64, .i16, .i32, .i64, .q16, .f32, .wtime, .str, .blob, .oper].find? (fun t => t.code == c)

/-- Signed types. -/
def Ty.signed : Ty → Bool
  | .i16 => true | .i32 => true | .i64 => true | .q16 => true | _ => false

/-- A time as its two fields. -/
def Wtime.ofNs (t : Nat) : Wtime := ⟨t / 1000000000, t % 1000000000⟩

/-- The number lies in its type. -/
def Ty.holds (t : Ty) (v : Int) : Bool :=
  match t with
  | .bool => v == 0 || v == 1
  | .wtime => true
  | _ => if t.signed then decide (-(2 ^ (8 * t.size - 1) : Int) ≤ v) && decide (v < 2 ^ (8 * t.size - 1))
         else decide (0 ≤ v) && decide (v < 2 ^ (8 * t.size))

/-- The number a value stores. -/
def WireVal.num : WireVal → Int
  | .n v => v
  | .w t => (t.sec * 1000000000 + t.ns : Nat)
  | .b _ => 0

/-- The bytes a value stores. -/
def WireVal.bytes : WireVal → Bytes
  | .b s => s
  | _ => []

end Sys2Proof

namespace Sys2Proof.Machine

/-! ## Status codes (R421) -/

abbrev stOK : Nat := 0
abbrev stPartial : Nat := 1
abbrev stCancelled : Nat := 2
abbrev stNoEntry : Nat := 3
abbrev stAccess : Nat := 4
abbrev stType : Nat := 5
abbrev stRole : Nat := 6
abbrev stRange : Nat := 7
abbrev stBusy : Nat := 8
abbrev stLive : Nat := 9
abbrev stFrozen : Nat := 10
abbrev stState : Nat := 11
abbrev stNoSuspend : Nat := 12
abbrev stTooLate : Nat := 13
abbrev stNotHeld : Nat := 14
abbrev stNotFrozen : Nat := 15
abbrev stConfig : Nat := 16
abbrev stSize : Nat := 17
abbrev stFixed : Nat := 18
abbrev stLastCustodian : Nat := 19
abbrev stShadowFull : Nat := 20
abbrev stArmFull : Nat := 21
abbrev stBlob : Nat := 22
abbrev stOrder : Nat := 32
abbrev stGeometry : Nat := 33
abbrev stScaler : Nat := 34
abbrev stLineBuf : Nat := 35
abbrev stCoeff : Nat := 36
abbrev stGuard : Nat := 37
abbrev stSource : Nat := 38
abbrev stNotReady : Nat := 39
abbrev stMapTag : Nat := 40
abbrev stStaging : Nat := 41
abbrev stTwin : Nat := 42
abbrev stBeads : Nat := 43
abbrev stFormat : Nat := 64
abbrev stCrc : Nat := 65
abbrev stChunk : Nat := 66
abbrev stBounds : Nat := 67
abbrev stOverlap : Nat := 68
abbrev stLamps : Nat := 69
abbrev stDepth : Nat := 70
abbrev stTopology : Nat := 71
abbrev stScan : Nat := 72
abbrev stCount : Nat := 73
abbrev stEntry : Nat := 74
abbrev stBin : Nat := 75
abbrev stNoDose : Nat := 76
abbrev stStale : Nat := 77
abbrev stTrain : Nat := 78
abbrev stTest : Nat := 79
abbrev stRate : Nat := 80
abbrev stWindow : Nat := 81
abbrev stUnit : Nat := 82
abbrev stRunAhead : Nat := 83
abbrev stLoad : Nat := 84
abbrev stLane : Nat := 85
abbrev stTrigger : Nat := 86

/-! ## Wire forms -/

/-- A value to be written, on the wire. -/
def encodeWire (t : Ty) : WireVal → Bytes
  | .n v => encodeVal t (.n v)
  | .w x => be 6 x.sec ++ be 4 x.ns
  | .b s => encodeVal t (.b s)

/-- A value read from the wire, with what is left; none where it is cut short. -/
def decodeWire (t : Ty) (bs : Bytes) : Option WireVal :=
  match t with
  | .wtime => if bs.length = 10 then some (.w ⟨beAt bs 0 6, beAt bs 6 4⟩) else none
  | .str => if bs.length = 1 + beAt bs 0 1 then some (.b (bs.drop 1)) else none
  | .blob => if bs.length = 2 + beAt bs 0 2 then some (.b (bs.drop 2)) else none
  | _ =>
    if bs.length = t.size then
      some (.n (if t.signed then toSigned (8 * t.size) (ofBE bs) else (ofBE bs : Nat)))
    else none

/-- The UDP port of the dictionary protocol (R408). -/
abbrev idpPort : Nat := 7190

/-- An IDP message without its tag; `last` is the flags byte and the reserved byte (R408). -/
def idpMsg (ty sid seq last : Nat) (body : Bytes) : Bytes :=
  [1, BitVec.ofNat 8 ty] ++ be 2 sid ++ be 4 seq ++ be 2 body.length ++ be 2 last ++ body

/-- Body of a WRITE (R410). -/
def writeBody (idx sub : Nat) (t : Ty) (v : WireVal) : Bytes :=
  be 2 idx ++ be 1 sub ++ be 1 t.code ++ encodeWire t v

/-- Message type and body of a response (R410). -/
def Rsp.wire (reply : Nat) : Rsp → Nat × Bytes
  | .challenge nd par => (0x02, nd ++ par)
  | .welcome role idle t => (0x04, be 1 role ++ [0] ++ be 2 idle ++ be 6 t.sec ++ be 4 t.ns)
  | .reject code rem => (0x05, be 1 code ++ [0] ++ be 2 rem)
  | .read st vals => (0x11, be 4 reply ++ be 2 st ++ be 1 vals.length ++ [0] ++
      (vals.map (fun v => be 1 v.1.code ++ be 1 (b2n v.2.1) ++ encodeVal v.1 v.2.2)).flatten)
  | .write st kind o => (0x13, be 4 reply ++ be 2 st ++ be 1 kind ++ [0] ++ be 8 o)
  | .describe st t a r p s0 nm d => (0x15, be 4 reply ++ be 2 st ++ be 1 t ++ be 1 a ++ be 1 r ++ be 1 p ++ be 1 s0 ++ [0] ++
      (be 1 (ascii' nm).length ++ ascii' nm) ++ encodeVal ((Ty.ofCode t).getD .u8) d)
  | .blobOpen st tid len => (0x21, be 4 reply ++ be 2 st ++ be 2 tid ++ be 8 len)
  | .blobClose st => (0x25, be 4 reply ++ be 2 st)
  | .echo c body => (if c then 0x3F else 0x3E, be 4 reply ++ body)
where
  /-- ASCII bytes of a name. -/
  ascii' (t : String) : Bytes := t.toList.map (fun c => BitVec.ofNat 8 c.toNat)

/-! ## Checks of a written value -/

/-- Access codes (R403). -/
def Access.code : Access → Nat
  | .const => 0 | .ro => 1 | .rw => 2 | .wo => 3 | .rws => 4

/-- Role codes (R403). -/
def Role.code : Role → Nat
  | .observer => 0 | .operator => 1 | .engineer => 2 | .safety => 3 | .custodian => 4

/-- Applies codes (R403). -/
def Cls.code : Cls → Nat
  | .immediate => 0 | .latch => 1 | .mode => 2 | .reset => 3 | .none => 0xFF

/-- The number lies in an entry's ranges and sets no reserved bit (R531). -/
def Entry.admits (t : Entry) (v : Int) : Bool :=
  t.ty.holds v && (t.rng.isEmpty || t.rng.any (fun r => decide (r.1 ≤ v) && decide (v ≤ r.2))) &&
  (t.mask == 0 || (decide (0 ≤ v) && Nat.lor v.toNat t.mask == t.mask))

/-- A value is of the kind its type carries, and lies in range; the status otherwise. Size of a BLOB by R422. -/
def Entry.checkValue (t : Entry) (v : WireVal) : Nat :=
  match v with
  | .n x => if t.ty = .wtime ∨ t.ty = .str ∨ t.ty = .blob then stType else if t.admits x then stOK else stRange
  | .w x => if t.ty = .wtime then (if x.ns < 1000000000 ∧ x.sec < 2 ^ 48 then stOK else stRange) else stType
  | .b s => if t.ty = .str then (if s.length ≤ 64 then stOK else stRange)
            else if t.ty = .blob then (if s.length ≤ 1024 then stOK else stSize) else stType

/-- A role may write or command what entry role r guards (R406). -/
def mayWrite (role : Nat) (r : Role) : Bool := if r = .safety then role == 3 else decide (r.code ≤ role)

/-- Entries the active unit forwards (R454). -/
def forwarded (idx : Nat) : Bool :=
  (0x0900 ≤ idx && idx ≤ 0x09FF) || (0x0A10 ≤ idx && idx ≤ 0x0A32) || (0x0B00 ≤ idx && idx ≤ 0x0BFF) ||
  (0x0C00 ≤ idx && idx ≤ 0x0EFF) || (0x1000 ≤ idx && idx ≤ 0x11FF && idx != 0x101A && idx != 0x1010 && idx != 0x1011) ||
  (0x1400 ≤ idx && idx ≤ 0x15FF && idx != 0x1503)

/-- Role of the session in a slot. -/
def Body.roleOf (b : Body) (slot : Nat) : Nat := ((mfind slot b.dict.sess).map (fun x => x.role)).getD 0

/-- The type a value of an entry carries: no value carries OPER, so that of an operation's sub-index 0x00 is a U8 (R403, R426). -/
def Entry.carried (t : Entry) : Ty := if t.ty = .oper then .u8 else t.ty

/-- The checks every WRITE meets before its entry's own rules: allocated, type, access, role, a follower's TWIN (R454),
LIVE for a Mode-class entry (R198), range (R531). 0 when it passes. -/
def Body.checkWrite (b : Body) (role idx sub : Nat) (ty : Ty) (v : WireVal) : Nat :=
  match lookup idx sub with
  | none => stNoEntry
  | some t =>
    if t.carried ≠ ty then stType
    else if t.access = .const ∨ t.access = .ro then stAccess
    else if !(mayWrite role t.role) then stRole
    else if b.follows && forwarded idx then stTwin
    else if t.cls = .mode ∧ b.live then stLive
    else t.checkValue v

end Sys2Proof.Machine
end

