-- ==== Sys2Proof/Machine/Grid.lean ====
section
/-! DEFINITION. Timing modes and the instants of sub-frames (R48 to R53, R179 to R184). -/

namespace Sys2Proof.Machine

/-- T_bf of a rate code as numerator (1,001 or 1) and denominator, s (R179). -/
def rateOf (code : Nat) : Option (Nat × Nat) :=
  [(1001, 24000), (1, 24), (1, 25), (1001, 30000), (1, 30), (1001, 48000), (1, 48), (1, 50), (1001, 60000), (1, 60),
   (1, 100), (1001, 120000), (1, 120)][code]?

/-- T_sf as a fraction of ns: numerator and denominator, not reduced. -/
def Mode.tsf (m : Mode) : Nat × Nat :=
  match rateOf m.rate with
  | some (a, d) => (a * 1000000000, d * m.phases)
  | none => (1, 1)

/-- T_bf as a fraction of ns. -/
def Mode.tbf (m : Mode) : Nat × Nat :=
  match rateOf m.rate with
  | some (a, d) => (a * 1000000000, d)
  | none => (1, 1)

/-- The shift of sub-frame n's phase. -/
def Mode.shiftOf (m : Mode) (n : Nat) : Int := m.shift.getD (n % m.phases) 0

/-- E(N) (R50). -/
def Mode.instE (m : Mode) (n : Nat) : Int := ((n * m.tsf.1 / m.tsf.2 : Nat) : Int) + m.shiftOf n

/-- C(N) (R50). -/
def Mode.instC (m : Mode) (n : Nat) : Int :=
  ((n : Int) - 1) * m.tsf.1 / m.tsf.2 + m.shiftOf n - 100000

/-- I(N) (R50). -/
def Mode.instI (m : Mode) (n : Nat) : Int :=
  (((n : Int) - 1) * 65536 - m.ra) * m.tsf.1 / (65536 * m.tsf.2) + m.shiftOf n - 100000

/-- E(N) before it is rounded down: numerator and denominator (R50). -/
def Mode.exactE (m : Mode) (n : Nat) : Int × Nat := ((n * m.tsf.1 : Nat) + m.shiftOf n * m.tsf.2, m.tsf.2)

/-- C(N) before it is rounded down (R50). -/
def Mode.exactC (m : Mode) (n : Nat) : Int × Nat := ((((n : Int) - 1) * m.tsf.1) + (m.shiftOf n - 100000) * m.tsf.2, m.tsf.2)

/-- The mode held in the mode entries (R198). -/
def Body.entryMode (b : Body) : Mode :=
  { rate := b.regN 0x0900 0, phases := b.regN 0x0901 0,
    shift := (upFrom 1 8).map (fun i => b.reg 0x0902 i), window := (upFrom 1 8).map (fun i => b.regN 0x0903 i),
    unit := b.regN 0x0904 0, gap := b.regN 0x0905 0, order := b.regN 0x0906 0, ra := b.regN 0x0980 0 }

/-- Store a mode in the mode entries. -/
def Body.setEntryMode (b : Body) (m : Mode) : Body :=
  let b1 := ((((((b.setReg 0x0900 0 (m.rate : Nat)).setReg 0x0901 0 (m.phases : Nat)).setReg 0x0904 0 (m.unit : Nat)).setReg
    0x0905 0 (m.gap : Nat)).setReg 0x0906 0 (m.order : Nat)).setReg 0x0980 0 (m.ra : Nat))
  (upFrom 0 8).foldl (fun x p => (x.setReg 0x0902 (p + 1) (m.shift.getD p 0)).setReg 0x0903 (p + 1) ((m.window.getD p 0 : Nat))) b1

/-- D of phase p: off_(p+1) − off_p, as a fraction of ns (R181). -/
def Mode.spacing (m : Mode) (p : Nat) : Int × Nat :=
  let ds := m.shift.getD ((p + 1) % m.phases) 0 - m.shift.getD p 0
  ((m.tsf.1 : Int) + ds * m.tsf.2, m.tsf.2)

/-- The phases of a mode. -/
def Mode.phaseList (m : Mode) : List Nat := upFrom 0 m.phases

/-- W_p with 0 resolved to the largest the spacing allows (R181). -/
def Mode.windowOf (m : Mode) (p : Nat) : Int :=
  if m.window.getD p 0 = 0 then ((m.spacing p).1 - 1000 * (m.spacing p).2) / (m.spacing p).2
  else (m.window.getD p 0 : Nat)

/-- The shortest window. -/
def Mode.minWindow (m : Mode) : Int :=
  m.phaseList.foldl (fun a p => if m.windowOf p < a then m.windowOf p else a) (m.windowOf 0)

/-- u (R182): as set, or the largest that fits. -/
def Mode.unitUsed (m : Mode) : Int :=
  if m.unit = 0 then (m.minWindow - 60 * m.gap) / 262140 else (m.unit : Nat)

/-- T_em (R182). -/
def Mode.tEm (m : Mode) : Int := 262140 * m.unitUsed + 60 * m.gap

/-- D_min as a fraction of ns (R188). -/
def Mode.dMin (m : Mode) : Int × Nat :=
  (m.phaseList.foldl (fun a p => if (m.spacing p).1 < a then (m.spacing p).1 else a) (m.spacing 0).1, m.tsf.2)

/-- Checks RATE, WINDOW and UNIT of R200, in their order; 0 when all pass. -/
def Mode.checkSelf (m : Mode) : Nat :=
  match rateOf m.rate with
  | none => stRate
  | some (a, d) =>
    if m.phases = 0 ∨ 8 < m.phases ∨ 480 * a < m.phases * d then stRate
    else if m.phaseList.any (fun p => decide (m.shift.getD p 0 < -1000000) || decide (1000000 < m.shift.getD p 0) ||
        decide ((m.spacing p).1 < (m.windowOf p + 1000) * (m.spacing p).2)) then stWindow
    else if m.unitUsed < 2 then stUnit
    else if m.phaseList.any (fun p => decide (m.windowOf p < m.tEm)) then stWindow
    else stOK

/-- The mode in force (R58): of the last latch while LIVE, else the entries' where they give a T_sf. -/
def Body.modeInForce (b : Body) : Option Mode :=
  if b.live then some b.seq.mode
  else if b.entryMode.checkSelf = stOK then some b.entryMode else none

/-- The latest sub-frame whose E is at or before t: the greatest of the few the grid allows. -/
def Mode.atOrBefore (m : Mode) (t : Int) : Option Nat :=
  let n0 := (t * m.tsf.2 / m.tsf.1).toNat
  ((upFrom (n0 - 3) 7).filter (fun n => decide (m.instE n ≤ t))).getLast?

/-- The first sub-frame numbered at least n whose I is at or after t. -/
def Mode.firstFrom (m : Mode) (t : Int) : Nat :=
  let n0 := (t * m.tsf.2 / m.tsf.1).toNat
  ((upFrom n0 9).find? (fun n => decide (t ≤ m.instI n))).getD (n0 + 9)

/-- Slots in the order they are lit (R184). -/
def slotOrder (order : Nat) : List Nat :=
  if order = 0 then upFrom 0 16
  else if order = 1 then (upFrom 0 16).reverse
  else [0, 2, 4, 6, 8, 10, 12, 14, 15, 13, 11, 9, 7, 5, 3, 1]

/-- Slot durations in counts of 4 ns (R182). -/
def Mode.durs (m : Mode) : List Nat := (upFrom 0 16).map (fun k => m.unitUsed.toNat * 2 ^ k)

/-- `sched.run_ahead` in whole sub-frames, rounded up. -/
def Mode.raUp (m : Mode) : Nat := divUp m.ra 65536

/-- P_rot (R97). -/
def Mode.pRot (m : Mode) : Nat := Nat.min 96 (400000000 * m.tsf.2 / m.tsf.1)

/-- Engines checked per sub-frame (R97). -/
def Mode.checksPer (m : Mode) : Nat := divUp 192 (Nat.max 1 m.pRot)

/-- The lamp-update budget in force: that published at the last latch (R490). -/
def Body.budget (b : Body) : Nat := b.si.budget

/-- Q(N) (R88). -/
def Body.quota (b : Body) (m : Mode) : Nat := b.budget * m.tsf.1 / (m.tsf.2 * 1000000000)

end Sys2Proof.Machine
end

