-- ==== Sys2Proof/Machine/Geometry.lean ====
section
/-! DEFINITION. Where lamps, tiles and beads lie: scan orders, rotations, rectangles, beads, clone regions (R74 to R76, R107,
R136, R158, R163 to R166). -/

namespace Sys2Proof.Machine

/-! ## Rectangles -/

/-- A rectangle: left column, top row, width, height. -/
structure Rect where
  x : Nat
  y : Nat
  w : Nat
  h : Nat
deriving DecidableEq, Repr

/-- The rectangle a U64 holds (R107). -/
def rectOf (v : Nat) : Rect := ⟨field v 63 48, field v 47 32, field v 31 16, field v 15 0⟩

/-- The position lies in the rectangle. -/
def Rect.has (r : Rect) (x y : Nat) : Bool :=
  decide (r.x ≤ x) && decide (x < r.x + r.w) && decide (r.y ≤ y) && decide (y < r.y + r.h)

/-- Two rectangles share a position. -/
def Rect.meets (a b : Rect) : Bool :=
  decide (a.w ≠ 0 ∧ a.h ≠ 0 ∧ b.w ≠ 0 ∧ b.h ≠ 0) &&
  decide (a.x < b.x + b.w) && decide (b.x < a.x + a.w) && decide (a.y < b.y + b.h) && decide (b.y < a.y + a.h)

/-- The part of a rectangle on a canvas of w columns and h rows. -/
def Rect.clip (r : Rect) (w h : Nat) : Rect := ⟨r.x, r.y, Nat.min r.w (w - r.x), Nat.min r.h (h - r.y)⟩

/-! ## Tiles -/

/-- Lamps of a tile. -/
def TileRec.lamps (t : TileRec) : Nat := t.w * t.h

/-- Tile-local position of scan index s (R164). -/
def TileRec.pos (t : TileRec) (s : Nat) : Nat × Nat :=
  match t.scan with
  | 0 => (s % t.w, s / t.w)
  | 1 => (s / t.h, s % t.h)
  | 2 => (if s / t.w % 2 = 0 then s % t.w else t.w - 1 - s % t.w, s / t.w)
  | 3 => (s / t.h, if s / t.h % 2 = 0 then s % t.h else t.h - 1 - s % t.h)
  | _ => (t.list.getD s 0 % t.w, t.list.getD s 0 / t.w)

/-- Scan index of a tile-local position, the inverse of R164. -/
def TileRec.scanOf (t : TileRec) (u v : Nat) : Nat :=
  match t.scan with
  | 0 => v * t.w + u
  | 1 => u * t.h + v
  | 2 => v * t.w + (if v % 2 = 0 then u else t.w - 1 - u)
  | 3 => u * t.h + (if u % 2 = 0 then v else t.h - 1 - v)
  | _ => (firstIdx (fun k => k == u + t.w * v) 0 t.list).getD 0

/-- Canvas position of a tile-local position (R165). -/
def TileRec.place (t : TileRec) (u v : Nat) : Nat × Nat :=
  match t.rot with
  | 0 => (t.x + u, t.y + v)
  | 1 => (t.x + t.h - 1 - v, t.y + u)
  | 2 => (t.x + t.w - 1 - u, t.y + t.h - 1 - v)
  | _ => (t.x + v, t.y + t.w - 1 - u)

/-- Canvas position of scan index s. -/
def TileRec.at (t : TileRec) (s : Nat) : Nat × Nat := t.place (t.pos s).1 (t.pos s).2

/-- The tile's footprint on the canvas. -/
def TileRec.footprint (t : TileRec) : Rect := if t.rot % 2 = 1 then ⟨t.x, t.y, t.h, t.w⟩ else ⟨t.x, t.y, t.w, t.h⟩

/-- Supply zone of a tile-local position (R166). -/
def TileRec.zone (t : TileRec) (u v : Nat) : Nat := v / (t.h / t.zr) * t.zc + u / (t.w / t.zc)

/-- The neighbours of a tile-local position that exist (R151). -/
def TileRec.near (t : TileRec) (u v : Nat) : List (Nat × Nat) :=
  (if 0 < u then [(u - 1, v)] else []) ++ (if u + 1 < t.w then [(u + 1, v)] else []) ++
  (if 0 < v then [(u, v - 1)] else []) ++ (if v + 1 < t.h then [(u, v + 1)] else [])

/-- Largest code of a tile's depth. -/
def TileRec.full (t : TileRec) : Nat := 2 ^ t.depth - 1

/-! ## Beads -/

/-- A bead: its rod, its number within the rod, its tile position and record, its first scan index and lamp count. -/
structure Bead where
  rod : Nat
  num : Nat
  pos : Nat
  tile : TileRec
  lo : Nat
  n : Nat
deriving DecidableEq, Repr

/-- Key of a bead. -/
def Bead.key (d : Bead) : Nat := d.rod * 512 + d.num

/-- Beads of one tile from number k on (R74). -/
def tileBeads (rod pos k : Nat) (t : TileRec) : List Bead :=
  (upFrom 0 (divUp t.lamps 1024)).map (fun b => ⟨rod, k + b, pos, t, 1024 * b, Nat.min 1024 (t.lamps - 1024 * b)⟩)

/-- Beads of the tiles of a rod, in chain order. -/
def chainBeads (rod : Nat) : Nat → Nat → List TileRec → List Bead
  | _, _, [] => []
  | pos, k, t :: ts => tileBeads rod pos k t ++ chainBeads rod (pos + 1) (k + divUp t.lamps 1024) ts

/-- Beads of a rod. -/
def RodMap.rodBeads (m : RodMap) (n : Nat) : List Bead := chainBeads n 0 0 (m.tilesOf n)

/-- Every bead of the map, rod by rod. -/
def RodMap.allBeads (m : RodMap) : List Bead := (m.rods.map (fun p => m.rodBeads p.1)).flatten

/-- Every bead of the map in the order of issue (R79). -/
def RodMap.beads (m : RodMap) : List Bead :=
  ((upFrom 0 320).map (fun k => m.allBeads.filter (fun d => d.num == k))).flatten

/-- Lamps of a bead: scan index, tile-local position, canvas position. -/
def Bead.at (d : Bead) (s : Nat) : Nat × Nat := d.tile.at s

/-- Scan indices of a bead. -/
def Bead.scans (d : Bead) : List Nat := upFrom d.lo d.n

/-- The bead rectangle: the smallest canvas rectangle that contains every lamp. -/
def Bead.rect (d : Bead) : Rect :=
  let ps := d.scans.map d.at
  let x0 := (minList (ps.map (fun p => p.1))).getD 0
  let y0 := (minList (ps.map (fun p => p.2))).getD 0
  let x1 := (ps.map (fun p => p.1)).foldl Nat.max 0
  let y1 := (ps.map (fun p => p.2)).foldl Nat.max 0
  ⟨x0, y0, x1 + 1 - x0, y1 + 1 - y0⟩

/-- Lamp index of a scan index of a bead (R158). -/
def Bead.lamp (d : Bead) (s : Nat) : Nat := 262144 * d.rod + d.tile.first + s

/-- The tile of a lamp index, with its rod, position and scan index; none outside the map. -/
def RodMap.lampAt (m : RodMap) (i : Nat) : Option (Nat × Nat × TileRec × Nat) :=
  let j := i % 262144
  (firstIdx (fun t : TileRec => decide (t.first ≤ j) && decide (j < t.first + t.lamps)) 0 (m.tilesOf (i / 262144))).bind
    (fun p => ((m.tilesOf (i / 262144))[p]?).map (fun t => (i / 262144, p, t, j - t.first)))

/-! ## Configurations -/

/-- A number of a configuration. -/
def Cfg.reg (c : Cfg) (idx sub : Nat) : Int := mgetD (dflt idx sub) (key idx sub) c.num

/-- An unsigned number of a configuration. -/
def Cfg.regN (c : Cfg) (idx sub : Nat) : Nat := (c.reg idx sub).toNat

/-- A byte string of a configuration. -/
def Cfg.str (c : Cfg) (idx sub : Nat) : Bytes := mgetD [] (key idx sub) c.blob

/-- Pseudo-index of the effect a freeze action has on layer l (R195): 1 hold, 2 fill. It moves with the configuration. -/
abbrev freezeIdx : Nat := 0x10000

/-- Entries that a latch takes: access RWS, and the freeze effect. -/
def isRws (k : Nat) : Bool :=
  k / 256 == freezeIdx || (match lookup (k / 256) (k % 256) with
    | some t => t.access == .rws
    | none => false)

/-- The configuration in force. -/
def Body.cfgNow (b : Body) : Cfg := ⟨b.num.filter (fun p => isRws p.1), b.blob.filter (fun p => isRws p.1)⟩

/-- Overlay the sub-entries of a set. A value equal to its default is kept: a set names it. -/
def overlay {α : Type} (m : Map α) (s : Map α) : Map α := s.foldl (fun a p => minsert p.1 p.2 a) m

/-- A configuration with a set applied. -/
def Cfg.apply (c s : Cfg) : Cfg := ⟨overlay c.num s.num, overlay c.blob s.blob⟩

/-- Sub-entries of a set. -/
def Cfg.size (c : Cfg) : Nat := c.num.length + c.blob.length

/-- The configuration the next latch would make (R141). -/
def Body.cfgNext (b : Body) : Cfg := b.cfgNow.apply b.lay.armed

/-- A value of layer l. -/
def Cfg.lay (c : Cfg) (idx l : Nat) : Nat := c.regN idx (l + 1)

/-- Destination of layer l. -/
def Cfg.dest (c : Cfg) (l : Nat) : Rect := rectOf (c.lay 0x0C06 l)

/-- Layer l is shown in phase p by its enable and its mask. -/
def Cfg.shown (c : Cfg) (l p : Nat) : Bool := c.lay 0x0C00 l == 1 && bit (c.lay 0x0C0B l) p

/-- Clone region k is active in phase p (R136). -/
def Cfg.cloneOn (c : Cfg) (k p : Nat) : Bool := c.regN 0x0C30 (k + 1) == 1 && bit (c.regN 0x0C34 (k + 1)) p

/-- Source and target rectangle of clone region k. -/
def Cfg.cloneRects (c : Cfg) (k : Nat) : Rect × Rect :=
  let s := rectOf (c.regN 0x0C31 (k + 1))
  let d := c.regN 0x0C32 (k + 1)
  (s, ⟨field d 31 16, field d 15 0, s.w, s.h⟩)

/-- Source position of a canvas position under the clone regions of phase p (R136). -/
def Cfg.cloneAt (c : Cfg) (p x y : Nat) : Nat × Nat :=
  match (upFrom 0 16).find? (fun k => c.cloneOn k p && (c.cloneRects k).2.has x y) with
  | none => (x, y)
  | some k =>
    let s := (c.cloneRects k).1
    let d := (c.cloneRects k).2
    let m := c.regN 0x0C33 (k + 1)
    (if bit m 0 then s.x + s.w - 1 - (x - d.x) else s.x + (x - d.x),
     if bit m 1 then s.y + s.h - 1 - (y - d.y) else s.y + (y - d.y))

/-- A bead rectangle touches layer l in phase p (R76). -/
def Cfg.touches (c : Cfg) (l p : Nat) (r : Rect) : Bool :=
  c.shown l p &&
  (r.meets (c.dest l) || (upFrom 0 16).any (fun k => c.cloneOn k p && (c.cloneRects k).1.meets (c.dest l) &&
    r.meets (c.cloneRects k).2))

/-- The override of lamp i in force for sub-frame n (R160): the latest made that holds then. -/
def Body.overrideAt (b : Body) (i n : Nat) : Option Override :=
  (b.cor.overrides.filter (fun o => o.lamp == i && decide (o.from_ ≤ n) && (match o.til with
    | some u => decide (n < u)
    | none => true))).getLast?

/-! ## Sub-frames -/

/-- Phase of a sub-frame. -/
def Sub.phase (s : Sub) : Nat := s.n % s.mode.phases

/-- Rod map of a sub-frame (R174). -/
def Body.subMap (b : Body) (s : Sub) : Option RodMap := mfind s.mapGen b.cor.maps

/-- Beads of a sub-frame in the order of issue. -/
def Body.subBeads (b : Body) (s : Sub) : List Bead := ((b.subMap s).map RodMap.beads).getD []

/-- Beads of one rod of a sub-frame. -/
def Body.rodBeadsOf (b : Body) (s : Sub) (n : Nat) : List Bead := ((b.subMap s).map (fun m => m.rodBeads n)).getD []

/-- The rods of a sub-frame. -/
def Body.subRods (b : Body) (s : Sub) : List Nat := ((b.subMap s).map (fun m => m.rods.map (fun p => p.1))).getD []

/-- The sub-frame issued and not ended that is numbered n. -/
def Body.sub? (b : Body) (n : Nat) : Option Sub := b.beads.subs.find? (fun s => s.n == n)

/-- Change the sub-frame numbered n. -/
def Body.modSub (b : Body) (n : Nat) (f : Sub → Sub) : Body :=
  { b with beads := { b.beads with subs := b.beads.subs.map (fun s => if s.n = n then f s else s) } }

/-- A sub-frame below S, or one of an earlier mode, is issued and not retired. -/
def Body.inFlight (b : Body) (S : Nat) : Bool :=
  b.beads.subs.any (fun s => !s.retired && (decide (s.n < S) || decide (s.mode ≠ b.seq.mode)))

end Sys2Proof.Machine
end

