-- ==== Sys2Proof/Machine/Frames.lean ====
section
/-! DEFINITION. Frame buffers, readiness and the inclusion rule (R113 to R122, R137 to R139). -/

namespace Sys2Proof.Machine

/-- A source is a ring: a media flow or a decoded stream (R113). -/
def isRing (kind : Nat) : Bool := kind == 1 || kind == 2

/-- The source of layer l under a configuration: its kind and number, the backup's while it serves (R117 step 1). -/
def Cfg.source (c : Cfg) (l : Nat) : Nat × Nat :=
  if c.lay 0x0C15 l = 1 then (c.lay 0x0C03 l, c.lay 0x0C04 l) else (c.lay 0x0C01 l, c.lay 0x0C02 l)

/-- The ring that holds the frames of a source: those of an RTP H.265 flow are the pictures of the stream that decodes it (R113). -/
def Body.ring (b : Body) (kind num : Nat) : Nat × Nat :=
  if kind = 1 ∧ b.regN 0x0A10 (num + 1) = 2 then
    match b.media.streams.find? (fun p => p.2.flow == num) with
    | some p => (2, p.1)
    | none => (1, num)
  else (kind, num)

/-- The layer uses the ring as its source or its backup. -/
def Body.uses (b : Body) (c : Cfg) (l kind num : Nat) : Bool :=
  b.ring (c.lay 0x0C01 l) (c.lay 0x0C02 l) == (kind, num) || b.ring (c.lay 0x0C03 l) (c.lay 0x0C04 l) == (kind, num)

/-- Frame rate code of a source: its flow's (R116, R330). -/
def Body.srcRate (b : Body) (kind num : Nat) : Nat :=
  if kind = 2 then b.regN 0x0A19 (b.regN 0x0B00 (num + 1) + 1) else b.regN 0x0A19 (num + 1)

/-- T_src in ns as a fraction. -/
def Body.srcPeriod (b : Body) (kind num : Nat) : Nat × Nat :=
  match rateOf (b.srcRate kind num) with
  | some (a, d) => (a * 1000000000, d)
  | none => (1, 1)

/-- Crop of layer l in a source of w by h pixels; an empty crop is the whole frame (R109). -/
def Cfg.crop (c : Cfg) (l w h : Nat) : Rect :=
  let r := rectOf (c.lay 0x0C05 l)
  if r.w = 0 ∨ r.h = 0 then ⟨0, 0, w, h⟩ else r

/-- Scaler of layer l; none without one. -/
def Cfg.scaler? (c : Cfg) (l : Nat) : Option Nat :=
  let s := c.lay 0x0C07 l
  if s < 16 ∧ isRing (c.source l).1 then some s else none

/-- Input lines a scaler holds at crop width w (R127). -/
def scalerLines (w : Nat) : Nat := Nat.min 48 (184320 / Nat.max 1 w)

/-- Input lines T taps need at ratio h / dh (R127). -/
def linesNeeded (T h dh : Nat) : Nat := (if dh ≤ h then divUp (T * h) (Nat.max 1 dh) else T) + 1

/-- Vertical taps in use at a crop and destination: as set where the lines suffice, else, with tap reduction, the largest
that fits (R127, R128); none where nothing fits. -/
def tapsFor (T : Nat) (reduce : Bool) (w h dh : Nat) : Option Nat :=
  if linesNeeded T h dh ≤ scalerLines w then some T
  else if reduce then ((upFrom 2 (T - 2)).reverse).find? (fun t => decide (linesNeeded t h dh ≤ scalerLines w))
  else none

/-- The geometry a frame of w by h pixels is scaled with for layer l: the frame's size, crop, destination, taps, dither,
and the coefficient sets by their CRC. -/
def Cfg.geom (c : Cfg) (l s w h : Nat) : List Int :=
  let r := c.crop l w h
  let d := c.dest l
  let vt := (tapsFor (c.regN 0x0D01 (s + 1)) (c.lay 0x0C13 l == 1) r.w r.h d.h).getD 0
  [w, h, r.x, r.y, r.w, r.h, d.x, d.y, d.w, d.h, c.regN 0x0D00 (s + 1), vt, c.regN 0x0D04 (s + 1),
   crc32c (c.str 0x0D02 (s + 1)), crc32c (c.str 0x0D03 (s + 1))].map Int.ofNat

/-- A copy was scaled for layer l under the configuration. -/
def Cfg.copyFits (c : Cfg) (l s : Nat) (g : List Int) : Bool :=
  decide (g = c.geom l s (g.getD 0 0).toNat (g.getD 1 0).toNat)

/-- The better of two frames: the greater PT' when timed, the later completion on arrival (R117). -/
def betterFrame (timed : Bool) (a : Option (Nat × FrameBuf)) (p : Nat × FrameBuf) : Option (Nat × FrameBuf) :=
  match a with
  | none => some p
  | some q => if (if timed then decide (q.2.pt < p.2.pt) else decide (q.2.rank < p.2.rank)) then some p else some q

/-- The newest complete frame of a ring; one late by arrival is not (R120). -/
def Body.newestOf (b : Body) (kind num : Nat) : Option Nat :=
  ((b.lay.bufs.filter (fun p => p.2.kind == kind && p.2.num == num && p.2.done.isSome && !p.2.late)).foldl (betterFrame false) none).map
    (fun p => p.1)

/-- The frame size of a source, where it is known (R129, R141). -/
def Body.srcSize (b : Body) (c : Cfg) (kind num : Nat) : Option (Nat × Nat) :=
  let r := b.ring kind num
  if r.1 = 1 then
    let f := b.regN 0x0A18 (num + 1)
    if f = 0 ∨ b.regN 0x0A10 (num + 1) = 2 then none else some (field f 63 48, field f 47 32)
  else if r.1 = 2 then
    (b.newestOf 2 r.2).bind (fun id => (mfind id b.lay.bufs).map (fun f => (f.w, f.h)))
  else if kind = 3 then (mfind (c.regN 0x0C50 (num + 1)) b.lay.bufs).map (fun f => (f.w, f.h))
  else none

/-- The source of layer l, and its backup where that is a flow or stream; another backup is drawn at the destination's size (R122). -/
def Cfg.sources (c : Cfg) (l : Nat) : List (Nat × Nat) :=
  (c.lay 0x0C01 l, c.lay 0x0C02 l) :: (if isRing (c.lay 0x0C03 l) then [(c.lay 0x0C03 l, c.lay 0x0C04 l)] else [])

/-- Crop width and height of layer l over a source: as given, else the whole frame's where it is known (R109). -/
def Body.cropSize (b : Body) (c : Cfg) (l kind num : Nat) : Option (Nat × Nat) :=
  let r := rectOf (c.lay 0x0C05 l)
  if r.w = 0 ∨ r.h = 0 then b.srcSize c kind num else some (r.w, r.h)

/-- Input pixel rate of a ring on layer l, as a fraction of pixels per second. -/
def Body.pixelRate (b : Body) (c : Cfg) (l kind num : Nat) : Option (Nat × Nat) :=
  match b.cropSize c l kind num, rateOf (b.srcRate kind num) with
  | some (w, h), some (a, d) => some (w * h * d, a)
  | _, _ => none

/-- A frame size of ring (k, n) fits the scaler configuration of layer l: its lines, its ratio, and its pixel rate beside that of the
other ring the scaler serves (R122, R126, R127, R129). -/
def Body.scalerFits (b : Body) (c : Cfg) (l k n w h : Nat) : Bool :=
  let s := c.lay 0x0C07 l
  let r := c.crop l w h
  let d := c.dest l
  let p := b.srcPeriod k n
  let others := ((c.sources l).filter (fun q => isRing q.1 && b.ring q.1 q.2 != (k, n))).filterMap (fun q => b.pixelRate c l q.1 q.2)
  let sum := others.foldl (fun (x : Nat × Nat) q => (x.1 * q.2 + q.1 * x.2, x.2 * q.2)) (r.w * r.h * p.2 * 1000000000, p.1)
  (tapsFor (c.regN 0x0D01 (s + 1)) (c.lay 0x0C13 l == 1) r.w r.h d.h).isSome &&
  decide (r.w ≤ 16 * d.w) && decide (sum.1 ≤ 2400000000 * sum.2)

/-- Key of a layer and a source, in the counts of late frames and the marks of formats. -/
def lateKey (l kind num : Nat) : Nat := (l * 8 + kind) * 256 + num

/-- Layer l's scaler reduces its vertical taps for a crop of w by h pixels (R128). -/
def Cfg.reduces (c : Cfg) (l w h : Nat) : Bool :=
  let T := c.regN 0x0D01 (c.lay 0x0C07 l + 1)
  match tapsFor T (c.lay 0x0C13 l == 1) w h (c.dest l).h with
  | some t => t != T
  | none => false

/-- What the format of source (k, n), as far as it is known, means for layer l's scaler: 2 it breaks R126 or R127, 1 taps are reduced, 0
neither (R128, R129). -/
def Body.judge (b : Body) (c : Cfg) (l k n : Nat) : Nat :=
  let r := b.ring k n
  let broken := match b.srcSize c k n with
    | some (w, h) => !(b.scalerFits c l r.1 r.2 w h)
    | none => false
  if broken then 2 else b2n (match b.cropSize c l k n with
    | some (w, h) => c.reduces l w h
    | none => false)

/-- What is noted of the format of ring (k, n) for layer l's scaler. -/
def Body.scaleMark (b : Body) (l k n : Nat) : Nat := mgetD 0 (lateKey l k n) b.lay.scaleMark

/-- Note what the format of ring (k, n) means for layer l's scaler. -/
def Body.setScaleMark (b : Body) (l k n v : Nat) : Body :=
  { b with lay := { b.lay with scaleMark := mputD 0 (lateKey l k n) v b.lay.scaleMark } }

/-- The frames of source (k, n) that are complete and may serve layer l under a configuration: its ring's own frames, or the
copies scaled with that configuration (R116), with their buffer ids. A source whose format broke R126 or R127 gives none until a commit
corrects it (R129). -/
def Body.framesOf (b : Body) (c : Cfg) (l k n : Nat) : List (Nat × FrameBuf) :=
  let s := c.lay 0x0C07 l
  let r := b.ring k n
  if s < 16 ∧ b.scaleMark l r.1 r.2 = 2 then []
  else
    b.lay.bufs.filter (fun p => p.2.done.isSome && !p.2.dying &&
      (if s < 16 then p.2.kind == 6 && p.2.num == s && p.2.ofKind == r.1 && p.2.ofNum == r.2 && c.copyFits l s p.2.geom
       else p.2.kind == r.1 && p.2.num == r.2))

/-- PT' of a frame on layer l. -/
def Cfg.pt' (c : Cfg) (l : Nat) (f : FrameBuf) : Int := f.pt + c.reg 0x0C10 (l + 1)

/-- T_sf after E(N), exactly: t < E(N) + T_sf. -/
def beforeNext (m : Mode) (e t : Int) : Bool := decide ((t - e) * m.tsf.2 < m.tsf.1)

/-- A frame of layer l's ring is ready for a sub-frame with emission e under mode m (R116, R119, R120, R195). -/
def Cfg.ready (c : Cfg) (m : Mode) (e : Int) (l : Nat) (f : FrameBuf) : Bool :=
  (if c.lay 0x0C0F l = 1 then beforeNext m e (c.pt' l f) else !f.late) &&
  !(c.lay 0x0C12 l == 1 && f.concealed) && decide (c.regN freezeIdx (l + 1) ≠ 1)

/-- The newest ready frame of ring (k, n) for layer l. -/
def Body.newest (b : Body) (c : Cfg) (m : Mode) (e : Int) (l k n : Nat) : Option (Nat × FrameBuf) :=
  ((b.framesOf c l k n).filter (fun p => c.ready m e l p.2)).foldl (betterFrame (c.lay 0x0C0F l == 1)) none

/-- The held frame of layer l, when it is of ring (k, n) and may be shown (R118, R119). -/
def Body.heldOf (b : Body) (c : Cfg) (l k n : Nat) : Option Nat :=
  match mfind l b.lay.heldFrame with
  | none => none
  | some id =>
    match mfind id b.lay.bufs with
    | none => none
    | some f =>
      let r := b.ring k n
      if ((f.kind, f.num) = r ∨ (f.kind = 6 ∧ (f.ofKind, f.ofNum) = r)) ∧ !(c.lay 0x0C12 l == 1 && f.concealed) then
        some id
      else none

/-- The layer is absent. -/
def Decision.hide (policy : Bool) (missed : List Int) : Decision := ⟨0, 0, 0, none, policy, missed⟩

/-- HOLD on a ring (R118). -/
def Body.holdOn (b : Body) (c : Cfg) (l k n : Nat) (missed : List Int) : Decision :=
  match b.heldOf c l k n with
  | some id => ⟨2, k, n, some id, true, missed⟩
  | none => Decision.hide true missed

/-- Cadence times after p that are due for a sub-frame with emission e, compared exactly and rounded down to name them (R117, R120). -/
def Body.expected (b : Body) (m : Mode) (e p : Int) (k n : Nat) : List Int :=
  let t := b.srcPeriod k n
  let most := ((e - p).toNat + m.tsf.1 / Nat.max 1 m.tsf.2 + 1) * t.2 / Nat.max 1 t.1 + 1
  ((upFrom 1 most).filter (fun j => decide (((p - e) * (t.2 : Nat) + (j * t.1 : Nat)) * m.tsf.2 < (m.tsf.1 * t.2 : Nat)))).map
    (fun j => p + (j * t.1 / t.2 : Nat))

/-- The content of a still, solid colour or pattern as the source of layer l: ready when it exists (R113). -/
def Body.fixedSource (b : Body) (c : Cfg) (code k n : Nat) : Option Decision :=
  if k = 3 then
    let id := c.regN 0x0C50 (n + 1)
    if (mfind id b.lay.bufs).isSome ∧ id ≠ 0 then some ⟨code, k, n, some id, false, []⟩ else none
  else if k = 4 ∨ k = 5 then some ⟨code, k, n, none, false, []⟩
  else none

/-- The content of ring (k, n) on layer l by steps 2 and 3 of R117; otherwise the expected frames not ready. -/
def Body.ringSource (b : Body) (env : Env) (c : Cfg) (m : Mode) (e : Int) (l code k n : Nat) : Decision ⊕ List Int :=
  match b.newest c m e l k n with
  | none => .inr []
  | some (id, f) =>
    let miss := if c.lay 0x0C0F l = 1 then b.expected m e (c.pt' l f) k n else []
    let old := match f.done with
      | some t => decide (t * 2 + c.lay 0x0C11 l * 1000000 < env.tb * 2)
      | none => true
    if miss.isEmpty && !old then .inl ⟨code, k, n, some id, false, []⟩ else .inr miss

/-- The content of one source on layer l, or the expected frames not ready. -/
def Body.sourceOf (b : Body) (env : Env) (c : Cfg) (m : Mode) (e : Int) (l code k n : Nat) : Decision ⊕ List Int :=
  if isRing k then b.ringSource env c m e l code k n
  else
    match b.fixedSource c (if code = 4 then 4 else 5) k n with
    | some d => .inl d
    | none => .inr []

/-- The inclusion rule for layer l (R117, R118, R195). A Hold action of a freeze makes no frame of the source eligible and the content
HOLD, whatever the not-ready policy. -/
def Body.include (b : Body) (env : Env) (c : Cfg) (m : Mode) (e : Int) (l : Nat) : Decision :=
  if c.regN freezeIdx (l + 1) = 2 then ⟨3, 0, 0, none, false, []⟩
  else
    let onB := c.lay 0x0C15 l == 1
    let src := c.source l
    if c.regN freezeIdx (l + 1) = 1 ∧ isRing src.1 then b.holdOn c l src.1 src.2 []
    else
      match b.sourceOf env c m e l (if onB then 4 else 1) src.1 src.2 with
      | .inl d => d
      | .inr miss =>
        let pol := if onB then 0 else c.lay 0x0C0C l
        if pol = 1 then ⟨3, 0, 0, none, true, miss⟩
        else if pol = 2 then Decision.hide true miss
        else if pol = 3 ∧ c.lay 0x0C03 l ≠ 0 then
          match b.sourceOf env c m e l 4 (c.lay 0x0C03 l) (c.lay 0x0C04 l) with
          | .inl d => { d with policy := true, missed := miss }
          | .inr _ => b.holdOn c l src.1 src.2 miss
        else b.holdOn c l src.1 src.2 miss

/-! ## Leases -/

/-- A sub-frame still needs the records and buffers of its beads: not retired, or held for a comparison (R77, R137, R458). -/
def Body.subHolds (b : Body) (s : Sub) : Bool := !s.retired || (b.regN 0x1A02 0 != 0 && !s.held.isEmpty)

/-- The buffer of the guard's still in a sub-frame's snapshot. -/
def Sub.guardBuf (s : Sub) : Option Nat :=
  if s.cfg.regN 0x0C40 0 = 1 then some (s.cfg.regN 0x0C50 (s.cfg.regN 0x0C41 0 + 1)) else none

/-- Buffer id is needed still: an inclusion decision of a sub-frame names it, or the guard of its snapshot, a live group has beads that read
it, or a squash held waits with it (R137). Its content stays for them: the wall never shows part of a frame (R118). -/
def Body.needs (b : Body) (id : Nat) : Bool :=
  b.beads.subs.any (fun s => b.subHolds s && (s.decs.any (fun p => p.2.buf == some id) || s.guardBuf == some id ||
    s.groups.any (fun g => g.live && g.decs.any (fun p => p.2.buf == some id)))) ||
  b.beads.held.any (fun h => h.dec.buf == some id)

/-- Buffer id is leased: a bead that reads it has been issued, and it is needed since (R137). -/
def Body.leased (b : Body) (id : Nat) : Bool := b.lay.leases.contains id && b.needs id

/-- Leases that have ended are forgotten, before a decision names their buffers anew. -/
def Body.endLeases (b : Body) : Body := { b with lay := { b.lay with leases := b.lay.leases.filter b.needs } }

/-- The buffers a bead of a sub-frame reads under its group's decisions: those of the layers it touches, and the guard's still. -/
def Sub.reads (s : Sub) (g : Group) (r : Rect) : List Nat :=
  (g.decs.filter (fun p => s.cfg.touches p.1 s.phase r)).filterMap (fun p => p.2.buf) ++
  (if r.meets (rectOf (s.cfg.regN 0x0C42 0)) then s.guardBuf.toList else [])

/-- The issue of a bead begins the lease of every buffer it reads (R137). -/
def Body.lease (b : Body) (ids : List Nat) : Body :=
  { b with lay := { b.lay with leases := ids.foldl (fun a i => if a.contains i then a else a ++ [i]) b.lay.leases } }

/-- Buffer id is held by a layer (R138). -/
def Body.heldBuf (b : Body) (id : Nat) : Bool := b.lay.heldFrame.any (fun p => p.2 == id)

/-- Layers that lease or hold a buffer: by a decision, a live group, or a squash held (R137, R139). -/
def Body.layersOn (b : Body) (id : Nat) : List Nat :=
  let names (ds : Map Decision) (l : Nat) : Bool := match mfind l ds with
    | some d => d.buf == some id
    | none => false
  (upFrom 0 31).filter (fun l => mfind l b.lay.heldFrame == some id ||
    b.beads.subs.any (fun s => b.subHolds s && (names s.decs l || s.groups.any (fun g => g.live && names g.decs l))) ||
    b.beads.held.any (fun h => h.layer == l && h.dec.buf == some id))

/-- Buffers leased now. -/
def Body.leasedCount (b : Body) : Nat := (b.lay.bufs.filter (fun p => b.leased p.1)).length

/-- Mark a buffer for release at the end of its lease. -/
def markDying (id : Nat) (m : Map FrameBuf) : Map FrameBuf :=
  m.map (fun (p : Nat × FrameBuf) => if p.1 = id then (p.1, { p.2 with dying := true }) else p)

/-- One request frees buffers: those leased or held are marked for release, and the request is then premature, counted once and told to
every layer on them (R139). A buffer that a decision names and no bead has read yet is marked too, but no lease makes the request
premature (DEDUCED from R118; log entry 105). -/
def Body.releaseAll (b : Body) (e : Env) (ids : List Nat) : Body :=
  let busy := ids.filter (fun id => b.leased id || b.heldBuf id)
  let stay := ids.filter (fun id => b.needs id || b.heldBuf id)
  let told := (upFrom 0 31).filter (fun l => busy.any (fun id => (b.layersOn id).contains l))
  let left := b.lay.bufs.filter (fun p => !(ids.contains p.1) || stay.contains p.1)
  let b1 := { b with lay := { b.lay with bufs := stay.foldl (fun m id => markDying id m) left } }
  if busy.isEmpty then b1 else told.foldl (fun x l => x.layerCause e l 4) (b1.bump 0x0C5B 0 1)

/-- Free a buffer, or mark it for release (R139). -/
def Body.release (b : Body) (e : Env) (id : Nat) : Body := b.releaseAll e [id]

/-- A buffer replaced at a latch goes at the end of its lease; that is not premature (R115). -/
def Body.retireBuf (b : Body) (id : Nat) : Body :=
  if b.needs id || b.heldBuf id then
    { b with lay := { b.lay with bufs := markDying id b.lay.bufs } }
  else { b with lay := { b.lay with bufs := merase id b.lay.bufs } }

/-- A buffer holds the newest complete frame of its source: in a scaler's ring, which may serve two sources, of the one it was scaled
from (R138). -/
def Body.isNewest (b : Body) (id : Nat) (f : FrameBuf) : Bool :=
  (((b.lay.bufs.filter (fun p => p.2.kind == f.kind && p.2.num == f.num && p.2.ofKind == f.ofKind && p.2.ofNum == f.ofNum &&
    p.2.done.isSome && !p.2.late)).foldl (betterFrame false) none).map (fun p => p.1)) == some id

/-- The buffer a ring writer may take: a fresh id while the ring is not full, else its oldest writable buffer (R138). -/
def Body.ringSlot (b : Body) (kind num : Nat) : Option (Option Nat) :=
  let ring := b.lay.bufs.filter (fun p => p.2.kind == kind && p.2.num == num)
  if ring.length < b.forceN 0x0C58 0 then some none
  else
    let ok := ring.filter (fun p => p.2.done.isSome && !(b.needs p.1) && !(b.heldBuf p.1) &&
      !(b.isNewest p.1 p.2))
    (ok.foldl (fun a p => match a with
      | none => some p
      | some q => if p.2.rank < q.2.rank then some p else some q) (none : Option (Nat × FrameBuf))).map (fun p => some p.1)

/-- A frame that finds no buffer is not written (R138). -/
def Body.writerDrop (b : Body) (e : Env) (kind num : Nat) : Body :=
  ((upFrom 0 31).filter (fun l => b.uses b.cfgNow l kind num)).foldl (fun x l => x.layerCause e l 7) (b.bump 0x0C5C 0 1)

/-- Take a buffer of a ring for a frame: its new id, with the buffer it overwrites gone. -/
def Body.takeBuf (b : Body) (f : FrameBuf) : Option (Body × Nat) :=
  match b.ringSlot f.kind f.num with
  | none => none
  | some old =>
    let id := b.lay.bufCtr + 1
    let m := match old with
      | some o => merase o b.lay.bufs
      | none => b.lay.bufs
    some ({ b with lay := { b.lay with bufCtr := id, bufs := minsert id f m } }, id)

/-- Frame signature of R194: CRC-64 over every sample, in the plane order and width of R334. -/
def frameSig (px : List (List (List Nat))) : Nat :=
  let plane (i : Nat) : Bytes := (px.map (fun row => (row.map (fun p => match p[i]? with
    | some v => le 2 v
    | none => [])).flatten)).flatten
  crc64xz (plane 0 ++ plane 1 ++ plane 2)

/-- A still's BLOB, in the layer pixel format (R114). -/
def FrameBuf.stillBytes (f : FrameBuf) : Bytes :=
  [0x53, 0x54, 0x4C, 1] ++ le 2 f.w ++ le 2 f.h ++ le 1 (b2n f.alpha) ++ le 7 0 ++
  (f.px.map (fun row => (row.map (fun p => (p.map (le 2)).flatten)).flatten)).flatten

/-- The buffer a still's BLOB makes; none where its header is malformed or its length differs from it (R114, R115). Reserved bits and
bytes are ignored (R9). -/
def stillOf (n : Nat) (bs : Bytes) : Option FrameBuf :=
  let w := leAt bs 4 2
  let h := leAt bs 6 2
  let fl := leAt bs 8 1
  let k := if bit fl 0 then 4 else 3
  if bs.length < 16 ∨ bs.take 4 ≠ [0x53, 0x54, 0x4C, 1] ∨ w = 0 ∨ h = 0 ∨
      bs.length ≠ 16 + w * h * 2 * k then none
  else
    let rows := chunks (w * 2 * k) h (bs.drop 16)
    some { kind := 3, num := n, w := w, h := h, alpha := bit fl 0, fmt := ⟨2, 16, 0, 0, 0, true⟩,
           px := rows.map (fun r => (chunks (2 * k) w r).map (fun p => (chunks 2 k p).map ofLE)),
           count := 0, pt := 0, rank := 0, done := some 0, sig := 0, concealed := false, ofKind := 0, ofNum := 0, geom := [],
           dying := false, late := false }

end Sys2Proof.Machine
end

