-- ==== Sys2Proof/Machine/Compute.lean ====
section
/-! DEFINITION. What an engine computes for a bead: colour conversion, composition, the guard layer, correction and dither
(R105 to R114, R133 to R136, R146 to R159). -/

namespace Sys2Proof.Machine

/-- 1.0 in Q2.22. -/
abbrev one : Nat := 4194304

/-- The quotient to the nearest integer, ties away from zero (R110). -/
def rnd (n : Int) (d : Nat) : Int := if 0 ≤ n then (2 * n + d) / (2 * d : Nat) else -((-(2 * n) + d) / (2 * d : Nat))

/-- A U16 sample or colour component in Q2.22 (R111). -/
def q22 (v : Nat) : Nat := divRound (v * one) 65535

/-- Components of a colour (R108) in Q2.22. -/
def colourOf (v : Nat) : List Nat := [q22 (field v 47 32), q22 (field v 31 16), q22 (field v 15 0)]

/-! ## From source code to linear light -/

/-- Linear interpolation in a table of 4,097 points at n / d of its range (R149). -/
def interp (f : Nat → Nat) (n d : Nat) : Nat :=
  let i := 4096 * n / d
  let r := 4096 * n - i * d
  if 4096 ≤ i then f 4096 else divRound (f i * (d - r) + f (i + 1) * r) d

/-- A fraction clamped to 0 to 1. -/
def clampFrac (n : Int) (d : Nat) : Nat × Nat := (clampN d n, d)

/-- Normalised luma or R'G'B' code: numerator and denominator (R148 step 1). -/
def lumaOf (f : Fmt) (v : Nat) : Int × Nat :=
  if f.full then ((v : Int), 2 ^ f.depth - 1) else ((v : Int) - (16 * 2 ^ (f.depth - 8) : Nat), 219 * 2 ^ (f.depth - 8))

/-- Normalised chroma of a doubled code: numerator and denominator. -/
def chromaOf (f : Fmt) (v2 : Nat) : Int × Nat :=
  if f.full then ((v2 : Int) - (2 ^ f.depth : Nat), 2 * (2 ^ f.depth - 1))
  else ((v2 : Int) - (256 * 2 ^ (f.depth - 8) : Nat), 448 * 2 ^ (f.depth - 8))

/-- R'G'B', clamped, of normalised Y', Cb and Cr by the inverse of the matrix (R148 steps 3 and 4). -/
def toRgb (bt2020 : Bool) (y cb cr : Int × Nat) : List (Nat × Nat) :=
  let kr : Nat := if bt2020 then 2627 else 2126
  let kb : Nat := if bt2020 then 593 else 722
  let kg := 10000 - kr - kb
  let d := y.2 * cb.2 * 10000
  let ny : Int := y.1 * (cb.2 * 10000 : Nat)
  let nr := ny + (20000 - 2 * kr : Nat) * cr.1 * y.2
  let nb := ny + (20000 - 2 * kb : Nat) * cb.1 * y.2
  [clampFrac nr d, clampFrac (10000 * ny - kr * nr - kb * nb) (kg * d), clampFrac nb d]

/-- The pixel's samples at (x, y). -/
def FrameBuf.pixel (f : FrameBuf) (x y : Nat) : Option (List Nat) := (f.px[y]?).bind (fun row => row[x]?)

/-- Doubled chroma of an unscaled 4:2:2 source at column x (R148 step 2). -/
def chroma422 (f : FrameBuf) (x y i : Nat) : Nat :=
  let at' (c : Nat) : Nat := ((f.pixel c y).getD []).getD i 0
  if x % 2 = 0 then 2 * at' x
  else if x + 1 < f.w then at' (x - 1) + at' (x + 1) else 2 * at' (x - 1)

/-- R'G'B' of a source frame's pixel, clamped. R148 step 2 speaks of an unscaled 4:2:2 source; before a scaler's filter the model takes
the same mean (DESIGN CHOICE; log entry 80). -/
def FrameBuf.rgb (f : FrameBuf) (x y : Nat) : Option (List (Nat × Nat)) :=
  (f.pixel x y).map (fun p =>
    if f.fmt.sampling = 2 then p.map (fun v => clampFrac (lumaOf f.fmt v).1 (lumaOf f.fmt v).2)
    else
      let cb := if f.fmt.sampling = 0 then chroma422 f x y 1 else 2 * p.getD 1 0
      let cr := if f.fmt.sampling = 0 then chroma422 f x y 2 else 2 * p.getD 2 0
      toRgb (f.fmt.matrix == 1) (lumaOf f.fmt (p.getD 0 0)) (chromaOf f.fmt cb) (chromaOf f.fmt cr))

/-- Display transfer of R148 step 5 by the tables of R149, computed from the formulas: the rounding of a point is free, and the result is
within 2^-18 of the transfer's value (log entry 8). -/
def display (c : Cfg) (f : Fmt) (v : List (Nat × Nat)) : List Nat :=
  match f.transfer with
  | 0 => v.map (fun p => nearLight (bt1886 p.1 p.2) (interp (tablePoint 0 0) p.1 p.2))
  | 1 =>
    let w := c.regN 0x100A 0
    v.map (fun p => nearLight (pqLight w p.1 p.2) (interp (tablePoint 1 w) p.1 p.2))
  | _ =>
    let k := if f.primaries = 1 then [2627, 6780, 593] else [2126, 7152, 722]
    let lum (es : List Nat) : Nat := ((es.zip k).map (fun p => p.1 * p.2)).foldl (· + ·) 0
    let w := c.regN 0x100B 0
    let e := v.map (fun p => interp (tablePoint 2 0) p.1 p.2)
    let x := v.map (fun p => hlgScene p.1 p.2)
    if lum x = 0 then [0, 0, 0]
    else (e.zip x).map (fun p => nearLight (hlgLight w (lum x / 10000) p.2)
      (divRound (interp (gainPoint w) (lum e) (10000 * one) * p.1) one))

/-- Row e of a matrix in Q2.14 applied to three components, to the nearest. -/
def matRow (m : List Int) (e : Nat) (v : List Nat) : Int :=
  rnd (m.getD (3 * e) 0 * v.getD 0 0 + m.getD (3 * e + 1) 0 * v.getD 1 0 + m.getD (3 * e + 2) 0 * v.getD 2 0) 16384

/-- Linear light in wall primaries of a source frame's pixel (R148). -/
def linearAt (c : Cfg) (f : FrameBuf) (x y : Nat) : Option (List Nat) :=
  (f.rgb x y).map (fun v =>
    let l := display c f.fmt v
    let m := (upFrom 1 9).map (fun i => c.reg (if f.fmt.primaries = 1 then 0x1009 else 0x1008) i)
    (upFrom 0 3).map (fun e => clampN one (matRow m e l)))

/-! ## Scalers (R124, R125, R130) -/

/-- Coefficient of a phase and tap: as loaded, else of the built-in set for the ratio and taps. -/
def coeff (blob : Bytes) (taps len dst phase t : Nat) : Int :=
  if blob.length = 1024 then toSigned 16 (beAt blob (2 * (8 * phase + t)) 2) else Config.builtinCoeff taps len dst phase t

/-- Input position of output index j: whole part and phase (R124). A tie in the rounding of the phase goes up: the spec decides none
(DESIGN CHOICE; log entry 79). -/
def scalePos (start len dst j : Nat) : Int × Nat :=
  let n : Int := (2 * start * dst : Nat) + ((2 * j + 1) * len : Nat) - (dst : Nat)
  let d := 2 * Nat.max 1 dst
  let ph := divRound ((n % d).toNat * 64) d
  if ph = 64 then (n / d + 1, 0) else (n / d, ph)

/-- One output of a polyphase filter, times 1,024. -/
def filterAt (blob : Bytes) (taps start len dst j : Nat) (read : Nat → Int) : Int :=
  let p := scalePos start len dst j
  ((upFrom 0 taps).map (fun (t : Nat) =>
    let k := clampI start ((start + len : Nat) - 1) (p.1 - ((taps - 1) / 2 : Nat) + (t : Int))
    coeff blob taps len dst p.2 t * read k.toNat)).foldl (· + ·) 0

/-- Dither matrix of R130. -/
def ditherM : List Nat := [0, 8, 2, 10, 12, 4, 14, 6, 3, 11, 1, 9, 15, 7, 13, 5]

/-- A scaled component to U16 through the output dither (R130). The sum is in Q2.22 times 2^20; it is
brought to 8 fraction bits below the U16 by rounding to the nearest, ties away from zero, which R130 leaves open (DESIGN CHOICE; log
entry 79). -/
def scalerOut (dither : Bool) (v : Int) (x y f : Nat) : Nat :=
  let t := if dither then 16 * ditherM.getD ((y + f) % 4 * 4 + (x + 2 * f) % 4) 0 + 8 else 128
  clampN 65535 ((rnd (v * (65535 * 256)) (one * 1048576) + t) / 256)

/-- The scaled copy of a source frame for layer l with scaler s under a configuration (R124). -/
def scaleFrame (c : Cfg) (l s : Nat) (f : FrameBuf) : List (List (List Nat)) :=
  let r := c.crop l f.w f.h
  let d := c.dest l
  let ht := c.regN 0x0D00 (s + 1)
  let vt := (tapsFor (c.regN 0x0D01 (s + 1)) (c.lay 0x0C13 l == 1) r.w r.h d.h).getD 2
  let vb := if vt = c.regN 0x0D01 (s + 1) then c.str 0x0D03 (s + 1) else []
  (upFrom 0 d.h).map (fun j => (upFrom 0 d.w).map (fun i => (upFrom 0 3).map (fun k =>
    let col (x : Nat) : Int := filterAt vb vt r.y r.h d.h j (fun y => (((linearAt c f x y).getD []).getD k 0 : Nat))
    scalerOut (c.regN 0x0D04 (s + 1) == 1) (filterAt (c.str 0x0D02 (s + 1)) ht r.x r.w d.w i col) (d.x + i) (d.y + j)
      (f.count % 4))))

/-! ## Composition -/

/-- Effective alpha in units of 2^-16 (R111). -/
def alphaOf (g ap : Nat) : Nat := divRound (g * ap * 65536) (32768 * 65535)

/-- A test pattern at (i, j) of a destination, as Q2.22 components (R114). Column i of a destination w wide lies in bar floor(8 i / w) of
pattern 3, also where 8 does not divide w: R114 says no more than 8 equal bars (DESIGN CHOICE; log entry 78). -/
def pattern (c : Cfg) (m : RodMap) (l k n p x y : Nat) : List Nat :=
  let d := c.dest l
  let i := x - d.x
  let j := y - d.y
  let fill := colourOf (c.lay 0x0C0D l)
  let black := [0, 0, 0]
  let grey (v : Nat) := [q22 v, q22 v, q22 v]
  match k with
  | 0 => grey (if d.w ≤ 1 then 0 else divRound (65535 * i) (d.w - 1))
  | 1 => grey (if d.h ≤ 1 then 0 else divRound (65535 * j) (d.h - 1))
  | 2 => if i % 64 = 0 ∨ j % 64 = 0 then fill else black
  | 3 =>
    let v := [7, 6, 3, 2, 5, 4, 1, 0].getD (8 * i / Nat.max 1 d.w) 0
    [q22 (if bit v 2 then 0xBFFF else 0), q22 (if bit v 1 then 0xBFFF else 0), q22 (if bit v 0 then 0xBFFF else 0)]
  | 4 =>
    if m.rods.any (fun r => r.2.any (fun t =>
        let f := t.footprint
        f.has x y && (x == f.x || x == f.x + f.w - 1 || y == f.y || y == f.y + f.h - 1))) then fill else black
  | 5 => if (i + j + n) % 2 = 0 then fill else black
  | 6 => grey ((p + 1) * 8191)
  | _ =>
    let a := 4 * n % Nat.max 1 d.w
    if a ≤ i ∧ i < a + 16 then fill else black

/-- The sample of a buffer at (i, j) of layer l's destination: Q2.22 components and per-pixel alpha (R114, R118). A still that is
the backup is sampled at the destination's size, without the crop (R122; DEDUCED, log entry 8). -/
def bufSample (c : Cfg) (l : Nat) (backup : Bool) (f : FrameBuf) (i j : Nat) : Option (List Nat × Nat) :=
  let r := c.crop l f.w f.h
  if f.kind = 6 then (f.pixel i j).map (fun p => (p.map q22, 65535))
  else if f.kind = 3 then
    let at' := if backup || (c.scaler? l).isSome then f.pixel i j else f.pixel (r.x + i) (r.y + j)
    at'.map (fun p => ((p.take 3).map q22, if f.alpha ∧ c.lay 0x0C09 l = 1 then p.getD 3 65535 else 65535))
  else (linearAt c f (r.x + i) (r.y + j)).map (fun v => (v, 65535))

/-- The sample of layer l at a canvas position by its decision; none where the layer takes no part. -/
def layerSample (bufs : Map FrameBuf) (c : Cfg) (m : RodMap) (l n p : Nat) (dec : Decision) (x y : Nat) :
    Option (List Nat × Nat) :=
  let d := (c.dest l).clip m.cw m.ch
  if !(d.has x y) ∨ dec.content = 0 then none
  else
    let s :=
      if dec.content = 3 then some (colourOf (c.lay 0x0C0D l), 65535)
      else match dec.buf with
        | some id => (mfind id bufs).bind (fun f => bufSample c l (dec.content == 4) f (x - d.x) (y - d.y))
        | none => some (if dec.kind = 4 then colourOf (c.lay 0x0C0E l) else pattern c m l dec.num n p x y, 65535)
    s.map (fun v => (v.1, alphaOf (c.lay 0x0C08 l) v.2))

/-- a times v, with a in units of 2^-16 (R110). -/
def mulA (a v : Nat) : Nat := divRound (a * v) 65536

/-- One blend, clamped (R110). -/
def blend (mode d s a : Nat) : Nat :=
  Nat.min one (match mode with
    | 0 => mulA a s + mulA (65536 - a) d
    | 1 => d + mulA a s
    | _ => divRound (d * ((65536 - a) * 64 + mulA a s)) one)

/-- The guard's sample at a canvas position: Q2.22 components, effective alpha, and the bytes its signature covers. -/
def guardSample (bufs : Map FrameBuf) (c : Cfg) (x y : Nat) : Option (List Nat × Nat × Bytes) :=
  let d := rectOf (c.regN 0x0C42 0)
  if c.regN 0x0C40 0 = 1 ∧ d.has x y then
    (mfind (c.regN 0x0C50 (c.regN 0x0C41 0 + 1)) bufs).bind (fun f => (f.pixel (x - d.x) (y - d.y)).map (fun p =>
      let ap := if f.alpha then p.getD 3 65535 else 65535
      ((p.take 3).map q22, alphaOf (c.regN 0x0C43 0) ap, ((p.take 3).map (le 2)).flatten ++ le 2 ap)))
  else none

/-- The guard gain (R105). -/
def Cfg.guardGain (c : Cfg) : Nat := Nat.max (c.regN 0x0C22 0) (c.regN 0x0C44 0)

/-- The composed value at a canvas position (R105). -/
def compose (bufs : Map FrameBuf) (c : Cfg) (m : RodMap) (decs : Map Decision) (n p x y : Nat) : List Nat :=
  let s := c.cloneAt p x y
  let d0 := colourOf (c.regN 0x0C21 0)
  let d1 := (upFrom 0 31).foldl (fun d i =>
    let l := c.lay 0x0C20 i
    if c.shown l p then
      match (mfind l decs).bind (fun k => layerSample bufs c m l n p k s.1 s.2) with
      | some (v, a) => (upFrom 0 3).map (fun e => blend (c.lay 0x0C0A l) (d.getD e 0) (v.getD e 0) a)
      | none => d
    else d) d0
  let d2 := d1.map (fun v => divRound (v * c.regN 0x0C22 0) 32768)
  match guardSample bufs c x y with
  | none => d2
  | some (v, a, _) => (upFrom 0 3).map (fun e =>
      Nat.min one (divRound (mulA a (v.getD e 0) * c.guardGain) 32768 + mulA (65536 - a) (d2.getD e 0)))

/-! ## Correction -/

/-- A correction entry (R155). -/
structure LampEntry where
  m : List Int
  g : List Nat
  o : List Nat
  flags : Nat
  bin : Nat
deriving DecidableEq, Repr

/-- The entry 32 bytes hold. -/
def lampEntry (bs : Bytes) : LampEntry :=
  ⟨(upFrom 0 9).map (fun i => toSigned 16 (leAt bs (2 * i) 2)), (upFrom 0 3).map (fun e => leAt bs (18 + 2 * e) 2),
   (upFrom 0 3).map (fun e => leAt bs (24 + e) 1), leAt bs 27 1, leAt bs 28 2⟩

/-- Address of lamp i's entry in correction generation g (R30, R158). -/
def Body.entryAddr (b : Body) (g i : Nat) : Nat := b.base (2 + g) + 32 * i

/-- The flags byte with an override in force: bit 3 comes from the entry (R160). -/
def withOverride (entry : Nat) (o : Option Override) : Nat :=
  match o with
  | none => entry
  | some v => setBit v.flags 3 (bit entry 3)

/-- Flags of lamp i in effect for sub-frame n, in correction generation g. -/
def Body.flagsAt (b : Body) (g i n : Nat) : Nat :=
  withOverride (leAt (b.bytes (b.entryAddr g i + 27) 1) 0 1) (b.overrideAt i n)

/-- State field of a flags byte (R156). -/
def stateOf (f : Nat) : Nat := f % 4

/-- Emitter e is in the mask of a flags byte. -/
def inMask (f e : Nat) : Bool := bit f (4 + e)

/-- A valid flags byte (R156, R157). -/
def flagsOk (f : Nat) : Bool := decide (f < 128) && decide ((f % 4 = 0) ↔ (field f 6 4 = 0))

/-- Dither matrix of R159. -/
def d8 : List Nat :=
  [ 0, 32, 8, 40, 2, 34, 10, 42, 48, 16, 56, 24, 50, 18, 58, 26, 12, 44, 4, 36, 14, 46, 6, 38, 60, 28, 52, 20, 62, 30, 54, 22,
    3, 35, 11, 43, 1, 33, 9, 41, 51, 19, 59, 27, 49, 17, 57, 25, 15, 47, 7, 39, 13, 45, 5, 37, 63, 31, 55, 23, 61, 29, 53, 21 ]

/-- Drive code of emitter e at (x, y), plane depth B, base frame k (R159). -/
def ditherCode (on : Bool) (v depth x y e k : Nat) : Nat :=
  let q := v * (2 ^ depth - 1)
  if on then
    let t := d8.getD ((y + 3 * k % 8) % 8 * 8 + (x + 2 * e + 5 * k % 8) % 8) 0
    (q * 128 + (2 * t + 1) * one) / (one * 128)
  else (2 * q + one) / (2 * one)

/-- Hosts of the lamp at (u, v) of a tile (R151): neighbours in state normal with the host bit. -/
def Body.hosts (b : Body) (s : Sub) (d : Bead) (u v : Nat) : Nat :=
  ((d.tile.near u v).filter (fun p =>
    let f := b.flagsAt s.corrGen (d.lamp (d.tile.scanOf p.1 p.2)) s.n
    stateOf f == 0 && bit f 2)).length

/-- Concealment shares a host lamp takes from its neighbours, added to its corrected value (R150, R151). -/
def Body.conceal (b : Body) (s : Sub) (d : Bead) (decs : Map Decision) (m : RodMap) (en : LampEntry) (u v : Nat)
    (vals : List Int) : List Int :=
  (d.tile.near u v).foldl (fun a p =>
    let f := b.flagsAt s.corrGen (d.lamp (d.tile.scanOf p.1 p.2)) s.n
    if stateOf f = 3 then
      let w := divRound (s.cfg.regN 0x100D 0) (b.hosts s d p.1 p.2)
      let at' := d.tile.place p.1 p.2
      let ch := compose b.lay.bufs s.cfg m decs s.n s.phase at'.1 at'.2
      (upFrom 0 3).map (fun e => a.getD e 0 + (if inMask f e then rnd (w * matRow en.m e ch) 32768 else 0))
    else a) vals

/-- Corrected values of a lamp before dither, and whether the ceiling scaled it (R150). -/
def Body.correct (b : Body) (s : Sub) (d : Bead) (decs : Map Decision) (m : RodMap) (scan : Nat) (c : List Nat) :
    List Nat × Bool :=
  let en := lampEntry (b.bytes (b.entryAddr s.corrGen (d.lamp scan)) 32)
  let f := withOverride en.flags (b.overrideAt (d.lamp scan) s.n)
  let uv := d.tile.pos scan
  let v0 := (upFrom 0 3).map (fun e => matRow en.m e c)
  let v1 := if s.cfg.regN 0x100E 0 = 1 ∧ stateOf f = 0 ∧ bit f 2 then b.conceal s d decs m en uv.1 uv.2 v0 else v0
  let v2 := (upFrom 0 3).map (fun e =>
    if stateOf f ≠ 0 ∧ inMask f e then 0 else divRound (clampN 0xFFFFFF (v1.getD e 0) * en.g.getD e 0) 32768)
  let k := b.regN 0x1003 (s.corrGen + 1) * 128
  let top := v2.foldl Nat.max 0
  let v3 := if k < top then v2.map (fun v => divRound (v * k) top) else v2
  ((upFrom 0 3).map (fun e => if 0 < v3.getD e 0 then Nat.min (v3.getD e 0 + 64 * en.o.getD e 0) one else 0), decide (k < top))

/-- The staging record of a bead, computed with the decisions of its group. -/
def Body.compute (b : Body) (s : Sub) (d : Bead) (decs : Map Decision) (m : RodMap) (engine : Nat) : Rec :=
  let lamps := d.scans.map (fun i =>
    let at' := d.at i
    let c := compose b.lay.bufs s.cfg m decs s.n s.phase at'.1 at'.2
    let v := b.correct s d decs m i c
    let codes := (upFrom 0 3).map (fun e => ditherCode (s.cfg.regN 0x100C 0 == 1) (v.1.getD e 0) d.tile.depth at'.1 at'.2 e
      (s.n / s.mode.phases))
    (codes, c, v.2))
  let g := d.scans.filterMap (fun i => (guardSample b.lay.bufs s.cfg (d.at i).1 (d.at i).2).map (fun v => v.2.2))
  { codes := (lamps.map (fun x => x.1)).flatten, canvas := (lamps.map (fun x => x.2.1)).flatten,
    guard := if s.cfg.regN 0x0C40 0 = 1 ∧ d.rect.meets (rectOf (s.cfg.regN 0x0C42 0)) then some (g.flatten, s.cfg.guardGain)
             else none,
    clamps := lamps.map (fun x => x.2.2), engine := engine }

/-- Signature of a staging record: CRC-32C over its codes. -/
def Rec.sig (r : Rec) : Nat := crc32c ((r.codes.map (le 2)).flatten)

/-- Expected partial guard signature of each rod under a configuration and a map (R134). -/
def guardParts (bufs : Map FrameBuf) (c : Cfg) (m : RodMap) : Map Nat :=
  if c.regN 0x0C40 0 = 1 then
    m.rods.map (fun r => (r.1, crc32c (((m.rodBeads r.1).map (fun d => (d.scans.filterMap (fun i =>
      (guardSample bufs c (d.at i).1 (d.at i).2).map (fun v => v.2.2))).flatten)).flatten)))
  else []

/-- The whole expected guard signature, and the lamps it covers (R134); 0 and 0 while the guard is disabled (DESIGN CHOICE; log entry 106). -/
def guardWhole (bufs : Map FrameBuf) (c : Cfg) (m : RodMap) : Nat × Nat :=
  if c.regN 0x0C40 0 = 1 then
    let g := (m.allBeads.map (fun d => d.scans.filterMap (fun i =>
      (guardSample bufs c (d.at i).1 (d.at i).2).map (fun v => v.2.2)))).flatten
    (crc32c g.flatten, g.length)
  else (0, 0)

end Sys2Proof.Machine
end

