-- ==== Sys2Proof/Machine/Encoder.lean ====
section
/-! DEFINITION. How an encode engine codes a picture's CUs: the choice of mode, the motion search and the vector field (R353, R354, R356). What
H.265 itself lays down is not in the spec: its sample interpolation is PRESUMED, its bits and its reconstruction are free (log entry 93). -/

namespace Sys2Proof.Machine

/-! ## Blocks -/

/-- A picture's coded size and its planes in 4:2:0. -/
structure Pic where
  w : Nat
  h : Nat
  planes : List (List Nat)
deriving DecidableEq, Repr

/-- Scale of a plane: chroma has half the columns and rows. -/
def planeDiv (k : Nat) : Nat := if k = 0 then 1 else 2

/-- A sample of plane k; places outside the picture take the nearest inside. -/
def Pic.at' (p : Pic) (k : Nat) (x y : Int) : Int :=
  let w := p.w / planeDiv k
  let h := p.h / planeDiv k
  ((p.planes.getD k []).getD (clampN (h - 1) y * w + clampN (w - 1) x) 0 : Nat)

/-- CUs across a picture. -/
def cusAcross (w : Nat) : Nat := divUp w 16

/-- The CUs of a picture in coding order: CTUs of 64 by 64 row by row, in each the sixteen CUs in z order (R353). -/
def cuOrder (w h : Nat) : List (Nat × Nat) :=
  (((upFrom 0 (divUp h 64)).map (fun ty => (upFrom 0 (divUp w 64)).map (fun tx => (upFrom 0 16).map (fun z =>
    (4 * tx + z % 2 + z / 4 % 2 * 2, 4 * ty + z / 2 % 2 + z / 8 * 2))))).flatten.flatten).filter
      (fun c => decide (c.1 < cusAcross w) && decide (c.2 < divUp h 16))

/-- The places of a CU in plane k that lie in the picture, row by row. -/
def cuPlaces (w h k : Nat) (c : Nat × Nat) : List (Nat × Nat) :=
  let n := 16 / planeDiv k
  ((upFrom (n * c.2) n).map (fun y => (upFrom (n * c.1) n).map (fun x => (x, y)))).flatten.filter
    (fun p => decide (p.1 < w / planeDiv k) && decide (p.2 < h / planeDiv k))

/-- The samples of a CU: luma, then each chroma. -/
def Pic.block (p : Pic) (c : Nat × Nat) : List Nat :=
  ((upFrom 0 3).map (fun k => (cuPlaces p.w p.h k c).map (fun q => (p.at' k q.1 q.2).toNat))).flatten

/-! ## Prediction -/

/-- Luma filter of a quarter-sample place. -/
def lumaTaps (q : Nat) : List Int :=
  [[0, 0, 0, 64, 0, 0, 0, 0], [-1, 4, -10, 58, 17, -5, 1, 0], [-1, 4, -11, 40, 40, -11, 4, -1], [0, 1, -5, 17, 58, -10, 4, -1]].getD q []

/-- Chroma filter of an eighth-sample place. -/
def chromaTaps (q : Nat) : List Int :=
  [[0, 64, 0, 0], [-2, 58, 10, -2], [-4, 54, 16, -2], [-6, 46, 28, -4], [-4, 36, 36, -4], [-4, 28, 46, -6], [-2, 16, 54, -4],
   [-2, 10, 58, -2]].getD q []

/-- The predicted sample of plane k at a place, with a vector in quarter-samples of luma. -/
def Pic.pred (r : Pic) (k : Nat) (v : Int × Int) (x y : Nat) : Nat :=
  let unit : Nat := if k = 0 then 4 else 8
  let taps (d : Int) : List Int := if k = 0 then lumaTaps (d % (unit : Int)).toNat else chromaTaps (d % (unit : Int)).toNat
  let off : Int := if k = 0 then 3 else 1
  let x0 : Int := x + v.1 / (unit : Int) - off
  let y0 : Int := y + v.2 / (unit : Int) - off
  let sum (ts : List Int) (g : Nat → Int) : Int := ((ts.zip (upFrom 0 ts.length)).map (fun t => t.1 * g t.2)).foldl (· + ·) 0
  let row (j : Nat) : Int := sum (taps v.1) (fun i => r.at' k (x0 + i) (y0 + j)) / 4
  clampN 1023 ((sum (taps v.2) row / 64 + 8) / 16)

/-- The predicted samples of a CU. -/
def Pic.predBlock (r : Pic) (v : Int × Int) (c : Nat × Nat) : List Nat :=
  ((upFrom 0 3).map (fun k => (cuPlaces r.w r.h k c).map (fun q => r.pred k v q.1 q.2))).flatten

/-! ## Costs (R353, R354) -/

/-- k * lambda < d, decided on cubes: that of lambda = 0.57 * 2^((QP - 12) / 3) is the fraction 0.57^3 * 2^(QP - 12) (R353). -/
def lambdaLess (qp : Nat) (k d : Int) : Bool := decide ((57 ^ 3 * 2 ^ qp : Nat) * k ^ 3 < (100 ^ 3 * 2 ^ 12 : Nat) * d ^ 3)

/-- SAD + sqrt(lambda) * bits of a vector is less than that of another: decided on squares with their signs (R354). -/
def motionLess (qp : Nat) (a c : Nat × Nat) : Bool :=
  let k : Int := (a.2 : Int) - c.2
  let d : Int := (c.1 : Int) - a.1
  lambdaLess qp (k * k.natAbs) (d * d.natAbs)

/-- D + lambda * R of a coding is less than that of another. -/
def rateLess (qp : Nat) (a c : Nat × Nat) : Bool := lambdaLess qp ((a.2 : Int) - c.2) ((c.1 : Int) - a.1)

/-- The first of the items of least cost. -/
def leastBy {α : Type} (less : α → α → Bool) : List α → Option α
  | [] => none
  | x :: xs => some (xs.foldl (fun a y => if less y a then y else a) x)

/-! ## Motion search (R354) -/

/-- What the search of a CU sees: the source, the reference, the QP, the vectors found so far in this picture, and those of the last. -/
structure Search where
  src : Pic
  ref : Pic
  qp : Nat
  now : Map (Int × Int)
  old : Map (Int × Int)
deriving DecidableEq, Repr

/-- The vector of a CU in a field; none outside the picture, or where it has none. -/
def Search.vec (s : Search) (m : Map (Int × Int)) (x y : Int) : Option (Int × Int) :=
  if x < 0 ∨ y < 0 ∨ (cusAcross s.src.w : Int) ≤ x then none else mfind (y.toNat * cusAcross s.src.w + x.toNat) m

/-- The vectors beside a CU in the current picture: left, above, above-right, above-left. -/
def Search.beside (s : Search) (c : Nat × Nat) : List (Option (Int × Int)) :=
  let x : Int := c.1
  let y : Int := c.2
  [s.vec s.now (x - 1) y, s.vec s.now x (y - 1), s.vec s.now (x + 1) (y - 1), s.vec s.now (x - 1) (y - 1)]

/-- The block of a vector lies at most 64 samples outside the reference. -/
def Search.inReach (s : Search) (c : Nat × Nat) (v : Int × Int) : Bool :=
  decide (-256 ≤ 64 * (c.1 : Int) + v.1) && decide (-256 ≤ 64 * (c.2 : Int) + v.2) &&
    decide (64 * (c.1 : Int) + 64 + v.1 ≤ 4 * (s.ref.w : Int) + 256) && decide (64 * (c.2 : Int) + 64 + v.2 ≤ 4 * (s.ref.h : Int) + 256)

/-- The candidates of a CU: zero, the vectors beside it, and those of the last picture at the same CU, to its right and below it; without
duplicates and without those out of reach. -/
def Search.candidates (s : Search) (c : Nat × Nat) : List (Int × Int) :=
  let x : Int := c.1
  let y : Int := c.2
  let all := some (0, 0) :: s.beside c ++ [s.vec s.old x y, s.vec s.old (x + 1) y, s.vec s.old x (y + 1)]
  (all.filterMap id).foldl (fun a v => if a.contains v || !(s.inReach c v) then a else a ++ [v]) []

/-- SAD of a vector, and the bits of its difference. -/
def Search.cost (s : Search) (c : Nat × Nat) (v : Int × Int) : Nat × Nat :=
  (((cuPlaces s.src.w s.src.h 0 c).map (fun q => (s.src.at' 0 q.1 q.2 - s.ref.pred 0 v q.1 q.2).natAbs)).foldl (· + ·) 0,
    Config.mvdBits v (s.beside c))

/-- The vector of least cost. -/
def Search.least (s : Search) (c : Nat × Nat) (vs : List (Int × Int)) : Int × Int :=
  match leastBy (fun a d => motionLess s.qp a.2 d.2) (vs.map (fun v => (v, s.cost c v))) with
  | some r => r.1
  | none => (0, 0)

/-- The eight places at a distance round a vector, itself first. -/
def around (d : Int) (v : Int × Int) : List (Int × Int) :=
  v :: [(-d, -d), (0, -d), (d, -d), (-d, 0), (d, 0), (-d, d), (0, d), (d, d)].map (fun (p : Int × Int) => (v.1 + p.1, v.2 + p.2))

/-- The integer places within 16 quarter-samples of a vector, row by row. -/
def wholeAround (v : Int × Int) : List (Int × Int) :=
  let axis (n : Int) : List Int := ((upFrom 0 33).map (fun (i : Nat) => n - 16 + (i : Int))).filter (fun x => x % 4 == 0)
  ((axis v.2).map (fun y => (axis v.1).map (fun x => (x, y)))).flatten

/-- The motion search of a CU: the best candidate, refined to whole, half and quarter samples. -/
def Search.motion (s : Search) (c : Nat × Nat) : Int × Int :=
  s.least c (around 1 (s.least c (around 2 (s.least c (wholeAround (s.least c (s.candidates c)))))))

/-! ## The choice of mode (R353) -/

/-- A way to code a CU: its vector (none in intra), its bits and its samples. -/
structure Way where
  vec : Option (Int × Int)
  bits : Nat
  samples : List Nat
deriving DecidableEq, Repr

/-- Sum of squared errors. -/
def sse (a c : List Nat) : Nat := ((a.zip c).map (fun p => ((p.1 : Int) - p.2).natAbs ^ 2)).foldl (· + ·) 0

/-- The four intra codings of a CU: planar, DC, horizontal, vertical. -/
def Search.intra (s : Search) (c : Nat × Nat) (near : List (List Nat)) : List Way :=
  let src := s.src.block c
  [2, 3, 4, 5].map (fun m =>
    let r := Config.coded m s.qp src [] near
    ⟨none, r.1, fit 0 src.length r.2⟩)

/-- The codings of a CU against the reference: skip at each merge candidate, and inter at the vector found. -/
def Search.inter (s : Search) (c : Nat × Nat) (v : Int × Int) (near : List (List Nat)) : List Way :=
  let src := s.src.block c
  let skip (v : Int × Int) : Way := let p := s.ref.predBlock v c
    ⟨some v, (Config.coded 0 s.qp src p near).1, p⟩
  let r := Config.coded 1 s.qp src (s.ref.predBlock v c) near
  (Config.mergeVectors (s.beside c)).map skip ++ [⟨some v, r.1, fit 0 src.length r.2⟩]

/-- The coding of least D + lambda R. -/
def Search.choose (s : Search) (c : Nat × Nat) (ws : List Way) : Way :=
  let src := s.src.block c
  (leastBy (fun (a d : Way) => rateLess s.qp (sse src a.samples, a.bits) (sse src d.samples, d.bits)) ws).getD ⟨none, 0, src⟩

/-! ## A picture -/

/-- A picture being coded: by CU, the vectors the CUs coded take, the final vectors of their searches (R354), and their samples. -/
structure Coding where
  vecs : Map (Int × Int)
  field : Map (Int × Int)
  done : Map (List Nat)
deriving DecidableEq, Repr

/-- Code one CU. `row` gives the QP of its CTU row, and whether the row is coded without residual: at zero motion in a P picture, as DC in an IDR
(R352, R356). -/
def Coding.cu (k : Coding) (src ref : Pic) (old : Map (Int × Int)) (idr : Bool) (row : Nat × Bool) (c : Nat × Nat) : Coding :=
  let at' (x y : Int) : List Nat :=
    if x < 0 ∨ y < 0 ∨ (cusAcross src.w : Int) ≤ x then [] else mgetD [] (y.toNat * cusAcross src.w + x.toNat) k.done
  let x : Int := c.1
  let y : Int := c.2
  let near := [at' (x - 1) y, at' x (y - 1), at' (x + 1) (y - 1), at' (x - 1) (y - 1), at' (x - 1) (y + 1)]
  let s : Search := ⟨src, ref, row.1, k.vecs, old⟩
  let still := row.2 || idr
  let v : Int × Int := if still then (0, 0) else s.motion c
  let w : Way :=
    if row.2 then
      (if idr then ⟨none, 0, fit 0 (src.block c).length (Config.coded 6 row.1 [] [] near).2⟩ else ⟨some (0, 0), 0, ref.block c⟩)
    else s.choose c (if idr then s.intra c near else s.inter c v near ++ s.intra c near)
  let i := c.2 * cusAcross src.w + c.1
  { vecs := (match w.vec with
      | some u => minsert i u k.vecs
      | none => k.vecs)
    field := minsert i v k.field
    done := minsert i w.samples k.done }

/-- The planes of a picture coded. -/
def Coding.planes (k : Coding) (w h : Nat) : List (List Nat) :=
  let all := (cuOrder w h).map (fun c =>
    (((upFrom 0 3).map (fun j => (cuPlaces w h j c).map (fun q => (j, q)))).flatten).zip (mgetD [] (c.2 * cusAcross w + c.1) k.done))
  (upFrom 0 3).map (fun j =>
    let pw := w / planeDiv j
    let mine : Map Nat := (all.flatten.filter (fun t => t.1.1 == j)).foldl (fun m t => minsert (t.1.2.2 * pw + t.1.2.1) t.2 m) []
    (upFrom 0 (pw * (h / planeDiv j))).map (fun i => mgetD 0 i mine))

/-- Code a picture: the rows' QPs and which rows are coded without residual, the source, the reference, the last field. The new vector field, the
final vectors of the searches, zero throughout after an IDR, and the reconstructed planes (R354). -/
def codePicture (idr : Bool) (rows : List (Nat × Bool)) (src ref : Pic) (old : Map (Int × Int)) : Map (Int × Int) × List (List Nat) :=
  let k := (cuOrder src.w src.h).foldl (fun (k : Coding) c => k.cu src ref old idr (rows.getD (c.2 / 4) (0, false)) c) ⟨[], [], []⟩
  (k.field, k.planes src.w src.h)

end Sys2Proof.Machine
end

