-- ==== Sys2Proof/Machine/Crypto.lean ====
section
/-! DEFINITION. SHA-256, SHA-384 (R42), HMAC-SHA-256 and HKDF-SHA-256, which R409, R414 and R419 name. -/

namespace Sys2Proof.Machine

/-- The primes among the `k` numbers from `n` on, where `below` is the product of all the primes under `n`. -/
def primesFrom : Nat → Nat → Nat → List Nat
  | 0, _, _ => []
  | k + 1, n, below =>
    bif (Nat.gcd n below).beq 1 then n :: primesFrom k (n + 1) (below * n) else primesFrom k (n + 1) below

/-- The first 80 primes: the last of them is 409. -/
def primes80 : List Nat := primesFrom 408 2 1

/-- Newton's descent to the integer `k`-th root of `n`, from a value `x` that is no smaller. -/
def rootDown (k n : Nat) : Nat → Nat → Nat
  | 0, x => x
  | fuel + 1, x =>
    let y := ((k - 1) * x + n / x ^ (k - 1)) / k
    bif Nat.blt y x then rootDown k n fuel y else x

/-- The first `bits` bits of the fraction of the `k`-th root of `p`, which is below 512. -/
def rootFraction (bits k p : Nat) : Nat :=
  rootDown k (p * 2 ^ (k * bits)) 64 (2 ^ (bits + 5)) % 2 ^ bits

/-- What tells one hash of the family from the other: the width of a word, the number of rounds, which primes
the initial words come from, and the turns (and, for the schedule, the shift) of its four mixing functions. -/
structure HashKind where
  bits : Nat
  rounds : Nat
  skip : Nat
  mixA : List Nat
  mixE : List Nat
  lateOf15 : List Nat × Nat
  lateOf2 : List Nat × Nat
deriving DecidableEq, Repr

/-- SHA-256. -/
def kind256 : HashKind := ⟨32, 64, 0, [2, 13, 22], [6, 11, 25], ([7, 18], 3), ([17, 19], 10)⟩

/-- SHA-384: 64-bit words, and the 9th to 16th primes. -/
def kind384 : HashKind := ⟨64, 80, 8, [28, 34, 39], [14, 18, 41], ([1, 8], 7), ([19, 61], 6)⟩

/-- The exclusive or of `v` turned right by each of `turns`, onto `acc`. -/
def HashKind.mix (h : HashKind) (turns : List Nat) (v acc : Nat) : Nat :=
  turns.foldl (fun a n => Nat.xor a (v * (2 ^ h.bits + 1) / 2 ^ n % 2 ^ h.bits)) acc

/-- A hash under way: the values taken by the first and the fifth working word, latest first (the other six are
their earlier values), and the next sixteen words of the schedule. -/
structure HashRun where
  tops : List Nat
  mids : List Nat
  window : List Nat
deriving DecidableEq, Repr

/-- One round under the constant `k`; the window moves on by one word. -/
def HashKind.round (h : HashKind) (x : HashRun) (k : Nat) : HashRun :=
  let top n := x.tops.getD n 0
  let mid n := x.mids.getD n 0
  let word n := x.window.getD n 0
  let pick := Nat.xor (mid 2) (Nat.land (mid 0) (Nat.xor (mid 1) (mid 2)))
  let most := Nat.lor (Nat.land (top 0) (top 1)) (Nat.land (top 2) (Nat.lor (top 0) (top 1)))
  let carry := h.mix h.mixE (mid 0) 0 + pick + mid 3 + word 0 + k
  let fresh := word 0 + h.mix h.lateOf15.1 (word 1) (word 1 / 2 ^ h.lateOf15.2) + word 9
    + h.mix h.lateOf2.1 (word 14) (word 14 / 2 ^ h.lateOf2.2)
  ⟨(carry + h.mix h.mixA (top 0) 0 + most) % 2 ^ h.bits :: x.tops.take 3, (top 3 + carry) % 2 ^ h.bits :: x.mids.take 3,
   x.window.drop 1 ++ [fresh % 2 ^ h.bits]⟩

/-- One block into the chaining words, each half of which stands latest first. -/
def HashKind.block (h : HashKind) (x : List Nat × List Nat) (bs : Bytes) : List Nat × List Nat :=
  let ks := (primes80.take h.rounds).map (rootFraction h.bits 3)
  let y := ks.foldl h.round ⟨x.1, x.2, (chunks (h.bits / 8) 16 bs).map ofBE⟩
  let sum := List.zipWith fun a b => (a + b) % 2 ^ h.bits
  (sum x.1 y.tops, sum x.2 y.mids)

/-- The hash of `m`: padded with a one bit, zeros and its length to whole blocks of 16 words. -/
def HashKind.digest (h : HashKind) (m : Bytes) : Bytes :=
  let size := 2 * h.bits
  let tail := be (h.bits / 4) (8 * m.length)
  let room := (m.length + 1 + tail.length) % size
  let p := m ++ 0x80 :: List.replicate ((size - room) % size) 0 ++ tail
  let first := ((primes80.drop h.skip).take 8).map (rootFraction h.bits 2)
  let x := (chunks size (p.length / size) p).foldl h.block (first.take 4, first.drop 4)
  (x.1 ++ x.2).flatMap (be (h.bits / 8))

/-- SHA-256. -/
def sha256 (m : Bytes) : Bytes := kind256.digest m

/-- SHA-384: its digest is the first 48 bytes. -/
def sha384 (m : Bytes) : Bytes := (kind384.digest m).take 48

/-- HMAC-SHA-256. -/
def hmac (key m : Bytes) : Bytes :=
  let k := fit 0 64 (if key.length > 64 then sha256 key else key)
  sha256 (k.map (fun b => b ^^^ 0x5C) ++ sha256 (k.map (fun b => b ^^^ 0x36) ++ m))

/-- The output blocks of HKDF-SHA-256. -/
def hkdfBlocks (prk info : Bytes) : Nat → Nat → Bytes → Bytes
  | 0, _, _ => []
  | n + 1, i, t =>
    let t' := hmac prk (t ++ info ++ be 1 i)
    t' ++ hkdfBlocks prk info n (i + 1) t'

/-- HKDF-SHA-256 (RFC 5869): salt, input key, info, length. -/
def hkdf (salt ikm info : Bytes) (len : Nat) : Bytes :=
  (hkdfBlocks (hmac salt ikm) info (divUp len 32) 1 []).take len

/-- An ASCII label. -/
def ascii (t : String) : Bytes := t.toList.map (fun c => BitVec.ofNat 8 c.toNat)

end Sys2Proof.Machine
end

