-- ==== Sys2Proof/Machine/Flags.lean ====
section
/-! DEFINITION. Sticky flags: cause entries cleared by a write, event status, the interrupt and alert lines. -/

namespace Sys2Proof.Machine

/-- A write to a sticky cause entry clears the bits set in the value (R145, R265, R296, R360). -/
def Body.clearCause (b : Body) (idx sub v : Nat) : Body :=
  let old := b.regN idx sub
  b.setReg idx sub ((old - Nat.land old v : Nat))

/-- The cause entries: `layer.cause`, `rod.cause`, `lane.cause`, `port.cause`, `flow.cause`, `stream.cause`,
`conf.cause`. -/
def isCause (idx : Nat) : Bool := [0x0C1B, 0x1209, 0x130F, 0x0A09, 0x0A24, 0x0B0A, 0x0B51].contains idx

/-- ALERT_N is driven low: an enabled source of severity fault or safety has its sticky status set (R432), or BOOT_SEL
names no source in BOOT (R503). -/
def Body.alertLow (b : Body) : Bool :=
  (upFrom 0 1024).any (fun s => bit (b.evCfg s) 31 && decide (2 ≤ field (b.evCfg s) 27 26) &&
    bit (b.regN (0x0308 + s / 128) (s % 128 + 1)) 31) ||
  (b.devState == devBoot && b.dev.bootSel == 3)

/-- ACTIVE_N is driven low (R446): while ACTIVE in a pair; while LIVE in a single unit. -/
def Body.activeLow (b : Body) : Bool := b.pair.drive || (b.regN 0x1A02 0 == 0 && b.live)

end Sys2Proof.Machine
end

