-- ==== Sys2Proof/Machine/Session.lean ====
section
/-! DEFINITION. Accepting a request of a session, answering it, ending a session, the mailbox ring (R407 to R420). -/

namespace Sys2Proof.Machine

/-- Session in a slot. -/
def Body.sess? (b : Body) (slot : Nat) : Option Session := mfind slot b.dict.sess

/-- Replace the session of a slot. -/
def Body.setSess (b : Body) (slot : Nat) (x : Session) : Body :=
  { b with dict := { b.dict with sess := minsert slot x b.dict.sess } }

/-- Change the session of a slot, if one is open there. -/
def Body.modSess (b : Body) (slot : Nat) (f : Session → Session) : Body :=
  match b.sess? slot with
  | none => b
  | some x => b.setSess slot (f x)

/-- Post a message to the from-device ring, or hold it while the ring is full (R420). -/
def Body.mboxPost (b : Body) (e : Env) (m : Bytes) : Body :=
  if b.mbox.held.isEmpty ∧ b.mbox.fdWrite - b.mbox.fdRead < 16 then
    { b with mbox := { b.mbox with fdWrite := b.mbox.fdWrite + 1, fdRing := b.mbox.fdRing ++ [m] } }.raise e 40 0
  else { b with mbox := { b.mbox with held := b.mbox.held ++ [m] } }

/-- A message of the device with its tag (R408, R409); no key gives a zero tag. -/
def deviceMsg (key : Option Bytes) (ty sid seq : Nat) (body : Bytes) : Bytes :=
  let m := idpMsg ty sid seq 256 body
  m ++ (match key with
        | some k => (hmac k m).take 16
        | none => List.replicate 16 0)

/-- A message leaves: through the mailbox, or from the device's IDP port to the peer's address and port (R408, R420). -/
def Body.leave (b : Body) (e : Env) (via : Transport) (peer m : Bytes) : Body :=
  if via = .mailbox then b.mboxPost e m else b.emit (.datagram idpPort via peer m)

/-- Send a response outside or within a session: to its peer, or through the mailbox. -/
def Body.sendRsp (b : Body) (e : Env) (key : Option Bytes) (sid : Nat) (via : Transport) (peer : Bytes) (tx reply : Nat)
    (rsp : Rsp) : Body :=
  (b.emit (.rsp sid via peer tx reply rsp)).leave e via peer (deviceMsg key (rsp.wire reply).1 sid tx (rsp.wire reply).2)

/-- Answer request `seq` of a session, whose bytes were `m`, and keep the answer (R410). -/
def Body.answer (b : Body) (e : Env) (slot seq : Nat) (m : Bytes) (rsp : Rsp) : Body :=
  match b.sess? slot with
  | none => b
  | some x =>
    let tx := x.tx + 1
    let kept : List Kept := (x.kept.filter (fun k => k.seq != seq)) ++ [⟨seq, m, tx, some rsp⟩]
    (b.setSess slot { x with tx := tx, kept := kept.drop (kept.length - 32) }).sendRsp e (some x.kd2c) x.sid x.via x.peer
      tx seq rsp

/-- Keep a request whose answer comes later (R142). -/
def Body.keepOpen (b : Body) (slot seq : Nat) (m : Bytes) : Body :=
  b.modSess slot (fun x => { x with kept := (x.kept ++ [(⟨seq, m, 0, none⟩ : Kept)]).drop (x.kept.length + 1 - 32) })

/-- Answer a request kept open: its answer takes its place among those kept; one that newer requests have pushed out is answered too. -/
def Body.answerLate (b : Body) (e : Env) (slot seq : Nat) (rsp : Rsp) : Body :=
  match b.sess? slot with
  | none => b
  | some x =>
    let tx := x.tx + 1
    let kept := x.kept.map (fun (k : Kept) => if k.seq = seq then { k with tx := tx, rsp := some rsp } else k)
    (b.setSess slot { x with tx := tx, kept := kept }).sendRsp e (some x.kd2c) x.sid x.via x.peer tx seq rsp

/-- Sequence `seq` is new to a session (R410): above every accepted one, or among the 63 below it and not yet accepted. -/
def Session.fresh (x : Session) (seq : Nat) : Bool :=
  decide (x.hi < seq) || (decide (1 ≤ seq) && decide (x.hi - seq ≤ 63) && decide (seq ≤ x.hi) && !(bit x.window (x.hi - seq)))

/-- The session after it accepts `seq`. -/
def Session.accept (x : Session) (seq tb : Nat) : Session :=
  if x.hi < seq then { x with hi := seq, window := (x.window * 2 ^ (seq - x.hi) + 1) % 2 ^ 64, last := tb }
  else { x with window := setBit x.window (x.hi - seq) true, last := tb }

/-- What becomes of a request on its way in. -/
inductive Arrival where
  | discard
  | queueFull
  | badTag
  | again (k : Kept)
  | accepted (x : Session)
deriving DecidableEq, Repr

/-- The fate of a request of message type `ty` and body `body` (R408 to R412). Port messages need the management port's
clock domain. A request of another version than 0x01 is discarded (DESIGN CHOICE; log entry 115). -/
def Body.arrive (b : Body) (r : Req) (ty : Nat) (body : Bytes) : Arrival :=
  match b.sess? (r.sid % 8) with
  | none => .discard
  | some x =>
    if x.sid ≠ r.sid ∨ x.via ≠ r.via ∨ x.peer ≠ r.peer ∨ r.version ≠ 1 then .discard
    else if r.via ≠ .mailbox ∧ b.regN 0x0120 53 = 3 then .discard
    else if 256 ≤ r.depth then .queueFull
    else
      let m := idpMsg ty r.sid r.seq r.rsv body
      if (hmac x.kc2d m).take 16 ≠ r.tag then .badTag
      else if x.fresh r.seq then .accepted x
      else
        match x.kept.find? (fun k => k.seq == r.seq && k.bytes == m) with
        | some k => .again k
        | none => .discard

/-- Serve a request: discard, count and drop, repeat a kept answer, or execute `h` on the slot and answer (R407, R410).
`h` answers none where the response comes later. `post` runs once the response has left. -/
def serve (e : Env) (r : Req) (ty : Nat) (body : Bytes) (h : Nat → Body → Body × Option Rsp)
    (post : Nat → Body → Body) (b : Body) : Body :=
  match b.arrive r ty body with
  | .discard => b
  | .queueFull => (b.bump 0x0230 0 1).raiseSlow e 43 43 0
  | .badTag => (b.modSess (r.sid % 8) (fun x => { x with tagFail := (x.tagFail + 1) % 2 ^ 32 })).raiseSlow e
      (36000 + r.sid % 8) 36 0
  | .again k =>
    match k.rsp, b.sess? (r.sid % 8) with
    | some rsp, some x => b.sendRsp e (some x.kd2c) x.sid x.via x.peer k.tx k.seq rsp
    | _, _ => b
  | .accepted x =>
    let slot := r.sid % 8
    let m := idpMsg ty r.sid r.seq r.rsv body
    let a := h slot (b.setSess slot (x.accept r.seq e.tb))
    match a.2 with
    | some rsp => post slot (a.1.answer e slot r.seq m rsp)
    | none => post slot (a.1.keepOpen slot r.seq m)

/-- Forward a successful write of a forwarded entry to the standby, in execution order (R454). Writes to shadowed
entries are forwarded with their commit, and an override by its own message (R452). -/
def Body.forwardWrite (b : Body) (e : Env) (idx sub : Nat) (v : WireVal) : Body :=
  match lookup idx sub with
  | none => b
  | some t =>
    if b.forwards && forwarded idx && t.access != .rws && !([0x1018, 0x0C28, 0x0C29].contains idx) then
      b.tellWrite e idx sub t.ty (match v with
        | .b s => Val.b s
        | _ => Val.n v.num)
    else b

/-- A written value after its checks: `h` gives the effect and the response. -/
def checkedWrite (e : Env) (role idx sub : Nat) (ty : Ty) (v : WireVal) (h : Body → Body × Rsp) (b : Body) : Body × Rsp :=
  match b.checkWrite role idx sub ty v with
  | 0 =>
    let a := h b
    match a.2 with
    | .write 0 _ _ => (a.1.forwardWrite e idx sub v, a.2)
    | _ => a
  | st => (b, .write st 0 0)

/-- Type of an entry; U8 where it is not allocated. -/
def tyOf (idx sub : Nat) : Ty := ((lookup idx sub).map Entry.carried).getD .u8

/-- A WRITE of its own entry's type to (idx, sub), served: `h` gets the slot. -/
def serveWrite (e : Env) (r : Req) (idx sub : Nat) (v : WireVal) (h : Nat → Body → Body × Rsp) (b : Body) : Body :=
  serve e r 0x12 (writeBody idx sub (tyOf idx sub) v)
    (fun slot x =>
      let a := checkedWrite e (x.roleOf slot) idx sub (tyOf idx sub) v (h slot) x
      (a.1, some a.2))
    (fun _ x => x) b

/-- Response of a WRITE with status st alone. -/
def wrote (st : Nat) : Rsp := .write st 0 0

/-- A session ends (R417): its shadow set, subscriptions, transfers and notifications go. An operation fed by its open
write transfer finds its stream ended; `Body.cutStream` in the load family reads that. -/
def Body.endSession (b : Body) (e : Env) (slot detail : Nat) : Body :=
  match b.sess? slot with
  | none => b
  | some _ => { b with dict := { b.dict with sess := merase slot b.dict.sess } }.raise e 33 detail

end Sys2Proof.Machine
end

