-- ==== Sys2Proof/Machine/Net.lean ====
section
/-! DEFINITION. The media ports as Ethernet stations (R325 to R327): addresses in text, ARP, neighbour discovery, echo, next hops and the
host queue. The layouts of ARP, IP and ICMP are those of their own standards, which R326 names (PRESUMED; log entry 92). -/

namespace Sys2Proof.Machine

/-! ## Addresses in text -/

/-- Pieces of a text between separators. -/
def splitOn (sep : Byte) : Bytes → Bytes → List Bytes
  | [], cur => [cur.reverse]
  | c :: cs, cur => if c = sep then cur.reverse :: splitOn sep cs [] else splitOn sep cs (c :: cur)

/-- A decimal number of one to three digits. -/
def decOf (bs : Bytes) : Option Nat :=
  if bs.isEmpty || decide (3 < bs.length) || !(bs.all (fun c => decide (48 ≤ c.toNat) && decide (c.toNat ≤ 57))) then none
  else some (bs.foldl (fun a c => a * 10 + (c.toNat - 48)) 0)

/-- One hexadecimal digit. -/
def hexDigit (c : Nat) : Option Nat :=
  if 48 ≤ c ∧ c ≤ 57 then some (c - 48) else if 97 ≤ c ∧ c ≤ 102 then some (c - 87) else if 65 ≤ c ∧ c ≤ 70 then some (c - 55) else none

/-- A group of one to four hexadecimal digits, as two bytes. -/
def hexGroup (bs : Bytes) : Option Bytes :=
  if bs.isEmpty || decide (4 < bs.length) || bs.any (fun c => (hexDigit c.toNat).isNone) then none
  else some (be 2 (bs.foldl (fun a c => a * 16 + (hexDigit c.toNat).getD 0) 0))

/-- An IPv4 address in text. -/
def ipv4Of (bs : Bytes) : Option Bytes :=
  let ps := splitOn 46 bs []
  if ps.length ≠ 4 ∨ ps.any (fun p => match decOf p with
    | some v => decide (255 < v)
    | none => true) then none
  else some (ps.map (fun p => BitVec.ofNat 8 ((decOf p).getD 0)))

/-- Groups of an IPv6 text without an elision. -/
def ipv6Groups (bs : Bytes) : Option Bytes :=
  if bs.isEmpty then some []
  else
    let gs := (splitOn 58 bs []).map (fun g => if g.contains 46 then ipv4Of g else hexGroup g)
    if gs.any Option.isNone then none else some (gs.map (fun g => g.getD [])).flatten

/-- The text before and after the first "::". -/
def elision : Bytes → Bytes → Option (Bytes × Bytes)
  | a :: c :: cs, pre => if a = 58 ∧ c = 58 then some (pre.reverse, cs) else elision (c :: cs) (a :: pre)
  | _, _ => none

/-- An IPv6 address in text. -/
def ipv6Of (bs : Bytes) : Option Bytes :=
  match elision bs [] with
  | none => (ipv6Groups bs).bind (fun a => if a.length = 16 then some a else none)
  | some (p, q) =>
    match ipv6Groups p, ipv6Groups q with
    | some a, some d => if a.length + d.length ≤ 14 then some (a ++ List.replicate (16 - a.length - d.length) 0 ++ d) else none
    | _, _ => none

/-- An address in text. -/
def addrOf (bs : Bytes) : Option Bytes := if bs.contains 58 then ipv6Of bs else ipv4Of bs

/-- A multicast group. -/
def isMulticast (a : Bytes) : Bool :=
  let c := (a.getD 0 0).toNat
  if a.length = 4 then decide (224 ≤ c) && decide (c ≤ 239) else c == 255

/-- The text of port p's address and prefix of an IP version, cut at the slash (R326, R358). -/
def Body.portText (b : Body) (p : Nat) (v6 : Bool) : List Bytes := splitOn 47 (b.str (if v6 then 0x0A03 else 0x0A02) (p + 1)) []

/-- The address of port p of an IP version (R326). -/
def Body.portAddr (b : Body) (p : Nat) (v6 : Bool) : Option Bytes := addrOf ((b.portText p v6).getD 0 [])

/-- Port p has this address as its own. -/
def Body.ownAddr (b : Body) (p : Nat) (a : Bytes) : Bool := b.portAddr p (a.length == 16) == some a

/-- An address lies in the subnet of port p; a text without a prefix has the address alone in it. -/
def Body.onLink (b : Body) (p : Nat) (a : Bytes) : Bool :=
  let bits := 8 * a.length
  match b.portAddr p (a.length == 16) with
  | some own =>
    let n := Nat.min bits (((b.portText p (a.length == 16))[1]?.bind decOf).getD bits)
    ofBE own / 2 ^ (bits - n) == ofBE a / 2 ^ (bits - n)
  | none => false

/-! ## Frames -/

/-- The media port has its link up. -/
def Body.portUp (b : Body) (p : Nat) : Bool := b.regN 0x0A00 (p + 1) == 1

/-- The MAC address of port p: no rule names it (log entry 92). -/
def portMac (p : Nat) : Bytes := fit 0 6 (Config.portMac p)

/-- The VLAN a frame must carry on port p: none where the port is untagged (R326). -/
def Body.vlanTag (b : Body) (p : Nat) : Option Nat := if b.regN 0x0A05 (p + 1) = 0 then none else some (b.regN 0x0A05 (p + 1))

/-- An Ethernet frame of port p, with the port's tag and without its check sequence, filled to 60 bytes. -/
def Body.ethernet (b : Body) (p : Nat) (dst : Bytes) (ty : Nat) (pay : Bytes) : Bytes :=
  let f := dst ++ portMac p ++ (match b.vlanTag p with
    | some v => be 2 0x8100 ++ be 2 v
    | none => []) ++ be 2 ty ++ pay
  fit 0 (Nat.max 60 f.length) f

/-- Port p sends a frame; none is longer than 1,522 bytes with its check sequence (R325). -/
def Body.sendFrame (b : Body) (p : Nat) (f : Bytes) : Body := if f.length + 4 ≤ 1522 then b.emit (.frame p f) else b

/-- The Internet checksum of a byte string. -/
def inetSum (bs : Bytes) : Nat :=
  let s := ((chunks 2 bs.length bs).map (fun w => ofBE (fit 0 2 w))).foldl (· + ·) 0
  65535 - (if s = 0 then 0 else (s - 1) % 65535 + 1)

/-- An ARP packet of port p: 1 a request, 2 a reply. -/
def arpPacket (p op : Nat) (own mac ip : Bytes) : Bytes := be 2 1 ++ be 2 0x0800 ++ be 1 6 ++ be 1 4 ++ be 2 op ++ portMac p ++ own ++ mac ++ ip

/-- An ICMP or ICMPv6 message with its checksum. -/
def icmp (src dst : Bytes) (ty : Nat) (body : Bytes) : Bytes :=
  let n := 4 + body.length
  let pseudo := if src.length = 16 then src ++ dst ++ be 4 n ++ be 4 58 else []
  be 1 ty ++ be 1 0 ++ be 2 (inetSum (pseudo ++ be 1 ty ++ be 1 0 ++ be 2 0 ++ body)) ++ body

/-- An IP packet that carries an ICMP message. -/
def ipPacket (src dst : Bytes) (hops : Nat) (pay : Bytes) : Bytes :=
  if src.length = 16 then be 4 0x60000000 ++ be 2 pay.length ++ be 1 58 ++ be 1 hops ++ src ++ dst ++ pay
  else
    let h (sum : Nat) := be 2 0x4500 ++ be 2 (20 + pay.length) ++ be 4 0 ++ be 1 hops ++ be 1 1 ++ be 2 sum ++ src ++ dst
    h (inetSum (h 0)) ++ pay

/-- EtherType of an address's IP version. -/
def ipType (a : Bytes) : Nat := if a.length = 16 then 0x86DD else 0x0800

/-- The IPv6 multicast address a solicitation goes to. -/
def solicited (a : Bytes) : Bytes := be 2 0xFF02 ++ be 8 0 ++ be 3 0x0001FF ++ a.drop 13

/-- The MAC address of a multicast group. -/
def groupMac (a : Bytes) : Bytes :=
  if a.length = 16 then be 2 0x3333 ++ a.drop 12 else be 3 0x01005E ++ be 3 (ofBE (a.drop 1) % 2 ^ 23)

/-! ## Answers for the port's own addresses (R326) -/

/-- Port p answers an ARP request for its own address. -/
def Body.arpAnswer (b : Body) (p : Nat) (mac ip target : Bytes) : Body := b.sendFrame p (b.ethernet p mac 0x0806 (arpPacket p 2 target mac ip))

/-- Port p answers a neighbour solicitation for its own address; to all nodes where the asker has no address yet. -/
def Body.ndAnswer (b : Body) (p : Nat) (mac src target : Bytes) : Body :=
  let blind := src.all (· == 0)
  let dst := if blind then be 2 0xFF02 ++ be 8 0 ++ be 6 1 else src
  b.sendFrame p (b.ethernet p (if blind then groupMac dst else mac) 0x86DD (ipPacket target dst 255
    (icmp target dst 136 (be 4 (if blind then 0x20000000 else 0x60000000) ++ target ++ be 2 0x0201 ++ portMac p))))

/-- Port p answers an echo request to its own address. -/
def Body.echoAnswer (b : Body) (p : Nat) (mac src dst data : Bytes) : Body :=
  b.sendFrame p (b.ethernet p mac (ipType dst) (ipPacket dst src 64 (icmp dst src (if dst.length = 16 then 129 else 0) data)))

/-! ## Next hops (R326) -/

/-- The next hop of port p for a unicast address: itself in the subnet, else the gateway of the version where there is one (R358). -/
def Body.nextHop (b : Body) (p : Nat) (a : Bytes) : Bytes :=
  if b.onLink p a then a
  else match addrOf (b.str 0x0A04 (p + 1)) with
    | some g => if g.length = a.length then g else a
    | none => a

/-- Port p asks for the MAC address of a hop. -/
def Body.askHop (b : Body) (p : Nat) (hop : Bytes) : Body :=
  let own := (b.portAddr p (hop.length == 16)).getD (List.replicate hop.length 0)
  if hop.length = 16 then
    b.sendFrame p (b.ethernet p (groupMac (solicited hop)) 0x86DD (ipPacket own (solicited hop) 255
      (icmp own (solicited hop) 135 (be 4 0 ++ hop ++ be 2 0x0101 ++ portMac p))))
  else b.sendFrame p (b.ethernet p (List.replicate 6 0xFF) 0x0806 (arpPacket p 1 own (be 6 0) hop))

/-- A packet with the MAC address it leaves to. -/
def RtpOut.out (x : RtpOut) (mac : Bytes) : Out := .rtp x.port mac x.dst x.udp x.dscp x.bytes

/-- Port p sends a packet to an address: to the MAC address of its group, to its next hop, or when the next hop has answered (R326). -/
def Body.sendTo (b : Body) (x : RtpOut) : Body :=
  if isMulticast x.dst then b.emit (x.out (groupMac x.dst))
  else
    let hop := b.nextHop x.port x.dst
    match b.media.hops.find? (fun h => h.1 == x.port && h.2.1 == hop) with
    | some h => b.emit (x.out h.2.2)
    | none =>
      let b1 := { b with media := { b.media with waiting := b.media.waiting ++ [(hop, x)] } }
      if b.media.waiting.any (fun w => w.1 == hop && w.2.port == x.port) then b1 else b1.askHop x.port hop

/-- A hop of port p has answered: what waits for it leaves. -/
def Body.hopAnswers (b : Body) (p : Nat) (hop mac : Bytes) : Body :=
  let mine (w : Bytes × RtpOut) : Bool := w.1 == hop && w.2.port == p
  { b with
    media := { b.media with
      hops := b.media.hops.filter (fun (h : Nat × Bytes × Bytes) => !(h.1 == p && h.2.1 == hop)) ++ [(p, hop, mac)]
      waiting := b.media.waiting.filter (fun w => !(mine w)) }
    out := b.out ++ (b.media.waiting.filter mine).map (fun w => w.2.out mac) }

/-! ## The host queue (R327) -/

/-- Traffic addressed to port p goes to the cores' host queue at up to 1 Gb/s; what is beyond that is dropped. R327 names no interval: how far
traffic may run ahead of the rate is free (log entry 91). -/
def Body.toHost (b : Body) (e : Env) (p bytes : Nat) : Body :=
  let sent := Nat.max (mgetD 0 p b.media.host) (2 * e.tb)
  if sent ≤ 2 * e.tb + Config.hostBurst then
    { b.emit (.hostFrame p bytes) with media := { b.media with host := mputD 0 p (sent + 8 * bytes) b.media.host } }
  else b.setCause e 0x0A09 (p + 1) 4 (128 + p)

/-- Port p drops a frame and counts it (R327). -/
def Body.dropFrame (b : Body) (p : Nat) : Body := b.bump 0x0A06 (p + 1) 1

end Sys2Proof.Machine
end

