-- ==== Sys2Proof/Machine/Beads.lean ====
section
/-! DEFINITION. The bead scheduler: issue, completion, rotating shadow execution, squashes and recomputes (R77 to R101). -/

namespace Sys2Proof.Machine

/-! ## Tags, records, engines -/

/-- Change `bead.staging_free` by d (R77). -/
def Body.addStaging (b : Body) (d : Int) : Body := b.setReg 0x0E0A 0 (b.reg 0x0E0A 0 + d)

/-- Advance the epoch counter (R84). -/
def Body.newEpoch (b : Body) : Body := b.setReg 0x0E0B 0 (((b.regN 0x0E0B 0 + 1) % 65536 : Nat))

/-- The epoch counter. -/
def Body.epoch (b : Body) : Nat := b.regN 0x0E0B 0

/-- Change the scheduler. -/
def Body.modBeads (b : Body) (f : Beads → Beads) : Body := { b with beads := f b.beads }

/-- Store `bead.tags` (R103). -/
def Body.countTags (b : Body) : Body := b.setReg 0x0E03 0 (b.beads.out.length : Nat)

/-- Tags have become free: they are counted, and a stall of issue ends (R80). -/
def Body.freeTags (b : Body) (e : Env) : Body := b.countTags.endStall e

/-- Engine e is in service (R101). -/
def Body.engOk (b : Body) (e : Nat) : Bool := b.regN 0x0E0C (e + 1) == 0

/-- Beads outstanding on engine e. -/
def Body.engLoad (b : Body) (e : Nat) : Nat := (b.beads.out.filter (fun o => o.engine == e)).length

/-- The in-service engine with the fewest beads outstanding, the lowest on a tie, outside a list (R82). -/
def Body.pickEngine (b : Body) (skip : List Nat) : Option Nat :=
  ((upFrom 0 192).filter (fun e => b.engOk e && !(skip.contains e))).foldl (fun a e => match a with
    | none => some e
    | some k => if b.engLoad e < b.engLoad k then some e else some k) none

/-- The first in-service engine from k onward, wrapping, outside a list (R98, R99). -/
def Body.engineFrom (b : Body) (k : Nat) (skip : List Nat) : Option Nat :=
  ((upFrom 0 192).map (fun i => (k + i) % 192)).find? (fun e => b.engOk e && !(skip.contains e))

/-- The least tag not held. -/
def Body.freeTag (b : Body) : Option Nat :=
  (upFrom 0 8192).find? (fun t => !(b.beads.out.any (fun o => o.tag == t)))

/-- A group of a sub-frame by its epoch. -/
def Sub.group? (s : Sub) (epoch : Nat) : Option Group := s.groups.find? (fun g => g.epoch == epoch)

/-- The recompute of a sub-frame that the active told under an epoch (R93). -/
def Sub.toldGroup? (s : Sub) (act : Nat) : Option Group := s.groups.find? (fun g => g.layer.isSome && g.act == some act)

/-- The group of the first pass of a sub-frame. -/
def Sub.pass? (s : Sub) : Option Group := s.groups.find? (fun g => g.layer.isNone)

/-- The epoch of the first pass, under which a squash is told that has no group of its own (R84, R452; log entry 84). -/
def Sub.passEpoch (s : Sub) : Nat := (s.pass?.map (fun g => g.epoch)).getD 0

/-- Change a group. -/
def Sub.modGroup (s : Sub) (epoch : Nat) (f : Group → Group) : Sub :=
  { s with groups := s.groups.map (fun g => if g.epoch = epoch then f g else g) }

/-- Change the recompute that the active told under an epoch. -/
def Sub.modTold (s : Sub) (act : Nat) (f : Group → Group) : Sub :=
  { s with groups := s.groups.map (fun g => if g.layer.isSome ∧ g.act = some act then f g else g) }

/-- The bead descriptor of a key. -/
def Body.beadOf (b : Body) (s : Sub) (k : Nat) : Option Bead := (b.rodBeadsOf s (k / 512)).find? (fun d => d.num == k % 512)

/-- Beads of a sub-frame that touch layer l, in the order of issue (R76). -/
def Body.touched (b : Body) (s : Sub) (l : Nat) : List Bead :=
  (b.subBeads s).filter (fun d => s.cfg.touches l s.phase d.rect)

/-! ## Decisions told to the twin (R452, R456) -/

/-- PT' and signature of the content a decision names. -/
def Body.identity (b : Body) (c : Cfg) (l : Nat) (d : Decision) : Nat × Nat :=
  match d.buf.bind (fun id => mfind id b.lay.bufs) with
  | some f => ((c.pt' l f).toNat, f.sig)
  | none => (0, 0)

/-- The active unit tells its twin a decision, counted for the SEAL. -/
def Body.tellDecision (b : Body) (e : Env) (s : Sub) (l kind epoch : Nat) (d : Decision) : Body :=
  if b.forwards then
    let i := b.identity s.cfg l d
    (b.modSub s.n (fun x => { x with decCount := x.decCount + 1 })).pairSend e
      (.decision ⟨s.n, l, kind, epoch, d.content, d.kind, d.num, i.1, i.2⟩)
  else b

/-! ## Issue (R79 to R82, R97, R98) -/

/-- C(N) of a job's sub-frame. -/
def Body.jobC (b : Body) (j : Job) : Int := ((b.sub? j.n).map (fun s => s.c)).getD 0

/-- Job j comes before job k (R81); checks of an output mismatch come before all (R459). -/
def Body.jobBefore (b : Body) (j k : Job) : Bool :=
  if j.cls = 0 ∨ k.cls = 0 then decide (j.cls < k.cls) || (decide (j.cls = k.cls) && decide (j.rank < k.rank))
  else
    let cj := b.jobC j
    let ck := b.jobC k
    decide (cj < ck) || (decide (cj = ck) && (decide (j.cls < k.cls) || (decide (j.cls = k.cls) && decide (j.rank < k.rank))))

/-- The waiting bead that comes first. -/
def Body.firstJob (b : Body) : Option Job :=
  (b.beads.waiting.filter (fun j => j.record)).foldl (fun a j => match a with
    | none => some j
    | some k => if b.jobBefore j k then some j else some k) none

/-- The place of a bead in the order of R79. -/
def Group.place (g : Group) (k : Nat) : Nat := (firstIdx (fun (p : Nat × Nat) => p.1 == k) 0 g.beads).getD 0

/-- The engine a bead goes to. A check of a mismatch avoids the engine that made the record. -/
def Body.engineFor (b : Body) (j : Job) : Option Nat :=
  match j.eng with
  | some e => if b.engOk e then some e else none
  | none =>
    match j.kind with
    | .attrib => b.pickEngine (((b.sub? j.n).bind (fun s => mfind j.bead s.use)).toList.map (fun r => r.engine))
    | _ => b.pickEngine []

/-- Engines that hold a first-pass bead of a group. -/
def Group.holders (g : Group) : List Nat := (upFrom 0 192).filter (fun e => g.beads.any (fun p => p.2 == e))

/-- Begin the check of engine e on its first bead of the first pass (R98). Where no other engine is in service to be the checker,
no check begins and none counts as missed: the spec names no case for it (DESIGN CHOICE; log entry 77). -/
def Body.startCheck (b : Body) (s : Sub) (g : Group) (e : Nat) : Body :=
  match g.beads.find? (fun p => p.2 == e), b.engineFrom (e + 96) [e] with
  | some (k, _), some ch =>
    b.modBeads (fun x => { x with
      checks := x.checks ++ [⟨s.n, g.epoch, k, e, ch, mfind k g.recs, none⟩]
      waiting := x.waiting ++ [⟨s.n, g.epoch, k, .shadow e, 3, g.place k, some ch, true⟩] })
  | _, _ => b

/-- Choose the engines to check in a sub-frame: those missed before, and the next of the rotation (R97, R100). -/
def Body.pickNow (b : Body) (s : Sub) (g : Group) : Body :=
  let ok := g.holders.filter b.engOk
  let extra := b.beads.missed.filter (fun e => ok.contains e)
  let turn := (((upFrom 1 192).map (fun i => (b.beads.rot + i) % 192)).filter (fun e => ok.contains e)).take s.mode.checksPer
  let all := extra ++ turn.filter (fun e => !(extra.contains e))
  let b1 := (b.modBeads (fun x => { x with rot := turn.getLast?.getD x.rot, missed := x.missed.filter (fun e => !(extra.contains e)) })).modSub
    s.n (fun x => { x with picked := true })
  all.foldl (fun x e => x.startCheck s g e) b1

/-- Once every first-pass bead of a sub-frame is issued, or at C(N) where `late` says so, its engines to check are chosen (R97). -/
def Body.pickChecks (b : Body) (late : Bool) (s : Sub) : Body :=
  match s.pass? with
  | none => b
  | some g => if s.picked || (!late && g.beads.any (fun p => p.2 == 255)) then b else b.pickNow s g

/-- The buffers the bead of a job reads (R137). -/
def Body.readBy (b : Body) (j : Job) : List Nat :=
  match b.sub? j.n with
  | none => []
  | some s =>
    match s.group? j.epoch, b.beadOf s j.bead with
    | some g, some d => s.reads g d.rect
    | _, _ => []

/-- Issue the waiting bead that comes first, when a tag and an engine are free (R80 to R82). -/
def beadIssue (e : Env) (b : Body) : Body :=
  if b.beads.stopped then b
  else
    match b.firstJob with
    | none => b
    | some j =>
      match b.freeTag with
      | none => b.modBeads (fun x => { x with stall := some (x.stall.getD e.tb) })
      | some t =>
        match b.engineFor j with
        | none => b
        | some en =>
          let b0 := ((b.endStall e).modBeads (fun x => { x with waiting := x.waiting.erase j, out := x.out ++ [⟨t, j, en, e.tb⟩] })).countTags
          let b1 := b0.lease (b.readBy j)
          match j.kind with
          | .normal =>
            let b2 := b1.modSub j.n (fun s => s.modGroup j.epoch (fun g =>
              { g with beads := g.beads.map (fun p => if p.1 = j.bead then (p.1, en) else p) }))
            match b2.sub? j.n with
            | some s => b2.pickChecks false s
            | none => b2
          | _ => b1

/-! ## Fences (R83, R99, R101) -/

/-- A job after engine x is fenced: it waits again, a shadow or vote for the next engine in its order; none where no engine is left. -/
def Body.reissue (b : Body) (x : Nat) (j : Job) : Option Job :=
  match j.kind with
  | .shadow e => (b.engineFrom (x + 1) [e, x]).map (fun v => { j with eng := some v })
  | .vote e c => (b.engineFrom (x + 1) [e, c, x]).map (fun v => { j with eng := some v })
  | _ => some { j with eng := none }

/-- Job j is for check c. -/
def Job.isFor (j : Job) (c : Check) : Bool :=
  j.n == c.n && j.epoch == c.epoch && j.bead == c.bead && (match j.kind with
    | .shadow _ => true
    | .vote _ _ => true
    | _ => false)

/-- Engine x is out of service: its outstanding beads wait again under the same epoch (R83, R101). A check of x whose bead it had not
completed ends, and so does a check that no engine is left to make: both are missed (R100). The checks whose vote has no engine left are
returned, to be handled as votes without majority (R99). -/
def Body.fenceOne (b : Body) (e : Env) (x cause : Nat) : Body × List Check :=
  let b1 := (b.setReg 0x0E0C (x + 1) (cause : Nat)).raise e (if cause = 2 then 308 else 307) 0
  let open' := b1.beads.checks.filter (fun c => c.e == x && c.orig.isNone)
  let ended (j : Job) : Bool := open'.any j.isFor
  let alive (j : Job) : Bool := j.kind == .attrib || (b1.sub? j.n).any (fun s => !s.retired)
  let onX := ((b1.beads.out.filter (fun o => o.engine == x)).map (fun o => o.job)).filter (fun j => alive j && !(ended j))
  let waits := b1.beads.waiting.filter (fun j => !(ended j))
  let lost := (onX ++ waits.filter (fun j => j.eng == some x)).filter (fun j => (b1.reissue x j).isNone)
  let noVote := b1.beads.checks.filter (fun c => c.copy.isSome && lost.any (fun j => j.isFor c))
  let gone := open' ++ b1.beads.checks.filter (fun c => c.copy.isNone && lost.any (fun j => j.isFor c))
  ((b1.modBeads (fun y => { y with
      out := y.out.filter (fun o => o.engine != x)
      waiting := waits.filterMap (fun j => if j.eng = some x then b1.reissue x j else some j) ++ onX.filterMap (b1.reissue x)
      missed := y.missed ++ ((gone.map (fun c => c.e)).eraseDups.filter (fun k => !(y.missed.contains k)))
      checks := (y.checks.filter (fun c => !(gone.contains c))).map (fun c =>
        if c.checker = x ∧ c.copy.isNone then { c with checker := (b1.engineFrom (x + 1) [c.e, x]).getD x } else c) })).freeTags e,
   noVote)

/-- A vote without majority: both engines are fenced, by `fen`, and before C(N) the rod will fall back (R99). -/
def Body.splitVote (b : Body) (e : Env) (fen : Nat → Body → Body) (c : Check) : Body :=
  let b1 := ((fen c.checker (fen c.e b)).raise e 310 0).modBeads (fun x => { x with
    checks := x.checks.filter (fun k => !(k.n == c.n && k.epoch == c.epoch && k.bead == c.bead)) })
  b1.modSub c.n (fun s => if s.retired then s else { s with votes := c.bead / 512 :: s.votes })

/-- Fence engine x, and the engines of every vote that this leaves without a voter. -/
def fenceN : Nat → Env → Nat → Nat → Body → Body
  | 0, _, _, _, b => b
  | k + 1, e, cause, x, b =>
    if !(b.engOk x) then b
    else
      let r := b.fenceOne e x cause
      r.2.foldl (fun y c => y.splitVote e (fenceN k e 3) c) r.1

/-- Fence engine x with a cause (R83, R99, R101). -/
def Body.fence (b : Body) (e : Env) (x cause : Nat) : Body := fenceN 4 e cause x b

/-- A hung bead: more than `bead.tag_timeout` has passed since its start (R83). -/
def hungBead (e : Env) (tag : Nat) (b : Body) : Body :=
  match b.beads.out.find? (fun o => o.tag == tag) with
  | none => b
  | some o => if o.tb * 2 + b.regN 0x0E05 0 < e.tb * 2 then b.fence e o.engine 2 else b

/-! ## Squash and recompute (R86 to R92) -/

/-- A live recompute of the sub-frame, among those p accepts, is of the layer, or touches one of the beads (R89). -/
def Sub.blockedBy (s : Sub) (p : Group → Bool) (l : Nat) (ks : List Nat) : Bool :=
  s.groups.any (fun g => g.live && g.layer.isSome && p g && (g.layer == some l || g.beads.any (fun q => ks.contains q.1)))

/-- A live recompute of the sub-frame is of the layer, or touches one of the beads (R89). -/
def Sub.blocked (s : Sub) (l : Nat) (ks : List Nat) : Bool := s.blockedBy (fun _ => true) l ks

/-- Issue a recompute of layer l for a sub-frame with a decision, under the next value of the unit's epoch counter (R84, R87, R88, R90).
`rank` is the place of its squash in the order of admission (R81), `act` the epoch under which a standby's active told it (R93). -/
def Body.recompute (b : Body) (e : Env) (s : Sub) (l : Nat) (d : Decision) (rank : Nat) (act : Option Nat) : Body :=
  let ds := b.touched s l
  let b0 := b.endLeases.newEpoch
  let ep := b0.epoch
  let free := b0.regN 0x0E0A 0
  let jobs := (ds.zip (upFrom 0 ds.length)).map (fun p =>
    (⟨s.n, ep, p.1.key, .normal, 2, rank * 65536 + p.2, none, decide (p.2 < free)⟩ : Job))
  let g : Group := ⟨ep, true, some l, some d, minsert l d s.decs, ds.map (fun x => (x.key, 255)), [], !b.follows, act⟩
  let short := decide (free < ds.length)
  let b1 := (b0.modSub s.n (fun x => { x with groups := x.groups ++ [g], recomps := x.recomps + 1,
                                              charged := x.charged + (ds.map (fun y => y.n)).foldl (· + ·) 0,
                                              starved := x.starved || short })).modBeads
    (fun x => { x with waiting := x.waiting ++ jobs })
  let b2 := b1.addStaging (-(Nat.min free ds.length : Nat))
  if short && !s.starved then b2.raise e 311 0 else b2

/-- The squash meets both conditions of R88. -/
def Body.admits (b : Body) (s : Sub) (l : Nat) : Bool :=
  decide (s.recomps < 64) &&
  decide (s.charged + ((b.touched s l).map (fun x => x.n)).foldl (· + ·) 0 ≤ b.quota s.mode)

/-- A squash is refused (R88). -/
def Body.refuseSquash (b : Body) (e : Env) (s : Sub) (l : Nat) (d : Decision) : Body :=
  ((b.bump 0x0E07 4 1).raise e 306 0).tellDecision e s l 4 s.passEpoch d

/-- The squash held for a layer of a sub-frame. -/
def Body.heldSquash (b : Body) (n l : Nat) : Option Held := b.beads.held.find? (fun h => h.n == n && h.layer == l)

/-- A squash held is no longer. -/
def Body.dropSquash (b : Body) (n l : Nat) : Body :=
  b.modBeads (fun x => { x with held := x.held.filter (fun h => !(h.n == n && h.layer == l)) })

/-- Hold a squash: one of the same layer and sub-frame gives it its place (R89; DEDUCED, log entry 84). -/
def Body.holdSquash (b : Body) (h : Held) : Body :=
  match b.heldSquash h.n h.layer with
  | some o => b.modBeads (fun x => { x with held := x.held.map (fun k => if k = o then { h with rank := o.rank } else k) })
  | none => b.modBeads (fun x => { x with held := x.held ++ [h] })

/-- One more squash of a sub-frame is admitted. -/
def Body.countAdmitted (b : Body) (n : Nat) : Body := b.modSub n (fun s => { s with admitted := s.admitted + 1 })

/-- A squash that has arisen is refused, held, or issued (R88, R89). -/
def Body.admitSquash (b : Body) (e : Env) (s : Sub) (l : Nat) (d : Decision) : Body :=
  if !(b.admits s l) then b.refuseSquash e s l d
  else
    let b0 := b.countAdmitted s.n
    if s.blocked l ((b.touched s l).map Bead.key) then
      ((b0.holdSquash ⟨s.n, l, d, s.admitted, none, false⟩).bump 0x0E07 5 1).tellDecision e s l 1 s.passEpoch d
    else
      let b1 := b0.recompute e s l d s.admitted none
      b1.tellDecision e s l 1 b1.epoch d

/-- A held squash whose blocker is gone, at the unit that decides inclusion: the newest ready frame takes its place, and both conditions
of R88 are checked again (R89). -/
def Body.reviewSquash (b : Body) (e : Env) (s : Sub) (h : Held) : Body :=
  let y := b.dropSquash h.n h.layer
  let d := y.include e s.cfg s.mode s.e h.layer
  if d.content ≠ 1 ∧ d.content ≠ 4 ∨ d.buf.isNone ∨ (mfind h.layer s.decs).bind (fun k => k.buf) = d.buf then
    y.tellDecision e s h.layer 3 s.passEpoch h.dec
  else if !(y.admits s h.layer) then y.refuseSquash e s h.layer d
  else
    let z := y.recompute e s h.layer d h.rank none
    z.tellDecision e s h.layer 1 z.epoch d

/-- A held squash that the active unit has issued starts at the standby (R93). -/
def Body.startIssued (b : Body) (e : Env) (s : Sub) (h : Held) : Body :=
  match h.epoch with
  | none => b
  | some ep => ((b.dropSquash h.n h.layer).recompute e s h.layer h.dec h.rank (some ep)).modSub h.n (fun t =>
      t.modTold ep (fun g => { g with told := h.told }))

/-- Re-evaluate the squashes held for a sub-frame, in admission order (R89); a standby only starts those its active has issued. -/
def Body.releaseHeld (b : Body) (e : Env) (n : Nat) : Body :=
  (b.beads.held.filter (fun h => h.n == n)).foldl (fun x h =>
    match x.sub? n with
    | none => x
    | some s =>
      if s.blocked h.layer ((x.touched s h.layer).map Bead.key) then x
      else if x.follows then x.startIssued e s h
      else x.reviewSquash e s h) b

/-- A recompute whose beads are all complete switches in before C(N), atomically (R91). -/
def Body.switchIn (b : Body) (e : Env) (s : Sub) (g : Group) : Body :=
  match g.layer, g.dec with
  | some l, some d =>
    let b1 := b.modSub s.n (fun x => { x.modGroup g.epoch (fun y => { y with live := false }) with
      use := g.recs.foldl (fun a p => minsert p.1 p.2 a) x.use
      epochs := g.recs.foldl (fun a p => minsert p.1 g.epoch a) x.epochs
      decs := minsert l d x.decs
      open1 := x.open1.filter (· != l) })
    let b2 := ((b1.addStaging (g.beads.length : Nat)).bump 0x0E07 2 1).tellDecision e s l 2 g.epoch d
    b2.releaseHeld e s.n
  | _, _ => b

/-- Switch a recompute in when it is complete, C(N) lies ahead, and the unit may decide so (R91, R93). -/
def Body.trySwitchIn (b : Body) (e : Env) (n epoch : Nat) : Body :=
  match b.sub? n with
  | none => b
  | some s =>
    match s.group? epoch with
    | none => b
    | some g =>
      if g.live && g.layer.isSome && decide (g.recs.length = g.beads.length) && !s.retired && !((e.inDomain 57).reached s.c) &&
          (g.told || !(b.follows)) then b.switchIn e s g
      else b

/-- A frame has become ready: it raises a squash of each layer it would improve, for each sub-frame issued and not retired,
the earliest C(N) first (R86). A standby raises none (R93). -/
def Body.squashAll (b : Body) (e : Env) (id : Nat) : Body :=
  if b.follows then b
  else
    (b.beads.subs.map (fun s => s.n)).foldl (fun x n => (upFrom 0 31).foldl (fun y l =>
      match y.sub? n with
      | none => y
      | some s =>
        if s.retired || (e.inDomain 57).reached s.c || !(s.cfg.shown l s.phase) || s.cfg.regN 0x0E09 0 != 1 then y
        else
          let d := y.include e s.cfg s.mode s.e l
          if d.buf = some id ∧ (mfind l s.decs).bind (fun k => k.buf) ≠ some id ∧ !(y.touched s l).isEmpty then
            (y.bump 0x0E07 1 1).admitSquash e s l d
          else y) x) b

/-- Hand a free record to the recompute bead that has waited longest (R90). -/
def recordGrant (b : Body) : Body :=
  if b.regN 0x0E0A 0 = 0 then b
  else
    match b.beads.waiting.find? (fun j => !j.record) with
    | none => b
    | some j =>
      (b.modBeads (fun x => { x with waiting := x.waiting.map (fun k => if k = j then { k with record := true } else k) })).addStaging (-1)

/-! ## Completion (R83, R85, R98, R99) -/

/-- Engine e has an agreeing check in sub-frame n. -/
def Body.checked (b : Body) (e n : Nat) : Body :=
  (b.setReg 0x0E0D (e + 1) (n : Nat)).modBeads (fun x => { x with
    unchecked := merase e x.unchecked
    overdue := x.overdue.filter (· != e) })

/-- A vote without majority (R99). -/
def Body.noMajority (b : Body) (e : Env) (c : Check) : Body := b.splitVote e (fun x y => y.fence e x 3) c

/-- The check of a bead, by its sub-frame, epoch and key. -/
def Body.checkOf (b : Body) (n epoch bead : Nat) : Option Check :=
  b.beads.checks.find? (fun c => c.n == n && c.epoch == epoch && c.bead == bead)

/-- Replace a check. -/
def Body.setCheck (b : Body) (c d : Check) : Body :=
  b.modBeads (fun x => { x with checks := x.checks.map (fun k => if k = c then d else k) })

/-- Compare a shadow with its original once both are complete; a difference calls a vote (R98, R99). -/
def Body.compare (b : Body) (e : Env) (c : Check) : Body :=
  match c.orig, c.copy with
  | some r, some s =>
    if r.sig = s.sig then
      (b.checked c.e c.n).modBeads (fun x => { x with checks := x.checks.filter (fun k => k != c) })
    else
      let b1 := b.bump 0x0E0F 0 1
      match b1.engineFrom (c.e + 48) [c.e, c.checker] with
      | none => b1.noMajority e c
      | some v => b1.modBeads (fun x => { x with
          waiting := x.waiting ++ [⟨c.n, c.epoch, c.bead, .vote c.e c.checker, 3,
            (((b1.sub? c.n).bind (fun t => t.group? c.epoch)).map (fun g => g.place c.bead)).getD 0, some v, true⟩] })
  | _, _ => b

/-- A completed vote decides (R99). -/
def Body.vote (b : Body) (e : Env) (c : Check) (r : Rec) : Body :=
  let gone (x : Body) : Body := x.modBeads (fun y => { y with checks := y.checks.filter (fun k => k != c) })
  match c.orig, c.copy with
  | some o, some p =>
    if r.sig = p.sig then
      (gone (b.modSub c.n (fun s =>
        if !s.retired && mfind c.bead s.epochs == some c.epoch then { s with use := minsert c.bead p s.use } else s))).fence e c.e 1
    else if r.sig = o.sig then (gone (b.checked c.e c.n)).fence e c.checker 1
    else b.noMajority e c
  | _, _ => b

/-- A first-pass or recompute bead has its record: it is taken into use unless a later group replaced it; its check, and a
switch-in, follow (R85, R91). -/
def Body.takeRecord (b : Body) (e : Env) (s : Sub) (g : Group) (k : Nat) (r : Rec) : Body :=
  let b1 := b.modSub s.n (fun x =>
    let y := x.modGroup g.epoch (fun z => { z with recs := minsert k r z.recs })
    if g.layer.isNone && (mfind k x.epochs).isNone then { y with use := minsert k r y.use, epochs := minsert k g.epoch y.epochs }
    else y)
  match b1.checkOf s.n g.epoch k with
  | some c =>
    if c.orig.isNone then
      let d := { c with orig := some r }
      (b1.setCheck c d).compare e d
    else b1
  | none => b1.trySwitchIn e s.n g.epoch

end Sys2Proof.Machine
end

