-- ==== Sys2Proof/Machine/Channels.lean ====
section
/-! DEFINITION. What lies under the HBM controllers and the DMA engine: places and bytes of device addresses, the channels and their faults, the
generations of tables, and what a freeze ends (R170, R171, R334, R361, R362, R376, R382 to R385, R396, R397). -/

namespace Sys2Proof.Machine

/-! ## Addresses (R362) -/

/-- Where a unit lies. -/
structure UnitAt where
  pc : Nat
  bank : Nat
  row : Nat
  col : Nat
deriving DecidableEq, Repr

/-- Place of unit u under an address order (R362). -/
def placeOf (order u : Nat) : UnitAt :=
  match order with
  | 0 => ⟨u / 16 % 64, u / 1024 % 48, u / 49152, u % 16⟩
  | 1 => ⟨u / 16 % 64, u / 16777216, u / 1024 % 16384, u % 16⟩
  | 2 =>
    let k := u / 1024 % 48
    let row := u / 49152
    ⟨u / 16 % 64, k / 16 * 16 + Nat.xor (k % 16) (row % 16), row, u % 16⟩
  | _ => ⟨u % 64, u / 1024 % 48, u / 49152, u / 64 % 16⟩

/-- Pseudo-channel p. -/
def Body.pch (b : Body) (p : Nat) : PseudoCh := mgetD PseudoCh.reset p b.hbm.pcs

/-- Replace a pseudo-channel. -/
def Body.setPch (b : Body) (p : Nat) (x : PseudoCh) : Body :=
  { b with hbm := { b.hbm with pcs := mputD PseudoCh.reset p x b.hbm.pcs } }

/-- Queue of a bank. -/
def PseudoCh.queue (x : PseudoCh) (k : Nat) : List MemEntry := mgetD [] k x.queues

/-- Replace the queue of a bank. -/
def PseudoCh.setQueue (x : PseudoCh) (k : Nat) (q : List MemEntry) : PseudoCh := { x with queues := mputD [] k q x.queues }

/-- Every entry of a pseudo-channel: of accesses activated, in the bank queues and in the fabric. -/
def PseudoCh.entries (x : PseudoCh) : List MemEntry :=
  x.act.map (fun a => a.2.1) ++ (x.queues.map (fun q => q.2)).flatten ++ (x.fabric.map (fun q => q.2)).flatten

/-- Change every entry of a pseudo-channel. -/
def PseudoCh.mapEntries (x : PseudoCh) (f : MemEntry → MemEntry) : PseudoCh :=
  { x with queues := x.queues.map (fun q => (q.1, q.2.map f)), fabric := x.fabric.map (fun q => (q.1, q.2.map f)),
           act := x.act.map (fun a => (a.1, f a.2.1, a.2.2)) }

/-! ## Frame buffers as bytes (R334) -/

/-- A buffer holds chroma at half its width: a flow's or a stream's in 4:2:2. -/
def FrameBuf.half (f : FrameBuf) : Bool := decide (f.kind ≤ 2) && f.fmt.sampling == 0

/-- Bytes of a buffer: planes of U16 values (R334). -/
def FrameBuf.size (f : FrameBuf) : Nat := f.w * f.h * (if f.half then 4 else if f.alpha then 8 else 6)

/-- Byte i of a buffer: its planes one after another, each row by row, little-endian (R334). -/
def FrameBuf.byteAt (f : FrameBuf) (i : Nat) : Byte :=
  let s := i / 2
  let cw := if f.half then f.w / 2 else f.w
  let p := if s < f.w * f.h then 0 else 1 + (s - f.w * f.h) / (cw * f.h)
  let j := if p = 0 then s else (s - f.w * f.h) % (cw * f.h)
  let w := if p = 0 then f.w else cw
  let x := if f.half && p != 0 then 2 * (j % w) else j % w
  BitVec.ofNat 8 ((((f.px.getD (j / w) []).getD x []).getD p 0) / 256 ^ (i % 2))

/-- The byte of a device address as HBM holds it: a sample of a complete frame in the Layer region, whose place there is free, or a byte that
was stored (R334; log entry 56). -/
def Body.held8 (b : Body) (a : Nat) : Byte :=
  match b.lay.bufs.find? (fun p => p.2.done.isSome && decide (b.base 6 + Config.bufferAt p.1 ≤ a) &&
      decide (a < b.base 6 + Config.bufferAt p.1 + p.2.size)) with
  | some p => p.2.byteAt (a - (b.base 6 + Config.bufferAt p.1))
  | none => b.byte a

/-- Consecutive bytes as HBM holds them. -/
def Body.heldBytes (b : Body) (a n : Nat) : Bytes := (upFrom a n).map b.held8

/-- The byte of a device address as the application cores' caches give it, or else as HBM holds it (R382). -/
def Body.snoop (b : Body) (a : Nat) : Byte :=
  match mfind a b.hbm.copies with
  | some v => v
  | none => b.held8 a

/-- The caches hold no copy of a range any longer. -/
def Body.dropCopies (b : Body) (a n : Nat) : Body :=
  { b with hbm := { b.hbm with copies := b.hbm.copies.filter (fun p => decide (p.1 < a) || decide (a + n ≤ p.1)) } }

/-- The caches keep a copy of each byte. -/
def Body.keepCopies (b : Body) (a : Nat) (bs : Bytes) : Body :=
  { b with hbm := { b.hbm with copies := (bs.zip (upFrom a bs.length)).foldl (fun m p => minsert p.2 p.1 m) b.hbm.copies } }

/-! ## Channels -/

/-- Channel c. -/
def Body.ch (b : Body) (c : Nat) : DmaCh := mgetD DmaCh.reset c b.dma

/-- Replace a channel. -/
def Body.setCh (b : Body) (c : Nat) (x : DmaCh) : Body := { b with dma := mputD DmaCh.reset c x b.dma }

abbrev chIdle : Nat := 0
abbrev chRunning : Nat := 1
abbrev chWaiting : Nat := 2
abbrev chDraining : Nat := 3
abbrev chStopping : Nat := 4
abbrev chDone : Nat := 5
abbrev chFault : Nat := 6

/-- `dma.state` of channel c. -/
def Body.chState (b : Body) (c : Nat) : Nat := b.regN 0x1902 (c + 1)

/-- Set the state of a channel. -/
def Body.setChState (b : Body) (c st : Nat) : Body := b.setReg 0x1902 (c + 1) (st : Nat)

/-- The agent that owns a channel (R383). -/
def chAgent (c : Nat) : Agent := if c < 24 then .cores else .island

/-- Where the safety island's SRAM begins (R383). -/
abbrev sramBase : Nat := 0x1000000000

/-- A range of the SRAM that channel c may reach. -/
def inSram (c a n : Nat) : Bool := decide (24 ≤ c) && decide (sramBase ≤ a) && decide (a + n ≤ sramBase + 0x200000)

/-- Why an access of channel c fails: 4 FIREWALL, 5 MEMERR, 0 where it is made (R383, R396, R400). -/
def Body.accessBad (b : Body) (c a n : Nat) (w : Bool) : Nat :=
  if inSram c a n then 0
  else if b.regN 0x1805 0 = 3 ∨ b.regN 0x1805 0 = 4 then 5
  else if b.regN 0x1805 0 = 2 ∧ b.allowed (chAgent c) a n w then 0 else 4

/-- Bytes at a DMA address, as channel c reads them: channels 0 to 23 snoop the caches of the application cores, the island's own do not
(R382, R383). -/
def Body.dmaRead (b : Body) (c a n : Nat) : Bytes :=
  if sramBase ≤ a then (upFrom (a - sramBase) n).map (fun i => mgetD 0 i b.hbm.sram)
  else if c < 24 then (upFrom a n).map b.snoop
  else b.heldBytes a n

/-- Write bytes at a DMA address; a write of channels 0 to 23 leaves no older copy in the caches (R382, R383). -/
def Body.dmaStore (b : Body) (c a : Nat) (bs : Bytes) : Body :=
  if sramBase ≤ a then { b with hbm := { b.hbm with sram := memStore b.hbm.sram (a - sramBase) bs } }
  else if c < 24 then (b.dropCopies a bs.length).store a bs
  else b.store a bs

/-! ## Faults (R396, R397) -/

/-- A write of channel c has been issued and not refused, so that its destination may have changed (R383, R397). -/
def Body.mayHaveWritten (b : Body) (c : Nat) (r : DmaReq) : Bool :=
  r.write && r.ans != some .firewall && (inSram c r.addr r.len || b.allowed (chAgent c) r.addr r.len true)

/-- The destination of a write outstanding at a fault holds free bytes, and so does what the controllers may yet store of it (R397; log entry 1). -/
def Body.spoil (b : Body) (c : Nat) (r : DmaReq) : Body :=
  let bytes (k : Nat) : Bytes := (upFrom (b.free + k) r.len).map Config.freeByte
  let late (q : MemEntry) : MemEntry := if q.dma = some (c, r.id) then { q with data := bytes r.len } else q
  let b1 := { b with hbm := { b.hbm with pcs := b.hbm.pcs.map (fun (p : Nat × PseudoCh) => (p.1, p.2.mapEntries late)) } }
  (b1.dmaStore c r.addr (bytes 0)).tookFree (2 * r.len)

/-- Channel c faults with a result code: it issues nothing further and keeps its record. -/
def Body.chFaults (b : Body) (e : Env) (c code : Nat) : Body :=
  let x := b.ch c
  let rec' := le 8 x.pc ++ le 2 x.reqs.length ++ le 6 0 ++ le 8 x.lastWr
  let b1 := ((x.reqs.filter (b.mayHaveWritten c)).foldl (fun y r => y.spoil c r) b).setCh c { x with reqs := [], work := none, wait := none }
  ((((b1.setChState c chFault).setReg 0x1903 (c + 1) (code : Nat)).setStr 0x1904 (c + 1) rec').raise e 848 0).raise e (864 + c) 0

/-- Change request id of channel c, where it is outstanding. -/
def Body.modReq (b : Body) (c id : Nat) (f : DmaReq → DmaReq) : Body :=
  b.setCh c { b.ch c with reqs := (b.ch c).reqs.map (fun r => if r.id = id then f r else r) }

/-! ## Generations (R170, R171); kind 0 is correction, kind 1 the rod map -/

/-- Index of the state array of a kind. -/
def genIdx (kind : Nat) : Nat := if kind = 0 then 0x1000 else 0x1012

/-- Index of the in-force entry of a kind. -/
def forceIdx (kind : Nat) : Nat := if kind = 0 then 0x1004 else 0x1014

/-- Index of the map tag array of a kind. -/
def tagIdx (kind : Nat) : Nat := if kind = 0 then 0x1002 else 0x1013

/-- State of generation g: 0 EMPTY, 1 LOADING, 2 IDLE, 3 PENDING, 4 IN FORCE, 5 DRAINING, 6 INVALID. -/
def Body.gen (b : Body) (kind g : Nat) : Nat := b.regN (genIdx kind) (g + 1)

/-- Set the state of a generation. -/
def Body.setGen (b : Body) (kind g st : Nat) : Body := b.setReg (genIdx kind) (g + 1) (st : Nat)

/-- The generation in force: 0 A, 1 B, 255 none. -/
def Body.inForce (b : Body) (kind : Nat) : Nat := b.regN (forceIdx kind) 0

/-- The non-active generation of a kind (R171). -/
def Body.nonActive (b : Body) (kind : Nat) : Nat := if b.inForce kind = 0 then 1 else 0

/-! ## Loads and reckonings that fail (R170, R320) -/

/-- Index of a load's operation: 0 correction, 1 rod map. -/
def loadOp (kind : Nat) : Nat := 0x0410 + kind

/-- A load in progress. -/
def Body.load (b : Body) (kind : Nat) : Load := mgetD ⟨[], false⟩ kind b.cor.loads

/-- Replace a load. -/
def Body.setLoad (b : Body) (kind : Nat) (x : Load) : Body :=
  { b with cor := { b.cor with loads := mputD ⟨[], false⟩ kind x b.cor.loads } }

/-- The generation being written is invalid (R170). -/
def Body.voidGen (b : Body) (kind : Nat) : Body :=
  let g := b.nonActive kind
  if b.gen kind g = 1 then b.setGen kind g 6 else b

/-- The generation that operation idx writes or has written is INVALID where the operation ends by cancel; one whose swap is armed stays
PENDING (R170, R428). -/
def Body.cancelGen (b : Body) (idx : Nat) : Body :=
  let kind := if idx = 0x0411 then 1 else 0
  let g := b.nonActive kind
  if b.opState idx = 3 ∧ (b.gen kind g = 1 ∨ b.gen kind g = 2) then (b.setGen kind g 6).setLoad kind ⟨[], false⟩ else b

/-- A cancelled load or reckoning ends (R427, R428). -/
def Body.genCancelled (b : Body) (e : Env) (idx : Nat) : Body := (b.cancelGen idx).opEnd e idx false stCancelled 0

/-- A load fails: the generation is INVALID, event 336 or 338 (R170). -/
def Body.loadFail (b : Body) (e : Env) (kind code det : Nat) : Body :=
  (((b.voidGen kind).setLoad kind ⟨[], false⟩).raise e (336 + 2 * kind) 0).opEnd e (loadOp kind) false code det

/-- A reckoning fails (R170, R320). -/
def Body.reckonFail (b : Body) (e : Env) (code det : Nat) : Body :=
  (((b.voidGen 0).raise e 336 0).raise e 961 0).opEnd e 0x0415 false code det

/-! ## The dose is lost (R428) -/

/-- Every accumulator and thermal record is zeroed, and `dose.state` is 0 (R428). -/
def Body.clearDose (b : Body) : Body :=
  let b1 := b.zeroMem (b.base 4) (576 * 2 ^ 20)
  ({ b1 with tiles := b1.tiles.filterMap (fun (p : Nat × Tile) =>
      let t : Tile := { p.2 with thermCount := 0, thermSum := 0 }
      if t = Tile.reset then none else some (p.1, t)) }).setReg 0x1500 0 0

/-- Operations that use HBM and run when it freezes end FAILED, for their requests are answered MEMERR (R376, R377, R427): with SOURCE where they
read an image, an export with FROZEN, an import as a failure after its first write or before it, which is free (DESIGN CHOICE, log entry 114). -/
def Body.memOpsFail (b : Body) (e : Env) : Body :=
  let runs (x : Body) (op : Nat) : Bool := x.opState op == 1 || x.opState op == 2 || x.opState op == 3
  let b1 := [0, 1].foldl (fun x k => if runs x (loadOp k) then x.loadFail e k stSource 0 else x) b
  let b2 := if runs b1 0x0415 then b1.reckonFail e stSource 0 else b1
  let b3 := if runs b2 0x0416 then b2.opEnd e 0x0416 false stFrozen 0 else b2
  if runs b3 0x0417 then
    (((if b3.freeNat % 2 = 1 then b3.clearDose else b3).tookFree 1).raise e 964 0).opEnd e 0x0417 false stSource 0
  else b3

end Sys2Proof.Machine
end

