-- ==== Sys2Proof/Machine/Commit.lean ====
section
/-! DEFINITION. Shadow, arm and latch: the checks of a commit, its execution, generations and swaps, overrides (R106, R115,
R122 to R128, R133, R140 to R145, R160 to R162, R170 to R176, R207, R211). -/

namespace Sys2Proof.Machine

/-! ## Generations (R170, R171) -/

/-- The rod map of the non-active generation. -/
def Body.idleMap (b : Body) : Option RodMap := mfind (b.nonActive 1) b.cor.maps

/-- A DRAINING generation returns to IDLE once every sub-frame below its swap has ended (R170). -/
def Body.drain (b : Body) : Body :=
  [(0, 0), (0, 1), (1, 0), (1, 1)].foldl (fun x p =>
    if x.gen p.1 p.2 = 5 ∧ !(x.inFlight (mgetD 0 p.1 x.cor.swapAt)) then x.setGen p.1 p.2 2 else x) b

/-- What follows from a rod map in force: bead counts and the canvas (R103, R109). -/
def Body.mapEntries (b : Body) (m : RodMap) : Body :=
  let b1 := (b.setReg 0x0E00 0 (m.allBeads.length : Nat)).setReg 0x0C23 0 ((m.cw * 65536 + m.ch : Nat))
  (upFrom 0 192).foldl (fun x n => x.setReg 0x0E01 (n + 1) ((m.rodBeads n).length : Nat)) b1

/-- A swap of one kind applies at the latch of sub-frame S (R170, R172). -/
def Body.swap (b : Body) (e : Env) (S kind : Nat) : Body :=
  let g := b.nonActive kind
  let old := b.inForce kind
  let b1 := (b.setGen kind g 4).setReg (forceIdx kind) 0 (g : Nat)
  let b2 := if old = 0xFF then b1 else b1.setGen kind old (if b1.inFlight S then 5 else 2)
  let b3 := { b2 with cor := { b2.cor with swapAt := minsert kind S b2.cor.swapAt } }
  if kind = 0 then
    let b4 := { b3 with cor := { b3.cor with
      overrides := b3.cor.overrides.map (fun (o : Override) => if o.til.isNone && b3.cor.folded.contains o then { o with til := some S } else o)
      folded := [] } }
    (b4.setReg 0x1006 0 (b4.reg 0x1003 (g + 1))).raise e 337 0
  else
    (match b3.map? with
     | some m => b3.mapEntries m
     | none => b3).raise e 339 0

/-- The swaps a value of `corr.swap` names; both take effect together (R173). -/
def Body.swaps (b : Body) (e : Env) (S v : Nat) : Body :=
  let b1 := if bit v 1 then b.swap e S 1 else b
  if bit v 0 then b1.swap e S 0 else b1

/-! ## Applying a set -/

/-- A layer's held frame goes when a commit changes its source or backup (R138). -/
def Body.dropHeldFrames (b : Body) (c : Cfg) : Body :=
  let d := b.cfgNow
  { b with lay := { b.lay with heldFrame := b.lay.heldFrame.filter (fun p =>
      [0x0C01, 0x0C02, 0x0C03, 0x0C04].all (fun i => c.lay i p.1 == d.lay i p.1)) } }

/-- A set names layer l or its scaler. -/
def Cfg.names (set c : Cfg) (l : Nat) : Bool :=
  set.num.any (fun p => (0x0C00 ≤ p.1 / 256 && p.1 / 256 ≤ 0x0C15 && p.1 % 256 == l + 1) ||
    (0x0D00 ≤ p.1 / 256 && p.1 / 256 ≤ 0x0D04 && p.1 % 256 == c.lay 0x0C07 l + 1)) ||
  set.blob.any (fun p => p.1 % 256 == c.lay 0x0C07 l + 1)

/-- A latch judges the format of a source of layer l again (R128, R129). Bit 5 is set by a set that names the layer or its scaler, and where
the taps were not reduced before; a format that no longer fitted fits again only once such a set corrects it (DESIGN CHOICE; log entry
104). -/
def Body.judgeSource (b : Body) (e : Env) (c : Cfg) (named : Bool) (l : Nat) (q : Nat × Nat) : Body :=
  let r := b.ring q.1 q.2
  let old := b.scaleMark l r.1 r.2
  let now := if c.lay 0x0C07 l < 16 then b.judge c l q.1 q.2 else 0
  let v := if old = 2 ∧ !named then 2 else now
  let b1 := b.setScaleMark l r.1 r.2 v
  if v = 2 ∧ old ≠ 2 then b1.layerCause e l 6
  else if v = 1 ∧ (named ∨ old ≠ 1) then b1.layerCause e l 5
  else b1

/-- The newest complete picture of a source of layer l is CONCEALED, and the layer takes none such (R119). -/
def Body.refusesNewest (b : Body) (c : Cfg) (l : Nat) : Bool :=
  c.lay 0x0C12 l == 1 && (c.sources l).any (fun q => isRing q.1 &&
    (((b.framesOf c l q.1 q.2).foldl (betterFrame (c.lay 0x0C0F l == 1)) none).map (fun p => p.2.concealed)) == some true)

/-- What a set brought into force means for the sources of layer l (R119, R128, R129). -/
def Body.judgeLayer (b : Body) (e : Env) (set c : Cfg) (l : Nat) : Body :=
  let named := set.names c l
  let b1 := ((c.sources l).filter (fun q => isRing q.1)).foldl (fun x q => x.judgeSource e c named l q) b
  if named && b1.refusesNewest c l then b1.layerCause e l 3 else b1

/-- Store one number of a set: a still's new buffer replaces the old one, and its size is reported (R115, R139). -/
def Body.applyNum (b : Body) (p : Nat × Int) : Body :=
  let idx := p.1 / 256
  let sub := p.1 % 256
  if idx = 0x1005 then b
  else if idx = 0x0C50 then
    let old := b.regN 0x0C50 sub
    let b1 := b.setReg 0x0C50 sub p.2
    let b2 := match mfind p.2.toNat b1.lay.bufs with
      | some f => b1.setReg 0x0C52 sub ((f.w * 65536 + f.h : Nat))
      | none => b1.setReg 0x0C52 sub 0
    if old ≠ 0 ∧ (old : Int) ≠ p.2 then b2.retireBuf old else b2
  else b.setReg idx sub p.2

/-- Bring a set into force at the latch of sub-frame S, or at once with S = 0 (R143, R144). -/
def Body.applySet (b : Body) (e : Env) (S : Nat) (set : Cfg) : Body :=
  let c0 := b.cfgNow
  let b1 := set.num.foldl Body.applyNum b
  let b2 := set.blob.foldl (fun x p => x.setStr (p.1 / 256) (p.1 % 256) p.2) b1
  let b3 := (b2.swaps e S (mgetD 0 (key 0x1005 0) set.num).toNat).dropHeldFrames c0
  let c := b3.cfgNow
  let b4 := (upFrom 0 31).foldl (fun x l => x.judgeLayer e set c l) b3
  match b4.map? with
  | some m =>
    if set.num.any (fun p => 0x0C40 ≤ p.1 / 256 && p.1 / 256 ≤ 0x0C44 || p.1 / 256 == 0x0C50 || p.1 / 256 == 0x1005) then
      let g := guardWhole b4.lay.bufs c m
      (b4.setReg 0x0C45 0 (g.1 : Nat)).setReg 0x0C46 0 (g.2 : Nat)
    else b4
  | none => b4

/-! ## The checks of a commit (R141, R173) -/

/-- R106. -/
def orderBad (c : Cfg) : Bool := (upFrom 0 31).any (fun l => !((upFrom 0 31).any (fun i => c.lay 0x0C20 i == l)))

/-- GEOMETRY of an enabled layer. -/
def Body.geometryBad (b : Body) (c : Cfg) (l : Nat) : Bool :=
  let d := c.dest l
  c.lay 0x0C00 l == 1 && (c.sources l).any (fun k => decide (1 ≤ k.1 ∧ k.1 ≤ 3) &&
    ((decide (16 ≤ c.lay 0x0C07 l) && (match b.cropSize c l k.1 k.2 with
      | some (w, h) => w != d.w || h != d.h
      | none => false)) ||
    (match b.srcSize c k.1 k.2 with
     | some (w, h) => let r := c.crop l w h
                      decide (w < r.x + r.w) || decide (h < r.y + r.h)
     | none => false)))

/-- SCALER for a layer that names a scaler (R122, R123, R126). -/
def Body.scalerBad (b : Body) (c : Cfg) (l : Nat) : Bool :=
  let s := c.lay 0x0C07 l
  if 16 ≤ s then false
  else
    let rs := (c.sources l).filterMap (fun k => b.pixelRate c l k.1 k.2)
    let sum := rs.foldl (fun (x : Nat × Nat) r => (x.1 * r.2 + r.1 * x.2, x.2 * r.2)) (0, 1)
    !(isRing (c.lay 0x0C01 l)) || (upFrom 0 31).any (fun m => decide (m ≠ l) && c.lay 0x0C07 m == s) ||
    (c.sources l).any (fun k => match b.cropSize c l k.1 k.2 with
      | some (w, _) => decide (16 * (c.dest l).w < w)
      | none => false) ||
    decide (2400000000 * sum.2 < sum.1)

/-- LINEBUF for a layer that names a scaler (R127, R128). -/
def Body.linesBad (b : Body) (c : Cfg) (l : Nat) : Bool :=
  let s := c.lay 0x0C07 l
  decide (s < 16) && (c.sources l).any (fun k => isRing k.1 && (match b.cropSize c l k.1 k.2 with
    | some (w, h) => (tapsFor (c.regN 0x0D01 (s + 1)) (c.lay 0x0C13 l == 1) w h (c.dest l).h).isNone
    | none => false))

/-- A coefficient BLOB is bad for T taps (R125). -/
def coeffBad (bs : Bytes) (T : Nat) : Bool :=
  let v (p t : Nat) : Nat := beAt bs (2 * (8 * p + t)) 2
  !(bs.isEmpty) && (decide (bs.length ≠ 1024) || (upFrom 0 64).any (fun p =>
    (upFrom 0 8).any (fun t => !(field (v p t) 15 11 == 0 || field (v p t) 15 11 == 31) ||
      (decide (T ≤ t) && decide (v p t ≠ 0))) ||
    decide (((upFrom 0 8).map (fun t => toSigned 16 (v p t))).foldl (· + ·) 0 ≠ 1024)))

/-- COEFF for a layer that names a scaler. -/
def coeffsBad (c : Cfg) (l : Nat) : Bool :=
  let s := c.lay 0x0C07 l
  decide (s < 16) && (coeffBad (c.str 0x0D02 (s + 1)) (c.regN 0x0D00 (s + 1)) || coeffBad (c.str 0x0D03 (s + 1)) (c.regN 0x0D01 (s + 1)))

/-- GUARD (R133). A guard enabled with no still loaded under `guard.still`, or with no rod map, is refused with it too: the spec lists no
such case (DESIGN CHOICE; log entry 81). -/
def Body.guardBad (b : Body) (c : Cfg) (m : Option RodMap) : Bool :=
  if c.regN 0x0C40 0 = 1 then
    let d := rectOf (c.regN 0x0C42 0)
    match mfind (c.regN 0x0C50 (c.regN 0x0C41 0 + 1)) b.lay.bufs, m with
    | some f, some mp =>
      decide (f.w ≠ d.w) || decide (f.h ≠ d.h) || decide (mp.cw < d.x + d.w) || decide (mp.ch < d.y + d.h) ||
      decide (16777216 < (guardWhole b.lay.bufs c mp).2)
    | _, _ => true
  else false

/-- A source exists (SOURCE of R141). -/
def Body.sourceOk (b : Body) (c : Cfg) (kind num : Nat) : Bool :=
  match kind with
  | 1 => decide (num < 16) && b.regN 0x0A1E (num + 1) == 1
  | 2 => decide (num < 32) && decide (b.regN 0x0B00 (num + 1) ≠ 0xFF)
  | 3 => decide (num < 64) && decide (c.regN 0x0C50 (num + 1) ≠ 0)
  | 5 => decide (num < 8)
  | _ => true

/-- SOURCE of an enabled layer. -/
def Body.sourceBad (b : Body) (c : Cfg) (l : Nat) : Bool :=
  c.lay 0x0C00 l == 1 && !(b.sourceOk c (c.lay 0x0C01 l) (c.lay 0x0C02 l) && b.sourceOk c (c.lay 0x0C03 l) (c.lay 0x0C04 l))

/-- R78: the reserved records of a mode and a map exceed the pool. -/
def stagingBad (ra beads : Nat) : Bool := decide (174762 < (divUp ra 65536 + 1) * beads + 8192)

/-- What a swap while LIVE must not change: per rod, each tile's lamps, depth, pan and topology (R173). -/
def RodMap.topology (m : RodMap) : List (Nat × List (List Nat)) :=
  m.rods.map (fun r => (r.1, r.2.map (fun t => [t.lamps, t.depth, t.pan, t.sw, t.sh, t.zc, t.zr])))

/-- The first reason that refuses the swap a commit names; 0 for none (R173, R211). -/
def Body.swapBad (b : Body) (v : Nat) : Nat :=
  if v = 0 then stOK
  else if (bit v 0 && b.gen 0 (b.nonActive 0) != 2) || (bit v 1 && b.gen 1 (b.nonActive 1) != 2) then stNotReady
  else
    let cg := if bit v 0 then some (b.nonActive 0) else if b.inForce 0 = 0xFF then none else some (b.inForce 0)
    let mg := if bit v 1 then some (b.nonActive 1) else if b.inForce 1 = 0xFF then none else some (b.inForce 1)
    let tags := match cg, mg with
      | some c, some m => b.regN 0x1002 (c + 1) != b.regN 0x1013 (m + 1)
      | _, _ => false
    if tags then stMapTag
    else if bit v 1 && (match b.idleMap with
        | some m => stagingBad (b.regN 0x0980 0) m.allBeads.length
        | none => true) then stStaging
    else if bit v 1 && b.live && b.idleMap.map RodMap.topology != b.map?.map RodMap.topology then stLive
    else if b.regN 0x1A02 0 == 2 && b.regN 0x1A04 0 == 4 &&
        ((bit v 0 && !(Config.twinHas b.free 0 (b.regN 0x1001 (b.nonActive 0 + 1)) (b.regN 0x1002 (b.nonActive 0 + 1)))) ||
         (bit v 1 && !(Config.twinHas b.free 1 0 (b.regN 0x1013 (b.nonActive 1 + 1))))) then stTwin
    else if bit v 1 && b.regN 0x0909 0 != 0 then stBusy
    else stOK

/-- The first reason that refuses a commit; 0 when every check passes (R141). A rod-map swap already armed is part of the configuration
that would result. -/
def Body.commitBad (b : Body) (set : Cfg) : Nat :=
  let c := b.cfgNext.apply set
  let ls := upFrom 0 31
  let v := (mgetD 0 (key 0x1005 0) set.num).toNat
  let v1 := (mgetD (mgetD 0 (key 0x1005 0) b.lay.armed.num) (key 0x1005 0) set.num).toNat
  if orderBad c then stOrder
  else if ls.any (b.geometryBad c) then stGeometry
  else if ls.any (b.scalerBad c) then stScaler
  else if ls.any (b.linesBad c) then stLineBuf
  else if ls.any (coeffsBad c) then stCoeff
  else if b.guardBad c (if bit v1 1 then b.idleMap else b.map?) then stGuard
  else if ls.any (b.sourceBad c) then stSource
  else if b.live && decide (16384 < (b.lay.armed.apply set).size) then stArmFull
  else b.swapBad v

/-! ## Executing a commit -/

/-- The sub-frame the k-th latch from now will take, and its mode; none where no latch will fire. -/
def Body.latchAt (b : Body) (k : Nat) : Option (Nat × Mode) :=
  match b.seq.next with
  | none => none
  | some n0 =>
    let n := n0 + k
    match b.seq.sw with
    | none => some (n, b.seq.mode)
    | some w =>
      if w.latched then some (n, w.mode)
      else if n ≤ w.nL then some (n, b.seq.mode)
      else if w.leave then none
      else w.first.map (fun f => (f + (n - (Nat.max n0 (w.nL + 1))), w.mode))

/-- The sub-frame the next latch will take and its mode. -/
def Body.nextLatch (b : Body) : Option (Nat × Mode) := b.latchAt 0

/-- The number a commit or an override made now takes (R141, R144, R161). -/
def Body.takeAt (b : Body) : Nat := if b.live then (b.nextLatch.map (fun p => p.1)).getD 0 else 0

/-- A value of a set goes to the twin (R454). -/
def Body.pairWriteOut (b : Body) (e : Env) (k : Nat) (v : Val) : Body :=
  b.tellWrite e (k / 256) (k % 256) (((lookup (k / 256) (k % 256)).map (fun x => x.ty)).getD .u8) v

/-- Forward a set and its commit to the twin (R454). -/
def Body.forwardSet (b : Body) (e : Env) (set : Cfg) (n : Nat) : Body :=
  if b.forwards then
    let b1 := (set.num.filter (fun p => forwarded (p.1 / 256))).foldl (fun x p => x.pairWriteOut e p.1
      (if p.1 / 256 = 0x0C50 then .b (((mfind p.2.toNat x.lay.bufs).map FrameBuf.stillBytes).getD []) else .n p.2)) b
    let b2 := (set.blob.filter (fun p => forwarded (p.1 / 256))).foldl (fun x p => x.pairWriteOut e p.1 (.b p.2)) b1
    { b2 with pair := { b2.pair with order := b2.pair.order + 1 } }.pairSend e (.commit (b2.pair.order + 1) n)
  else b

/-! ## Overrides (R160 to R162) -/

/-- Slots of overrides whose sub-frames have all ended become free (R162). -/
def Body.freeOverrides (b : Body) : Body :=
  { b with cor := { b.cor with overrides := b.cor.overrides.filter (fun o => match o.til with
      | none => true
      | some u => b.inFlight u || (b.live && (match b.nextLatch with
          | some (n, _) => decide (n < u)
          | none => false))) } }

/-- An override of a lamp from sub-frame S: the one before it ends there, and event 341 tells when 3,072 slots are held (R161, R162). -/
def Body.addOverride (b : Body) (e : Env) (lamp flags S : Nat) : Body :=
  let b1 := { b with cor := { b.cor with
    overrides := b.cor.overrides.map (fun (o : Override) => if o.lamp = lamp ∧ o.til.isNone then { o with til := some S } else o) } }.freeOverrides
  let b2 := { b1 with cor := { b1.cor with overrides := b1.cor.overrides ++ [⟨lamp, flags, S, none⟩] } }
  if b2.cor.overrides.length = 3072 ∧ b.freeOverrides.cor.overrides.length < 3072 then b2.raise e 341 0 else b2

/-- Make an override, armed at once: the sub-frame that takes it, or none when every slot is held (R161, R162). -/
def Body.override (b : Body) (e : Env) (lamp flags : Nat) : Body × Option Nat :=
  let b0 := b.freeOverrides
  if 4096 ≤ b0.cor.overrides.length then (b0.raise e 342 0, none)
  else (b0.addOverride e lamp flags b0.takeAt, some b0.takeAt)

/-- The flags of lamp i as the latest override, or the entry, has them (R307). -/
def Body.flagsNow (b : Body) (i : Nat) : Nat :=
  let entry := if b.inForce 0 = 0xFF then 0 else leAt (b.bytes (b.entryAddr (b.inForce 0) i + 27) 1) 0 1
  withOverride entry (b.cor.overrides.filter (fun o => o.lamp == i && o.til.isNone)).getLast?

/-! ## Overrides of lamp faults (R161, R162, R309) -/

/-- Make an override and tell the twin (R161, R452). -/
def Body.overrideTold (b : Body) (e : Env) (lamp flags : Nat) : Body × Option Nat :=
  let r := b.override e lamp flags
  match r.2 with
  | some n => (if r.1.forwards then r.1.pairSend e (.override lamp flags n) else r.1, some n)
  | none => r

/-- The event of a lamp fault applied: 773 for a short, 772 for an open (R307). -/
def faultEvent (short : Bool) : Nat := if short then 773 else 772

/-- A pending fault becomes an override when a slot is free, and counts as applied then (R307, R309). -/
def Body.retryFaults (b : Body) (e : Env) : Body :=
  let b0 := b.freeOverrides
  let room := 4096 - b0.cor.overrides.length
  if b0.isActive then
    (b0.cor.faults.take room).foldl (fun x f =>
      (({ x with cor := { x.cor with faults := x.cor.faults.drop 1 } }).overrideTold e f.lamp f.flags).1.raise e (faultEvent f.short) 0) b0
  else b0

/-! ## What a commit does -/

/-- Execute a commit that passed: armed while LIVE, in force at once otherwise, where a swap may free slots for pending faults (R309); the number
of its latch (R141, R144). A second `corr.swap` before the latch takes the place of the first in the armed set, and the generation that the
first made PENDING stays PENDING, with no swap armed for it (DESIGN CHOICE; log entry 101). -/
def Body.doCommit (b : Body) (e : Env) (set : Cfg) : Body × Nat :=
  let n := b.takeAt
  let v := (mgetD 0 (key 0x1005 0) set.num).toNat
  let b1 :=
    if b.live then
      let x := { b with lay := { b.lay with armed := b.lay.armed.apply set } }
      let y := if bit v 0 then x.setGen 0 (x.nonActive 0) 3 else x
      if bit v 1 then y.setGen 1 (y.nonActive 1) 3 else y
    else (b.applySet e 0 set).retryFaults e
  (b1.forwardSet e set n, n)

/-- A commit waits for the supervisor's guard signature: it names the guard, the guard's still, or a rod-map swap (R134,
R175). -/
def Body.guardCommit (b : Body) (set : Cfg) : Bool :=
  let c := b.cfgNext.apply set
  set.num.any (fun p => (0x0C40 ≤ p.1 / 256 && p.1 / 256 ≤ 0x0C44) ||
    (c.regN 0x0C40 0 == 1 && p.1 == key 0x0C50 (c.regN 0x0C41 0 + 1))) ||
  bit (mgetD 0 (key 0x1005 0) set.num).toNat 1

/-- Sub-frame numbers of the old numbering, re-expressed at the first new latch (R207). -/
def renumber (last first v : Nat) : Nat := if v ≤ last then 0 else if v = 2 ^ 64 - 1 then v else first

/-- Re-express every stored number (R207). -/
def Body.renumberAll (b : Body) (last first : Nat) : Body :=
  { b with cor := { b.cor with
      overrides := b.cor.overrides.map (fun (o : Override) => { o with from_ := renumber last first o.from_, til := o.til.map (renumber last first) })
      folded := b.cor.folded.map (fun (o : Override) => { o with from_ := renumber last first o.from_, til := o.til.map (renumber last first) })
      swapAt := b.cor.swapAt.map (fun p => (p.1, renumber last first p.2)) } }

end Sys2Proof.Machine
end

