-- ==== Sys2Proof/Machine/Weave.lean ====
section
/-! DEFINITION. Weaving: bit-planes, tile and rod signatures, setpoints and commitments, send time, dose (R183 to R192, R228,
R229, R297 to R301, R306, R311 to R315). -/

namespace Sys2Proof.Machine

/-! ## Planes and signatures (R186, R190, R229) -/

/-- Plane j of a tile's codes: bit j of every code in scan order, emitter 0 first. -/
def planeBits (codes : List Nat) (j : Nat) : List Bool := codes.map (fun c => bit c j)

/-- Planes 0 to B − 1, concatenated. -/
def allPlanes (depth : Nat) (codes : List Nat) : List Bool := ((upFrom 0 depth).map (planeBits codes)).flatten

/-- Eight bits as a byte, the first in bit 7. -/
def packByte (bs : List Bool) : Byte := BitVec.ofNat 8 ((fit false 8 bs).foldl (fun a x => 2 * a + b2n x) 0)

/-- Bits packed into bytes, the first in bit 7 of byte 0. -/
def packBits (bs : List Bool) : Bytes := (chunks 8 (divUp bs.length 8) bs).map packByte

/-- Tile signature of codes at plane depth B. -/
def tileSig (depth : Nat) (codes : List Nat) : Nat := crc64xz (BitVec.ofNat 8 depth :: packBits (allPlanes depth codes))

/-- Rod output signature of tile signatures in chain order. -/
def rodSig (sigs : List Nat) : Nat := crc64xz ((sigs.map (be 8)).flatten)

/-- PLANE frames of a plane set (R228). -/
def TileRec.frames (t : TileRec) : Nat := divUp (3 * t.lamps * t.depth) 4000

/-- The bodies of the PLANE frames of a tile's codes (R229). -/
def planeBodies (t : TileRec) (codes : List Nat) : List Bytes :=
  (chunks 4000 t.frames (allPlanes t.depth codes)).map (fun c => packBits (fit false 4000 c))

/-! ## Send time (R188, R189) -/

/-- Bit time of a lane rate code, in units of 10 ps: 64, 32, 16, 8 for codes 1 to 4. -/
def bitTime (code : Nat) : Nat := [0, 64, 32, 16, 8].getD code 0

/-- S_r in units of 10 ps for a number of PLANE frames at a lane rate; 66 words a frame outside FC service (R270). -/
def sendUnits (frames code : Nat) (fc : Bool) : Nat := frames * (if fc then 64 else 66) * 66 * bitTime code

/-- S_r of rod n at its present rate, in units of 10 ps (R188). -/
def Body.sendTime (b : Body) (m : RodMap) (n : Nat) : Nat :=
  sendUnits (((m.tilesOf n).map TileRec.frames).foldl (· + ·) 0) (b.regN 0x1204 (n + 1)) (b.inService n)

/-- A send time in units of 10 ps exceeds 0.9 D_min, compared exactly. -/
def tooLong (m : Mode) (s : Nat) : Bool := decide (90 * m.dMin.1 < (s * m.dMin.2 : Nat))

/-! ## Setpoints (R94, R297 to R300) -/

/-- Setpoint of a code (R297). -/
def TileRec.setpoint (t : TileRec) (c : Nat) : Nat := divUp (c * 65535) t.full

/-- Largest code a setpoint allows (R300). -/
def TileRec.limit (t : TileRec) (s : Nat) : Nat := s * t.full / 65535

/-- Zones of a tile. -/
def TileRec.zones (t : TileRec) : Nat := t.zc * t.zr

/-- Zone of a scan index. -/
def TileRec.zoneOf (t : TileRec) (s : Nat) : Nat := t.zone (t.pos s).1 (t.pos s).2

/-- Highest codes of zone z among the scan indices of codes that start at `lo`, per emitter. -/
def zoneMax (t : TileRec) (z lo : Nat) (codes : List Nat) : List Nat :=
  (upFrom 0 (codes.length / 3)).foldl (fun a i =>
    if t.zoneOf (lo + i) = z then (upFrom 0 3).map (fun e => Nat.max (a.getD e 0) (codes.getD (3 * i + e) 0)) else a) [0, 0, 0]

/-- Setpoints of a tile's codes, zone by zone. -/
def TileRec.setpoints (t : TileRec) (codes : List Nat) : List (List Nat) :=
  (upFrom 0 t.zones).map (fun z => (zoneMax t z 0 codes).map t.setpoint)

/-- The setpoints committed to a tile for sub-frame n under timing-mode count g. -/
def Tile.committed (t : Tile) (n g : Nat) : Option (List (List Nat)) :=
  match mfind n t.commits with
  | some (h, zs) => if h = g then some zs else none
  | none => none

/-- Commit setpoints for sub-frame n, and forget those a look-back can no longer reach. -/
def Tile.commit (t : Tile) (n g phases : Nat) (zs : List (List Nat)) : Tile :=
  { t with commits := minsert n (g, zs) (t.commits.filter (fun p => decide (n ≤ p.1 + phases) || decide (p.2.1 ≠ g))) }

/-- Setpoint of zone z for sub-frame n: from the beads of the zone that are complete, and where one is not, no lower than the
setpoint of the same phase a base frame before, or full where there is none (R94, R299). -/
def Body.zoneSetpoint (b : Body) (rod pos : Nat) (t : TileRec) (beads : List Bead) (use : Map Rec) (n g phases z : Nat) :
    List Nat :=
  let mine := beads.filter (fun d => d.pos == pos && d.scans.any (fun i => t.zoneOf i == z))
  let top := mine.foldl (fun a d => match mfind d.key use with
    | some r => (upFrom 0 3).map (fun e => Nat.max (a.getD e 0) ((zoneMax t z d.lo r.codes).getD e 0))
    | none => a) [0, 0, 0]
  let s := top.map t.setpoint
  if mine.all (fun d => (mfind d.key use).isSome) && !mine.isEmpty then s
  else
    match (b.tile rod pos).committed (n - phases) g with
    | some zs => if phases ≤ n then (upFrom 0 3).map (fun e => Nat.max (s.getD e 0) ((zs.getD z []).getD e 0)) else [65535, 65535, 65535]
    | none => [65535, 65535, 65535]

/-- Codes limited to committed setpoints, and how many zones were limited (R300). -/
def clampCodes (t : TileRec) (zs : List (List Nat)) (codes : List Nat) : List Nat × Nat :=
  let lim (k : Nat) : Nat := t.limit ((zs.getD (t.zoneOf (k / 3)) []).getD (k % 3) 65535)
  let ks := upFrom 0 codes.length
  let hit := (ks.zip codes).filter (fun p => decide (lim p.1 < p.2))
  ((ks.zip codes).map (fun p => Nat.min p.2 (lim p.1)),
   ((upFrom 0 t.zones).filter (fun z => hit.any (fun p => t.zoneOf (p.1 / 3) == z))).length)

/-! ## A rod's sub-frame -/

/-- The codes of the tile at a position, from the records in use. -/
def Body.tileCodes (b : Body) (s : Sub) (rod pos : Nat) : List Nat :=
  (((b.rodBeadsOf s rod).filter (fun d => d.pos == pos)).map (fun d => ((mfind d.key s.use).map (fun r => r.codes)).getD [])).flatten

/-- The tiles of a rod in a sub-frame's map, with their positions. -/
def Body.subTiles (b : Body) (s : Sub) (rod : Nat) : List (Nat × TileRec) :=
  match b.subMap s with
  | some m => (upFrom 0 (m.tilesOf rod).length).zip (m.tilesOf rod)
  | none => []

/-- Every bead of the rod has its record in use (R95). -/
def Body.rodComplete (b : Body) (s : Sub) (rod : Nat) : Bool :=
  (b.rodBeadsOf s rod).all (fun d => (mfind d.key s.use).isSome)

/-- A rod is unfollowed at a standby: a bead of it touches a layer whose decision is open or whose frame is absent (R456). -/
def Body.unfollowed (b : Body) (s : Sub) (rod : Nat) : Bool :=
  (b.rodBeadsOf s rod).any (fun d => (s.open1 ++ s.absent).any (fun l => s.cfg.touches l s.phase d.rect))

/-- The sets a tile was last sent for a phase, in the present count of timing-mode changes. -/
def Tile.setFor (t : Tile) (phase gen : Nat) : Option PhaseSet :=
  match mfind phase t.sets with
  | some x => if x.gen = gen then some x else none
  | none => none

/-- The tile may be sent a REPEAT for sub-frame s with signature sig (R191). -/
def Tile.repeats (t : Tile) (s : Sub) (sig : Nat) : Option PhaseSet :=
  match t.setFor s.phase s.gen with
  | some x =>
    if s.cfg.regN 0x1100 0 = 1 ∧ x.last + s.mode.phases = s.n ∧ x.sig = sig ∧ !x.bad ∧ x.reps < s.cfg.regN 0x1101 0 then some x else none
  | none => none

/-- Note a REPEAT sent to a tile. -/
def Body.noteRepeat (b : Body) (rod pos : Nat) (s : Sub) (x : PhaseSet) : Body :=
  b.modTile rod pos (fun t => { t with sets := minsert s.phase { x with reps := x.reps + 1, last := s.n } t.sets })

/-- Forget what the tiles of a rod were sent: they discard their sets at a DARK (R234) or when the chain comes up again. -/
def Body.forgetSets (b : Body) (rod : Nat) : Body :=
  { b with tiles := b.tiles.filterMap (fun p =>
      if p.1 / 64 = rod then (let t : Tile := { p.2 with sets := [] }; if t = Tile.reset then none else some (p.1, t)) else some p) }

/-- Send DARK for sub-frame n with E_d (R96, R203, R234); its tile signatures are 0 (R190). -/
def Body.sendDark (b : Body) (rod n : Nat) (ed : Int) (tiles : Nat) : Body :=
  ((b.send rod (.dark n ed)).forgetSets rod).setReg 0x1104 (rod + 1) ((rodSig (List.replicate tiles 0) : Nat))

/-- The SCHEDULE of a sub-frame (R185). -/
def Sub.schedule (s : Sub) : DnFrame :=
  .schedule s.n s.phase s.mode.phases s.e s.mode.durs s.mode.gap s.mode.order

/-- One tile as woven: position, record, codes after every limit, signature, and the set a REPEAT names. -/
structure Woven where
  pos : Nat
  tile : TileRec
  codes : List Nat
  sig : Nat
  rep : Option PhaseSet
deriving DecidableEq, Repr

/-- Send a rod's sub-frame: planes or REPEATs in chain order, then the schedule (R187, R191). -/
def Body.sendRod (b : Body) (s : Sub) (rod : Nat) (ws : List Woven) : Body :=
  let all := ws.all (fun w => w.rep.isSome)
  let b1 := if all then b.send rod (.repeatSet 63 s.n s.phase (ws.map (fun w => (w.pos, (w.rep.map (fun x => x.m)).getD 0)))) else b
  let b2 := ws.foldl (fun x w =>
    match w.rep with
    | some p =>
      let y := if all then x else x.send rod (.repeatSet w.pos s.n s.phase [(w.pos, p.m)])
      (y.noteRepeat rod w.pos s p).bump 0x1102 (rod + 1) 1
    | none =>
      let y := x.send rod (.set w.pos s.n s.phase w.tile.depth w.tile.frames w.sig)
      let z := (planeBodies w.tile w.codes).foldl (fun v body => v.send rod (.plane w.pos s.n body)) y
      (z.modTile rod w.pos (fun t => { t with
        sets := minsert s.phase ⟨s.n, w.sig, 0, w.tile.setpoints w.codes, s.n, s.gen, false⟩ t.sets })).bump 0x1103 (rod + 1) 1) b1
  (b2.send rod s.schedule).setReg 0x1104 (rod + 1) ((rodSig (ws.map (fun w => w.sig)) : Nat))

/-- New commitments of a tile: each zone whose commitment rises adds to `supply.raised` and raises event 769 (R301). -/
def Body.raiseZones (b : Body) (e : Env) (s : Sub) (rod pos : Nat) (zs : List (List Nat)) : Body :=
  let old := ((b.tile rod pos).committed s.n s.gen).getD []
  ((upFrom 0 zs.length).filter (fun z => zs[z]? != old[z]?)).foldl (fun x _ => (x.bump 0x1402 (rod + 1) 1).raise e 769 0)
    (b.modTile rod pos (fun t => t.commit s.n s.gen s.mode.phases zs))

/-- A rod falls back: a REPEAT of what it last sent for the phase, or DARK (R96); a repeated setpoint above a commitment is
sent again, raised (R301). -/
def Body.fallBack (b : Body) (e : Env) (s : Sub) (rod : Nat) (sends : Bool) : Body :=
  let ts := b.subTiles s rod
  let b1 := (b.bump 0x0E08 (rod + 1) 1).raise e 304 0
  if !sends then b1
  else
    let sets := ts.map (fun p => (p.1, (b.tile rod p.1).setFor s.phase s.gen))
    if sets.any (fun p => p.2.isNone) then b1.sendDark rod s.n s.e ts.length
    else
      let ms := sets.map (fun p => (p.1, (p.2.map (fun x => x.m)).getD 0))
      let b2 := b1.send rod (.repeatSet 63 s.n s.phase ms)
      let b3 := sets.foldl (fun x p => match p.2 with
        | some y => (x.noteRepeat rod p.1 s y).bump 0x1102 (rod + 1) 1
        | none => x) b2
      let b4 := (b3.send rod s.schedule).setReg 0x1104 (rod + 1)
        ((rodSig (sets.map (fun p => (p.2.map (fun x => x.sig)).getD 0)) : Nat))
      let up := sets.filterMap (fun p =>
        match (b.tile rod p.1).committed s.n s.gen, p.2 with
        | some zs, some y =>
          let v := (upFrom 0 zs.length).map (fun z => (upFrom 0 3).map (fun k =>
            Nat.max ((zs.getD z []).getD k 0) ((y.zones.getD z []).getD k 0)))
          if v = zs then none else some (p.1, v)
        | _, _ => none)
      up.foldl (fun x p => (x.send rod (.headroom p.1 s.n p.2)).raiseZones e s rod p.1 p.2) b4

/-- Weave a complete rod: its codes, limited to the commitments that left before C(N); how many zones were limited (R300). -/
def Body.weaveRod (b : Body) (s : Sub) (rod : Nat) : List Woven × Nat :=
  let ws := (b.subTiles s rod).map (fun p =>
    let codes := b.tileCodes s rod p.1
    match (b.tile rod p.1).committed s.n s.gen with
    | some zs => let c := clampCodes p.2 zs codes
                 ((⟨p.1, p.2, c.1, 0, none⟩ : Woven), c.2)
    | none => (⟨p.1, p.2, codes, 0, none⟩, 0))
  (ws.map (fun w => w.1), (ws.map (fun w => w.2)).foldl (· + ·) 0)

/-! ## Slew (R306) -/

/-- Allowed demand of a pan at E, in 10^-6 per-mille; none without a sub-frame before. -/
def Pan.allowed (p : Pan) (slew : Nat) (e : Int) : Option Nat :=
  p.prevE.map (fun e0 => p.prevD + slew * (e - e0).toNat)

/-- Demand of a set of woven tiles, per-mille (R306). -/
def demand (ws : List Woven) : Nat :=
  let sum := (ws.map (fun w => ((w.codes.map (fun c => c * 2 ^ (16 - w.tile.depth))).foldl (· + ·) 0))).foldl (· + ·) 0
  let n := (ws.map (fun w => w.tile.lamps)).foldl (· + ·) 0
  1000 * sum / (65535 * 3 * Nat.max 1 n)

/-- Codes scaled by a factor: a numerator and a divisor. -/
def scaleCodes (k : Nat × Nat) (codes : List Nat) : List Nat := codes.map (fun c => c * k.1 / k.2)

/-- The slew limit of one pan over the woven rods: the codes after it. The demand and E of the pan's last sub-frame are kept while its limit
is 0 too. -/
def Body.slewPan (b : Body) (s : Sub) (rods : List (Nat × List Woven)) (p : Nat) : Body × List (Nat × List Woven) :=
  let slew := s.cfg.regN (panKey 0x1416 p).1 (panKey 0x1416 p).2
  let mine := ((rods.map (fun r => r.2)).flatten).filter (fun w => w.tile.pan == p)
  if mine.isEmpty then (b, rods)
  else
    let d := demand mine
    let x := b.pan p
    match if slew = 0 then none else x.allowed slew s.e with
    | some a =>
      if a < d * 1000000 then
        let k := (a, d * 1000000)
        (((b.setPan p { x with prevD := a, prevE := some s.e }).bump (panKey 0x1420 p).1 (panKey 0x1420 p).2 1).modSub s.n (fun y =>
           { y with slews := minsert p k y.slews }),
         rods.map (fun r => (r.1, r.2.map (fun (w : Woven) => if w.tile.pan = p then { w with codes := scaleCodes k w.codes } else w))))
      else (b.setPan p { x with prevD := d * 1000000, prevE := some s.e }, rods)
    | none => (b.setPan p { x with prevD := d * 1000000, prevE := some s.e }, rods)

/-- The retired records of a rod woven again differ, by tile signature, from what it sent for the sub-frame (step 2 of R459). A tile whose
sets have been forgotten since is not compared. -/
def Body.reweaveDiffers (b : Body) (s : Sub) (rod : Nat) : Bool :=
  (b.weaveRod s rod).1.any (fun w =>
    let codes := match mfind w.tile.pan s.slews with
      | some k => scaleCodes k w.codes
      | none => w.codes
    match (b.tile rod w.pos).setFor s.phase s.gen with
    | some x => x.last == s.n && x.sig != tileSig w.tile.depth codes
    | none => false)

/-! ## Dose (R311 to R315) -/

/-- Sub-frame n is sampled. -/
def sampled (n : Nat) : Bool := (n + n / 16) % 16 == 0

/-- Dose increment of a code (R312). -/
def doseInc (u depth n j em c : Nat) : Nat :=
  let cp := c * 2 ^ (16 - depth)
  let x16 := u * cp * 65536 / 7812500
  let r := (40503 * j + 2531 * (n / 16) + 18397 * em) % 65536
  (x16 + r) / 65536

/-- Address of an accumulator (R313). -/
def Body.doseAddr (b : Body) (j em : Nat) : Nat := b.base 4 + 12 * j + 4 * em

/-- The accumulator of emitter em of lamp j. -/
def Body.dose (b : Body) (j em : Nat) : Nat := leAt (b.bytes (b.doseAddr j em) 4) 0 4

/-- Add to an accumulator, which saturates: the first time it does is counted and told (R313). -/
def Body.addDose (b : Body) (e : Env) (j em inc : Nat) : Body :=
  let v := Nat.min (b.dose j em + inc) 0xFFFFFFFF
  let a := 3 * j + em
  let b1 := b.store (b.doseAddr j em) (le 4 v)
  if v = 0xFFFFFFFF ∧ !(b.cor.full.contains a) then
    ({ b1 with cor := { b1.cor with full := a :: b1.cor.full } }.bump 0x1502 0 1).raise e 965 0
  else b1

/-- A tile's accumulators and thermal record are zeroed (R315). -/
def Body.zeroDose (b : Body) (rod pos : Nat) (t : TileRec) : Body :=
  let b1 := b.zeroMem (b.doseAddr (262144 * rod + t.first) 0) (12 * t.lamps)
  b1.modTile rod pos (fun x => { x with thermCount := 0, thermSum := 0, resetDose := false })

/-- The tiles of a sub-frame's map that wait for a reset of their dose are reset (R315). -/
def Body.zeroDoses (b : Body) (s : Sub) : Body :=
  (b.tiles.filter (fun p => p.2.resetDose)).foldl (fun x p =>
    match ((x.subMap s).bind (fun m => (m.tilesOf (p.1 / 64))[p.1 % 64]?)) with
    | some t => x.zeroDose (p.1 / 64) (p.1 % 64) t
    | none => x) b

/-- A tile reports in its TELEMETRY that it lights sub-frames in HOLD (R242, R314). -/
def Tile.holds (t : Tile) : Bool := leAt t.tele 4 1 == 2

/-- The dose of one woven tile. -/
def Body.doseTile (b : Body) (e : Env) (s : Sub) (rod : Nat) (w : Woven) : Body :=
  ((upFrom 0 w.codes.length).zip w.codes).foldl (fun x p =>
    let j := 262144 * rod + w.tile.first + p.1 / 3
    x.addDose e j (p.1 % 3) (doseInc s.mode.unitUsed.toNat w.tile.depth s.n j (p.1 % 3) p.2)) b

end Sys2Proof.Machine
end

