-- ==== Sys2Proof/Machine/Confidence.lean ====
section
/-! DEFINITION. The confidence canvas and its encoders (R350 to R357). The bits of each CTU row and the NAL units of a picture are
what an encode engine ends it with, by the coding of H.265: operands of the command. -/

namespace Sys2Proof.Machine

/-! ## The canvas -/

/-- A lamp's composed components as the confidence canvas takes them: where R300 has limited a drive code, the light is free (DESIGN CHOICE;
log entry 85). -/
def limitedPoint (v codes lim : List Nat) : List Nat :=
  (upFrom 0 3).map (fun k => if codes.getD k 0 = lim.getD k 0 then v.getD k 0 else
    clampN one (Config.limitedLight (v.getD k 0) (codes.getD k 0) (lim.getD k 0)))

/-- Lamps of a rod with their canvas positions and composed values, from the records in use, as the codes woven leave them (R300, R350). -/
def Body.rodPoints (b : Body) (s : Sub) (rod : Nat) (ws : List Woven) : List (Nat × Nat × List Nat) :=
  ((b.rodBeadsOf s rod).map (fun d =>
    match mfind d.key s.use with
    | some r =>
      let lim := ((ws.find? (fun w => w.pos == d.pos)).map (fun w => w.codes)).getD []
      ((d.scans.zip (chunks 3 d.n r.canvas)).zip (chunks 3 d.n r.codes)).map (fun p =>
        ((d.at p.1.1).1, (d.at p.1.1).2, limitedPoint p.1.2 p.2 ((upFrom 0 3).map (fun k => lim.getD (3 * p.1.1 + k) 0))))
    | none => [])).flatten

/-- Lamps of a rod with their canvas positions, as a rod that gives the canvas no light contributes them (R350). -/
def Body.zeroPoints (b : Body) (s : Sub) (rod : Nat) : List (Nat × Nat × List Nat) :=
  ((b.rodBeadsOf s rod).map (fun d => d.scans.map (fun j => ((d.at j).1, (d.at j).2, [0, 0, 0])))).flatten

/-- The confidence canvas of points at decimation f: linear pixels in wall primaries, row by row (R350). -/
def confCanvas (w h f : Nat) (ps : List (Nat × Nat × List Nat)) : List (List Nat) :=
  ((upFrom 0 (divUp h f)).map (fun y => (upFrom 0 (divUp w f)).map (fun x =>
    let mine := ps.filter (fun p => p.1 / f == x && p.2.1 / f == y)
    (upFrom 0 3).map (fun k =>
      if mine.isEmpty then 0 else divRound ((mine.map (fun p => p.2.2.getD k 0)).foldl (· + ·) 0) mine.length)))).flatten

/-- A number rounded up to a multiple of 8. -/
def up8 (n : Nat) : Nat := divUp n 8 * 8

/-- Y', Cb, Cr codes of a linear pixel, 10-bit narrow range (R351). -/
def confPixel (m : List Int) (v : List Nat) : List Nat :=
  let g := (upFrom 0 3).map (fun k => confV (clampN one (matRow m k v)))
  let y : Int := 2126 * g.getD 0 0 + 7152 * g.getD 1 0 + 722 * g.getD 2 0
  let cb := 10000 * (g.getD 2 0 : Int) - y
  let cr := 10000 * (g.getD 0 0 : Int) - y
  [(rnd (y * 876) (one * 10000) + 64).toNat, (rnd (cb * 896 * 10000) (one * 10000 * 18556) + 512).toNat,
   (rnd (cr * 896 * 10000) (one * 10000 * 15748) + 512).toNat]

/-- The coded planes: luma padded to w by h, chroma the mean of each 2 by 2 block (R351). -/
def confPlanes (m : List Int) (cw ch : Nat) (px : List (List Nat)) : List (List Nat) :=
  let v := px.map (confPixel m)
  let at' (k x y : Nat) : Nat := (v.getD (Nat.min y (ch - 1) * cw + Nat.min x (cw - 1)) []).getD k 0
  let w := up8 cw
  let h := up8 ch
  let luma := ((upFrom 0 h).map (fun y => (upFrom 0 w).map (fun x => at' 0 x y))).flatten
  let chroma (k : Nat) := ((upFrom 0 (h / 2)).map (fun y => (upFrom 0 (w / 2)).map (fun x =>
    divRound (at' k (2 * x) (2 * y) + at' k (2 * x + 1) (2 * y) + at' k (2 * x) (2 * y + 1) + at' k (2 * x + 1) (2 * y + 1)) 4))).flatten
  [luma, chroma 1, chroma 2]

/-! ## Encoders -/

/-- Encoder n. -/
def Body.enc (b : Body) (n : Nat) : Enc := mgetD Enc.reset n b.media.enc

/-- Replace an encoder. -/
def Body.setEnc (b : Body) (n : Nat) (x : Enc) : Body :=
  { b with media := { b.media with enc := mputD Enc.reset n x b.media.enc } }

/-- Set cause bits of encoder n (R360). -/
def Body.encCause (b : Body) (e : Env) (n bitNo : Nat) : Body := b.setCause e 0x0B51 (n + 1) (2 ^ bitNo) (224 + n)

/-- Encoder n is enabled. -/
def Body.encOn (b : Body) (n : Nat) : Bool := b.regN 0x0B40 (n + 1) == 1

/-- Coded size of a canvas of w by h at decimation f. -/
def codedSize (w h f : Nat) : Nat × Nat := (up8 (divUp w f), up8 (divUp h f))

/-- f_pic as a fraction of pictures a second: numerator, denominator. -/
def Body.fPic (b : Body) (rate n : Nat) : Nat × Nat :=
  match rateOf rate with
  | some (a, d) => (d, a * Nat.max 1 (b.regN 0x0B42 (n + 1)))
  | none => (0, 1)

/-- The size or rate limit of R352 is exceeded. -/
def confTooBig (w h : Nat) (f : Nat × Nat) : Bool :=
  decide (3840 < w) || decide (2160 < h) || decide (497664000 * f.2 < w * h * f.1)

/-- The unit becomes active: the next picture is an IDR (R353). -/
def Body.confIdr (b : Body) : Body := [0, 1].foldl (fun x n => if x.encOn n then x.setEnc n { x.enc n with idr := true } else x) b

/-- Stop encoder n: pictures started are dropped. -/
def Body.confStop (b : Body) (n : Nat) : Body :=
  (b.setReg 0x0B40 (n + 1) 0).setEnc n { b.enc n with jobs := [], idr := true, debits := [] }

/-- At C(N) an encoder starts the picture of a chosen sub-frame, or of an abandoned one (R352). -/
def Body.confStart (b : Body) (e : Env) (m : Mode) (cfg : Cfg) (n : Nat) (en : Int) (ps : List (Nat × Nat × List Nat)) (lost : Bool) :
    Body :=
  [0, 1].foldl (fun x k =>
    if x.encOn k && n % m.phases == x.regN 0x0B41 (k + 1) && n / m.phases % Nat.max 1 (x.regN 0x0B42 (k + 1)) == 0 then
      let f := cfg.regN 0x0B3F 0
      let c := x.regN 0x0C23 0
      let z := codedSize (field c 31 16) (field c 15 0) f
      if confTooBig z.1 z.2 (x.fPic m.rate k) then (x.confStop k).encCause e k 2
      else
        let mt := (upFrom 1 9).map (fun i => x.reg 0x0B4D (9 * k + i))
        let pl := if lost then [] else confPlanes mt (divUp (field c 31 16) f) (divUp (field c 15 0) f)
          (confCanvas (field c 31 16) (field c 15 0) f ps)
        let y := (x.setReg 0x0B4E (k + 1) ((z.1 * 65536 + z.2 : Nat))).setEnc k
          { x.enc k with jobs := (x.enc k).jobs ++ [⟨n, en, divUp (field c 31 16) f, divUp (field c 15 0) f, z.1, z.2, pl, lost, x.regN 0x0B44 (k + 1)⟩] }
        if lost then y.encCause e k 1 else y
    else x) b

/-- A write of 1 to `conf.enable` (R352). -/
def confEnable (n : Nat) (b : Body) : Body × Rsp :=
  if b.encOn n then (b, wrote stOK)
  else
    let c := b.regN 0x0C23 0
    let z := codedSize (field c 31 16) (field c 15 0) (b.cfgNow.regN 0x0B3F 0)
    if confTooBig z.1 z.2 (b.fPic (if b.live then b.seq.mode.rate else b.regN 0x0900 0) n) then (b, wrote stSize)
    else
      (((b.setReg 0x0B40 (n + 1) 1).setReg 0x0B4E (n + 1) ((z.1 * 65536 + z.2 : Nat))).setEnc n
        { Enc.reset with rtp := (b.enc n).rtp }, wrote stOK)

/-- A write of 0 to `conf.enable`. -/
def confDisable (n : Nat) (b : Body) : Body × Rsp := (b.confStop n, wrote stOK)

/-- Budget of a picture before debits (R355). -/
def confBudget (b0 ratio gop : Nat) (idr : Bool) : Int :=
  if gop ≤ 1 then b0 else if idr then (ratio * b0 : Nat) else (b0 : Int) - ((ratio - 1) * b0 / (gop - 1) : Nat)

/-- QP of each row as bits are spent, and whether the picture starves (R355, R356): rows left, row, bits spent, QP. -/
def rowQps (qp : Nat) (budget : Int) (rows : Nat) : List Nat → Nat → Nat → Int → List Nat × Bool
  | [], _, _, _ => ([], false)
  | x :: xs, r, spent, q =>
    let starved := decide (budget ≤ (spent : Int))
    let s' := spent + x
    let mark := budget * (r + 1 : Nat)
    let q1 := if decide (11 * mark < 10 * s' * rows) then q + 1 else if decide ((10 * s' * rows : Nat) < 9 * mark) then q - 1 else q
    let rest := rowQps qp budget rows xs (r + 1) s' (clampI qp 51 q1)
    ((if starved then 51 else q.toNat) :: rest.1, starved || rest.2)

/-- Debits owed to the next four pictures after an overshoot (R356). -/
def addDebits (old : List Nat) (o : Nat) : List Nat :=
  (upFrom 0 4).map (fun i => old.getD i 0 + o / 4 + (if i < o % 4 then 1 else 0))

/-- RTP payloads of a NAL unit: whole up to 1,400 bytes, else fragmentation units (R357, RFC 7798). -/
def nalPayloads (nal : Bytes) : List Bytes :=
  if nal.length ≤ 1400 then [nal]
  else
    let h0 := (nal.getD 0 0).toNat
    let ty := h0 / 2 % 64
    let parts := chunks 1397 (nal.length / 1397 + 1) (nal.drop 2)
    (parts.zip (upFrom 0 parts.length)).map (fun p =>
      [BitVec.ofNat 8 (h0 / 128 * 128 + 98 + h0 % 2), nal.getD 1 0,
       BitVec.ofNat 8 ((if p.2 = 0 then 128 else 0) + (if p.2 + 1 = parts.length then 64 else 0) + ty)] ++ p.1)

/-- What the parameter sets of a picture signal (R351). -/
def ConfJob.seq (j : ConfJob) : ConfSeq := ⟨2, j.w, j.h, j.w - j.cw, j.h - j.ch, 1, 1, 1, false⟩

/-- The VPS, SPS and PPS that precede an IDR (R351, R357). -/
def ConfSeq.sets (s : ConfSeq) : List Bytes :=
  [0, 1, 2].map (fun k => Config.paramSet k [s.profile, s.w, s.h, s.cropRight, s.cropBottom, s.primaries, s.transfer, s.matrix, b2n s.fullRange])

/-- Send the packets of a picture (R357), an IDR behind its parameter sets (R351). A `conf.dest` that is no address receives nothing. -/
def Body.confSend (b : Body) (n : Nat) (j : ConfJob) (idr : Bool) (nals : List Bytes) : Body :=
  let pays := (((if idr then j.seq.sets else []) ++ nals).map nalPayloads).flatten
  let x := b.enc n
  let ts := ((j.e % (2 ^ 64 : Nat)) * 9 / 100000 % (2 ^ 32 : Nat)).toNat
  let ssrc := Nat.xor (b.regN 0x0100 0 % 2 ^ 32) n
  let pkts := (pays.zip (upFrom 0 pays.length)).map (fun p =>
    [0x80, BitVec.ofNat 8 ((if p.2 + 1 = pays.length then 128 else 0) + b.regN 0x0B4B (n + 1))] ++
      be 2 (x.rtp + p.2) ++ be 4 ts ++ be 4 ssrc ++ p.1)
  let port := b.regN 0x0B48 (n + 1)
  if b.isStandby || b.regN 0x0A00 (port + 1) != 1 then b
  else
    let b1 := b.setEnc n { x with rtp := (x.rtp + pays.length) % 65536 }
    let b2 := if idr then b1.emit (.confSeq n j.seq) else b1
    match addrOf (b.str 0x0B49 (n + 1)) with
    | some a => pkts.foldl (fun z p => z.sendTo ⟨port, a, b.regN 0x0B4A (n + 1), b.regN 0x0B4C (n + 1), p⟩) b2
    | none => b2

/-- clamp(round(6 log2(used / budget)), -3, 3) of R355, by comparing twelfth powers: it is at least k where the quotient's twelfth
power is at least 2^(2k - 1). With no bits used or no budget left the logarithm has no value, and what is clamped is free (log entry 12). -/
def sixLog2 (used budget : Nat) : Int :=
  if used = 0 ∨ budget = 0 then clampI (-3) 3 (Config.sixLog2 used budget)
  else
    ([5, 3, 1].filter (fun n => decide (budget ^ 12 ≤ used ^ 12 * 2 ^ n))).length +
      ([1, 3, 5].filter (fun n => decide (budget ^ 12 * 2 ^ n ≤ used ^ 12))).length - 3

/-- The encoder holds a reference for a picture of this size. -/
def Enc.hasRef (x : Enc) (j : ConfJob) : Bool := x.recon != [] && x.w == j.w && x.h == j.h

/-- The CTU rows of a picture: QP, and whether the row is coded without residual, as every row of a skipped picture is (R352, R355, R356). -/
def ctuRows (skip : Bool) (budget : Int) (bits qps : List Nat) : List (Nat × Bool) :=
  (qps.zip (upFrom 0 qps.length)).map (fun q => (q.1, skip || decide (budget ≤ (((bits.take q.2).foldl Nat.add 0 : Nat) : Int))))

/-- An encode engine ends the picture it started first (R353 to R356). An abandoned sub-frame's picture is a P picture, every CU skipped; an IDR
that was due follows it (DEDUCED, log entry 93). -/
def confComplete (e : Env) (n : Nat) (rowBits : List Nat) (nals : List Bytes) (b : Body) : Body :=
  let x := b.enc n
  match x.jobs with
  | [] => b
  | j :: js =>
    let gop := b.regN 0x0B46 (n + 1)
    let due := x.idr || decide (gop ≤ x.count) || x.w != j.w || x.h != j.h
    let skip := j.skip && x.hasRef j
    let idr := due && !skip
    let f := b.fPic b.seq.mode.rate n
    let b0 := j.kbps * 1000 * f.2 / Nat.max 1 f.1
    let bud := confBudget b0 (b.regN 0x0B47 (n + 1)) gop idr - (x.debits.getD 0 0 : Nat)
    let qp := b.regN 0x0B45 (n + 1)
    let vbr := b.regN 0x0B43 (n + 1) == 1
    let had := if idr then x.hadI else x.hadP
    let q0 : Int := if vbr then qp
      else if had then clampI qp 51 ((if idr then x.meanI else x.meanP : Nat) +
        sixLog2 (if idr then x.usedI else x.usedP) (if idr then x.budI else x.budP))
      else (Nat.max qp 32 : Nat)
    let rows := Nat.max 1 (divUp j.h 64)
    let bits : List Nat := fit 0 rows rowBits
    let run := rowQps qp bud rows bits 0 0 q0
    let used : Nat := bits.foldl Nat.add 0
    let mean : Nat := (b.looseDiv ((run.1.foldl Nat.add 0 : Nat) : Int) rows).toNat
    let deb := addDebits (x.debits.drop 1) ((used : Int) - bud).toNat
    let pic := codePicture idr (ctuRows skip bud bits run.1) ⟨j.w, j.h, j.planes⟩ ⟨j.w, j.h, x.recon⟩ x.field
    let y : Enc := { x with jobs := js, count := if idr then 1 else if due then Nat.max gop x.count else x.count + 1, idr := false,
                            w := j.w, h := j.h, debits := deb, field := pic.1, recon := pic.2 }
    let z : Enc := if idr then { y with meanI := mean, usedI := used, budI := bud.toNat, hadI := true }
                   else { y with meanP := mean, usedP := used, budP := bud.toNat, hadP := true }
    let b1 := ((b.tookFree 1).setEnc n z).bump 0x0B4F (n + 1) 1
    let b2 := if run.2 then (b1.bump 0x0B50 (n + 1) 1).encCause e n 0 else b1
    b2.confSend n j idr nals

/-- CONF_ENABLE (R352, R353). -/
def execConfEnable (r : Req) (n : Nat) (s : State) : Host.Outcome State Fault Refusal :=
  s.act (serveWrite s.env r 0x0B40 (n + 1) (.n 1) (fun _ => confEnable n))

/-- CONF_DISABLE (R352). -/
def execConfDisable (r : Req) (n : Nat) (s : State) : Host.Outcome State Fault Refusal :=
  s.act (serveWrite s.env r 0x0B40 (n + 1) (.n 0) (fun _ => confDisable n))

/-- CONF_PICTURE_COMPLETE (R353 to R357). -/
def execConfPictureComplete (n : Nat) (rowBits : List Nat) (nals : List Bytes) (s : State) : Host.Outcome State Fault Refusal :=
  s.act (confComplete s.env n rowBits nals)

end Sys2Proof.Machine
end

