-- ==== Sys2Proof/Machine/Time.lean ====
section
/-! DEFINITION. Wall time: increments, steps, triggers, captures, PTP time-stamping (02_wall_time.md). -/

namespace Sys2Proof.Machine

/-! ## Increment and steps -/

/-- Record a refusal in `time.refused` (R38, R39). -/
def Body.refuseTime (b : Body) (e : Env) (kind : Nat) (v : Int) : Body :=
  (((b.setReg 0x0804 1 (kind : Nat)).setReg 0x0804 2 v).setReg 0x0804 3 (e.wt : Nat)).bump 0x0804 5 1

/-- The wall time at the tick a change accepted now takes effect with, before it (R36): each change that waits takes a tick. -/
def Body.wallSoon (b : Body) (e : Env) : Int :=
  let p := b.tu.changes.foldl (fun (a : Int × Nat) c => match c with
    | .step v => (a.1 + (a.2 : Int) + v * (2 ^ 40 : Nat), a.2)
    | .force v => (a.1 + (a.2 : Int) + v * (2 ^ 40 : Nat), a.2)
    | .incr v => (a.1 + (v : Int), v)) (((e.wt * 2 ^ 40 + e.frac : Nat) : Int), e.incr)
  (p.1 + (p.2 : Int)) / (2 ^ 40 : Nat)

/-- Accept a change of the clock for the next tick (R36). -/
def Body.change (b : Body) (c : ClockChange) : Body := { b with tu := { b.tu with changes := b.tu.changes ++ [c] } }

/-- Clear the step held for forcing. -/
def Body.dropHeld (b : Body) : Body := ({ b with tu := { b.tu with held := none } }).setReg 0x0804 4 0

/-- A write of `time.incr` (R38); TWIN on a unit that follows the active's clock (R457). -/
def timeIncr (e : Env) (v : Nat) (b : Body) : Body × Rsp :=
  if b.follows && b.regN 0x1A05 0 == 1 then (b, wrote stTwin)
  else if v < 2198583450901 ∨ 2199463060203 < v then ((b.refuseTime e 2 v).raise e 65 0, wrote stRange)
  else ((b.setReg 0x0801 0 (v : Nat)).change (.incr v), wrote stOK)

/-- A write of `time.step` (R39, R40, R42). A step that both exceeds the jump threshold and would make the clock earlier than 0 is
refused by R40 alone, without a hold and without a count in the tally: the spec states no order of the two rules (DESIGN CHOICE; log entry 75). -/
def timeStep (e : Env) (v : Int) (b0 : Body) : Body × Rsp :=
  if b0.follows && b0.regN 0x1A05 0 == 1 then (b0, wrote stTwin)
  else
    let b := b0.dropHeld
    if b.wallSoon e + v < 0 then ((b.refuseTime e 1 v).raise e 64 0, wrote stRange)
    else if b.regN 0x0806 0 ≠ 0 ∧ b.regN 0x0803 0 < v.natAbs then
      let b1 := (b.refuseTime e 1 v).setReg 0x0804 4 1
      let b2 := { b1 with tu := { b1.tu with held := some (v, e.tb) } }
      ((b2.tally e 15 1 1).raise e 64 0, wrote stRange)
    else if b.regN 0x0806 0 = 0 then (((b.setReg 0x0806 0 1).raise e 69 0).change (.step v), wrote stOK)
    else (b.change (.step v), wrote stOK)

/-- The held step is released 10 s after its refusal (R42). -/
def stepHoldExpiry (e : Env) (b : Body) : Body :=
  match b.tu.held with
  | some (_, t) => if e.after t 10000000000 then b.dropHeld else b
  | none => b

/-! ## Triggers (R55 to R61) -/

/-- Value i of trigger t's configuration array. -/
def Body.tt (b : Body) (idx t : Nat) : Int := b.reg idx (t + 1)

/-- Leading edge of periodic pulse j. -/
def Body.ttPulse (b : Body) (t j : Nat) : Int :=
  b.tt 0x0811 t + (j * (b.tt 0x0812 t).toNat / (b.tt 0x0813 t).toNat : Nat)

/-- The first periodic pulse whose leading edge is at or after time w (R59), by the compare of R45. -/
def Body.ttFrom (b : Body) (t : Nat) (w : Int) : Nat :=
  let d := (tdiff w (b.tt 0x0811 t)).toNat
  let j := d * (b.tt 0x0813 t).toNat / Nat.max 1 (b.tt 0x0812 t).toNat
  if !(earlier (b.ttPulse t j) w) then j else if !(earlier (b.ttPulse t (j + 1)) w) then j + 1 else j + 2

/-- The leading edges of phase-locked trigger t for sub-frames that emit, by their E and phase, at or after time w (R55, R208). -/
def Body.ttLocked (b : Body) (t : Nat) (w : Int) : List Int :=
  ((b.seq.emitted.filter (fun p => bit (b.tt 0x0816 t).toNat p.2)).map (fun p => p.1 + b.tt 0x0817 t)).filter (fun x => !(earlier x w))

/-- Inactive level of trigger t: high when active low. -/
def Body.ttIdle (b : Body) (t : Nat) : Bool := b.tt 0x0815 t == 1

/-- An arm with trigger t's configuration is refused (R58). -/
def Body.ttBad (b : Body) (e : Env) (t : Nat) : Bool :=
  let w := (b.tt 0x0814 t).toNat
  let mode := b.tt 0x0810 t
  let num := (b.tt 0x0812 t).toNat
  let den := (b.tt 0x0813 t).toNat
  decide (w % 2 ≠ 0) || decide (w < 4) || decide (1000000000 < w) ||
  (mode == 2 && (den == 0 || decide (num < (w + 4) * den))) ||
  ((mode == 1 || mode == 2) && earlier (b.tt 0x0811 t) ((e.wt : Int) + 1000)) ||
  (mode == 3 &&
    match b.modeInForce with
    | none => true
    | some m => decide (m.tsf.1 ≤ w * m.tsf.2) || decide ((m.tsf.1 : Int) < (b.tt 0x0817 t).natAbs * m.tsf.2)) ||
  b.regN 0x0806 0 == 0

/-- The pulses of trigger t at or after time w: number and leading edge of the first, and the edges known after it. -/
def Body.ttNext (b : Body) (t : Nat) (w : Int) : Option Int × Nat × List Int :=
  match (b.tt 0x0810 t).toNat with
  | 1 => (some (b.tt 0x0811 t), 0, [])
  | 2 => let j := b.ttFrom t w
         (some (b.ttPulse t j), j, [])
  | 3 => let l := b.ttLocked t w
         (l.head?, 0, l.drop 1)
  | _ => (none, 0, [])

/-- A write of 1 to `tt.arm` (R57, R58, R60). -/
def ttArm (e : Env) (t : Nat) (b : Body) : Body × Rsp :=
  let st := b.regN 0x0819 (t + 1)
  if b.devState = devSafe ∨ b.devState = devFrozen then (b, wrote stState)
  else if st = 1 ∨ st = 2 then (b, wrote stBusy)
  else if b.ttBad e t then (b, wrote stConfig)
  else
    let nx := b.ttNext t e.wt
    let b1 := b.setReg 0x0819 (t + 1) 1
    let b2 := b1.setTrig t { b1.trig t with lead := nx.1, num := nx.2.1, trail := none, more := nx.2.2, kept := [] }
    (b2.drive t (b2.ttIdle t), wrote stOK)

/-- A write of 0 to `tt.arm` (R57). -/
def ttDisarm (t : Nat) (b : Body) : Body × Rsp :=
  let st := b.regN 0x0819 (t + 1)
  if st = 1 ∨ st = 2 then
    let b1 := b.setReg 0x0819 (t + 1) 0
    let b2 := b1.setTrig t { b1.trig t with lead := none, trail := none, more := [], kept := [] }
    (b2.drive t (b2.ttIdle t), wrote stOK)
  else (b, wrote stOK)

/-- A sub-frame emits planes or REPEATs, by its E and phase: each armed phase-locked trigger whose mask holds the phase has a pulse
for it (R55, R208). An edge that a step has skipped before the retire fires at once, with the trigger's event (R43, R73). -/
def Body.pulseFor (b : Body) (e : Env) (en : Int) (phase : Nat) : Body :=
  let b1 := { b with seq := { b.seq with emitted := (b.seq.emitted ++ [(en, phase)]).drop (b.seq.emitted.length - 15) } }
  (upFrom 0 16).foldl (fun x t =>
    if (x.regN 0x0819 (t + 1) = 1 ∨ x.regN 0x0819 (t + 1) = 2) ∧ x.tt 0x0810 t = 3 ∧ bit (x.tt 0x0816 t).toNat phase then
      let y := x.trig t
      let gone := earlier (en + x.tt 0x0817 t) e.wt
      let w := if gone then (e.wt : Int) else en + x.tt 0x0817 t
      let z := x.setTrig t (if y.lead.isNone then { y with lead := some w } else { y with more := y.more ++ [w] })
      if gone then z.raise e (72 + t) 0 else z
    else x) b1

/-- A leading edge fires when the wall clock reads it (R51, R56). A pulse still in progress keeps its trailing edge (R59). -/
def ttLead (e : Env) (t : Nat) (b : Body) : Body :=
  let x := b.trig t
  match x.lead with
  | none => b
  | some w =>
    if t < 16 ∧ e.reached w then
      let mode := b.tt 0x0810 t
      let on := b.tt 0x081A t == 0 || b.isActive
      let nx : Option Int := if mode = 2 then some (b.ttPulse t (x.num + 1)) else x.more.head?
      let b1 := (b.setTrig t { x with lead := nx, num := if mode = 2 then x.num + 1 else x.num, more := x.more.drop 1,
                                      trail := some (w + b.tt 0x0814 t),
                                      kept := x.kept ++ x.trail.toList }).setReg 0x0819 (t + 1) 2
      if on then b1.drive t (!(b1.ttIdle t)) else b1
    else b

/-- Trailing edges of pulses kept in progress that the clock has reached are dropped: they end no pulse while another lasts (R59). -/
def Body.trimKept (b : Body) (e : Env) (t : Nat) : Body :=
  let x := b.trig t
  b.setTrig t { x with kept := x.kept.filter (fun w => !(e.reached w)) }

/-- A trailing edge fires; a single pulse is then done and raises its event (R61). The output stays active while another pulse is
in progress, whose trailing edge is then the next (R59). -/
def ttTrail (e : Env) (t : Nat) (b0 : Body) : Body :=
  let b := if (b0.trig t).kept = [] then b0 else b0.trimKept e t
  let x := b.trig t
  match x.trail with
  | none => b
  | some w =>
    if t < 16 ∧ e.reached w then
      match x.kept with
      | k :: ks => b.setTrig t { x with trail := some k, kept := ks }
      | [] =>
        let b1 := (b.setTrig t { x with trail := none }).drive t (b.ttIdle t)
        if b.tt 0x0810 t = 1 then (b1.setReg 0x0819 (t + 1) 3).raise e (72 + t) 0 else b1
    else b

/-- Time w lies after w0 and before w1: a step from w0 to w1 skips it (R45). -/
def skipped (w0 w1 w : Int) : Bool := earlier w0 w && earlier w w1

/-- After a step from w0 to w1, trigger t: a periodic trigger resumes at its first pulse at or after the stepped time; a single
or phase-locked pulse skipped fires at the stepped time (R51, R59), lasts its width from there (R55), and raises the trigger's event
(R73). -/
def ttStepped (e : Env) (w0 w1 : Int) (b : Body) (t : Nat) : Body :=
  let x := b.trig t
  let st := b.regN 0x0819 (t + 1)
  let late (w : Int) : Int := if skipped w0 w1 w then w1 else w
  if st = 1 ∨ st = 2 then
    if b.tt 0x0810 t = 2 then
      let nx := b.ttNext t w1
      b.setTrig t { x with lead := nx.1, num := nx.2.1 }
    else
      ((x.lead.toList ++ x.more).filter (skipped w0 w1)).foldl (fun y _ => y.raise e (72 + t) 0)
        (b.setTrig t { x with lead := x.lead.map late, more := x.more.map late })
  else b

/-! ## Captures (R62, R63, R193) -/

/-- Capture c. -/
def Body.capt (b : Body) (c : Nat) : Capture := mgetD Capture.reset c b.tu.cap

/-- Replace capture c. -/
def Body.setCapt (b : Body) (c : Nat) (x : Capture) : Body :=
  { b with tu := { b.tu with cap := mputD Capture.reset c x b.tu.cap } }

/-- A level change on TC c starts qualification, or ends it when the qualified level returns. -/
def tcLevel (e : Env) (c : Nat) (level : Bool) (b : Body) : Body :=
  let x := b.capt c
  if b.devState = devOff ∨ 8 ≤ c then b
  else if level = x.qual then b.setCapt c { x with raw := level, change := none }
  else if level = x.raw then b
  else b.setCapt c { x with raw := level, change := some (e.wt, e.tb) }

/-- Append a stamp to the history of input c (R63). -/
def Body.tcHistory (b : Body) (c w : Nat) : Body :=
  let x := b.capt c
  if x.hist < 16 then (b.setReg 0x0826 (16 * c + x.hist + 1) (w : Nat)).setCapt c { x with hist := x.hist + 1 }
  else
    let b1 := (upFrom 0 15).foldl (fun y j => y.setReg 0x0826 (16 * c + j + 1) (b.reg 0x0826 (16 * c + j + 2))) b
    (b1.setReg 0x0826 (16 * c + 16) (w : Nat)).bump 0x0828 (c + 1) 1

/-- The margins of phase p against a rising stamp s (R193). -/
def marginCheck (e : Env) (c : Nat) (s : Int) (m : Mode) (b : Body) (p : Nat) : Body :=
  if b.regN 0x0910 (p + 1) ≠ c then b
  else
    let n0 := (m.atOrBefore s).getD 0
    let near := (upFrom (n0 - 8) 18).filter (fun n => n % m.phases == p)
    let best := near.foldl (fun (a : Option Nat) n =>
      match a with
      | none => some n
      | some k => if (m.instE n - s).natAbs ≤ (m.instE k - s).natAbs then some n else some k) none
    match best with
    | none => b
    | some n =>
      let x := b.reg 0x0911 (p + 1)
      let lead := m.instE n - s
      let trail := (s + x) - (m.instE n + m.tEm)
      let c1 := s - (m.instE (n - 1) + m.tEm)
      let c2 := m.instE (n + 1) - (s + x)
      let clear := if c1 < c2 then c1 else c2
      let bad0 := decide (b.reg 0x0912 (p + 1) < 0) || decide (b.reg 0x0913 (p + 1) < 0) || decide (b.reg 0x0914 (p + 1) < 0)
      let b1 := ((b.setReg 0x0912 (p + 1) lead).setReg 0x0913 (p + 1) trail).setReg 0x0914 (p + 1) clear
      if !bad0 && (decide (lead < 0) || decide (trail < 0) || decide (clear < 0)) then b1.raise e 356 0 else b1

/-- A level held for `tc.min_pulse` becomes an edge: stamped, placed against E(N), kept (R62, R63). -/
def tcQualified (e : Env) (c : Nat) (b : Body) : Body :=
  let x := b.capt c
  match x.change with
  | none => b
  | some (w, t) =>
    if 8 ≤ c ∨ !(e.after t (b.regN 0x0821 (c + 1))) then b
    else
      let b1 := b.setCapt c { x with qual := x.raw, change := none }
      let sel := b.regN 0x0820 (c + 1)
      if (if x.raw then sel == 1 || sel == 3 else sel == 2 || sel == 3) && decide (x.asked ≤ t) then
        let grid := if b.regN 0x0806 0 = 0 then none else b.modeInForce
        let at' := grid.bind (fun m => (m.atOrBefore w).map (fun n => (m, n)))
        let off : Int := match at' with
          | some (m, n) => (w : Int) - m.instE n
          | none => -2147483648
        let ph := match at' with
          | some (m, n) => n % m.phases
          | none => 0xFF
        let b2 := ((((b1.setReg 0x0822 (c + 1) (w : Nat)).setReg 0x0823 (c + 1) off).setReg 0x0824 (c + 1) (ph : Nat)).setReg
          0x0825 (c + 1) (if x.raw then 1 else 2)).bump 0x0827 (c + 1) 1
        let b3 := (b2.tcHistory c w).raise e (88 + c) 0
        match at' with
        | some (m, _) => if x.raw then (m.phaseList).foldl (marginCheck e c w m) b3 else b3
        | none => b3
      else b1

/-! ## PTP on the media ports (R64 to R71) -/

end Sys2Proof.Machine

namespace Sys2Proof

/-- Event messages, which are stamped. -/
def PtpType.event : PtpType → Bool
  | .sync => true | .delayReq => true | .pdelayReq => true | .pdelayResp => true | _ => false

/-- Messages a native pair forwards (R66). -/
def PtpType.forwards : PtpType → Bool
  | .pdelayReq => false | .pdelayResp => false | .pdelayRespFollowUp => false | _ => true

end Sys2Proof

namespace Sys2Proof.Machine

/-- Mode of the pair of port p (R65). -/
def Body.ptpMode (b : Body) (p : Nat) : Nat := b.regN 0x0830 (p / 2 + 1)

/-- The other port of port p's pair. -/
def otherPort (p : Nat) : Nat := if p % 2 = 0 then p + 1 else p - 1

/-- Ingress stamp at port p by its domain's follower, with 2 ns resolution (R26, R65). -/
def Body.stampIn (b : Body) (e : Env) (p : Nat) : Nat := (e.follow (48 + p) - b.regN 0x0832 (p + 1)) / 2 * 2

/-- Egress stamp at port p by its domain's follower, with 2 ns resolution (R26, R65). -/
def Body.stampOut (b : Body) (e : Env) (p : Nat) : Nat := (e.follow (48 + p) + b.regN 0x0833 (p + 1)) / 2 * 2

/-- A PTP message of version 2, of the domain, in an encapsulation that R64 names, its tags apart. -/
def Body.ptpKnown (b : Body) (m : PtpMsg) : Bool :=
  m.version == 2 && m.domain == b.regN 0x0831 0 &&
  (match m.encap with
   | .ethernet => m.dest == 0x88F7
   | _ => m.dest == (if m.ty.event then 319 else 320))

/-- The message is one the time-stamp unit processes (R64). -/
def Body.ptpMine (b : Body) (m : PtpMsg) : Bool := decide (m.tags ≤ 1) && b.ptpKnown m

/-- A received PTP message is stamped, given to the cores and, in native mode, queued for the other port (R66, R68). -/
def ptpReceive (e : Env) (p : Nat) (m : PtpMsg) (b : Body) : Body :=
  if 4 ≤ p ∨ !(b.portUp p) ∨ !(b.ptpMine m) then b
  else
    let s := b.stampIn e p
    let b1 := b.emit (.ptpCores p m s)
    if b.ptpMode p = 1 ∧ m.ty.forwards then
      if b.portUp (otherPort p) then
        { b1 with tu := { b1.tu with fwd := b1.tu.fwd ++ [⟨p, s, e.tb, m⟩] } }
      else (b1.bump 0x0834 (p + 1) 1).raise e 96 0
    else b1

/-- A message of the cores leaves with its egress stamp; W48 mode inserts it (R69, R70). One that R64 does not recognise is not processed: it
leaves as it is, without a stamp; in W48 mode an event message with more tags than R70 allows has its stamp in its completion record. -/
def ptpTransmit (e : Env) (p : Nat) (m : PtpMsg) (b : Body) : Body :=
  if 4 ≤ p ∨ !(b.portUp p) then b
  else
    let s := b.stampOut e p
    if !(b.ptpKnown m) then b.emit (.ptpSent p m none)
    else if b.ptpMode p = 2 ∧ m.ty.event then
      if (m.ty = .sync ∨ m.ty = .delayReq) ∧ m.encap = .ipv4 ∧ m.tags ≤ 1 then
        b.emit (.ptpSent p { m with originSec := s / 1000000000, originNs := s % 1000000000, twoStep := false, checksum := 0 }
          (some s))
      else (b.emit (.ptpSent p m (some s))).raise e 97 0
    else b.emit (.ptpSent p m (if m.ty.event && decide (m.tags ≤ 1) then some s else none))

/-- One's complement sum of 16-bit words. -/
def ones (a c : Nat) : Nat := (a + c) % 65536 + (a + c) / 65536

/-- The UDP checksum after the correction field changes from a to c, by RFC 1624 (R67). -/
def fixChecksum (hc : Nat) (a c : Nat) : Nat :=
  let s := (upFrom 0 4).foldl (fun s i => ones (ones s (65535 - a / 65536 ^ i % 65536)) (c / 65536 ^ i % 65536)) (65535 - hc)
  65535 - s

/-- A forward as it leaves with egress stamp `out`: Sync and Delay_Req gain the residence time (R67). -/
def forwarded' (f : Forward) (out : Nat) : PtpMsg :=
  let m := f.msg
  if m.ty = .sync ∨ m.ty = .delayReq then
    let c := toSigned 64 (ofSigned 64 (m.correction + ((out : Int) - f.stamp) * 65536))
    { m with correction := c,
             checksum := if m.encap = .ethernet then m.checksum
                         else fixChecksum m.checksum (ofSigned 64 m.correction) (ofSigned 64 c) }
  else m

/-- The oldest forward leaves port p, within 1 ms of its ingress, while its pair is in native mode (R66 to R68, R71). -/
def ptpForward (e : Env) (p : Nat) (b : Body) : Body :=
  match b.tu.fwd.find? (fun f => otherPort f.ingress == p) with
  | none => b
  | some f =>
    if b.portUp p ∧ b.ptpMode p = 1 ∧ (e.tb - f.tb) * 2 ≤ 1000000 then
      { b with tu := { b.tu with fwd := b.tu.fwd.erase f }, out := b.out ++ [.ptpForward p (forwarded' f (b.stampOut e p))] }
    else b

/-- A forward that came in on port p and cannot leave within 1 ms, or whose other port is down, is dropped (R68). -/
def ptpDrop (e : Env) (p : Nat) (b : Body) : Body :=
  match b.tu.fwd.find? (fun f => f.ingress == p) with
  | none => b
  | some f =>
    if e.after f.tb 1000000 ∨ !(b.portUp (otherPort p)) then
      (({ b with tu := { b.tu with fwd := b.tu.fwd.erase f } }).bump 0x0834 (p + 1) 1).raise e 96 0
    else b

/-- A write of `ts.pair_mode`: in force from the next frame (R71). Forwards that wait then cannot leave, and R68 drops them. -/
def tsPairMode (pair v : Nat) (b : Body) : Body × Rsp := (b.setReg 0x0830 (pair + 1) (v : Nat), wrote stOK)

/-! ## Meanings -/

/-- TIME_INCR_WRITE (R38). -/
def execTimeIncrWrite (r : Req) (v : Nat) (s : State) : Host.Outcome State Fault Refusal :=
  s.act (serveWrite s.env r 0x0801 0 (.n v) (fun _ => timeIncr s.env v))

/-- TIME_STEP_WRITE (R39 to R42). -/
def execTimeStepWrite (r : Req) (v : Int) (s : State) : Host.Outcome State Fault Refusal :=
  s.act (serveWrite s.env r 0x0802 0 (.n v) (fun _ => timeStep s.env v))

/-- STEP_HOLD_EXPIRY (R42). -/
def execStepHoldExpiry (s : State) : Host.Outcome State Fault Refusal := s.act (stepHoldExpiry s.env)

/-- TT_ARM (R57, R58). -/
def execTtArm (r : Req) (t : Nat) (s : State) : Host.Outcome State Fault Refusal :=
  s.act (serveWrite s.env r 0x0818 (t + 1) (.n 1) (fun _ => ttArm s.env t))

/-- TT_DISARM (R57). -/
def execTtDisarm (r : Req) (t : Nat) (s : State) : Host.Outcome State Fault Refusal :=
  s.act (serveWrite s.env r 0x0818 (t + 1) (.n 0) (fun _ => ttDisarm t))

/-- TT_LEADING_EDGE (R51, R55, R56). -/
def execTtLeadingEdge (t : Nat) (s : State) : Host.Outcome State Fault Refusal := s.act (ttLead s.env t)

/-- TT_TRAILING_EDGE (R56, R61). -/
def execTtTrailingEdge (t : Nat) (s : State) : Host.Outcome State Fault Refusal := s.act (ttTrail s.env t)

/-- TC_LEVEL_CHANGE (R62). -/
def execTcLevelChange (c : Nat) (level : Bool) (s : State) : Host.Outcome State Fault Refusal := s.act (tcLevel s.env c level)

/-- TC_EDGE_QUALIFIED (R62, R63, R193). -/
def execTcEdgeQualified (c : Nat) (s : State) : Host.Outcome State Fault Refusal := s.act (tcQualified s.env c)

/-- PTP_MESSAGE_RECEIVED (R64 to R66). -/
def execPtpMessageReceived (p : Nat) (m : PtpMsg) (s : State) : Host.Outcome State Fault Refusal :=
  s.act (ptpReceive s.env p m)

/-- PTP_MESSAGE_TRANSMIT (R69, R70). -/
def execPtpMessageTransmit (p : Nat) (m : PtpMsg) (s : State) : Host.Outcome State Fault Refusal :=
  s.act (ptpTransmit s.env p m)

/-- TRANSPARENT_CLOCK_FORWARD (R67). -/
def execTransparentClockForward (p : Nat) (s : State) : Host.Outcome State Fault Refusal := s.act (ptpForward s.env p)

/-- FORWARD_DROP (R68). -/
def execForwardDrop (p : Nat) (s : State) : Host.Outcome State Fault Refusal := s.act (ptpDrop s.env p)

/-- TS_PAIR_MODE_WRITE (R71). -/
def execTsPairModeWrite (r : Req) (pair v : Nat) (s : State) : Host.Outcome State Fault Refusal :=
  s.act (serveWrite s.env r 0x0830 (pair + 1) (.n v) (fun _ => tsPairMode pair v))

end Sys2Proof.Machine
end

