-- ==== Sys2Proof/Machine/PairCore.lean ====
section
/-! DEFINITION. What the pairing unit does to itself: epochs, promotion, leaving ACTIVE, going out of step, comparison of rod
signatures and attribution of a mismatch (R447, R448, R453, R458 to R466). -/

namespace Sys2Proof.Machine

/-- `pair.state`. -/
def Body.pairState (b : Body) : Nat := b.regN 0x1A02 0

abbrev pairSingle : Nat := 0
abbrev pairSeeking : Nat := 1
abbrev pairActive : Nat := 2
abbrev pairJoining : Nat := 3
abbrev pairStandby : Nat := 4
abbrev pairOut : Nat := 5
abbrev pairDemoted : Nat := 6

/-- Change the pairing unit. -/
def Body.modPair (b : Body) (f : Pair → Pair) : Body := { b with pair := f b.pair }

/-! ## Epochs (R447) -/

/-- The later of two epochs by signed 32-bit difference. -/
def laterEpoch (a b : Nat) : Nat := if 0 < Int.bmod ((b : Int) - a) (2 ^ 32) then b else a

/-- A tile reports in TELEMETRY the token epochs of both its ports (R250). -/
def Body.reportEpochs (b : Body) (body : Bytes) : Body :=
  b.modPair (fun p => { p with reported := ([beAt body 8 4, beAt body 12 4].filter (fun v => !(p.reported.contains v))).eraseDups ++ p.reported })

/-- The epoch a unit takes when it becomes active. -/
def Body.nextEpoch (b : Body) : Nat :=
  let twin := if b.regN 0x1A04 0 = 0xFF then [] else [b.pair.twinEpoch]
  let top := (twin ++ b.pair.reported).foldl laterEpoch (b.regN 0x1A03 0)
  let v := (top + 1) % 2 ^ 32
  if v % 2 = b.dev.role then v else (v + 1) % 2 ^ 32

/-- Set the epoch, in MRAM and on every rod. -/
def Body.setEpoch (b : Body) (v : Nat) : Body :=
  (upFrom 0 192).foldl (fun x n => x.setReg 0x1207 (n + 1) (v : Nat)) (b.setReg 0x1A03 0 (v : Nat))

/-- Rods whose lanes carry frames. -/
def Body.rodUp (b : Body) (n : Nat) : Bool := decide (2 ≤ b.laneState n)

/-- Every rod sends TOKEN ahead of every frame not yet begun. -/
def Body.tokenAll (b : Body) : Body :=
  (upFrom 0 192).foldl (fun x n => if x.rodUp n then x.modRod n (fun r => { r with txq := .token :: r.txq, rush := true }) else x) b

/-- A frame that only a unit in step may send (R466). -/
def DnFrame.inStep : DnFrame → Bool
  | .set .. => true
  | .plane .. => true
  | .repeatSet .. => true
  | .schedule .. => true
  | .headroom .. => true
  | _ => false

/-- Frames that only a unit in step, or a rod in FC service, may send leave a rod's queue. -/
def Body.dropInStep (b : Body) (n : Nat) : Body :=
  (b.modRod n (fun r => { r with txq := r.txq.filter (fun f => !f.inStep) })).endSet n

/-- Every rod drops the frames that only a unit in step may send. -/
def Body.dropData (b : Body) : Body := (upFrom 0 192).foldl Body.dropInStep b

/-- A frame of the data of sub-frame k. -/
def DnFrame.ofSub (k : Nat) : DnFrame → Bool
  | .set _ n _ _ _ _ => n == k
  | .plane _ n _ => n == k
  | .schedule n _ _ _ _ _ _ => n == k
  | .repeatSet _ n _ _ => n == k
  | _ => false

/-- The unit sends sub-frame data of N: single, active or in step, and when joining only from the join sub-frame (R449, R466). -/
def Body.sendsData (b : Body) (n : Nat) : Bool :=
  match b.pairState with
  | 0 => true
  | 1 => true
  | 2 => true
  | 3 => b.pair.joined && decide (b.regN 0x1A0D 0 ≤ n)
  | 4 => true
  | _ => false

/-! ## Records and comparison (R77, R458) -/

/-- A retired sub-frame that nothing needs any more, its emission start passed, is forgotten. -/
def Body.purge (b : Body) (e : Env) : Body :=
  b.modBeads (fun x => { x with subs := x.subs.filter (fun (s : Sub) =>
    !(s.retired && s.held.isEmpty && s.await.isEmpty && e.reached s.e)) })

/-- PLANE frames of sub-frame n wait on a rod. -/
def Body.planesWait (b : Body) (n rod : Nat) : Bool :=
  (b.rod rod).txq.any (fun f => match f with
    | .plane _ k _ => k == n
    | _ => false)

/-- The rod's records of N return when its last PLANE has left and its comparison has ended. -/
def Body.settle (b : Body) (e : Env) (n rod : Nat) : Body :=
  match b.sub? n with
  | none => b
  | some s =>
    match mfind rod s.held with
    | none => b
    | some k =>
      if s.await.contains rod || b.planesWait n rod then b
      else ((b.addStaging (k : Nat)).modSub n (fun x => { x with held := merase rod x.held })).purge e

/-- What waits of sub-frame k is never sent: its frames leave every queue, and their records return (R43, R77). -/
def Body.dropFrames (b : Body) (e : Env) (k : Nat) : Body :=
  (upFrom 0 192).foldl (fun x n =>
    if (x.rod n).txq.any (DnFrame.ofSub k) then
      let y := x.modRod n (fun r => { r with txq := r.txq.filter (fun f => !(f.ofSub k)) })
      (if (y.rod n).txq.any (fun f => match f with
        | .plane .. => true
        | _ => false) then y else y.endSet n).settle e k n
    else x) b

/-- The comparison of a rod of sub-frame n has ended. -/
def Body.endCompare (b : Body) (e : Env) (n rod : Nat) : Body :=
  (b.modSub n (fun s => { s with await := s.await.filter (· != rod) })).settle e n rod

/-- Every rod whose comparison has ended and whose PLANE frames wait no longer returns its records (R77). -/
def Body.settleAll (b : Body) (e : Env) : Body :=
  b.beads.subs.foldl (fun x s => s.held.foldl (fun y p => y.settle e s.n p.1) x) b

/-- Every comparison awaited ends: there is no twin to compare with. Rods whose PLANE frames were dropped return their records too. -/
def Body.endCompares (b : Body) (e : Env) : Body :=
  (b.beads.subs.foldl (fun x s => s.await.foldl (fun y r => y.endCompare e s.n r) x) b).settleAll e

/-- Key of a signature of rod r for sub-frame n. -/
def sigKey (n r : Nat) : Nat := n * 256 + r

/-- Signatures of sub-frame n and the 15 before it; older ones have no counterpart to come. -/
def recentSigs (n : Nat) (m : Map (Nat × Nat)) : Map (Nat × Nat) := m.filter (fun q => decide (n < q.1 / 256 + 16))

/-! ## Changes of `pair.state` (R448, R461) -/

/-- A forwarded commit of order o must wait: a LATCH still to be followed was sent before it (R454, R455). -/
def Body.commitWaits (b : Body) (o : Nat) : Bool := b.pair.latches.any (fun l => decide (l.order < o))

/-- Execute the forwarded commits, in order, up to one that must wait; all of them where `all` says so. -/
def takeCommits (e : Env) (all : Bool) : Nat → Body → Body
  | 0, b => b
  | k + 1, b =>
    match b.pair.commits with
    | [] => b
    | c :: cs =>
      if !all && b.commitWaits c.1 then b
      else takeCommits e all k (((b.modPair (fun p => { p with commits := cs })).doCommit e c.2).1)

/-- Execute what forwarded commits may execute now. -/
def Body.runCommits (b : Body) (e : Env) (all : Bool) : Body := takeCommits e all b.pair.commits.length b

/-- Leave step (R453, R455, R456): event 902. The forwarded commits still waiting follow what is due on the same tick (R52): `fireDue`
executes them. -/
def Body.outOfStep (b : Body) (e : Env) (det : Nat) : Body :=
  if b.pairState = pairJoining ∨ b.pairState = pairStandby then
    ((((b.setReg 0x1A02 0 (pairOut : Nat)).raise e 902 det).dropData).modPair (fun p => { p with
      attribs := [], latchWait := none, good := 0, latches := [], decs := [], joined := false, toldOut := false })).endCompares e
  else b

/-- Leave ACTIVE without doubt (R448): TOKEN with the flag clear on every rod, event 898. -/
def Body.leaveActive (b : Body) (e : Env) : Body :=
  if b.pairState = pairActive then
    (((((b.setReg 0x1A02 0 (pairOut : Nat)).holdTrigs.modPair (fun p => { p with drive := false, attribs := [], handover := none, toldOut := false })).raise e 898 0).dropData).tokenAll).endCompares e
  else b

/-- The unit takes inclusion authority over what is issued (R461, R462): sub-frames whose confirm point lies at least 64 us
ahead follow its own decisions, later ones stay under R456. -/
def Body.authority (b : Body) (e : Env) : Body :=
  let b1 := b.modBeads (fun x => { x with subs := x.subs.map (fun (s : Sub) =>
    if 64000 ≤ tdiff s.c e.wt ∧ !s.retired then
      { s with open1 := [], absent := [], groups := s.groups.map (fun g => { g with told := true }) } else s) })
  let b2 := (b1.beads.subs.map (fun s => (s.n, s.groups.map (fun g => g.epoch)))).foldl (fun x p =>
    p.2.foldl (fun y g => y.trySwitchIn e p.1 g) x) b1
  (b2.beads.subs.map (fun s => s.n)).foldl (fun x n => x.releaseHeld e n) b2

/-- Become active: epoch, ACTIVE_N, TOKEN, authority, event 897 (R447, R461). No comparison is awaited any longer (R77). The forwarded commits still waiting follow what is due on the
same tick (R52): `fireDue` executes them. -/
def Body.becomeActive (b : Body) (e : Env) : Body :=
  let b1 := (b.setEpoch b.nextEpoch).setReg 0x1A02 0 (pairActive : Nat)
  let b2 := (b1.modPair (fun p => { p with
    drive := true, attribs := [], latchWait := none
    released := none, handover := none, latches := [], decs := [], joined := false, snapOut := 0 })).tokenAll
  (((b2.authority e).confIdr).raise e 897 0).endCompares e

/-- A promotion trigger (R460, R461): counted as a switch-over, whose completion R462 measures. -/
def Body.promote (b : Body) (e : Env) : Body :=
  if (b.pairState = pairStandby ∨ b.pairState = pairOut) ∧ b.devState ≠ devSafe ∧ b.devState ≠ devFrozen ∧ b.regN 0x1A10 0 = 0 then
    let b1 := ((b.becomeActive e).tally e 10 0 1).modPair (fun p => { p with completed := some e.wt })
    (b1.bump 0x1A0A 0 1).setReg 0x1A0B 0 (e.wt : Nat)
  else b

/-- The pairing link goes down (R453): event 899; comparisons end. Both ends begin again with sequence 1, and what was not
acknowledged is lost, so a follower leaves step (log entry 60). -/
def Body.pairLinkLost (b : Body) (e : Env) : Body :=
  if b.regN 0x1A05 0 = 0 then b
  else
    ((((b.setReg 0x1A05 0 0).raise e 899 0).modPair (fun p => { p with
      txSeq := 1, unacked := [], backlog := [], rxNext := 1, early := [], gap := none, snapOut := 0, timeRx := none })).outOfStep e 0).endCompares e

/-! ## Attribution (R459) -/

/-- Change the attribution of rod r of sub-frame n. -/
def Body.modAttrib (b : Body) (n r : Nat) (f : Attrib → Attrib) : Body :=
  b.modPair (fun p => { p with attribs := p.attribs.map (fun a => if a.n = n ∧ a.rod = r then f a else a) })

/-- The attribution is over. -/
def Body.endAttrib (b : Body) (e : Env) (n r : Nat) : Body :=
  (b.modPair (fun p => { p with attribs := p.attribs.filter (fun a => !(a.n == n && a.rod == r)) })).endCompare e n r

/-- Decide by the table of R459, as soon as it decides. -/
def Body.decideAttrib (b : Body) (e : Env) (n r : Nat) : Body :=
  match b.pair.attribs.find? (fun a => a.n == n && a.rod == r) with
  | none => b
  | some a =>
    match a.own, a.twin with
    | some 1, _ => (b.endAttrib e n r).doubt e 9 r
    | some 0, some 1 =>
      let b1 := b.endAttrib e n r
      if b1.pairState = pairStandby then b1.promote e else b1
    | some 0, some 0 => (b.endAttrib e n r).doubt e 10 r
    | _, _ => b

/-- This unit's result is known: tell the twin, then decide. -/
def Body.ownAttrib (b : Body) (e : Env) (n r result : Nat) : Body :=
  ((b.modAttrib n r (fun a => { a with own := some result })).pairSend e (.attrib n r result)).decideAttrib e n r

/-- Signatures of a compared rod differ: count it, raise event 901, and outside a join re-execute every bead of it (R449, R459). -/
def Body.mismatch (b : Body) (e : Env) (n r : Nat) : Body :=
  let b1 := (b.bump 0x1A08 (r + 1) 1).raise e 901 r
  if b.pairState = pairJoining ∨ (b.pairState = pairActive ∧ b.regN 0x1A04 0 ≠ pairStandby) then
    (b1.modPair (fun p => { p with good := 0, joinBad := some n })).endCompare e n r
  else
    match b1.sub? n with
    | none => b1
    | some s =>
      let ds := b1.rodBeadsOf s r
      let b3 := b1.modPair (fun p => { p with attribs := p.attribs ++ [⟨n, r, none, none, ds.length, false, e.tb⟩] })
      let b4 := b3.modBeads (fun x => { x with waiting := x.waiting ++ ds.map (fun d =>
        (⟨n, ((mfind d.key s.epochs).getD 0), d.key, .attrib, 0, d.num, none, true⟩ : Job)) })
      if ds.isEmpty then b4.ownAttrib e n r (b2n (b4.reweaveDiffers s r)) else b4

/-- A re-executed bead is done: its record against the retired one; behind the last, the retired records are woven again (R459). The engine
whose retired record differs is fenced. -/
def Body.attribBead (b : Body) (e : Env) (n bead : Nat) (rec : Rec) : Body :=
  let r := bead / 512
  let old := (b.sub? n).bind (fun s => mfind bead s.use)
  let bad := match old with
    | some x => x.sig != rec.sig
    | none => true
  let b1 := match old with
    | some x => if bad then b.fence e x.engine 1 else b
    | none => b
  let b2 := b1.modAttrib n r (fun a => { a with left := a.left - 1, differ := a.differ || bad })
  match b2.pair.attribs.find? (fun a => a.n == n && a.rod == r) with
  | some a =>
    if a.left = 0 ∧ a.own.isNone then
      b2.ownAttrib e n r (b2n (a.differ || ((b2.sub? n).map (fun s => b2.reweaveDiffers s r)).getD false))
    else b2
  | none => b2

/-! ## Comparing (R449, R458) -/

/-- The last rod of a sub-frame has been compared: two base frames with every rod compared equal and followed reach STANDBY
(R448). -/
def Body.joinCount (b : Body) (e : Env) (sub : Option Sub) (n r : Nat) : Body :=
  match sub with
  | none => b
  | some s =>
    if b.pairState ≠ pairJoining ∨ s.await.any (· != r) then b
    else if b.pair.goodN ≠ n ∧ b.pair.good ≠ 0 ∨ b.pair.joinBad = some n then b
    else if b.pair.good = 0 ∧ s.phase ≠ 0 then b
    else
      let g := b.pair.good + 1
      let b1 := b.modPair (fun p => { p with good := g, goodN := n + 1 })
      if g = 2 * s.mode.phases then (b1.setReg 0x1A02 0 (pairStandby : Nat)).raise e 903 0 else b1

/-- Both units have sent the signature of rod r for sub-frame n: compare, unless either has set a flag (R458). -/
def Body.compareRod (b : Body) (e : Env) (n r : Nat) : Body :=
  match mfind (sigKey n r) b.pair.sigOwn, mfind (sigKey n r) b.pair.sigTwin with
  | some x, some y =>
    let b1 := b.modPair (fun p => { p with sigOwn := merase (sigKey n r) p.sigOwn, sigTwin := merase (sigKey n r) p.sigTwin })
    if x.2 = 0 ∧ y.2 = 0 then
      if x.1 = y.1 then (b1.endCompare e n r).joinCount e (b.sub? n) n r else b1.mismatch e n r
    else
      let b2 := if bit y.2 1 then b1.bump 0x1A09 (r + 1) 1 else b1
      ((b2.modPair (fun p => { p with good := 0, joinBad := some n })).endCompare e n r).joinCount e (b.sub? n) n r
  | _, _ => b

end Sys2Proof.Machine
end

