-- ==== Sys2Proof/Machine/Retire.lean ====
section
/-! DEFINITION. The confirm point: a sub-frame retires rod by rod or falls back, is woven, counted and compared (R92, R95, R96,
R100, R120, R135, R186 to R191, R300, R301, R306, R311, R314, R350, R458, R462, R463). -/

namespace Sys2Proof.Machine

/-! ## Before the retire -/

/-- Recomputes not switched in, and held squashes, are abandoned (R92). -/
def Body.abandonWork (b : Body) (e : Env) (s : Sub) : Body :=
  let b1 := (s.groups.filter (fun g => g.live && g.layer.isSome)).foldl (fun x g =>
    let waits := (x.beads.waiting.filter (fun j => j.n == s.n && j.epoch == g.epoch && !j.record)).length
    let y := ((x.addStaging ((g.beads.length - waits : Nat))).bump 0x0E07 3 1).raise e 305 0
    match g.layer, g.dec with
    | some l, some d => y.tellDecision e s l 3 g.epoch d
    | _, _ => y) b
  let b2 := (b1.beads.held.filter (fun h => h.n == s.n)).foldl (fun x h =>
    ((x.bump 0x0E07 3 1).raise e 305 0).tellDecision e s h.layer 3 s.passEpoch h.dec) b1
  (b2.modBeads (fun x => { x with
    held := x.held.filter (fun h => h.n != s.n)
    waiting := x.waiting.filter (fun j => j.n != s.n) })).modSub s.n (fun x =>
      { x with groups := x.groups.map (fun (g : Group) => { g with live := false }) })

/-- Checks of the sub-frame not decided are missed, and those of a sub-frame not wholly issued are chosen, and missed, now (R97); engines
unchecked for P_rot sub-frames raise event 309 once, until a check agrees (R100). A sub-frame up to that of the engine's last agreeing check
does not count. -/
def Body.missChecks (b0 : Body) (e : Env) (s : Sub) : Body :=
  let b := b0.pickChecks true s
  let mine := b.beads.checks.filter (fun c => c.n == s.n)
  let b1 := b.modBeads (fun x => { x with
    checks := x.checks.filter (fun c => c.n != s.n)
    waiting := x.waiting.filter (fun j => j.n != s.n || j.kind == .attrib)
    missed := x.missed ++ ((mine.map (fun c => c.e)).filter (fun k => !(x.missed.contains k))) })
  match s.groups.find? (fun g => g.layer.isNone) with
  | none => b1
  | some g =>
    (g.holders.filter b1.engOk).foldl (fun x k =>
      if (x.beads.subs.dropWhile (fun t => t.n != s.n)).any (fun t => t.n == x.regN 0x0E0D (k + 1)) then x
      else
        let c := mgetD 0 k x.beads.unchecked + 1
        let y := x.modBeads (fun z => { z with unchecked := minsert k c z.unchecked })
        if s.mode.pRot ≤ c ∧ !(y.beads.overdue.contains k) then
          (y.modBeads (fun z => { z with overdue := k :: z.overdue })).raise e 309 0
        else y) b1

/-! ## Rods -/

/-- Sign every tile of a rod, and see which repeat (R190, R191). -/
def Body.signRod (b : Body) (s : Sub) (rod : Nat) (ws : List Woven) : List Woven :=
  ws.map (fun w =>
    let g := tileSig w.tile.depth w.codes
    { w with sig := g, rep := (b.tile rod w.pos).repeats s g })

/-- The lane rate at which R188 was checked for the mode of sub-frame s (R189). -/
def Body.rateChecked (b : Body) (s : Sub) (rod : Nat) : Nat := if s.gen = b.seq.gen then (b.rod rod).rateRef else (b.rod rod).ratePrev

/-- The rod's lane is too slow for the tiles it must send as planes (R189). -/
def Body.overrun (b : Body) (s : Sub) (rod : Nat) (ws : List Woven) : Bool :=
  let code := b.regN 0x1204 (rod + 1)
  decide (code < b.rateChecked s rod) &&
  tooLong s.mode (sendUnits (((ws.filter (fun w => w.rep.isNone)).map (fun w => w.tile.frames)).foldl (· + ·) 0) code (b.inService rod))

/-- Guard bytes and gains a rod's records report (R135). -/
def Body.guardOk (b : Body) (s : Sub) (want : Map Nat) (rod : Nat) : Bool :=
  let gs := (b.rodBeadsOf s rod).filterMap (fun d => (mfind d.key s.use).bind (fun r => r.guard))
  decide (mgetD 0 rod want = crc32c ((gs.map (fun g => g.1)).flatten)) && gs.all (fun g => g.2 == s.cfg.guardGain)

/-- What became of a rod at C(N): it retired and was sent, fell back, went dark, retired without being sent, or neither retired nor was
sent. -/
inductive Fate where
  | sent (ws : List Woven)
  | fell
  | dark
  | kept (ws : List Woven)
  | unsent
deriving DecidableEq, Repr

/-- The rod's bead records of one sub-frame. -/
def Body.rodRecords (b : Body) (s : Sub) (rod : Nat) : Nat := (b.rodBeadsOf s rod).length

/-- Signatures are exchanged for sub-frame n (R458). -/
def Body.compares (b : Body) (n : Nat) : Bool :=
  b.regN 0x1A05 0 == 1 &&
  (b.pairState == pairStandby || (b.pairState == pairJoining && b.sendsData n) ||
   (b.pairState == pairActive && (b.regN 0x1A04 0 == pairStandby ||
     (b.regN 0x1A04 0 == pairJoining && b.pair.snapOut == 2 && decide (b.regN 0x1A0D 0 ≤ n)))))

/-- Rod `rod` has not passed the check of a dark path in progress: it runs still, or has yet to start where a sub-frame of the new mode
retires on the tick of C(N_L + 1) (R203, R205). -/
def Body.unchecked (b : Body) (rod : Nat) (s : Sub) : Bool :=
  b.dev.darkRods.contains rod || (match b.seq.sw with
    | some w => !w.seamless && !w.leave && w.latched && !w.dark && s.gen == b.seq.gen
    | none => false)

/-- Act on one rod: send it, fall back, go dark, or discard what is not sent. `ws` is none for a rod that cannot retire. -/
def Body.retireRod (b : Body) (e : Env) (s : Sub) (rod : Nat) (ws : Option (List Woven)) : Body × Fate :=
  let sends := b.inService rod && b.sendsData s.n
  let back (x : Body) : Body := x.addStaging (x.rodRecords s rod : Nat)
  if sends && b.unchecked rod s then
    ((back b).sendDark rod s.n s.e (b.subTiles s rod).length, .dark)
  else
    match ws with
    | none =>
      let gone (x : Body) : Body := x.modSub s.n (fun y => { y with use := y.use.filter (fun p => p.1 / 512 != rod) })
      let hadAll := (b.subTiles s rod).all (fun p => ((b.tile rod p.1).setFor s.phase s.gen).isSome)
      (gone ((back b).fallBack e s rod sends), if hadAll && sends then .fell else if sends then .dark else .unsent)
    | some vs =>
      let us := b.signRod s rod vs
      if !sends then ((back b).setReg 0x1104 (rod + 1) ((rodSig (us.map (fun w => w.sig)) : Nat)), .kept us)
      else
        if b.overrun s rod us then
          let b1 := ((b.bump 0x1105 (rod + 1) 1).raise e 359 0)
          let hadAll := (b.subTiles s rod).all (fun p => ((b.tile rod p.1).setFor s.phase s.gen).isSome)
          (((back b1).fallBack e s rod true).modSub s.n (fun y => { y with use := y.use.filter (fun p => p.1 / 512 != rod) }),
           if hadAll then .fell else .dark)
        else
          let b1 := b.sendRod s rod us
          let planes := us.any (fun w => w.rep.isNone)
          let wait := b1.compares s.n
          let b2 :=
            if planes || wait then
              b1.modSub s.n (fun y => { y with held := minsert rod (b1.rodRecords s rod) y.held,
                                               await := if wait then rod :: y.await else y.await })
            else back b1
          (b2, .sent us)

/-! ## Counting -/

/-- The frame of the ring layer l shows that was expected at time t has come by C(N) (R120); a newer one does not stand for it. -/
def Body.frameCame (b : Body) (s : Sub) (l : Nat) (near : Int → Int → Bool) (t : Int) : Bool :=
  (b.framesOf s.cfg l (s.cfg.source l).1 (s.cfg.source l).2).any (fun p =>
    beforeNext s.mode s.e (s.cfg.pt' l p.2) && near t (s.cfg.pt' l p.2))

/-- Frames late by arrival that layer l has still to count, and the state with them counted: none in cadence mode (R120). -/
def Body.takeLate (b : Body) (s : Sub) (l : Nat) : Body × Nat :=
  if s.cfg.lay 0x0C0F l = 1 then (b, 0)
  else
    let r := b.ring (s.cfg.source l).1 (s.cfg.source l).2
    let k := lateKey l r.1 r.2
    ({ b with lay := { b.lay with latePend := mputD 0 k 0 b.lay.latePend } }, mgetD 0 k b.lay.latePend)

/-- Counters and reports of one layer at C(N) (R120, R145). An expected frame counts as late once, whatever the rounding of its cadence
time, and not when it has come since; -1 stands for the PT' of no frame. -/
def Body.countLayer (b : Body) (e : Env) (s : Sub) (l : Nat) : Body :=
  match (if s.cfg.shown l s.phase then mfind l s.decs else none) with
  | none => (b.setReg 0x0C16 (l + 1) 0).setReg 0x0C17 (l + 1) (-1)
  | some d =>
    let f := d.buf.bind (fun id => mfind id b.lay.bufs)
    let pt : Int := match f with
      | some x => if isRing x.kind || x.kind == 6 then max (-1) (s.cfg.pt' l x) else -1
      | none => -1
    let b1 := (b.setReg 0x0C16 (l + 1) (d.content : Nat)).setReg 0x0C17 (l + 1) pt
    let b2 := if d.policy then (b1.bump 0x0C19 (l + 1) 1).layerCause e l 0 else b1
    let seen := mgetD [] l b2.lay.lateSeen
    let src := s.cfg.source l
    let per := b.srcPeriod src.1 src.2
    let near (t u : Int) : Bool := decide (2 * ((t - u).natAbs : Int) * (per.2 : Int) < per.1)
    let fresh := d.missed.filter (fun t => !(seen.any (near t)) && !(b.frameCame s l near t))
    let kept := match d.missed.head? with
      | some t => seen.filter (fun u => decide (t ≤ u) || near t u)
      | none => seen
    let told := b2.takeLate s l
    let b2a := { told.1 with lay := { told.1.lay with lateSeen := mputD [] l (kept ++ fresh) told.1.lay.lateSeen } }
    let tardy := fresh.length + told.2
    let b3 := if tardy = 0 then b2a else (b2a.bump 0x0C18 (l + 1) tardy).layerCause e l 1
    let b4 := if d.content = 4 then b3.layerCause e l 2 else b3
    match d.buf, f with
    | some id, some x =>
      if isRing d.kind ∧ (d.kind, d.num) = s.cfg.source l then
        let newer := match (mfind l b4.lay.heldFrame).bind (fun o => mfind o b4.lay.bufs) with
          | some o => decide (o.pt ≤ x.pt) || decide (o.rank ≤ x.rank)
          | none => true
        if newer then { b4 with lay := { b4.lay with heldFrame := minsert l id b4.lay.heldFrame } } else b4
      else b4
    | _, _ => b4

/-- Dose of a sampled sub-frame (R311, R314): tiles that light it in HOLD are left out, and their rod's sub-frame counts as uncounted (log
entry 86). Tiles that wait for it are reset first (R315). -/
def Body.countDose (b : Body) (e : Env) (s : Sub) (fates : List (Nat × Fate)) : Body :=
  if sampled s.n then
    let b1 := fates.foldl (fun x f => match f.2 with
      | .sent ws =>
        let held := ws.filter (fun w => (x.tile f.1 w.pos).holds)
        let y := (ws.filter (fun w => !(x.tile f.1 w.pos).holds)).foldl (fun y w => y.doseTile e s f.1 w) x
        if held.isEmpty then y else y.bump 0x1501 (f.1 + 1) 1
      | _ => x.bump 0x1501 (f.1 + 1) 1) (b.zeroDoses s)
    { b1 with cor := { b1.cor with doseLast := s.n } }
  else b

/-- Lamps of the rods that retire the sub-frame, sent or not, that the ceiling scaled enter `corr.clamps` (R95, R153). -/
def Body.countClamps (b : Body) (s : Sub) (fates : List (Nat × Fate)) : Body :=
  let one (r : Nat) : Nat := ((b.rodBeadsOf s r).map (fun d =>
    ((mfind d.key s.use).map (fun (x : Rec) => (x.clamps.filter (fun c => c)).length)).getD 0)).foldl (· + ·) 0
  let add (x : Body) (r : Nat) : Body := if one r = 0 then x else x.bump 0x101C 0 (one r)
  fates.foldl (fun x f => match f.2 with
    | .sent _ => add x f.1
    | .kept _ => add x f.1
    | _ => x) b

/-- The confidence canvas of the sub-frame, and the encoders that take it (R350, R352). `woven` are the rods as R300 leaves them, before
the slew limit of R306, which the canvas does not see. -/
def Body.countConf (b : Body) (e : Env) (s : Sub) (woven : List (Nat × List Woven)) (fates : List (Nat × Fate)) : Body :=
  let lim (r : Nat) (ws : List Woven) : List Woven := ((woven.find? (fun w => w.1 == r)).map (fun w => w.2)).getD ws
  let last (r : Nat) := (mfind (r * 8 + s.phase) b.media.confLast).getD (b.zeroPoints s r)
  let ps : List (Nat × List (Nat × Nat × List Nat)) := fates.map (fun f =>
    match f.2 with
    | .sent ws => (f.1, b.rodPoints s f.1 (lim f.1 ws))
    | .kept ws => (f.1, b.rodPoints s f.1 (lim f.1 ws))
    | .unsent => (f.1, last f.1)
    | .fell => (f.1, last f.1)
    | .dark => (f.1, b.zeroPoints s f.1))
  let b1 := { b with media := { b.media with
    confLast := ps.foldl (fun m (p : Nat × List (Nat × Nat × List Nat)) => mputD [] (p.1 * 8 + s.phase) p.2 m) b.media.confLast } }
  b1.confStart e s.mode s.cfg s.n s.e (ps.map (fun (p : Nat × List (Nat × Nat × List Nat)) => p.2)).flatten false

/-- Flags of a rod's signature (R452): fell back, unfollowed, not sent. -/
def sigFlags (f : Fate) (unf : Bool) : Nat :=
  (match f with
   | .sent _ => 0
   | .fell => 1
   | .dark => 1
   | .kept _ => 4
   | .unsent => 4) + (if unf then 2 else 0)

/-- Send the rod output signatures of a retired sub-frame, as each unit of a pair does, and compare those the twin has sent where the units
are in step (R197, R458). -/
def Body.tellSignatures (b : Body) (e : Env) (s : Sub) (fates : List (Nat × Fate)) (unf : List Nat) : Body :=
  if b.pairState ≠ pairSingle ∧ b.regN 0x1A05 0 = 1 then
    let row (r : Nat) : Nat × Nat := match fates.find? (fun f => f.1 == r) with
      | some f => (b.regN 0x1104 (r + 1), sigFlags f.2 (unf.contains r))
      | none => (0, 4)
    let b1 := [0, 64, 128].foldl (fun x lo =>
      if fates.any (fun f => decide (lo ≤ f.1) && decide (f.1 < lo + 64)) then
        x.pairSend e (.signature s.n lo ((upFrom lo 64).map row))
      else x) b
    if b.compares s.n then
      let b2 := b1.modPair (fun p => { p with sigOwn := fates.foldl (fun m f => minsert (sigKey s.n f.1) (row f.1) m) (recentSigs s.n p.sigOwn) })
      fates.foldl (fun x f => x.compareRod e s.n f.1) b2
    else b1
  else b

/-! ## The retire -/

/-- Retire one sub-frame at C(N). A rod in `miswoven`, whose second weave of a PLANE body differs from the first, falls back (R438). -/
def Body.retireSub (b : Body) (e : Env) (miswoven : List Nat) (s0 : Sub) : Body :=
  let b1 := (b.abandonWork e s0).missChecks e s0
  let s := (b1.sub? s0.n).getD s0
  let rods := b1.subRods s
  let unf := rods.filter (fun r => b1.unfollowed s r)
  let b2 := unf.foldl (fun x r => x.bump 0x1A09 (r + 1) 1) b1
  let b3 := if unf.isEmpty then b2 else b2.raise e 906 0
  let can (r : Nat) : Bool := b3.rodComplete s r && !(s.votes.contains r) && !(unf.contains r) && !(miswoven.contains r)
  let woven := (rods.filter can).map (fun r => (r, b3.weaveRod s r))
  let b4 := woven.foldl (fun x w => if w.2.2 = 0 then x else x.bump 0x1401 (w.1 + 1) w.2.2) b3
  let b5 := if woven.any (fun w => decide (0 < w.2.2)) then b4.raise e 768 0 else b4
  let pans := (((woven.map (fun w => w.2.1.map (fun v => v.tile.pan))).flatten)).eraseDups
  let slewed := pans.foldl (fun x p => x.1.slewPan s x.2 p) (b5, woven.map (fun w => (w.1, w.2.1)))
  let done := rods.foldl (fun (x : Body × List (Nat × Fate)) r =>
    let y := x.1.retireRod e s r ((slewed.2.find? (fun w => w.1 == r)).map (fun w => w.2))
    (y.1, x.2 ++ [(r, y.2)])) (slewed.1, [])
  let fates := done.2
  let s1 := (done.1.sub? s.n).getD s
  let want := match b3.subMap s with
    | some m => guardParts b3.lay.bufs s.cfg m
    | none => []
  let guardBad := s.cfg.regN 0x0C40 0 == 1 && fates.any (fun f => match f.2 with
    | .sent _ => !(b3.guardOk s want f.1)
    | .kept _ => !(b3.guardOk s want f.1)
    | _ => false)
  let b6 := (upFrom 0 31).foldl (fun x l => x.countLayer e s l) done.1
  let b60 := if fates.any (fun f => match f.2 with
      | .sent _ => true
      | .fell => true
      | _ => false) then b6.pulseFor e s.e s.phase else b6
  let b7 := (((b60.countDose e s fates).countConf e s1 (woven.map (fun w => (w.1, w.2.1))) fates).countClamps s fates).modSub s.n (fun x => { x with retired := true })
  let b8 := (b7.drain).retryFaults e
  let b9 := if b8.forwards then b8.pairSend e (.seal s.n ((b8.sub? s.n).getD s).decCount) else b8
  let b10 := b9.tellSignatures e s fates unf
  let b11 := match b10.pair.completed with
    | some t => (b10.setReg 0x1A0C 0 (clampI (-2147483648) 2147483647 (s.c - t))).modPair (fun p => { p with completed := none })
    | none => b10
  let b12 := match b11.pair.handover with
    | some h =>
      if s.n < h ∧ b11.beads.subs.all (fun t => t.retired || decide (h ≤ t.n)) ∧ (b11.nextLatch.map (fun (p : Nat × Mode) => decide (h ≤ p.1))).getD true then
        if b11.pairState = pairActive then b11.leaveActive e
        else (b11.modPair (fun p => { p with handover := none })).promote e
      else b11
    | none => b11
  let b13 := b12.purge e
  if guardBad then ((b13.bump 0x0C47 0 1).raise e 287 0).doubt e 6 s.n else b13

/-- The first sub-frame whose confirm point has come retires (R51, R52, R95). -/
def subframeRetire (e : Env) (miswoven : List Nat) (b : Body) : Body :=
  match b.beads.subs.find? (fun s => !s.retired) with
  | none => b
  | some s => if e.reached s.c then b.retireSub e miswoven s else b

end Sys2Proof.Machine
end

