-- ==== Sys2Proof/Machine/Sequencer.lean ====
section
/-! DEFINITION. The sequencer: latches, timing-mode switches, dark paths, entering and leaving LIVE, steps of the clock while LIVE
(R43, R44, R48 to R53, R143, R144, R198 to R211, R455, R456, R511, R512). -/

namespace Sys2Proof.Machine

/-! ## Decisions from the active unit (R93, R456) -/

/-- The buffer a DECISION names, by source, PT' and frame signature. -/
def Body.named (b : Body) (c : Cfg) (d : DecisionMsg) : Option Nat :=
  ((b.framesOf c d.layer d.srcKind d.srcNum).find? (fun p => (c.pt' d.layer p.2).toNat == d.pt && p.2.sig == d.sig)).map (fun p => p.1)

/-- A content comes of the layer's not-ready policy, or of a Hold action: nothing, a held frame, a fill that no Fill action asks for, or the
backup of a layer that its primary serves (R118, R195). -/
def Cfg.byPolicy (c : Cfg) (l content : Nat) : Bool :=
  content == 0 || content == 2 || (content == 3 && c.regN freezeIdx (l + 1) != 2) || (content == 4 && c.lay 0x0C15 l == 0)

/-- The content a DECISION names; none where the unit does not hold the frame named. -/
def Body.namedContent (b : Body) (c : Cfg) (d : DecisionMsg) : Option Decision :=
  if d.content = 0 then some (Decision.hide false [])
  else if d.content = 3 then some ⟨3, 0, 0, none, false, []⟩
  else if isRing d.srcKind then (b.named c d).map (fun id => ⟨d.content, d.srcKind, d.srcNum, some id, false, []⟩)
  else b.fixedSource c d.content d.srcKind d.srcNum

/-- The decision a DECISION gives a layer of a sub-frame; none where the unit does not hold the frame named. Whether the policy applies
follows from the content, and the frames expected and not ready are this unit's own (R120, R145). -/
def Body.decisionOf (b : Body) (env : Env) (c : Cfg) (m : Mode) (en : Int) (d : DecisionMsg) : Option Decision :=
  (b.namedContent c d).map (fun x => { x with
    policy := c.byPolicy d.layer d.content, missed := (b.include env c m en d.layer).missed })

/-- A standby takes a squash that its active has admitted (R93). Told under the epoch of the sub-frame's first pass it is held, as the active
holds it; otherwise the active has issued it under the epoch given, and it starts, or waits here for the recompute that blocks it. -/
def Body.followSquash (b : Body) (e : Env) (s : Sub) (d : DecisionMsg) (c : Decision) : Body :=
  let ks := (b.touched s d.layer).map Bead.key
  let old := b.heldSquash d.n d.layer
  let rank := (old.map (fun h => h.rank)).getD s.admitted
  let b1 := if old.isSome then b else b.countAdmitted d.n
  if (s.pass?.bind (fun g => g.act)) = some d.epoch then b1.holdSquash ⟨d.n, d.layer, c, rank, none, false⟩
  else if s.blocked d.layer ks then b1.holdSquash ⟨d.n, d.layer, c, rank, some d.epoch, false⟩
  else (b1.dropSquash d.n d.layer).recompute e s d.layer c rank (some d.epoch)

/-- The active has switched in the recompute it told under an epoch: this unit's may switch in once it is complete. -/
def Body.toldSwitch (b : Body) (e : Env) (n act : Nat) : Body :=
  let b1 := b.modSub n (fun x => x.modTold act (fun g => { g with told := true }))
  match (b1.sub? n).bind (fun s => s.toldGroup? act) with
  | some g => b1.trySwitchIn e n g.epoch
  | none => b1

/-- A standby takes a switch-in of its active (R93): the recompute of that epoch may switch in, once it has started. -/
def Body.followSwitch (b : Body) (e : Env) (s : Sub) (d : DecisionMsg) : Body :=
  match b.heldSquash d.n d.layer with
  | some h =>
    if h.epoch = some d.epoch then b.holdSquash { h with told := true }
    else b.toldSwitch e d.n d.epoch
  | none =>
    let b1 := if (s.toldGroup? d.epoch).isSome then b else match b.decisionOf e s.cfg s.mode s.e d with
      | some c => (b.countAdmitted d.n).recompute e s d.layer c s.admitted (some d.epoch)
      | none => b
    b1.toldSwitch e d.n d.epoch

/-- A standby takes an end without switch-in: of the live recompute of that epoch, or of the squash held for the layer (R93). -/
def Body.followEnd (b : Body) (e : Env) (s : Sub) (d : DecisionMsg) : Body :=
  let b1 := match (s.toldGroup? d.epoch).filter (fun g => g.live && g.layer == some d.layer) with
    | some g =>
      let waits := (b.beads.waiting.filter (fun (j : Job) => j.n == d.n && j.epoch == g.epoch && !j.record)).length
      ((b.addStaging ((g.beads.length - waits : Nat))).modBeads (fun x => { x with
        waiting := x.waiting.filter (fun (j : Job) => !(j.n == d.n && j.epoch == g.epoch)) })).modSub d.n
        (fun x => x.modGroup g.epoch (fun y => { y with live := false }))
    | none => b.dropSquash d.n d.layer
  (b1.modSub d.n (fun x => { x with
    open1 := x.open1.filter (· != d.layer), absent := x.absent.filter (· != d.layer) })).releaseHeld e d.n

/-- Follow one DECISION about a sub-frame already latched (R93): a squash admitted, switched in, or ended. One that comes after the retire
counts for the SEAL and does nothing else (R456). -/
def Body.follow (b : Body) (e : Env) (d : DecisionMsg) : Body :=
  match b.sub? d.n with
  | none => b
  | some s =>
    let s0 := b.modSub d.n (fun x => { x with decCount := x.decCount + 1 })
    if s.retired then s0
    else
      match d.kind with
      | 1 =>
        let b1 := s0.modSub d.n (fun x => { x with open1 := d.layer :: x.open1.filter (· != d.layer),
                                                   absent := x.absent.filter (· != d.layer) })
        match b1.decisionOf e s.cfg s.mode s.e d with
        | some c => b1.followSquash e s d c
        | none => b1.modSub d.n (fun x => { x with absent := d.layer :: x.absent })
      | 2 => s0.followSwitch e s d
      | 3 => s0.followEnd e s d
      | 4 => s0.followEnd e s d
      | _ => s0

/-! ## The latch (R143) -/

/-- The unit latches N only as the active unit directs (R455): it holds the LATCH for N, has executed every order it names,
and holds the first-pass DECISION of every layer. -/
def Body.mustFollow (b : Body) (n : Nat) : Bool :=
  b.pairState == pairStandby || (b.pairState == pairJoining && b.sendsData n)

/-- The layers shown in phase p of a configuration. -/
def Cfg.shownIn (c : Cfg) (p : Nat) : List Nat := (upFrom 0 31).filter (fun l => c.shown l p)

/-- The LATCH of sub-frame n, if received. -/
def Body.latchRec (b : Body) (n : Nat) : Option LatchRec := b.pair.latches.find? (fun l => l.n == n)

/-- A latch of n under mode m may happen now. -/
def Body.mayLatch (b : Body) (n : Nat) (m : Mode) : Bool :=
  if b.mustFollow n then
    match b.latchRec n with
    | some l => decide (l.order ≤ b.pair.done) &&
      (b.cfgNext.shownIn (n % m.phases)).all (fun k => b.pair.decs.any (fun d => d.n == n && d.layer == k && d.kind == 0))
    | none => false
  else true

/-- CRC-64 of a snapshot: every entry not at its default, in order; a still's content stands for its buffer (R455). -/
def Body.snapCrc (b : Body) (c : Cfg) : Nat :=
  let nums := (c.num.filter (fun p => decide (p.2 ≠ dflt (p.1 / 256) (p.1 % 256)) && p.1 / 256 != freezeIdx)).map (fun p =>
    be 4 p.1 ++ be 8 (ofSigned 64 (if p.1 / 256 = 0x0C50 then (((mfind p.2.toNat b.lay.bufs).map (fun f => (f.sig : Int))).getD 0) else p.2)))
  let blobs := (c.blob.filter (fun p => !p.2.isEmpty)).map (fun p => be 4 p.1 ++ be 4 p.2.length ++ p.2)
  crc64xz ((nums ++ blobs).flatten)

/-- The rates checked for the new mode of a switch count from its first latch; those of the old mode count for its sub-frames still (R189).
A forced step checks none. -/
def Body.rateSwitch (b : Body) (rates : Map Nat) : Body :=
  (upFrom 0 192).foldl (fun x n => if (x.rod n) = Rod.reset ∧ (mfind n rates).isNone then x
    else x.modRod n (fun r => { r with ratePrev := r.rateRef, rateRef := (mfind n rates).getD r.rateRef })) b

/-- The first new latch of a switch applies the new mode (R202, R207, R210). -/
def Body.applyMode (b : Body) (e : Env) (n : Nat) : Body :=
  match b.seq.sw with
  | none => b
  | some w =>
    if w.latched ∨ w.leave ∨ n ≤ w.nL ∧ w.first ≠ some n ∨ w.first ≠ some n then b
    else
      let b1 := { b.rateSwitch w.rates with seq := { b.seq with mode := w.mode, gen := b.seq.gen + 1, sw := some { w with latched := true } } }
      let b2 := (b1.renumberAll w.nL n).setEntryMode w.mode
      if w.seamless then
        let b3 := ({ b2 with seq := { b2.seq with sw := none } }.setReg 0x0909 0 0).raise e 352 0
        if b3.opBusy 0x0412 then b3.opEnd e 0x0412 true 0 0 else b3
      else b2

/-- Latch sub-frame n under mode m. -/
def Body.latchSub (b00 : Body) (e : Env) (n : Nat) (m : Mode) : Body :=
  let b0 := { b00 with si := { b00.si with budget := b00.regN 0x1D09 0 } }
  let b1 := if b0.seq.entering then
      { b0 with seq := { b0.seq with entering := false, gen := b0.seq.gen + 1 } }.enter e devLive
    else b0
  let b2 := b1.applyMode e n
  let armed := b2.lay.armed
  let b3 := (({ b2 with lay := { b2.lay with armed := ⟨[], []⟩ } }).applySet e n armed).endLeases.newEpoch
  let c := b3.cfgNow
  let ep := b3.epoch
  let en := m.instE n
  let mine := b3.mustFollow n
  let told (l : Nat) : Option DecisionMsg := b3.pair.decs.find? (fun d => d.n == n && d.layer == l && d.kind == 0)
  let layers := c.shownIn (n % m.phases)
  let ds := layers.map (fun l => (l, if mine then ((told l).bind (b3.decisionOf e c m en)).getD (Decision.hide false []) else b3.include e c m en l))
  let absent := if mine then layers.filter (fun l => ((told l).bind (b3.decisionOf e c m en)).isNone) else []
  let beads := (b3.map?.map RodMap.beads).getD []
  let g : Group := ⟨ep, true, none, none, ds, beads.map (fun d => (d.key, 255)), [], true, (layers.head?.bind told).map (fun d => d.epoch)⟩
  let crc := b3.snapCrc c
  let s : Sub := { n := n, mode := m, e := en, c := m.instC n, i := m.instI n, cfg := c, crc := crc, gen := b3.seq.gen,
                   corrGen := b3.inForce 0, mapGen := b3.inForce 1, decs := ds, groups := [g], use := [], epochs := [],
                   charged := (b3.map?.map (fun x => x.total)).getD 0, recomps := 0, admitted := 0, picked := false, retired := false, votes := [],
                   starved := false, held := [], decCount := if mine then layers.length else 0, open1 := [], absent := absent,
                   slews := [], setSent := b3.seq.early.contains n, await := [] }
  let jobs := (beads.zip (upFrom 0 beads.length)).map (fun p => (⟨n, ep, p.1.key, .normal, 1, p.2, none, true⟩ : Job))
  let b4 := (b3.modBeads (fun x => { x with subs := x.subs ++ [s], waiting := x.waiting ++ jobs })).addStaging (-(beads.length : Nat))
  let b5 := { b4.setReg 0x0981 0 (n : Nat) with
              seq := { b4.seq with next := some (n + 1), early := b4.seq.early.filter (· != n) } }
  if mine then
    let bad := match b5.latchRec n with
      | some l => l.crc != crc
      | none => true
    let later := b5.pair.decs.filter (fun d => d.n == n && d.kind != 0)
    let b6 := b5.modPair (fun p => { p with latches := p.latches.filter (fun l => decide (n < l.n)),
                                            decs := p.decs.filter (fun d => decide (n < d.n)), latchWait := none })
    let b7 := later.foldl (fun x d => x.follow e d) b6
    if bad then b7.outOfStep e 0 else b7.runCommits e false
  else if b5.forwards then
    let b6 := ds.foldl (fun x d => x.tellDecision e s d.1 0 ep d.2) b5
    b6.pairSend e (.latch n b6.pair.order crc)
  else b5

/-- The next latch is due. -/
def Body.latchDue (b : Body) (e : Env) : Option (Nat × Mode) :=
  if b.live || b.seq.entering then
    match b.nextLatch with
    | some (n, m) => if e.reached (m.instI n) && b.mayLatch n m then some (n, m) else none
    | none => none
  else none

/-- Retires due, lowest first (R52); at most k of them. -/
def retiresDue (e : Env) : Nat → Body → Body
  | 0, b => b
  | k + 1, b =>
    match b.beads.subs.find? (fun s => !s.retired) with
    | none => b
    | some s => if e.reached s.c then retiresDue e k (b.retireSub e [] s) else b

/-- A follower whose latch is due without its LATCH notes when the wait began (R455). -/
def Body.latchWaits (b : Body) (e : Env) : Body :=
  match b.nextLatch with
  | some (n, m) =>
    if (b.live || b.seq.entering) && e.reached (m.instI n) && b.mustFollow n && (b.latchRec n).isNone &&
        b.pair.latchWait.map (fun (w : Nat × Nat) => w.1) != some n then
      b.modPair (fun p => { p with latchWait := some (n, e.tb) })
    else b
  | none => b

/-- A unit that follows no longer, active or out of step, executes the forwarded commits it still holds (R454, R461). -/
def Body.heldCommits (b : Body) (e : Env) : Body := if b.follows then b else b.runCommits e true

/-- Every retire and latch due at this instant: what a commit that executes now follows (R52, R142). -/
def fireDue (e : Env) : Nat → Body → Body
  | 0, b => b
  | k + 1, b =>
    let b1 := retiresDue e 4 b
    match b1.latchDue e with
    | none => b1.heldCommits e
    | some (n, m) => fireDue e k (b1.latchSub e n m)

/-- A promotion is complete, and so is leaving step, once the forwarded commits have executed, after every instant due on its tick (R52,
R454, R461). -/
def Body.settleOffice (b : Body) (e : Env) : Body := if b.follows ∨ b.pair.commits.isEmpty then b else fireDue e 4 b

/-- One latch that is due, after the retires due (R51, R52, R143). -/
def subframeLatch (e : Env) (b : Body) : Body :=
  let b1 := retiresDue e 4 b
  match b1.latchDue e with
  | none => b1.latchWaits e
  | some (n, m) => (b1.latchSub e n m).settleOffice e

/-- A retire, and what a promotion at it leaves to do (R463). -/
def retireDue (e : Env) (miswoven : List Nat) (b : Body) : Body := (subframeRetire e miswoven b).settleOffice e

/-! ## Checks of a timing mode (R200) -/

/-- Lamps in use. -/
def Body.lampsInUse (b : Body) : Nat := (b.map?.map (fun m => m.total)).getD 0

/-- The lamps in use exceed a budget under a mode. -/
def Body.overBudget (b : Body) (budget : Nat) (m : Mode) : Bool :=
  match rateOf m.rate with
  | some (a, d) => decide (budget * a < b.lampsInUse * m.phases * d)
  | none => true

/-- The lamps in use exceed the lamp-update budget under a mode. -/
def Body.overLoad (b : Body) (m : Mode) : Bool := b.overBudget b.budget m

/-- An armed phase-locked trigger fails R58 under a mode. -/
def Body.triggerBad (b : Body) (m : Mode) : Bool :=
  (upFrom 0 16).any (fun t =>
    (b.regN 0x0819 (t + 1) == 1 || b.regN 0x0819 (t + 1) == 2) && b.reg 0x0810 (t + 1) == 3 &&
    (decide (m.tsf.1 ≤ b.regN 0x0814 (t + 1) * m.tsf.2) || decide (m.tsf.1 < (b.reg 0x0817 (t + 1)).natAbs * m.tsf.2)))

/-- The first check of R200, BUSY apart, that a mode fails; 0 when all pass. `ra` is the larger run-ahead of old and new. -/
def Body.modeBad (b : Body) (m : Mode) (ra : Nat) : Nat :=
  if m.checkSelf ≠ stOK then m.checkSelf
  else if m.ra < 0x4000 ∨ 0x20000 < m.ra then stRunAhead
  else if b.overLoad m then stLoad
  else if (match b.map? with
      | some x => x.rods.any (fun r => tooLong m (b.sendTime x r.1))
      | none => false) then stLane
  else if (match b.map? with
      | some x => stagingBad ra x.allBeads.length
      | none => false) then stStaging
  else if b.triggerBad m then stTrigger
  else stOK

/-- The lane rate of every rod in use now: the rates at which R188 is checked. -/
def Body.ratesNow (b : Body) : Map Nat := b.rodsInUse.map (fun n => (n, b.regN 0x1204 (n + 1)))

/-- Note the lane rate at which R188 was checked (R189). -/
def Body.noteRates (b : Body) : Body :=
  b.rodsInUse.foldl (fun x n => x.modRod n (fun r => { r with rateRef := x.regN 0x1204 (n + 1) })) b

/-! ## Mode switch (R198 to R211) -/

/-- A mode as the arguments of `op.mode_switch` hold it (R213). -/
def Body.argMode (b : Body) : Mode :=
  { rate := b.regN 0x0412 0x10, phases := b.regN 0x0412 0x11, shift := (upFrom 0 8).map (fun p => b.reg 0x0412 (0x12 + p)),
    window := (upFrom 0 8).map (fun p => b.regN 0x0412 (0x1A + p)), unit := b.regN 0x0412 0x22, gap := b.regN 0x0412 0x23,
    order := b.regN 0x0412 0x24, ra := b.regN 0x0412 0x25 }

/-- A rod map swap waits for its latch. -/
def Body.mapPending (b : Body) : Bool := b.gen 1 0 == 3 || b.gen 1 1 == 3

/-- First sub-frame, phase 0, of the first base frame of mode m that p accepts, searched from time t on. -/
def Mode.firstFrame (m : Mode) (t : Int) (p : Nat → Bool) : Nat :=
  let k0 := (t * m.tbf.2 / m.tbf.1).toNat - 2
  (((upFrom k0 24).map (fun k => k * m.phases)).find? p).getD ((k0 + 24) * m.phases)

/-- The seamless boundary (R202): first base frame whose I' lies 1 ms or more after `now`. -/
def Body.boundary (_b : Body) (m : Mode) (now : Int) : Nat := m.firstFrame now (fun n => decide (now + 1000000 ≤ m.instI n))

/-- N_L of a switch at boundary first: the last old sub-frame of the frame before, or the newest latched where that is later (R201). -/
def Body.lastOld (b : Body) (m : Mode) (first newest : Nat) : Nat :=
  Nat.max newest (first / Nat.max 1 m.phases * b.seq.mode.phases - 1)

/-- A switch at boundary first is seamless (R201). -/
def Body.isSeamless (b : Body) (m : Mode) (first newest : Nat) : Bool :=
  let o := b.seq.mode
  let nL := b.lastOld m first newest
  let p := nL % Nat.max 1 o.phases
  decide (o.tbf.1 * m.tbf.2 = m.tbf.1 * o.tbf.2) && decide (o.instI nL ≤ m.instI first) &&
  decide (9 * (o.tsf.1 : Int) ≤ 10 * (m.instC first - o.instC nL) * (o.tsf.2 : Nat)) &&
  decide (o.instE nL + o.windowOf p + 1000 ≤ m.instE first) && b.regN 0x0412 0x26 == 0

/-- k' of a dark path (R203): the first new sub-frame. The instants are compared before they are rounded down, as the worked example
"Arena from four phases to two" compares them (log entry 65). -/
def darkFirst (old new : Mode) (ed cd : Int × Nat) : Nat :=
  new.firstFrame (ed.1 / ed.2) (fun n =>
    let x := new.exactE n
    let y := new.exactC n
    decide ((ed.1 * (old.tbf.2 : Nat) + (old.tbf.1 * ed.2 : Nat)) * (x.2 : Nat) ≤ x.1 * (ed.2 * old.tbf.2 : Nat)) &&
    decide (cd.1 * (y.2 : Nat) ≤ y.1 * (cd.2 : Nat)))

/-- Begin a dark path toward mode m: N_L is the last sub-frame of the base frame of the newest latched. -/
def Body.beginDark (b : Body) (m : Mode) (newest : Nat) (leave : Bool) (step : Option Int) : Body :=
  let o := b.seq.mode
  let nL := newest / Nat.max 1 o.phases * o.phases + o.phases - 1
  let ed := o.instE (nL + 1)
  let cd := o.instC (nL + 1)
  let first := if leave || step.isSome then none else some (darkFirst o m (o.exactE (nL + 1)) (o.exactC (nL + 1)))
  { b with seq := { b.seq with sw := some {
      mode := m, old := o, seamless := false, leave := leave, step := step, nL := nL, cd := cd, ed := ed, first := first,
      newE := (first.map m.instE).getD 0, dark := false, latched := false, rates := if leave || step.isSome then [] else b.ratesNow } } }

/-- Forward an operation command with its argument block (R454). -/
def Body.forwardOp (b : Body) (e : Env) (idx cmd : Nat) : Body :=
  if b.forwards then b.pairSend e (.operation idx cmd (b.argBlock idx)) else b

/-- Start of `op.mode_switch` at wall time `now` with `newest` the newest sub-frame latched (R199 to R203). -/
def modeSwitch (e : Env) (now : Int) (newest slot : Nat) (b : Body) : Body × Rsp :=
  let m := b.argMode
  if b.opBusy 0x0412 then (b, wrote stBusy)
  else if !b.live then
    let b1 := ((b.opBegin e 0x0412 slot []).setEntryMode m).forwardOp e 0x0412 1
    (((((b1.setReg 0x0412 0x27 1).setReg 0x0412 0x28 0).setReg 0x0412 0x29 0).setReg 0x0412 0x2A 0).opEnd e 0x0412 true 0 0, wrote stOK)
  else
    let bad := if b.regN 0x0909 0 ≠ 0 ∨ b.seq.sw.isSome ∨ b.mapPending then stBusy else b.modeBad m (Nat.max m.ra b.seq.mode.ra)
    if bad ≠ stOK then ((b.opRefuse e 0x0412 bad 0).raise e 355 0, wrote bad)
    else
      let b1 := (b.forwardOp e 0x0412 1).opBegin e 0x0412 slot []
      let first := b1.boundary m now
      if b1.isSeamless m first newest then
        let w : Switch := { mode := m, old := b1.seq.mode, seamless := true, leave := false, step := none, nL := b1.lastOld m first newest, cd := 0, ed := 0,
                            first := some first, newE := m.instE first, dark := false, latched := false, rates := b1.ratesNow }
        (((({ b1 with seq := { b1.seq with sw := some w } }.setReg 0x0909 0 1).setReg 0x0412 0x27 2).setReg 0x0412 0x28
          (first : Nat)).setReg 0x0412 0x29 w.newE |>.setReg 0x0412 0x2A 0, wrote stOK)
      else
        let b2 := b1.beginDark m newest false none
        let w := b2.seq.sw
        ((((b2.setReg 0x0909 0 2).setReg 0x0412 0x27 3).setReg 0x0412 0x28 ((w.bind (fun x => x.first)).getD 0 : Nat)).setReg 0x0412 0x29
          ((w.map (fun x => x.newE)).getD 0) |>.setReg 0x0412 0x2A 0, wrote stOK)

/-- A sub-frame issued and not retired is given up: its records, its recomputes and its checks end, and so does what waited for it. -/
def Body.giveUp (b : Body) (e : Env) (s : Sub) : Body :=
  let b1 := ((b.addStaging ((b.subBeads s).length : Nat)).abandonWork e s).missChecks e s
  ((b1.modBeads (fun q => { q with subs := q.subs.filter (fun t => t.n != s.n) })).drain).retryFaults e

/-- The new mode of a switch that is cancelled after its first new latch leaves again: its sub-frames, none of them retired, are given up, and
the old mode latches on from N_L + 1 (R204, R209; log entry 51). -/
def Body.backToOld (b : Body) (e : Env) (w : Switch) : Body :=
  let mine := b.beads.subs.filter (fun s => s.gen == b.seq.gen)
  let b1 := mine.foldl (fun x s => x.giveUp e s) b
  let b2 := (upFrom 0 192).foldl (fun x n => if (x.rod n) = Rod.reset then x
    else x.modRod n (fun r => { r with rateRef := r.ratePrev })) b1
  let b3 := { b2 with seq := { b2.seq with mode := w.old, gen := b2.seq.gen - 1, next := some (w.nL + 1), early := [] } }
  (b3.renumberAll (w.first.getD 0 - 1) (w.nL + 1)).setEntryMode w.old

/-- Cancel of `op.mode_switch` (R209): before the first new latch of a seamless switch, or before I(N_L + 1) on the old grid. -/
def modeSwitchCancel (e : Env) (b : Body) : Body × Rsp :=
  match b.seq.sw with
  | none => (b, wrote stState)
  | some w =>
    let late := w.dark || w.leave || w.step.isSome || (if w.seamless then w.latched else e.reached (w.old.instI (w.nL + 1)))
    if late then (b, wrote stTooLate)
    else
      let b1 := if w.latched then b.backToOld e w else b
      (({ b1 with seq := { b1.seq with sw := none } }.setReg 0x0909 0 0).opEnd e 0x0412 false stCancelled 0, wrote stOK)

/-- Emission resumes at E'(first) (R203, R209). A forced step, which is no mode switch, records no interval (R206). -/
def darkPathResume (e : Env) (b : Body) : Body :=
  match b.seq.sw with
  | none => b
  | some w =>
    if w.dark ∧ w.latched ∧ e.reached w.newE then
      let b1 := ({ b with seq := { b.seq with sw := none } }.setReg 0x0909 0 0).raise e 354 0
      if b1.opBusy 0x0412 then (b1.setReg 0x0412 0x2A (w.newE - w.ed)).opEnd e 0x0412 true 0 0 else b1
    else b

/-! ## Entering and leaving LIVE (R511, R512) -/

/-- The checks of R511; the status of the first that fails, and whether it was the fourth. -/
def Body.liveBad (b : Body) : Nat × Bool :=
  let ok (n : Nat) : Bool := b.inService n && b.regN 0x1202 (n + 1) == 0
  let rods := b.rodsInUse
  if b.regN 0x0806 0 ≠ 1 then (stNotReady, false)
  else if b.inForce 0 = 0xFF ∨ b.inForce 1 = 0xFF ∨ b.regN 0x1002 (b.inForce 0 + 1) ≠ b.regN 0x1013 (b.inForce 1 + 1) then (stMapTag, false)
  else if (if b.regN 0x0110 0 = 1 then !(rods.any ok) else !(rods.all ok)) then (stNotReady, false)
  else (b.modeBad b.entryMode b.entryMode.ra, true)

/-- WARM with the target LIVE: check, and wait for the first latch, or fall back to the target WARM (R509, R511). -/
def Body.goLive (b : Body) (e : Env) : Body :=
  if b.devState = devWarm ∧ b.regN 0x010B 0 = 6 ∧ !b.seq.entering then
    let r := b.liveBad
    let b1 := b.setReg 0x0111 0 (r.1 : Nat)
    if r.1 = stOK then
      let m := b1.entryMode
      { b1.noteRates with seq := { b1.seq with mode := m, next := some (m.firstFrom ((e.wt : Int) + 1000000)), sw := none,
                                               entering := true, early := [] } }
    else (b1.setReg 0x010B 0 5).raise e (if r.2 then 355 else 9) (if r.2 then 0 else r.1)
  else b

/-- Leave LIVE by steps 1 and 2 of the dark path (R512). -/
def Body.leaveLive (b : Body) (e : Env) (newest : Nat) : Body :=
  if b.live ∧ b.seq.sw.isNone then (b.forwardOp e 0x010B 5).beginDark b.seq.mode newest true none else b

/-- The device enters WARM at E_d; the armed set goes into force (R144, R512). -/
def liveExitDark (e : Env) (b0 : Body) : Body :=
  let b := fireDue e 4 b0
  match b.seq.sw with
  | none => b
  | some w =>
    if w.leave ∧ w.dark ∧ e.reached w.ed then
      let armed := b.lay.armed
      let b1 := { b with seq := { b.seq with sw := none, next := none, early := [] }, lay := { b.lay with armed := ⟨[], []⟩ } }
      ((b1.enter e devWarm).applySet e 0 armed).retryFaults e
    else b

/-! ## Steps of the clock while LIVE (R43, R44, R59) -/

/-- The next latch, of sub-frame n, will never fire: the one after it is next. -/
def Body.passOver (b : Body) (n : Nat) : Body :=
  match b.seq.sw with
  | some w =>
    if !w.latched && w.first == some n then
      { b with seq := { b.seq with sw := some { w with first := some (n + 1), newE := w.mode.instE (n + 1) } } }
    else { b with seq := { b.seq with next := some (n + 1) } }
  | none => { b with seq := { b.seq with next := some (n + 1) } }

/-- Latches that a step from w0 to w1 skipped and that fire late: at most k are looked at. An instant that the stepped clock reads exactly
counts as skipped, of latches, confirm points and emission starts alike (DESIGN CHOICE; log entry 97). -/
def Body.lateLatches (w0 w1 : Int) : Nat → Body → Nat
  | 0, _ => 0
  | k + 1, b =>
    match b.nextLatch with
    | none => 0
    | some (n, m) => if earlier w1 (m.instI n) then 0
                     else b2n (earlier w0 (m.instI n)) + Body.lateLatches w0 w1 k (b.passOver n)

/-- One instant that a step made late or that was abandoned (R43). -/
def Body.lateInstant (b : Body) (e : Env) : Body := (b.bump 0x0984 0 1).raise e 68 0

/-- Sub-frames not issued whose confirm point a forward step skipped are abandoned; every latch skipped alone fires late, and counts. -/
def skipLatches (e : Env) (w0 w1 : Int) : Nat → Body → Body
  | 0, b => b
  | k + 1, b =>
    match b.nextLatch with
    | none => b
    | some (n, m) =>
      if !(earlier w1 (m.instC n)) then
        skipLatches e w0 w1 k (((b.lateInstant e).passOver n).confStart e m b.cfgNow n (m.instE n) [] true)
      else (upFrom 0 (b.lateLatches w0 w1 8)).foldl (fun x _ => x.lateInstant e) b

/-- Issued sub-frames whose instants a forward step skipped: a late retire, or abandoned where E(N) is skipped too; of one that has retired,
what has not left its rods is never sent. -/
def skipRetires (e : Env) (w0 w1 : Int) (b : Body) : Body :=
  (b.beads.subs.filter (fun s => if s.retired then earlier w0 s.e && !(earlier w1 s.e) else earlier w0 s.c && !(earlier w1 s.c))).foldl (fun x s =>
    let y := x.lateInstant e
    if s.retired then y.dropFrames e s.n
    else if earlier w1 s.e then y
    else (y.giveUp e s).confStart e s.mode s.cfg s.n s.e [] true) b

/-- The effects of a step from w0 to w1 on what runs by the wall clock. -/
def Body.stepped (b : Body) (e : Env) (w0 w1 : Int) : Body :=
  let b1 := if b.live then
      let x := b.raise e 67 0
      if w0 < w1 then skipLatches e w0 w1 (((w1 - w0) / 2000000).toNat + 4) (skipRetires e w0 w1 x) else x
    else b
  (upFrom 0 16).foldl (ttStepped e w0 w1) b1

/-! ## Meanings -/

/-- SUBFRAME_RETIRE (R95). -/
def execSubframeRetire (miswoven : List Nat) (s : State) : Host.Outcome State Fault Refusal := s.act (retireDue s.env miswoven)

/-- SUBFRAME_LATCH (R143). -/
def execSubframeLatch (s : State) : Host.Outcome State Fault Refusal := s.act (subframeLatch s.env)

/-- MODE_SWITCH_START (R199 to R203). -/
def execModeSwitchStart (r : Req) (s : State) : Host.Outcome State Fault Refusal :=
  s.act (serveWrite s.env r 0x0412 1 (.n 1) (fun slot b =>
    if b.follows then (b, wrote stTwin) else modeSwitch s.env s.env.wt (b.regN 0x0981 0) slot b))

/-- DARK_PATH_RESUME (R203, R209). -/
def execDarkPathResume (s : State) : Host.Outcome State Fault Refusal := s.act (darkPathResume s.env)

/-- LIVE_EXIT_DARK (R512). -/
def execLiveExitDark (s : State) : Host.Outcome State Fault Refusal := s.act (liveExitDark s.env)

/-- A Mode-class entry written outside LIVE (R198). -/
def modeEntry (idx sub : Nat) (v : Int) (b : Body) : Body × Rsp := (b.setReg idx sub v, wrote stOK)

/-- MODE_ENTRY_WRITE (R198). -/
def execModeEntryWrite (r : Req) (idx sub : Nat) (v : Int) (s : State) : Host.Outcome State Fault Refusal :=
  s.act (serveWrite s.env r idx sub (.n v) (fun _ => modeEntry idx sub v))

end Sys2Proof.Machine
end

