-- ==== Sys2Proof/Machine/Layers.lean ====
section
/-! DEFINITION. Commands of layers and the shadow: shadow writes, commits, the guard signature, stills, deferred releases, freezes,
lamp overrides and the probe (R114, R115, R132, R134, R139 to R142, R144, R161, R175, R177, R196). -/

namespace Sys2Proof.Machine

/-! ## The shadow set (R140) -/

/-- Sub-entries of a session's shadow. -/
def Session.set (x : Session) : Cfg := ⟨x.shadow, x.shadowB⟩

/-- A buffer of a still that nothing names any more goes: not a still in force, armed, waiting or in any shadow, not needed,
and not deferred. -/
def Body.sweepStills (b : Body) : Body :=
  let ids (m : Map Int) : List Nat := (m.filter (fun p => p.1 / 256 == 0x0C50)).map (fun p => p.2.toNat)
  let used := ids b.num ++ ids b.lay.armed.num ++ (b.lay.waits.map (fun w => ids w.set.num)).flatten ++
    (b.dict.sess.map (fun p => ids p.2.shadow)).flatten ++ ids b.pair.shadow
  { b with lay := { b.lay with bufs := b.lay.bufs.filter (fun p =>
      p.2.kind != 3 || p.2.dying || used.contains p.1 || b.needs p.1) } }

/-- A write to an RWS entry enters the session's shadow set (R140). -/
def shadowWrite (slot idx sub : Nat) (v : WireVal) (b : Body) : Body × Rsp :=
  match b.sess? slot with
  | none => (b, wrote stState)
  | some x =>
    let k := key idx sub
    let new := (mfind k x.shadow).isNone && (mfind k x.shadowB).isNone
    if new && decide (4096 ≤ x.set.size) then (b, wrote stShadowFull)
    else
      match v with
      | .b s => (b.setSess slot { x with shadowB := minsert k s x.shadowB }, wrote stOK)
      | _ => (b.setSess slot { x with shadow := minsert k v.num x.shadow }, wrote stOK)

/-- Discard a session's shadow set. -/
def cfgDiscard (slot : Nat) (b : Body) : Body × Rsp :=
  ((b.modSess slot (fun x => { x with shadow := [], shadowB := [] })).sweepStills, wrote stOK)

/-! ## Stills (R114, R115, R132, R139) -/

/-- Still n is the guard's in a configuration with the guard enabled (R132). -/
def Body.guardStill (b : Body) (n : Nat) : Bool :=
  let is (c : Cfg) : Bool := c.regN 0x0C40 0 == 1 && c.regN 0x0C41 0 == n
  is b.cfgNow || is b.cfgNext || b.lay.waits.any (fun w => is (b.cfgNext.apply w.set)) ||
  b.dict.sess.any (fun p => is (b.cfgNext.apply p.2.set))

/-- A still is loaded into a new buffer that the session's shadow names (R115, R132, R377). -/
def stillLoad (slot n : Nat) (data : Bytes) (b : Body) : Body × Rsp :=
  if b.devState = devFrozen then (b, wrote stFrozen)
  else if b.guardStill n ∧ b.roleOf slot ≠ 3 then (b, wrote stRole)
  else
    match stillOf n data with
    | none => (b, wrote stFormat)
    | some f =>
      let id := b.lay.bufCtr + 1
      let a := shadowWrite slot 0x0C50 (n + 1) (.n id) b
      if a.2 = wrote stOK then
        ({ a.1 with lay := { a.1.lay with bufCtr := id, bufs := minsert id f a.1.lay.bufs } }.sweepStills, a.2)
      else a

/-- A write of 1 to `still.free` (R132, R139). A still leased or held stays as it is until its release. -/
def stillFree (e : Env) (slot n : Nat) (b : Body) : Body × Rsp :=
  let id := b.regN 0x0C50 (n + 1)
  if b.guardStill n ∧ b.roleOf slot ≠ 3 then (b, wrote stRole)
  else if id = 0 then (b, wrote stState)
  else if b.leased id || b.heldBuf id then (b.release e id, wrote stOK)
  else (((b.setReg 0x0C50 (n + 1) 0).setReg 0x0C52 (n + 1) 0).release e id, wrote stOK)

/-- Still n holds no buffer any more, where it held this one. -/
def Body.emptyStill (b : Body) (n id : Nat) : Body :=
  if b.regN 0x0C50 (n + 1) = id then (b.setReg 0x0C50 (n + 1) 0).setReg 0x0C52 (n + 1) 0 else b

/-- A buffer whose free was deferred returns once its lease and every hold have ended (R139). -/
def deferredRelease (id : Nat) (b : Body) : Body :=
  match mfind id b.lay.bufs with
  | none => b
  | some f =>
    if f.dying && !(b.needs id) && !(b.heldBuf id) then
      let b1 := { b with lay := { b.lay with bufs := merase id b.lay.bufs } }
      if f.kind = 3 then b1.emptyStill f.num id else b1
    else b

/-! ## Commits (R141, R142, R175) -/

/-- Give a refused set back to its session, under what it has written since (R141). -/
def Body.giveBack (b : Body) (slot : Nat) (set : Cfg) : Body :=
  b.modSess slot (fun x => { x with shadow := overlay set.num x.shadow, shadowB := overlay set.blob x.shadowB })

/-- The operation a commit was made for ends: PARTIAL with the reason when it was refused (R173). -/
def Body.endSwapOp (b : Body) (e : Env) (op : Option Nat) (bad : Nat) : Body :=
  match op with
  | none => b
  | some idx => if b.opBusy idx then (b.cancelGen idx).opEnd e idx true (if bad = 0 then stOK else stPartial) bad else b

/-- Validate and execute one commit; none where it waits for the guard signature (R134, R141). `ready` says that its signature
has been computed. -/
def runCommit (e : Env) (w : GuardWait) (ready : Bool) (b : Body) : Body × Option Rsp :=
  let bad := b.commitBad w.set
  if bad ≠ stOK then (((b.bump 0x0C2C 0 1).giveBack w.slot w.set).endSwapOp e w.forOp bad, some (wrote bad))
  else if !ready && b.guardCommit w.set then ({ b with lay := { b.lay with waits := { w with guard := true } :: b.lay.waits } }, none)
  else
    let a := b.doCommit e w.set
    (a.1.endSwapOp e w.forOp 0, some (.write stOK 1 a.2))

/-- A commit made now: behind those that wait, or at once (R142). -/
def submit (e : Env) (w : GuardWait) (b : Body) : Body × Option Rsp :=
  let b0 := fireDue e 4 b
  if b0.lay.waits.isEmpty then runCommit e w false b0
  else ({ b0 with lay := { b0.lay with waits := b0.lay.waits ++ [w] } }, none)

/-- A write of 1 to `cfg.commit` in a session (R141). -/
def cfgCommit (e : Env) (slot seq : Nat) (b : Body) : Body × Option Rsp :=
  match b.sess? slot with
  | none => (b, none)
  | some x => submit e ⟨slot, seq, x.set, false, none⟩ (b.modSess slot (fun y => { y with shadow := [], shadowB := [] }))

/-- The commits that wait, from the front, until one needs a signature not computed. -/
def drainWaits (e : Env) : Nat → Body → Body
  | 0, b => b
  | k + 1, b =>
    match b.lay.waits with
    | [] => b
    | w :: rest =>
      let a := runCommit e w w.guard { b with lay := { b.lay with waits := rest } }
      match a.2 with
      | none => a.1
      | some rsp => drainWaits e k (a.1.answerLate e w.slot w.seq rsp)

/-- The supervisor has the expected signature: the guard commit executes, and those behind it (R134, R175). -/
def guardComputed (e : Env) (b : Body) : Body :=
  match b.lay.waits with
  | [] => b
  | _ :: rest => drainWaits e (rest.length + 1) (fireDue e 4 b)

/-- A commit the dictionary pair makes on its own behalf, after what is due on its tick (R52, R195, R196). -/
def Body.ownCommit (b : Body) (e : Env) (set : Cfg) : Body := ((fireDue e 4 b).doCommit e set).1

/-! ## Freezes (R194 to R196) -/

/-- What froze layer l. -/
def Body.frozenBy (b : Body) (l : Nat) : Option Frozen := mfind l b.lay.frozen

/-- What undoes the action applied to layer l: the pseudo-entry, and at the active unit the change to the backup that a Backup action
made (R196). -/
def Body.undoFreeze (b : Body) (e : Env) (l : Nat) : Body :=
  let c := b.cfgNext
  let eff := c.regN freezeIdx (l + 1)
  let back := (match b.frozenBy l with
    | some x => x.backup
    | none => false) && c.lay 0x0C15 l == 1
  let set : Map Int := (if eff = 0 then [] else [(key freezeIdx (l + 1), 0)])
  let set' : Map Int := if back && b.isActive then minsert (key 0x0C15 (l + 1)) 0 set else set
  if set'.isEmpty then b else b.ownCommit e ⟨set', []⟩

/-- The freeze of layer l clears (R196); its count of equal frames begins again. -/
def Body.clearFreeze (b : Body) (e : Env) (l : Nat) : Body :=
  let b1 := if b.regN 0x1123 (l + 1) = 0 then b else ((b.undoFreeze e l).setReg 0x1123 (l + 1) 0).raise e 358 0
  { b1 with lay := { b1.lay with freezeRun := merase l b1.lay.freezeRun, frozen := merase l b1.lay.frozen } }

/-- A write of 1 to `freeze.clear`. -/
def freezeClear (e : Env) (l : Nat) (b : Body) : Body × Rsp := (b.clearFreeze e l, wrote stOK)

/-- A frozen layer is detected, on the source that froze: event 357, and the action by a commit (R194, R195). -/
def Body.freezeLayer (b : Body) (e : Env) (l : Nat) (src : FrameBuf) : Body :=
  let b1 := ((b.setReg 0x1123 (l + 1) 1).bump 0x1125 (l + 1) 1).raise e 357 0
  let c := b1.cfgNext
  let act := c.lay 0x1121 l
  let toBackup := decide (act = 3) && decide (c.lay 0x0C15 l = 0) && decide (c.lay 0x0C03 l ≠ 0)
  let b2 := { b1 with lay := { b1.lay with frozen := minsert l ⟨src.kind, src.num, src.sig, toBackup⟩ b1.lay.frozen } }
  if act = 0 then b2
  else
    (if act = 1 then b2.ownCommit e ⟨[(key freezeIdx (l + 1), 1)], []⟩
     else if toBackup then (if b2.isActive then b2.ownCommit e ⟨[(key 0x0C15 (l + 1), 1)], []⟩ else b2)
     else b2.ownCommit e ⟨[(key freezeIdx (l + 1), 2)], []⟩).setReg 0x1123 (l + 1) 2

/-! ## Overrides and the probe (R161, R162, R177) -/

/-- A write to `corr.lamp_state` (R161, R162). -/
def lampState (e : Env) (v : Nat) (b0 : Body) : Body × Rsp :=
  let b := fireDue e 4 b0
  let lamp := field v 63 32
  let ok := match b.map? with
    | some m => (m.lampAt lamp).isSome
    | none => false
  if !ok || !(flagsOk (v % 256)) || field v 31 8 != 0 then (b, wrote stRange)
  else
    let a := b.overrideTold e lamp (v % 256)
    match a.2 with
    | none => (a.1, wrote stBusy)
    | some S => (a.1, .write stOK 1 S)

/-- Lamp index to rank in a generation's image: entries are ordered by rod, then by rod-local index (R168). -/
def RodMap.lampRank (m : RodMap) (i : Nat) : Option Nat :=
  (m.lampAt i).map (fun p => ((m.rods.filter (fun r => decide (r.1 < p.1))).map (fun r => (r.2.map TileRec.lamps).foldl (· + ·) 0)).foldl
    (· + ·) 0 + i % 262144)

/-- What `corr.probe` reads: the probed lamp's entry with its flags in effect for the newest sub-frame latched; the status where it
is refused (R177, R377). -/
def Body.probe (b : Body) : Nat ⊕ Bytes :=
  if b.devState = devFrozen then .inl stFrozen
  else if b.inForce 0 = 0xFF then .inl stState
  else
    match b.map?.bind (fun m => m.lampAt (b.regN 0x101A 0)) with
    | none => .inl stRange
    | some _ =>
      let i := b.regN 0x101A 0
      let g := b.inForce 0
      let bs := b.bytes (b.entryAddr g i) 32
      .inr (bs.take 27 ++ [BitVec.ofNat 8 (b.flagsAt g i (b.regN 0x0981 0))] ++ bs.drop 28)

/-- Body of a READ (R410). -/
def readBody (idx sub count : Nat) : Bytes := be 2 idx ++ be 1 sub ++ be 1 count

/-- Read of `corr.probe`. -/
def probeRead (b : Body) : Rsp :=
  match b.probe with
  | .inl st => .read st []
  | .inr bs => .read stOK [(.blob, false, .b bs)]

/-! ## Meanings -/

/-- CFG_COMMIT (R141). -/
def execCfgCommit (r : Req) (s : State) : Host.Outcome State Fault Refusal :=
  s.act (serve s.env r 0x12 (writeBody 0x0C28 0 .u8 (.n 1))
    (fun slot b => match b.checkWrite (b.roleOf slot) 0x0C28 0 .u8 (.n 1) with
      | 0 => cfgCommit s.env slot r.seq b
      | st => (b, some (wrote st)))
    (fun _ b => b))

/-- CFG_DISCARD (R140). -/
def execCfgDiscard (r : Req) (s : State) : Host.Outcome State Fault Refusal :=
  s.act (serveWrite s.env r 0x0C29 0 (.n 1) cfgDiscard)

/-- GUARD_SIGNATURE_COMPUTED (R134, R175). -/
def execGuardSignatureComputed (s : State) : Host.Outcome State Fault Refusal := s.act (guardComputed s.env)

/-- STILL_LOAD (R115). -/
def execStillLoad (r : Req) (n : Nat) (data : Bytes) (s : State) : Host.Outcome State Fault Refusal :=
  s.act (serveWrite s.env r 0x0C50 (n + 1) (.b data) (fun slot => stillLoad slot n data))

/-- STILL_FREE (R139). -/
def execStillFree (r : Req) (n : Nat) (s : State) : Host.Outcome State Fault Refusal :=
  s.act (serveWrite s.env r 0x0C51 (n + 1) (.n 1) (fun slot => stillFree s.env slot n))

/-- BUFFER_DEFERRED_RELEASE (R139). -/
def execBufferDeferredRelease (id : Nat) (s : State) : Host.Outcome State Fault Refusal := s.act (deferredRelease id)

/-- FREEZE_CLEAR (R196). -/
def execFreezeClear (r : Req) (l : Nat) (s : State) : Host.Outcome State Fault Refusal :=
  s.act (serveWrite s.env r 0x1124 (l + 1) (.n 1) (fun _ => freezeClear s.env l))

/-- LAMP_STATE_WRITE (R161). -/
def execLampStateWrite (r : Req) (v : Nat) (s : State) : Host.Outcome State Fault Refusal :=
  s.act (serveWrite s.env r 0x1018 0 (.n v) (fun _ => lampState s.env v))

/-- CORR_PROBE_READ (R177). -/
def execCorrProbeRead (r : Req) (s : State) : Host.Outcome State Fault Refusal :=
  s.act (serve s.env r 0x10 (readBody 0x101B 0 1) (fun _ b => (b, some (probeRead b))) (fun _ b => b))

end Sys2Proof.Machine
end

