-- ==== Sys2Proof/Machine/Loads.lean ====
section
/-! DEFINITION. Loads of correction tables and rod maps: the checks of the images, the fold, the generations (R163 to R173, R424,
R426 to R428). -/

namespace Sys2Proof.Machine

/-! ## Rod maps (R163 to R167) -/

/-- A tile record as its bytes give it; the scan pattern number in `scan`, the lamp count field in `first`. -/
def rawTile (bs : Bytes) : TileRec :=
  { x := leAt bs 0 2, y := leAt bs 2 2, w := leAt bs 4 2, h := leAt bs 6 2, rot := leAt bs 8 1, depth := leAt bs 9 1,
    pan := leAt bs 11 1, sw := leAt bs 12 1, sh := leAt bs 13 1, zc := leAt bs 14 1, zr := leAt bs 15 1,
    scan := leAt bs 10 1, list := [], first := leAt bs 16 4 }

/-- A scan pattern record: kind, width, height, list. -/
structure ScanRec where
  kind : Nat
  w : Nat
  h : Nat
  off : Nat
  list : List Nat
deriving DecidableEq, Repr

/-- The scan pattern at an offset. -/
def rawScan (bs : Bytes) (off : Nat) : ScanRec :=
  let r := slice bs off 16
  let n := leAt r 2 2 * leAt r 4 2
  ⟨leAt r 0 1, leAt r 2 2, leAt r 4 2, leAt r 8 4,
   if leAt r 0 1 = 4 then (upFrom 0 n).map (fun i => leAt bs (leAt r 8 4 + 2 * i) 2) else []⟩

/-- A tile with its scan pattern and its first rod-local index; its lamps. -/
def placeTile (scans : List ScanRec) (first : Nat) (t : TileRec) : TileRec :=
  match scans[t.scan]? with
  | some s => { t with scan := s.kind, list := s.list, first := first }
  | none => { t with first := first }

/-- The tiles of a rod with their rod-local indices. -/
def placeTiles (scans : List ScanRec) : Nat → List TileRec → List TileRec
  | _, [] => []
  | first, t :: ts => placeTile scans first t :: placeTiles scans (first + t.lamps) ts

/-- Rod strictly rising. -/
def rising : List Nat → Bool
  | a :: b :: l => decide (a < b) && rising (b :: l)
  | _ => true

/-- A zone splits a string, or the topology of R166 is broken. -/
def TileRec.topologyBad (t : TileRec) : Bool :=
  t.sw == 0 || t.sh == 0 || t.zc == 0 || t.zr == 0 || t.w % t.sw != 0 || t.h % t.sh != 0 || t.w % t.zc != 0 || t.h % t.zr != 0 ||
  decide (16 < t.zc * t.zr) || t.w / t.zc % t.sw != 0 || t.h / t.zr % t.sh != 0

/-- Two footprints of a list share a position. -/
def overlaps : List Rect → Bool
  | [] => false
  | r :: rs => rs.any r.meets || overlaps rs

/-- An explicit list is no permutation of the tile's positions. -/
def ScanRec.listBad (s : ScanRec) : Bool :=
  s.kind == 4 && !((upFrom 0 (s.w * s.h)).all (fun i => s.list.contains i))

/-- The rod map that an image holds, or the result of the first condition it breaks (R167). -/
def parseMap (bs : Bytes) : Nat ⊕ RodMap :=
  let hd := bs.take 64
  let nr := leAt hd 16 2
  let ns := leAt hd 18 2
  let ro := leAt hd 24 4
  let so := leAt hd 28 4
  if bs.length < 64 ∨ hd.take 4 ≠ [0x43, 0x57, 0x52, 0x4D] ∨ leAt hd 4 2 ≠ 1 then .inl stFormat
  else if crc32c (hd.take 60) ≠ leAt hd 60 4 then .inl stCrc
  else if leAt hd 6 2 ≠ 64 ∨ leAt hd 8 4 = 0 ∨ leAt hd 12 2 = 0 ∨ leAt hd 14 2 = 0 ∨ nr = 0 ∨ 192 < nr ∨ ns = 0 ∨ 64 < ns ∨
      leAt hd 32 4 ≠ bs.length ∨ leAt hd 52 4 ≠ 0 ∨ ro < 64 ∨ bs.length < ro + 8 * nr ∨ so < 64 ∨ bs.length < so + 16 * ns then
    .inl stFormat
  else if crc32c (bs.drop 64) ≠ leAt hd 56 4 then .inl stCrc
  else
    let rr := (upFrom 0 nr).map (fun i => slice bs (ro + 8 * i) 8)
    let scans := (upFrom 0 ns).map (fun i => rawScan bs (so + 16 * i))
    let rodsRaw := rr.map (fun r => (leAt r 0 1, (upFrom 0 (leAt r 1 1)).map (fun k => slice bs (leAt r 4 4 + 32 * k) 32)))
    let badRod := rr.any (fun r => decide (191 < leAt r 0 1) || leAt r 1 1 == 0 || decide (63 < leAt r 1 1) || leAt r 2 2 != 0 ||
      decide (bs.length < leAt r 4 4 + 32 * leAt r 1 1) || decide (leAt r 4 4 < 64)) || !(rising (rodsRaw.map (fun p => p.1)))
    let badTile := rodsRaw.any (fun p => p.2.any (fun t => decide (3 < leAt t 8 1) || ofLE (slice t 20 12) != 0))
    let badScan := ((upFrom 0 ns).any (fun i =>
      let r := slice bs (so + 16 * i) 16
      leAt r 1 1 != 0 || leAt r 6 2 != 0 || leAt r 12 4 != 0 || decide (4 < leAt r 0 1) ||
      (if leAt r 0 1 = 4 then decide (bs.length < leAt r 8 4 + 2 * (leAt r 2 2 * leAt r 4 2)) || decide (leAt r 8 4 < 64)
       else leAt r 8 4 != 0)))
    let raw := rodsRaw.map (fun p => (p.1, p.2.map rawTile))
    let ts := (raw.map (fun p => p.2)).flatten
    let cw := leAt hd 12 2
    let ch := leAt hd 14 2
    let rods := raw.map (fun p => (p.1, placeTiles scans 0 p.2))
    let lampsOf (l : List TileRec) : Nat := (l.map TileRec.lamps).foldl (· + ·) 0
    if badRod || badTile || badScan then .inl stFormat
    else if ts.any (fun t => decide (cw < t.footprint.x + t.footprint.w) || decide (ch < t.footprint.y + t.footprint.h)) then .inl stBounds
    else if overlaps (ts.map TileRec.footprint) then .inl stOverlap
    else if raw.any (fun p => decide (262144 < lampsOf p.2)) ||
        ts.any (fun t => t.w == 0 || t.h == 0 || t.first != t.lamps || decide (65536 < t.lamps)) ||
        lampsOf ts != leAt hd 20 4 then .inl stLamps
    else if raw.any (fun p => decide (320 < (p.2.map (fun t => divUp t.lamps 1024)).foldl (· + ·) 0)) then .inl stBeads
    else if ts.any (fun t => decide (t.depth < 12) || decide (16 < t.depth)) then .inl stDepth
    else if ts.any TileRec.topologyBad then .inl stTopology
    else if scans.any ScanRec.listBad || ts.any (fun t => match scans[t.scan]? with
        | none => true
        | some s => s.w != t.w || s.h != t.h) then .inl stScan
    else .inr ⟨leAt hd 8 4, cw, ch, leAt hd 20 4, rods⟩

/-- Lamp indices a map describes, in the order of an image's entries (R158, R168). -/
def RodMap.lampIds (m : RodMap) : List Nat :=
  (m.rods.map (fun r => (upFrom 0 ((r.2.map TileRec.lamps).foldl (· + ·) 0)).map (fun j => 262144 * r.1 + j))).flatten

/-! ## Table images (R155, R168, R169) -/

/-- Bins of the retention tables loaded (R317). -/
def Body.bins (b : Body) : List Nat :=
  let bs := b.str 0x1508 0
  (upFrom 0 (leAt bs 6 2)).map (fun i => leAt bs (16 + 392 * i) 2)

/-- The rod map a tag names: the map in force, or a valid map of the non-active generation (R169). -/
def Body.mapOfTag (b : Body) (tag : Nat) : Option RodMap :=
  match b.map? with
  | some m => if m.tag = tag then some m else idle
  | none => idle
where
  /-- The map of the non-active generation, when it is valid and has the tag. -/
  idle : Option RodMap :=
    match b.idleMap with
    | some m => if (b.gen 1 (b.nonActive 1) = 2 ∨ b.gen 1 (b.nonActive 1) = 3) ∧ m.tag = tag then some m else none
    | none => none

/-- The first fault of one chunk of entries: a result and a detail. -/
def chunkFault (bins : List Nat) (bs : Bytes) (eo total j : Nat) : Option (Nat × Nat) :=
  let n := Nat.min 65536 (total - 65536 * j)
  let ch := slice bs (eo + 65536 * j) n
  if ch.length < n then some (stSource, j)
  else if crc32c ch ≠ leAt bs (64 + 4 * j) 4 then some (stChunk, j)
  else
    ((chunks 32 (n / 32) ch).filterMap (fun en =>
      if leAt en 30 2 ≠ 0 ∨ !(flagsOk (leAt en 27 1)) then some (stEntry, j)
      else if !(bins.contains (leAt en 28 2)) then some (stBin, j) else none)).head?

/-- The first fault of a table image, read in order (R169); none when it passes. SOURCE says that the data end early. -/
def Body.imageFault (b : Body) (bs : Bytes) : Option (Nat × Nat) :=
  let hd := bs.take 64
  let lamps := leAt hd 8 4
  let nc := leAt hd 24 4
  let eo := leAt hd 28 4
  if hd.take 6 ≠ ([0x43, 0x57, 0x54, 0x49, 1, 0] : Bytes).take hd.length then some (stFormat, 0)
  else if bs.length < 64 then some (stSource, 0)
  else if hd.take 4 ≠ [0x43, 0x57, 0x54, 0x49] ∨ leAt hd 4 2 ≠ 1 then some (stFormat, 0)
  else if crc32c (hd.take 60) ≠ leAt hd 60 4 then some (stCrc, 0)
  else if leAt hd 6 2 ≠ 64 ∨ lamps = 0 ∨ 50331648 < lamps ∨ leAt hd 12 4 = 0 ∨ 0x8000 < leAt hd 20 2 ∨ leAt hd 22 2 ≠ 0 ∨
      nc ≠ divUp (lamps * 32) 65536 ∨ eo ≠ divUp (64 + 4 * nc) 64 * 64 ∨ leAt hd 56 4 ≠ 0 then some (stFormat, 0)
  else
    match b.mapOfTag (leAt hd 16 4) with
    | none => some (stMapTag, 0)
    | some m =>
      if lamps ≠ m.total then some (stCount, 0)
      else if bs.length < eo then
        (if ofLE (slice bs (64 + 4 * nc) (eo - (64 + 4 * nc))) ≠ 0 then some (stFormat, 0) else some (stSource, 0))
      else if ofLE (slice bs (64 + 4 * nc) (eo - (64 + 4 * nc))) ≠ 0 then some (stFormat, 0)
      else ((upFrom 0 nc).filterMap (chunkFault b.bins bs eo (lamps * 32))).head?

/-- The overrides in force at a fold: of each lamp the latest whose until has not been set (R172). -/
def Body.toFold (b : Body) : List Override := b.cor.overrides.filter (fun o => o.til.isNone)

/-- Write an image's entries into correction generation g, with the flags of the overrides folded (R172). -/
def Body.writeEntries (b : Body) (g : Nat) (m : RodMap) (ents : List Bytes) (fold : List Override) : Body :=
  (m.lampIds.zip ents).foldl (fun x p =>
    let o := fold.find? (fun f => f.lamp == p.1)
    let fl := withOverride (leAt p.2 27 1) o % 256
    x.store (x.entryAddr g p.1) (p.2.take 27 ++ [BitVec.ofNat 8 fl] ++ slice p.2 28 4)) b

/-- The entries of an image. -/
def imageEntries (bs : Bytes) : List Bytes := chunks 32 (leAt bs 8 4) (bs.drop (leAt bs 28 4))

/-! ## The operations (R169 to R173, R424) -/

/-- The non-active generation may be written (R171). -/
def Body.genFree (b : Body) (kind : Nat) : Bool :=
  let st := b.gen kind (b.nonActive kind)
  st == 0 || st == 2 || st == 6

/-- Begin to write the non-active generation: its content is void (R170). -/
def Body.beginGen (b : Body) (kind : Nat) : Body :=
  let g := b.nonActive kind
  let b1 := b.setGen kind g 1
  if kind = 0 then { b1 with cor := { b1.cor with folded := [], genMaps := merase g b1.cor.genMaps } }
  else { b1 with cor := { b1.cor with maps := merase g b1.cor.maps } }

/-- Start of `op.corr_load` or `op.map_load` (R171, R377, R427). -/
def loadStart (e : Env) (kind slot : Nat) (b : Body) : Body × Rsp :=
  let op := loadOp kind
  if b.opBusy op then (b, wrote stBusy)
  else if b.devState = devFrozen then (b.opRefuse e op stFrozen 0, wrote stFrozen)
  else if !(b.genFree kind) then (b.opRefuse e op stBusy 0, wrote stBusy)
  else (((b.opBegin e op slot []).beginGen kind).setLoad kind ⟨[], false⟩, wrote stOK)

/-- A stream to a load ended without BLOB_CLOSE (R424). -/
def Body.cutStream (b : Body) (e : Env) (kind : Nat) : Body :=
  if (b.opState (loadOp kind) = 1 ∨ b.opState (loadOp kind) = 2) ∧ b.opArg (loadOp kind) 0x10 = 0 ∧ !(b.load kind).closed then
    b.loadFail e kind stSource 0
  else b

/-- What a load reads: the stream so far and whether it is whole, or the application-core region (R177). -/
def Body.loadData (b : Body) (kind : Nat) : Bytes × Bool :=
  let op := loadOp kind
  if b.opArg op 0x10 = 0 then ((b.load kind).data, (b.load kind).closed)
  else
    let a := (b.opArg op 0x11).toNat
    let n := (b.opArg op 0x12).toNat
    let lo := b.base 8
    let hi := lo + b.forceN 0x1803 0 * 2 ^ 20
    if lo ≤ a ∧ a + n ≤ hi then (b.bytes a n, true) else ([], true)

/-- Complete a load: arm its swap by a commit of the dictionary pair, or end at once (R173). -/
def Body.loadDone (b : Body) (e : Env) (op arm swap : Nat) : Body :=
  if bit arm 0 then (submit e ⟨0xFF, 0, ⟨[(key 0x1005 0, swap)], []⟩, false, some op⟩ b).1
  else b.opEnd e op true 0 0

/-- A table load ends (R169, R170, R172, R173). While its stream lasts and shows no fault, it goes on. The end of its
step ends a cancel (R427). -/
def corrLoadComplete (e : Env) (b : Body) : Body :=
  if b.opState 0x0410 = 3 then b.genCancelled e 0x0410
  else if b.opState 0x0410 ≠ 1 ∨ b.gen 0 (b.nonActive 0) ≠ 1 then b
  else
    let d := b.loadData 0
    match b.imageFault d.1 with
    | some (c, n) => if c = stSource ∧ !d.2 then b else b.loadFail e 0 c n
    | none =>
      if !d.2 then b
      else
        let g := b.nonActive 0
        let opt := (b.opArg 0x0410 0x13).toNat
        let tag := leAt d.1 16 4
        match b.mapOfTag tag with
        | none => b.loadFail e 0 stMapTag 0
        | some m =>
          let fold := if bit opt 1 then [] else b.toFold.filter (fun o => (m.lampAt o.lamp).isSome)
          let b1 := (b.writeEntries g m (imageEntries d.1) fold).setLoad 0 ⟨[], false⟩
          let b2 := { b1 with cor := { b1.cor with folded := b.toFold, genMaps := minsert g m b1.cor.genMaps } }
          let b3 := (((b2.setGen 0 g 2).setReg 0x1001 (g + 1) (leAt d.1 12 4 : Nat)).setReg 0x1002 (g + 1) (tag : Nat)).setReg 0x1003
            (g + 1) (leAt d.1 20 2 : Nat)
          b3.loadDone e 0x0410 opt 1

/-- A rod-map load ends (R167, R170, R173), or the step of one that is being cancelled (R427). -/
def mapLoadComplete (e : Env) (b : Body) : Body :=
  if b.opState 0x0411 = 3 then b.genCancelled e 0x0411
  else if b.opState 0x0411 ≠ 1 ∨ b.gen 1 (b.nonActive 1) ≠ 1 then b
  else
    let d := b.loadData 1
    if !d.2 then b
    else if d.1.isEmpty then b.loadFail e 1 stSource 0
    else
      match parseMap d.1 with
      | .inl c => b.loadFail e 1 c 0
      | .inr m =>
        let g := b.nonActive 1
        let b1 := b.setLoad 1 ⟨[], false⟩
        let b2 := { b1 with cor := { b1.cor with maps := minsert g m b1.cor.maps } }
        ((b2.setGen 1 g 2).setReg 0x1013 (g + 1) (m.tag : Nat)).loadDone e 0x0411 (b2.opArg 0x0411 0x13).toNat 2

/-! ## Meanings -/

/-- CORR_LOAD_START (R171). -/
def execCorrLoadStart (r : Req) (s : State) : Host.Outcome State Fault Refusal :=
  s.act (serveWrite s.env r 0x0410 1 (.n 1) (fun slot => loadStart s.env 0 slot))

/-- CORR_LOAD_COMPLETE (R169). -/
def execCorrLoadComplete (s : State) : Host.Outcome State Fault Refusal := s.act (corrLoadComplete s.env)

/-- MAP_LOAD_START (R171). -/
def execMapLoadStart (r : Req) (s : State) : Host.Outcome State Fault Refusal :=
  s.act (serveWrite s.env r 0x0411 1 (.n 1) (fun slot => loadStart s.env 1 slot))

/-- MAP_LOAD_COMPLETE (R167). -/
def execMapLoadComplete (s : State) : Host.Outcome State Fault Refusal := s.act (mapLoadComplete s.env)

end Sys2Proof.Machine
end

