-- ==== Sys2Proof/Machine/Tiles.lean ====
section
/-! DEFINITION. What the unit does with the tiles of its chains: commands and CONFIG, delay measurement, pans and wake slots, lamp
faults (R237 to R239, R245 to R249, R302 to R310). -/

namespace Sys2Proof.Machine

/-! ## Tiles of a rod -/

/-- The rod map an enumeration checks against: the idle map while its swap is PENDING, else the map in force (R244). -/
def Body.chainMap (b : Body) : Option RodMap := if b.gen 1 (b.nonActive 1) = 3 then b.idleMap else b.map?

/-- Tile records of a rod for enumeration and CONFIG. -/
def Body.chain (b : Body) (n : Nat) : List TileRec := (b.chainMap.map (fun m => m.tilesOf n)).getD []

/-- Tiles enumerated on a rod. -/
def Body.tilesOn (b : Body) (n : Nat) : Nat := b.regN 0x1201 (n + 1)

/-- Positions of the tiles enumerated on a rod. -/
def Body.held (b : Body) (n : Nat) : List Nat := (b.rod n).held

/-- Position of the tile nearest to this unit: tile 0, or the last tile on a rod that feeds port B (R290). -/
def Body.nearest (b : Body) (n : Nat) : Nat := if b.forceN 0x1203 (n + 1) = 1 then (b.chain n).length - 1 else 0

/-! ## Commands and CONFIG (R226, R237 to R239, R245) -/

/-- The lane of a rod carries frames: it is not training, down or asleep. -/
def Body.carries (b : Body) (n : Nat) : Bool :=
  match (b.rod n).phase with
  | .enumerate => true
  | .stepWait _ => true
  | .recoverWait => true
  | .check _ _ => true
  | .fclkWait => true
  | .recoverCheck => true
  | .recoverEnum => true
  | .service => true
  | _ => false

/-- The frame of a command or CONFIG; a CONFIG's argument is its trim. -/
def Body.cmdFrame (b : Body) (rod pos : Nat) (c : Cmd) : DnFrame :=
  match c.why with
  | .config =>
    match (b.chain rod)[pos]? with
    | some t => .config pos c.seq t.depth t.pan t.zc t.zr (beAt c.args 0 4) (b.regN 0x1211 0)
    | none => .config pos c.seq 0 0 0 0 (beAt c.args 0 4) (b.regN 0x1211 0)
  | _ => .command pos c.seq c.code c.args

/-- Issue the next command waiting for a tile, once the one before has been answered or abandoned (R239); on a rod that carries no
frames it counts as sent. -/
def Body.issueCmd (b : Body) (e : Env) (rod pos : Nat) : Body :=
  let t := b.tile rod pos
  match t.cmd, t.cmdq with
  | none, c :: rest =>
    let d : Cmd := { c with seq := (b.rod rod).cmdSeq, tries := 0, tb := e.tb, onAir := !(b.carries rod) }
    let b1 := (b.modRod rod (fun r => { r with cmdSeq := (r.cmdSeq + 1) % 65536 })).modTile rod pos
      (fun x => { x with cmd := some d, cmdq := rest })
    if b.carries rod then b1.send rod (b1.cmdFrame rod pos d) else b1
  | _, _ => b

/-- Queue a command or CONFIG for a tile. -/
def Body.queueCmd (b : Body) (e : Env) (rod pos : Nat) (why : CmdWhy) (code : Nat) (args : Bytes) : Body :=
  (b.modTile rod pos (fun t => { t with cmdq := t.cmdq ++ [⟨why, code, args, 0, 0, e.tb, false⟩] })).issueCmd e rod pos

/-- Queue a CONFIG for a tile, with the trim it is to hold. -/
def Body.queueConfig (b : Body) (e : Env) (rod pos : Nat) : Body := b.queueCmd e rod pos .config 0xFF (be 4 (b.tile rod pos).trim)

/-- A CONFIG waits or is outstanding for a tile. -/
def Tile.configuring (t : Tile) : Bool := (t.cmd.toList ++ t.cmdq).any (fun c => c.why == .config)

/-! ## Delay measurement (R247 to R249) -/

/-- Positions of the tiles enumerated on a rod, the one nearest to this unit first. -/
def Body.outward (b : Body) (n : Nat) : List Nat := if b.forceN 0x1203 (n + 1) = 1 then (b.held n).reverse else b.held n

/-- Start the measurement of the nearest tile of a rod that waits for it, since a trim takes the latencies of the tiles before it (R247);
echoes of a rod go one at a time. -/
def Body.nextEcho (b : Body) (e : Env) (rod : Nat) : Body :=
  let ps := b.outward rod
  if ps.any (fun p => (b.tile rod p).echo.isSome) then b
  else
    match ps.find? (fun p => !(b.tile rod p).measured && !(b.tile rod p).configuring) with
    | none => b
    | some p =>
      let id := (b.rod rod).echoId
      ((b.modRod rod (fun r => { r with echoId := (r.echoId + 1) % 65536 })).modTile rod p
        (fun t => { t with echo := some ⟨id, e.tb, 0, 16, 0⟩, turn := 0 })).send rod (.echoReq p id)

/-- The frame is an ECHO_REQ. -/
def DnFrame.isEcho : DnFrame → Bool
  | .echoReq .. => true
  | _ => false

/-- Every tile of a rod waits for a measurement; after its enumeration or a change of lane rate (`hold`), no SET leaves for it before, and a
measurement that runs begins again (R249). -/
def Body.markMeasure (b : Body) (e : Env) (rod : Nat) (hold : Bool) : Body :=
  (b.held rod).foldl (fun x p => x.modTile rod p (fun t => { t with
      measured := false, hold := t.hold || hold, echo := if hold then none else t.echo }))
    (b.modRod rod (fun r => { r with echoTb := e.tb, txq := if hold then r.txq.filter (fun f => !f.isEcho) else r.txq }))

/-- Step 4 of an enumeration has ended on every tile of the rod. -/
def Body.configured (b : Body) (rod : Nat) : Bool :=
  (b.held rod).all (fun p => (b.tile rod p).measured && (b.tile rod p).echo.isNone && !(b.tile rod p).configuring)

/-- The trim of a tile from 16 echoes whose RTTs add to `sum` and whose turnarounds to the tile's `turn` (R247), at least 0. -/
def Body.trimOf (b : Body) (rod pos sum : Nat) : Nat :=
  let nearer := (b.held rod).filter (fun i =>
    if b.forceN 0x1203 (rod + 1) = 1 then decide (pos < i) else decide (i < pos))
  let s : Int := (nearer.map (fun i => ((b.tile rod i).ldn : Int) - (b.tile rod i).lup)).foldl (· + ·) 0
  (((sum : Int) - (b.tile rod pos).turn + 16 * s + 16) / 32).toNat

/-- A tile is measured: its trim is sent when it differs by 4 units, and told when it differs by 16 (R249). -/
def Body.measured (b : Body) (e : Env) (rod pos sum : Nat) : Body :=
  let d := b.trimOf rod pos sum
  let b1 := b.modTile rod pos (fun t => { t with rtt := (sum + 8) / 16, measured := true, hold := false, echo := none })
  let cfg (x : Body) : Body := (x.modTile rod pos (fun t => { t with trim := d })).queueConfig e rod pos
  match (b1.tile rod pos).trimHeld with
  | none => cfg b1
  | some h =>
    let diff := ((d : Int) - h).natAbs
    let b2 := if 16 ≤ diff then b1.linkCause e rod 11 else b1
    if 4 ≤ diff then cfg b2 else b2

/-! ## Pans and wake slots (R302 to R305) -/

/-- Tell the twin a change of a pan's queue (R305, R452). -/
def Body.tellPan (b : Body) (e : Env) (pan rod pos action : Nat) : Body :=
  if b.forwards then b.pairSend e (.pan pan rod pos action) else b

/-- Pan of a tile. -/
def Body.panOf (b : Body) (rod pos : Nat) : Nat := (((b.chain rod)[pos]?).map (fun t => t.pan)).getD 0

/-- Wake tiles of a pan while it has slots free (R303); only the active unit does (R305). -/
def pumpPan (e : Env) (p : Nat) : Nat → Body → Body
  | 0, b => b
  | k + 1, b =>
    let x := b.pan p
    match x.queue with
    | [] => if x.told then b.setPan p { x with told := false } else b
    | w :: rest =>
      if b.isActive ∧ x.slots.length < b.panReg 0x1410 p then
        let wait := (e.tb - w.tb) * 2 / 1000000
        let b1 := b.setPan p { x with queue := rest, slots := x.slots ++ [⟨w.rod, w.pos, e.tb, false⟩] }
        let b2 := if w.tb < e.tb then
            (b1.setPanReg 0x141C p ((b1.panReg 0x141C p + 1) % 2 ^ 32)).setPanReg 0x141E p (Nat.max (b1.panReg 0x141E p) wait)
          else b1
        pumpPan e p k ((b2.queueCmd e w.rod w.pos .wake 0x01 (be 2 (b.panReg 0x1412 p))).tellPan e p w.rod w.pos 1)
      else if x.told then b
      else (b.setPan p { x with told := true }).raise e 770 0

/-- Wake tiles of a pan. -/
def Body.pump (b : Body) (e : Env) (p : Nat) : Body := pumpPan e p ((b.pan p).queue.length + 1) b

/-- The tile's slot whose WAKE is not answered. -/
def Pan.openSlot (x : Pan) (rod pos : Nat) : Option Slot := x.slots.find? (fun s => s.rod == rod && s.pos == pos && !s.answered)

/-- A wake request for a tile (R302): nothing for one that is awake or already queued. One sent a WAKE that it has not answered is
neither, and is queued again. -/
def Body.wakeReq (b : Body) (e : Env) (rod pos : Nat) : Body :=
  let p := b.panOf rod pos
  let x := b.pan p
  if !b.isActive || (b.tile rod pos).awake || x.queue.any (fun w => w.rod == rod && w.pos == pos) then b
  else ((b.setPan p { x with queue := x.queue ++ [⟨rod, pos, e.tb⟩] }).tellPan e p rod pos 0).pump e p

/-- SLEEP to a tile at once (R304). -/
def Body.sleepReq (b : Body) (e : Env) (rod pos : Nat) : Body :=
  if !b.isActive then b
  else
    let p := b.panOf rod pos
    let x := b.pan p
    let b1 := b.setPan p { x with queue := x.queue.filter (fun w => !(w.rod == rod && w.pos == pos)) }
    let b2 := (b1.modTile rod pos (fun t => { t with awake := false })).queueCmd e rod pos .sleep 0x02 []
    (b2.tellPan e p rod pos 3).pump e p

/-- Tiles of a pan in ascending rod and position (R302). -/
def Body.panTiles (b : Body) (p : Nat) : List (Nat × Nat) :=
  match b.map? with
  | none => []
  | some m => (m.rods.map (fun r => ((upFrom 0 r.2.length).zip r.2).filterMap (fun t =>
      if t.2.pan = p then some (r.1, t.1) else none))).flatten

/-- A tile of the start-up wake has answered and released its slot, or was abandoned (R509). -/
def Body.wakeOver (b : Body) (rod pos : Nat) : Body :=
  { b with dev := { b.dev with waking := b.dev.waking.filter (fun t => !(t.1 == rod && t.2 == pos)) } }

/-- A slot of a tile goes. -/
def Body.dropSlot (b : Body) (e : Env) (rod pos : Nat) (s : Slot) : Body :=
  let p := b.panOf rod pos
  let x := b.pan p
  (((b.setPan p { x with slots := x.slots.erase s }).tellPan e p rod pos 2).wakeOver rod pos).pump e p

/-- A WAKE came to nothing: its slot goes, the tile stays asleep, event 771 (R303). -/
def Body.wakeFailed (b : Body) (e : Env) (rod pos : Nat) : Body :=
  let b1 := b.raise e 771 0
  match (b1.pan (b1.panOf rod pos)).openSlot rod pos with
  | some s => b1.dropSlot e rod pos s
  | none => b1.wakeOver rod pos

/-- A slot is released: answered, and the ramp and settle have passed since the WAKE's egress (R303). -/
def slotRelease (e : Env) (rod pos : Nat) (b : Body) : Body :=
  let p := b.panOf rod pos
  match (b.pan p).slots.find? (fun s => s.rod == rod && s.pos == pos) with
  | none => b
  | some s =>
    if s.answered && e.after s.tb ((b.panReg 0x1412 p + b.panReg 0x1414 p) * 1000000) then b.dropSlot e rod pos s else b

/-! ## Lamp faults (R307 to R310) -/

/-- The flags a fault record acts on: pending ones, or those in force. -/
def Body.faultFlags (b : Body) (lamp : Nat) : Nat :=
  match b.cor.faults.find? (fun f => f.lamp == lamp) with
  | some f => f.flags
  | none => b.flagsNow lamp

/-- New flags of a lamp: old flags, reported emitters, short (R307). -/
def newFlags (old mask : Nat) (short : Bool) (action : Nat) : Nat :=
  let m := Nat.lor (field old 6 4) mask
  let st := if stateOf old = 2 ∨ short then 2 else if action = 1 then 3 else 1
  st + 4 * field old 3 2 + 16 * m

/-- Change a report of a tile being handled. -/
def Body.modFault (b : Body) (rod pos num : Nat) (g : FaultRun → FaultRun) : Body :=
  b.modTile rod pos (fun x => { x with faults := x.faults.map (fun (f : FaultRun) => if f.number = num then g f else f) })

/-- The active unit acts on one record whose flags are not yet in force: an override, or the pending list where every slot is held (R307
to R309), and CHANNEL_OFF for a short. -/
def Body.applyFault (b : Body) (e : Env) (rod pos num : Nat) (x : FaultRec) : Body :=
  let old := b.faultFlags x.lamp
  let new := newFlags old x.mask x.short (b.regN 0x1430 0)
  let fresh := popCount x.mask 3 - popCount (Nat.land x.mask (field old 6 4)) 3
  let r := b.overrideTold e x.lamp new
  let others := r.1.cor.faults.filter (fun (f : PendFault) => f.lamp != x.lamp)
  let b1 := match r.2 with
    | some _ => { r.1 with cor := { r.1.cor with faults := others } }.raise e (faultEvent x.short) 0
    | none =>
      let y := r.1.raise e 774 0
      if others.length < 65536 then { y with cor := { y.cor with faults := others ++ [(⟨x.lamp, new, x.short⟩ : PendFault)] } } else y
  let b2 := (b1.bump 0x1431 0 fresh).tally e 13 (if x.short then 2 else 1) fresh
  if x.short then
    (b2.modFault rod pos num (fun f => { f with waits := f.waits + 1 })).queueCmd e rod pos (.channel num) 0x03
      (be 2 x.scan ++ be 1 x.mask)
  else b2

/-- The flags of a record are in force (R307). -/
def Body.faultDone (b : Body) (x : FaultRec) : Bool :=
  newFlags (b.faultFlags x.lamp) x.mask x.short (b.regN 0x1430 0) == b.faultFlags x.lamp

/-- One record of a FAULT report: the active unit acts on it; another unit keeps it until the active's override is in force (R308). -/
def Body.faultRecord (b : Body) (e : Env) (rod pos num w : Nat) : Body :=
  match b.tileRec? rod pos with
  | none => b
  | some t =>
    let x : FaultRec := ⟨field w 31 16, 262144 * rod + t.first + field w 31 16, field w 15 13, field w 12 11 == 2⟩
    if t.lamps ≤ x.scan ∨ x.mask = 0 ∨ b.faultDone x then b
    else if b.isActive then b.applyFault e rod pos num x
    else b.modFault rod pos num (fun f => { f with left := f.left ++ [x] })

/-- Acknowledge a report once every record of it has been made into an override, refused or is in force, and every CHANNEL_OFF has been
answered (R308). -/
def Body.ackFault (b : Body) (e : Env) (rod pos num : Nat) : Body :=
  match (b.tile rod pos).faults.find? (fun f => f.number == num) with
  | some f =>
    if f.waits = 0 ∧ f.left = [] then
      (b.modTile rod pos (fun t => { t with faults := t.faults.filter (fun g => g.number != num) })).queueCmd e rod pos .ack 0x05 (be 2 num)
    else b
  | none => b

/-- The records of a report that a unit has kept are judged again: those in force leave, and a unit now active acts on the rest. -/
def Body.reviewFault (b : Body) (e : Env) (rod pos num : Nat) : Body :=
  match (b.tile rod pos).faults.find? (fun f => f.number == num) with
  | none => b
  | some f =>
    if f.left = [] then b
    else
      let open' := f.left.filter (fun x => !(b.faultDone x))
      let b1 := b.modFault rod pos num (fun g => { g with left := if b.isActive then [] else open' })
      (if b.isActive then open'.foldl (fun y x => y.applyFault e rod pos num x) b1 else b1).ackFault e rod pos num

/-- Every report whose records a unit has kept is judged again. -/
def Body.reviewFaults (b : Body) (e : Env) : Body :=
  b.tiles.foldl (fun x p => p.2.faults.foldl (fun y f => y.reviewFault e (p.1 / 64) (p.1 % 64) f.number) x) b

/-- A FAULT report taken; a repeat of one being handled adds nothing (R252, R307, R308). -/
def Body.faultReport (b : Body) (e : Env) (rod pos : Nat) (body : Bytes) : Body :=
  let num := beAt body 0 2
  let n := Nat.min 120 (beAt body 2 1)
  if (b.tile rod pos).faults.any (fun f => f.number == num) then b.reviewFault e rod pos num
  else
    let b1 := b.modTile rod pos (fun t => { t with faults := t.faults ++ [⟨num, 0, []⟩] })
    ((upFrom 0 n).foldl (fun x k => x.faultRecord e rod pos num (beAt body (4 + 4 * k) 4)) b1).ackFault e rod pos num

/-! ## Answers -/

/-- A command's answer acts as its reason says; `done` is a status of 0 (R238, R303, R308). -/
def Body.cmdAnswered (b : Body) (e : Env) (rod pos : Nat) (c : Cmd) (done : Bool) : Body :=
  match c.why with
  | .wake =>
    if done then
      let p := b.panOf rod pos
      let x := b.pan p
      let y := match x.openSlot rod pos with
        | some k => b.setPan p { x with slots := x.slots.map (fun (s : Slot) => if s = k then { s with answered := true } else s) }
        | none => b
      y.modTile rod pos (fun t => { t with awake := true })
    else b.wakeFailed e rod pos
  | .channel num =>
    (b.modTile rod pos (fun t => { t with faults := t.faults.map (fun (f : FaultRun) =>
      if f.number = num then { f with waits := f.waits - 1 } else f) })).ackFault e rod pos num
  | .sleep => if done then b.modTile rod pos (fun t => { t with awake := false }) else b
  | .config => (if done then b.modTile rod pos (fun t => { t with trimHeld := some (beAt c.args 0 4) }) else b).nextEcho e rod
  | _ => b

/-- A command is abandoned (R239): cause bit 5, and what its reason says. -/
def Body.cmdAbandoned (b0 : Body) (e : Env) (rod pos : Nat) (why : CmdWhy) : Body :=
  let b := b0.linkCause e rod 5
  match why with
  | .wake => b.wakeFailed e rod pos
  | .channel num => b.modTile rod pos (fun t => { t with faults := t.faults.filter (fun f => f.number != num) })
  | .config =>
    (b.modRod rod (fun r => { r with enumr := r.enumr.map (fun (x : EnumRun) => { x with failed := true }) })).nextEcho e rod
  | _ => b

end Sys2Proof.Machine
end

