-- ==== Sys2Proof/Machine/Words.lean ====
section
/-! DEFINITION. Words of the Kizen link: bodies, headers, the CRC, IDLE words, the scrambler, and what a receiver reads from 64 words
(R215 to R224, R228 to R246, R273). -/

namespace Sys2Proof

/-- The header word (R220). -/
def UpFrame.header (f : UpFrame) : Nat := ((f.words.head?).map (fun w => w.2)).getD 0

/-- Frame type. -/
def UpFrame.ty (f : UpFrame) : Nat := Machine.field f.header 59 54

/-- Position of the sending tile; 63 if it holds none. -/
def UpFrame.addr (f : UpFrame) : Nat := Machine.field f.header 53 48

/-- Sequence number (R222). -/
def UpFrame.seq (f : UpFrame) : Nat := Machine.field f.header 47 32

/-- Egress time (R223). -/
def UpFrame.time (f : UpFrame) : Nat := Machine.field f.header 31 0

/-- The 504 bytes of words 1 to 63: the body, then the CRC (R219). -/
def UpFrame.tail (f : UpFrame) : Bytes := (f.words.tail.map (fun w => Machine.be 8 w.2)).flatten

/-- The body, 500 bytes. -/
def UpFrame.body (f : UpFrame) : Bytes := f.tail.take 500

/-- The frame does not begin with a header word, holds a word that is no data word, or its CRC differs (R219, R221). -/
def UpFrame.damaged (f : UpFrame) : Bool :=
  ((f.words.head?).map (fun w => w.1)).getD 0 != 2 || Machine.field f.header 63 60 != 5 || decide (f.words.length ≠ 64) ||
  f.words.tail.any (fun w => w.1 != 1) || Machine.crc32c (Machine.be 8 f.header ++ f.body) != Machine.beAt f.tail 500 4

end Sys2Proof

namespace Sys2Proof.Machine

/-! ## Words (R215 to R221) -/

/-- Content of the header word (R220). -/
def headerWord (ty addr seq time : Nat) : Nat :=
  (((5 * 64 + ty % 64) * 64 + addr % 64) * 65536 + seq % 65536) * 2 ^ 32 + time % 2 ^ 32

/-- The 64 words of a link frame, each its sync header and its content before scrambling (R215, R219, R221). -/
def linkWords (ty addr seq time : Nat) (body : Bytes) : List (Nat × Nat) :=
  let h := headerWord ty addr seq time
  let bs := fit 0 500 body
  let ds := bs ++ be 4 (crc32c (be 8 h ++ bs))
  (2, h) :: (chunks 8 63 ds).map (fun c => (1, ofBE c))

/-- An IDLE word (R217). -/
abbrev idleWord : Nat × Nat := (2, 0)

/-- One content bit through the scrambler 1 + x^39 + x^58; bit 0 of the register is the bit sent last (R216). -/
def scrambleBit (reg d : Nat) : Nat := (d + reg / 2 ^ 38 + reg / 2 ^ 57) % 2

/-- The low k bits of content w, the highest first: the scrambled bits and the register after them. -/
def scrambleBits (w : Nat) : Nat → Nat → Nat → Nat × Nat
  | 0, reg, acc => (acc, reg)
  | k + 1, reg, acc =>
    let s := scrambleBit reg (w / 2 ^ k % 2)
    scrambleBits w k ((reg * 2 + s) % 2 ^ 58) (acc * 2 + s)

/-- Words as they go out, 66 bits each with the sync header in bits 65 and 64, and the register after them (R215, R216). -/
def scrambleAll : Nat → List (Nat × Nat) → List Nat × Nat
  | reg, [] => ([], reg)
  | reg, w :: ws =>
    let r := scrambleBits w.2 64 reg 0
    let q := scrambleAll r.2 ws
    ((w.1 * 2 ^ 64 + r.1) :: q.1, q.2)

/-! ## The upstream receiver (R216 to R218) -/

/-- A receiver at work: what it has seen, whether it has word lock, whether it lost it on the way, and the words it has descrambled. -/
structure Heard where
  mon : UpMon
  lock : Bool
  lost : Bool
  words : List (Nat × Nat)
deriving DecidableEq, Repr

/-- The content of a word through the descrambler, given the 58 bits received before it (R216). -/
def descramble (reg w : Nat) : Nat :=
  let x := reg * 2 ^ 64 + w % 2 ^ 64
  Nat.xor (Nat.xor x (x / 2 ^ 39)) (x / 2 ^ 58) % 2 ^ 64

/-- A sync header is invalid (R215). -/
def badSync (w : Nat × Nat) : Bool := w.1 != 1 && w.1 != 2

/-- A descrambled control word is invalid: of no kind of R217, or IDLE with a bit set. -/
def badControl (w : Nat × Nat) : Bool := w.1 == 2 && field w.2 63 60 != 5 && w.2 != 0

/-- One word comes in: lock after 64 valid sync headers in a row; lost when 16 of 64 words are invalid (R218). Words received before lock was
gained do not count among the 64 (DESIGN CHOICE; log entry 110). -/
def Heard.word (h : Heard) (w : Nat × Nat) : Heard :=
  let d := (w.1, descramble h.mon.reg w.2)
  let reg := (h.mon.reg * 2 ^ 64 + w.2 % 2 ^ 64) % 2 ^ 58
  let words := h.words ++ [d]
  if h.lock then
    let recent := ((badSync w || badControl d) :: h.mon.recent).take 64
    if 16 ≤ (recent.filter id).length then ⟨⟨reg, 0, []⟩, false, true, words⟩ else ⟨⟨reg, 0, recent⟩, true, h.lost, words⟩
  else
    let good := if badSync w then 0 else h.mon.good + 1
    if 64 ≤ good then ⟨⟨reg, 0, []⟩, true, h.lost, words⟩ else ⟨⟨reg, good, []⟩, false, h.lost, words⟩

/-- Words come in on rod n. -/
def Body.heard (b : Body) (n : Nat) (ws : List (Nat × Nat)) : Heard :=
  ws.foldl Heard.word ⟨(b.rod n).up, (b.rod n).lock, false, []⟩

/-- The frame rod n's receiver takes from words that end with one, descrambled: none where it has no word lock throughout, or the rod is down
(R218, R219). -/
def Body.received (b : Body) (n : Nat) (f : UpFrame) : Option UpFrame :=
  if 192 ≤ n ∨ b.laneState n = 0 then none else
  let k := f.words.length - 64
  let before := b.heard n (f.words.take k)
  let r := (f.words.drop k).foldl Heard.word { before with lost := false, words := [] }
  if before.lock && !r.lost then some ⟨r.words⟩ else none

/-! ## Downstream frames (R224, R228 to R246, R273) -/

/-- Type of a frame (R224). -/
def DnFrame.ty : DnFrame → Nat
  | .set .. => 0x01
  | .plane .. => 0x02
  | .schedule .. => 0x03
  | .repeatSet .. => 0x04
  | .dark .. => 0x05
  | .headroom .. => 0x06
  | .token => 0x07
  | .command .. => 0x08
  | .enum .. => 0x09
  | .config .. => 0x0A
  | .echoReq .. => 0x0B
  | .lane .. => 0x0C

/-- Destination of a frame: a position, or 63 (R224). -/
def DnFrame.addr : DnFrame → Nat
  | .set pos .. => pos
  | .plane pos .. => pos
  | .repeatSet addr .. => addr
  | .headroom pos .. => pos
  | .command addr .. => addr
  | .config pos .. => pos
  | .echoReq pos _ => pos
  | .schedule .. => 63
  | .dark .. => 63
  | .token => 63
  | .enum .. => 63
  | .lane .. => 63

/-- Token epoch and flags (R231, R236). -/
def tokenBytes (epoch : Nat) (active : Bool) : Bytes := be 4 epoch ++ be 1 (b2n active)

/-- The 252 bytes of a REPEAT: M of each position (R232). -/
def repeatBytes (ms : List (Nat × Nat)) : Bytes :=
  ((upFrom 0 63).map (fun a => be 4 (((ms.find? (fun p => p.1 == a)).map (fun p => p.2)).getD 0 % 2 ^ 32))).flatten

/-- Body of a frame on rod n, with the port its unit feeds, the token epoch and the token flag (R228 to R237, R240, R245, R246, R273). -/
def DnFrame.body (n side epoch : Nat) (active : Bool) : DnFrame → Bytes
  | .set _ k phase depth count sig => be 4 (k % 2 ^ 32) ++ be 1 phase ++ be 1 depth ++ be 2 count ++ be 8 sig
  | .plane _ _ body => body
  | .schedule k phase phases e durs gap order =>
    be 4 (k % 2 ^ 32) ++ be 1 phase ++ be 1 phases ++ be 2 0 ++ be 4 (ofSigned 32 e) ++
      ((fit 0 16 durs).map (be 3)).flatten ++ be 1 gap ++ be 1 order ++ be 2 0 ++ tokenBytes epoch active
  | .repeatSet _ k phase ms => be 4 (k % 2 ^ 32) ++ be 1 phase ++ be 3 0 ++ repeatBytes ms
  | .dark k ed => be 4 (k % 2 ^ 32) ++ be 4 (ofSigned 32 ed) ++ tokenBytes epoch active
  | .headroom _ k zones =>
    be 4 (k % 2 ^ 32) ++ be 1 zones.length ++ be 3 0 ++ (zones.map (fun z => ((fit 0 3 z).map (be 2)).flatten)).flatten
  | .token => tokenBytes epoch active
  | .command _ seq code args => be 2 seq ++ be 1 code ++ be 1 0 ++ args
  | .enum next step mode => be 1 next ++ be 1 step ++ be 1 mode ++ be 1 n
  | .config pos seq depth pan zc zr trim tele =>
    be 1 pos ++ be 1 side ++ be 1 depth ++ be 1 pan ++ be 1 zc ++ be 1 zr ++ be 1 n ++ be 1 0 ++ be 4 trim ++ be 2 tele ++ be 2 seq
  | .echoReq _ id => be 2 id
  | .lane op code start dur => be 1 op ++ be 1 code ++ be 2 0 ++ be 4 start ++ be 4 dur

/-- Words leave a rod's DN lane through its scrambler. -/
def Body.sendWords (b : Body) (n : Nat) (ws : List (Nat × Nat)) : Body :=
  (b.modRod n (fun r => { r with scr := (scrambleAll r.scr ws).2 })).emit (.tx n (scrambleAll (b.rod n).scr ws).1)

end Sys2Proof.Machine
end

