-- ==== Sys2Proof/Machine/Lanes.lean ====
section
/-! DEFINITION. Rod lanes: sending at once, bring-up, enumeration, rate steps, checks, FC service, recovery, sleep and calibration, and
the device states they lead to (R241 to R244, R266 to R296, R302, R509 to R511). -/

namespace Sys2Proof.Machine

/-! ## Frames that leave -/

/-- A frame is a DARK. -/
def DnFrame.isDark : DnFrame → Bool
  | .dark .. => true
  | _ => false

/-- Frames a unit in SAFE or FROZEN still sends: the DARK of R443, and while `op.recover` runs, all (R445). -/
def Body.maySend (b : Body) (f : DnFrame) : Bool :=
  !(b.devState == devSafe || b.devState == devFrozen) || f.isDark || b.opBusy 0x0419

/-- The token flag this unit sends (R261): active or single, and not in doubt. -/
def Body.tokenFlag (b : Body) : Bool := b.isActive && b.devState != devSafe && b.devState != devFrozen

/-- The 64 words of a frame that leaves rod n now, stamped by its quad's follower (R26, R219 to R223). -/
def Body.frameWords (b : Body) (e : Env) (n : Nat) (f : DnFrame) : List (Nat × Nat) :=
  linkWords f.ty f.addr (b.rod n).seqDn (e.follow (n / 4) % 2 ^ 32) (f.body n (b.forceN 0x1203 (n + 1)) (b.regN 0x1207 (n + 1)) b.tokenFlag)

/-- A frame leaves a rod: its sequence, time and token fields, and its words (R219 to R223, R261). -/
def Body.emitFrame (b : Body) (e : Env) (n : Nat) (f : DnFrame) : Body :=
  ((b.modRod n (fun r => { r with seqDn := (r.seqDn + 1) % 65536 })).emit
    (.link n (b.rod n).seqDn (e.follow (n / 4) % 2 ^ 32) (b.regN 0x1207 (n + 1)) b.tokenFlag f)).sendWords n (b.frameWords e n f)

/-- A broadcast LANE frame (R273). -/
def laneFrame (op code : Nat) : DnFrame := .lane op code 0 0

/-- Frames that only a rod in FC service may send leave its queue; the records of their planes return (R77, R272). -/
def Body.flushData (b : Body) (e : Env) (n : Nat) : Body :=
  let b1 := (b.dropInStep n).modRod n (fun r => { r with tokenDue := false })
  b1.beads.subs.foldl (fun x s => x.settle e s.n n) b1

/-- Settings of a slicer path as `lane.rx_settings` holds them. -/
def slicerWord (s : Slicer) : Nat :=
  ofSigned 8 s.phase * 2 ^ 56 + ofSigned 8 s.threshold * 2 ^ 48 +
  ((upFrom 0 5).map (fun i => ofSigned 8 (s.taps.getD i 0) * 2 ^ (40 - 8 * i))).foldl (· + ·) 0

/-! ## Calibration passes end (R289, R293) -/

/-- A pass started by `op.lane_cal` was cancelled: its result is PARTIAL. -/
def Body.calPartial (b : Body) : Body :=
  match mfind 0x0414 b.ops with
  | some o => { b with ops := minsert 0x0414 { o with step := 1 } b.ops }
  | none => b

/-- Cancel the passes of a rod, with nothing taken over: the taps go back to those before a transmit pass. `all` also drops what
`op.lane_cal` still waits to start there (R289). -/
def Body.cancelPasses (b : Body) (n : Nat) (all : Bool) : Body :=
  let r := b.rod n
  let byOp := r.rx.any (fun p => p.byOp) || r.tx.any (fun p => p.byOp) || (all && decide (r.passes ≠ 0))
  let b1 := b.modRod n (fun x => { x with rx := none, tx := none, passes := if all then 0 else x.passes,
                                          taps := (x.tx.map (fun p => p.orig.taps)).getD x.taps })
  let b2 := if r.tx.isSome then b1.applyTaps n else b1
  if byOp then b2.calPartial else b2

/-! ## Sleep ends (R281, R295) -/

/-- A DN lane sleeps no longer: the time it has slept is counted. -/
def Body.endSleep (b : Body) (e : Env) (n : Nat) : Body :=
  match (b.rod n).sleepTb with
  | none => b.modRod n (fun r => { r with waking := false })
  | some t =>
    let b1 := b.modRod n (fun r => { r with sleepTb := none, waking := false, slept := r.slept + (e.tb - t) * 2 })
    b1.setReg 0x1310 (n + 1) ((((b1.rod n).slept / 1000000) % 2 ^ 32 : Nat))

/-! ## The ring (R262) -/

/-- Every tile enumerated from this unit is heard, and says that tokens reach it on both ports. -/
def Body.intact (b : Body) (n : Nat) : Bool :=
  (b.rod n).lock && !(b.held n).isEmpty && (b.held n).all (fun p => (b.tile n p).bothFresh && !(b.tile n p).silent)

/-- `rod.ring`, with event 908 for the first rod in use that is cut (R262, R441). -/
def Body.ringUpdate (b : Body) (e : Env) (n : Nat) : Body :=
  let old := b.regN 0x1208 (n + 1)
  let new := if b.pairState = 0 ∧ b.forceN 0x1203 (n + 1) = 0 then 0
    else if b.intact n then 1
    else if b.pairState = 0 then old else 2
  let b1 := b.setReg 0x1208 (n + 1) (new : Nat)
  let b2 :=
    if new = 2 ∧ old ≠ 2 then
      let x := b1.linkCause e n 7
      let armed := !x.flt.cutTold || (match x.flt.cutTb with
        | some t => e.after t 1000000000
        | none => false)
      if x.rodsInUse.contains n ∧ armed then { x with flt := { x.flt with cutTold := true } }.raise e 908 0 else x
    else b1
  let all := b2.rodsInUse.all (fun k => b2.regN 0x1208 (k + 1) == 1)
  { b2 with flt := { b2.flt with cutTb := if all then some (b2.flt.cutTb.getD e.tb) else none } }

/-! ## A rod stops (R27, R275, R279) -/

/-- The enumeration running on a rod that goes down ends with NONE, a failed check, and so do those that wait for it (R244, R265). -/
def Body.enumLost (b : Body) (e : Env) (n : Nat) : Body :=
  match ((b.rod n).enumr.toList ++ (b.rod n).enumq).head? with
  | none => b
  | some r =>
    let b1 := ((b.setReg 0x1202 (n + 1) 1).modRod n (fun x => { x with enumr := none, enumq := [] })).linkCause e n 0
    if r.why = .recover then { b1 with dev := { b1.dev with recoverRods := b1.dev.recoverRods.filter (· != n) } } else b1

/-- What the tiles of a rod said of their tokens counts no more (R262). -/
def Body.forgetFresh (b : Body) (n : Nat) : Body :=
  (upFrom 0 64).foldl (fun x p => if (x.tile n p).bothFresh then x.modTile n p (fun t => { t with bothFresh := false }) else x) b

/-- A rod is down, with a lane cause bit. -/
def Body.rodStop (b : Body) (e : Env) (n causeBit : Nat) : Body :=
  let b1 := ((((b.enumLost e n).cancelPasses n true).flushData e n).endSleep e n).modRod n (fun r => { r with
    txq := [], phase := .idle, tb := e.tb, lock := false, lockLost := none, up := UpMon.reset })
  ((((((b1.lostFrames n).forgetFresh n).setReg 0x1300 (n + 1) 0).setReg 0x1200 (n + 1) 0).setReg 0x1204 (n + 1) 0).laneCause e n causeBit).ringUpdate e n

/-! ## Bring-up (R275) -/

/-- A pass at its beginning. -/
def Pass.start (s : Slicer) (byOp : Bool) : Pass :=
  { byOp := byOp, par := 0, cand := 0, orig := s, base := s, best := s, bestMerit := 0, changed := false, rounds := 0, reports := 0 }

/-- Bring-up of a rod starts: IR mode at code 1, IDLE words while the upstream path trains by the search of R286 on the active path itself,
from the reset settings. -/
def Body.bringup (b : Body) (e : Env) (n : Nat) : Body :=
  let b1 := (((((b.enumLost e n).cancelPasses n true).flushData e n).lostFrames n).forgetFresh n).endSleep e n
  let b2 := b1.modRod n (fun r => { r with
    txq := [], phase := .train, tb := e.tb, target := 1, from_ := 1, reports := [], used := true,
    lock := false, lockLost := none, up := UpMon.reset, paths := [Slicer.reset, Slicer.reset], rx := some (Pass.start Slicer.reset false) })
  ((((b2.setReg 0x1300 (n + 1) 1).setReg 0x1200 (n + 1) 0).setReg 0x1204 (n + 1) 1).setReg 0x1308 (n + 1) 0).setReg 0x130A (n + 1) 0

/-! ## Enumeration (R240, R241, R244) -/

/-- The ENUM frame of a rod (R240, R241). -/
def Body.enumFrame (b : Body) (n mode : Nat) : DnFrame :=
  if b.forceN 0x1203 (n + 1) = 1 then .enum ((b.chain n).length - 1) 255 mode else .enum 0 1 mode

/-- Begin an enumeration on a rod whose lane carries frames. -/
def Body.startEnum (b : Body) (e : Env) (n : Nat) (why : EnumWhy) (mode phases : Nat) : Body :=
  (b.modRod n (fun r => { r with enumr := some ⟨why, mode, phases, e.tb, [], false, false⟩ })).send n (b.enumFrame n mode)

/-- Phase count an enumeration checks tiles against: the new mode's once a dark path has sent DARK (R203, R244). -/
def Body.phasesNow (b : Body) : Nat :=
  match b.seq.sw.filter (fun w => w.dark && !w.leave), b.modeInForce with
  | some w, _ => w.mode.phases
  | none, some m => m.phases
  | none, none => b.entryMode.phases

/-- An enumeration runs on a rod, or waits to. -/
def Body.enumBusy (b : Body) (n : Nat) : Bool := (b.rod n).enumr.isSome || !(b.rod n).enumq.isEmpty

/-- Run an enumeration on a rod (R244): behind the one that runs there; on a rod whose lane carries no frames it has no response. -/
def Body.runEnum (b : Body) (e : Env) (n : Nat) (why : EnumWhy) (mode phases : Nat) : Body :=
  if b.enumBusy n then b.modRod n (fun r => { r with enumq := r.enumq ++ [⟨why, mode, phases, e.tb, [], false, false⟩] })
  else if b.carries n then b.startEnum e n why mode phases
  else (b.setReg 0x1202 (n + 1) 1).linkCause e n 0

/-- The next enumeration that waits starts once none runs and the lane carries frames. -/
def Body.nextEnum (b : Body) (e : Env) (n : Nat) : Body :=
  match (b.rod n).enumr, (b.rod n).enumq with
  | none, q :: rest =>
    if b.carries n then (b.modRod n (fun r => { r with enumq := rest })).startEnum e n q.why q.mode q.phases else b
  | _, _ => b

/-- Position held by the tile of a collected block. -/
def heldPos (blk : Bytes) : Nat := beAt blk 27 1

/-- The result of the check of R244. -/
def Body.enumResult (b : Body) (n : Nat) (r : EnumRun) : Nat :=
  let rs := r.rsps
  let ts := b.chain n
  let pairs := rs.filterMap (fun blk => (ts[heldPos blk]?).map (fun t => (blk, t)))
  if rs.isEmpty then 1
  else if rs.length ≠ ts.length then 2
  else if !((upFrom 0 ts.length).all (fun p => (rs.filter (fun blk => heldPos blk == p)).length == 1)) then 3
  else if rs.any (fun blk => bit (beAt blk 25 1) 2 || bit (beAt blk 25 1) 3) then 4
  else if pairs.any (fun p => beAt p.1 16 2 != p.2.w || beAt p.1 18 2 != p.2.h) then 5
  else if pairs.any (fun p => decide (p.2.depth < beAt p.1 20 1) || decide (beAt p.1 21 1 < p.2.depth)) then 6
  else if rs.any (fun blk => decide (beAt blk 22 1 < r.phases + 1)) then 7
  else if pairs.any (fun p => decide (beAt p.1 23 1 < p.2.zc * p.2.zr)) then 8
  else if (b.forceN 0x1203 (n + 1) = 1 || b.regN 0x1A02 0 != 0) && rs.any (fun blk => !(bit (beAt blk 25 1) 0)) then 9
  else 0

/-- Take the capability blocks: tiles and the positions they hold, serials, conflicts (R243, R244, R265). The last pass at which a serial is
recorded is that of step 3 (DESIGN CHOICE; log entry 109). A tile new to its position has yet to report its tokens (R262). -/
def Body.takeBlocks (b : Body) (e : Env) (n : Nat) (r : EnumRun) (pass : Bool) : Body :=
  let b1 := (b.setReg 0x1201 (n + 1) (r.rsps.length : Nat)).modRod n (fun x => { x with
    held := (upFrom 0 63).filter (fun p => r.rsps.any (fun blk => heldPos blk == p)) })
  let b2 := r.rsps.foldl (fun x blk =>
    let p := heldPos blk
    if 62 < p then x
    else
      let ser := beAt blk 8 8
      let changed := match (x.tile n p).serial with
        | some s => s != ser
        | none => false
      let y := if changed then x.linkCause e n 10 else x
      y.modTile n p (fun t => { t with cap := blk.take 64, awake := t.awake && !changed, bothFresh := t.bothFresh && !changed && (b.held n).contains p, serial := if pass then some ser else t.serial, lastUp := e.tb, silent := false })) b1
  if r.rsps.any (fun blk => bit (beAt blk 25 1) 2 || bit (beAt blk 25 1) 3) then b2.linkCause e n 8 else b2

/-- Send FCLK: the rod aligns to the forwarded clock at the code it holds (R277). -/
def Body.sendFclk (b : Body) (n : Nat) : Body :=
  (b.modRod n (fun r => { r with phase := .fclkWait })).send n (laneFrame 3 (b.regN 0x1204 (n + 1)))

/-- Highest code the tiles of a rod all support (R243, R275). -/
def Body.tileRate (b : Body) (n : Nat) : Nat :=
  ((b.held n).map (fun p => beAt (b.tile n p).cap 24 1)).foldl Nat.min 4

/-- After a bring-up's enumeration: the target code, and FCLK where the rod is already there; else it waits to step (R275). -/
def Body.climb (b : Body) (n : Nat) : Body :=
  let t := Nat.max 1 (Nat.min (b.regN 0x1301 (n + 1)) (b.tileRate n))
  let b1 := b.modRod n (fun r => { r with target := t, phase := .idle })
  if t ≤ b1.regN 0x1204 (n + 1) then b1.sendFclk n else b1

/-! ## Device states that follow (R302, R509) -/

/-- Every tile enumerated on a rod in use. -/
def Body.allTiles (b : Body) : List (Nat × Nat) :=
  (b.rodsInUse.map (fun n => (b.held n).map (fun p => (n, p)))).flatten

/-- Rods in use that have not passed. -/
def Body.notPassed (b : Body) : List Nat :=
  b.rodsInUse.filter (fun n => !(b.inService n && b.regN 0x1202 (n + 1) == 0))

/-- Enter LINKED from MEMORY; event 8 when rods have not passed. -/
def Body.enterLinked (b : Body) (e : Env) : Body :=
  let k := b.notPassed.length
  let b1 := ({ b with dev := { b.dev with linkTb := none, wakeAsked := false, waking := [] } }).enter e devLinked
  if k = 0 then b1 else b1.raise e 8 k

/-- The start-up wake: a request for every enumerated tile, which must answer or be abandoned. -/
def Body.askWakes (b : Body) (e : Env) : Body :=
  let ts := b.allTiles.filter (fun t => !(b.tile t.1 t.2).awake)
  let b1 := { b with dev := { b.dev with wakeAsked := true, waking := if b.isActive then ts else [] } }
  ts.foldl (fun x t => x.wakeReq e t.1 t.2) b1

/-- Every rod goes down: DN and CK idle. -/
def Body.rodsDown (b : Body) (e : Env) : Body :=
  (upFrom 0 192).foldl (fun x n =>
    if x.laneState n = 0 ∧ !(x.rod n).used then x
    else ((((((x.enumLost e n).cancelPasses n true).flushData e n).lostFrames n).forgetFresh n).endSleep e n).modRod n (fun r => { r with
        txq := [], phase := .idle, used := false, lock := false, lockLost := none, up := UpMon.reset }) |>.setReg 0x1300 (n + 1) 0
      |>.setReg 0x1200 (n + 1) 0 |>.setReg 0x1204 (n + 1) 0) b

/-- One transition of the device state that is due (R509). -/
def Body.advance1 (b : Body) (e : Env) : Body :=
  let st := b.devState
  let tg := b.regN 0x010B 0
  if st = devMemory then
    if 4 ≤ tg ∧ b.map?.isSome ∧ b.notPassed.isEmpty then b.enterLinked e else b
  else if st = devLinked then
    if tg = 3 then ({ b.rodsDown e with dev := { b.dev with linkTb := none, wakeAsked := false, waking := [] } }).enter e devMemory
    else if 5 ≤ tg then
      if !b.dev.wakeAsked then b.askWakes e
      else if b.dev.waking.isEmpty then b.enter e devWarm else b
    else b
  else if st = devWarm then
    if tg < 5 then
      let b1 := b.allTiles.foldl (fun x t => x.sleepReq e t.1 t.2) b
      ({ b1 with seq := { b1.seq with entering := false, next := none }, dev := { b1.dev with wakeAsked := false, waking := [] } }).enter e devLinked
    else b.goLive e
  else if st = devLive then
    if tg < 6 then b.leaveLive e (b.regN 0x0981 0) else b
  else b

/-- Every transition that is due, at most four. -/
def Body.progress (b : Body) (e : Env) : Body := (((b.advance1 e).advance1 e).advance1 e).advance1 e

/-! ## Enumeration ends -/

/-- The enumeration of a rod ends with a result (R244): what it was for goes on. While LIVE with `dev.live_partial`, a pass asks for
the rod's tiles to wake (R511). -/
def Body.enumEnd (b : Body) (e : Env) (n : Nat) (r : EnumRun) (res : Nat) : Body :=
  let b1 := (b.setReg 0x1202 (n + 1) (res : Nat)).modRod n (fun x => { x with enumr := none })
  let b2 := if res = 0 then b1 else b1.linkCause e n 0
  let b3 := if res = 0 && (b.rod n).enumq.all (fun q => q.why != .dark) then
      { b2 with dev := { b2.dev with darkRods := b2.dev.darkRods.filter (· != n) } }
    else b2
  let b4 := match r.why with
    | .bringup => if res = 1 then b3.rodStop e n 2 else b3.climb n
    | .lane => if res = 1 then b3.rodStop e n 2 else b3.sendFclk n
    | .recover => { b3 with dev := { b3.dev with recoverRods := b3.dev.recoverRods.filter (· != n) } }
    | _ => b3
  let b5 := if res = 0 ∧ b4.devState = devLive ∧ b4.regN 0x0110 0 = 1 ∧ 5 ≤ b4.regN 0x010B 0 then
      (b4.held n).foldl (fun x p => x.wakeReq e n p) b4
    else b4
  (b5.nextEnum e n).progress e

/-- Step 4 on a rod has ended when every tile is configured and measured (R244). -/
def Body.enumStep (b : Body) (e : Env) (n : Nat) : Body :=
  match (b.rod n).enumr with
  | some r => if r.measuring && b.configured n then
      (b.setReg 0x1200 (n + 1) (if b.inService n then 4 else 3)).enumEnd e n r (if r.failed then 10 else 0) else b
  | none => b

/-- After 5 ms the responses are judged; CONFIG and measurement follow a pass (R244). -/
def enumTimeout (e : Env) (n : Nat) (b : Body) : Body :=
  match (b.rod n).enumr with
  | none => b
  | some r =>
    let waits := (b.rod n).txq.any (fun f => match f with
      | .enum _ _ _ => true
      | _ => false)
    if r.measuring || (waits && b.carries n) || !(e.after r.tb 5000000) then b
    else
      let res := b.enumResult n r
      let b1 := b.takeBlocks e n r (res == 0)
      let b2 := if r.rsps.isEmpty || b.inService n then b1 else b1.setReg 0x1200 (n + 1) 2
      if res ≠ 0 then b2.enumEnd e n r res
      else
        let b3 := (b2.modRod n (fun x => { x with enumr := some { r with measuring := true, failed := false } })).markMeasure e n true
        let b4 := (b3.held n).foldl (fun x p => x.queueConfig e n p) b3
        b4.enumStep e n

/-! ## Checks, steps, FC service, recovery (R274, R276 to R279) -/

/-- Send CHECK and wait for its REPORTs. -/
def Body.sendCheck (b : Body) (n : Nat) (ph : LanePhase) : Body :=
  (b.modRod n (fun r => { r with phase := ph, reports := [] })).send n (laneFrame 2 (b.regN 0x1204 (n + 1)))

/-- STEP to a code: the frame waits for its place (R226, R276). -/
def Body.stepTo (b : Body) (n code st : Nat) : Body :=
  ((b.modRod n (fun r => { r with phase := .stepWait code })).setReg 0x1300 (n + 1) (st : Nat)).send n (laneFrame 1 code)

/-- STEP has left, with its IDLE words: the lanes switch (R276), and the tiles are to be measured again (R249). -/
def Body.stepped1 (b : Body) (e : Env) (n code : Nat) : Body :=
  ((((b.cancelPasses n true).modRod n (fun r => { r with phase := .stepTrain, tb := e.tb })).setReg
    0x1204 (n + 1) (code : Nat)).markMeasure e n true)

/-- IR has left: the receiver tracks frequency, IDLE words follow (R279). -/
def Body.freeRun (b : Body) (e : Env) (n : Nat) : Body := b.modRod n (fun r => { r with phase := .recoverTrain, tb := e.tb })

/-- A rod enters FC service (R275, R277): its tiles hold no set or commitment yet, and are measured. -/
def Body.serviceStart (b : Body) (e : Env) (n : Nat) : Body :=
  let b1 := (b.modRod n (fun r => { r with phase := .service, lastToken := e.tb, tokenDue := false })).forgetSets n
  let b2 := (upFrom 0 64).foldl (fun x p => if x.tile n p = Tile.reset then x else x.modTile n p (fun t => { t with commits := [] })) b1
  let b3 := ((b2.setReg 0x1300 (n + 1) 4).setReg 0x1200 (n + 1) 4).markMeasure e n true
  ((b3.nextEcho e n).nextEnum e n).progress e

/-- Recovery of a rod starts: its IR waits for its place among the frames that may still leave (R226, R279). -/
def Body.recover (b : Body) (e : Env) (n : Nat) : Body :=
  let b1 := (((b.cancelPasses n true).enumLost e n).flushData e n).endSleep e n
  let b2 := (b1.modRod n (fun r => { r with phase := .recoverWait, reports := [] })).send n (laneFrame 4 (b.regN 0x1204 (n + 1)))
  (((((b2.setReg 0x1300 (n + 1) 5).setReg 0x1200 (n + 1) 1).bump 0x130E (n + 1) 1).tally e 9 (n + 1) 1).laneCause e n 1).ringUpdate e n

/-- Every enumerated tile of a rod is silent. -/
def Body.allSilent (b : Body) (n : Nat) : Bool := !(b.held n).isEmpty && (b.held n).all (fun p => (b.tile n p).silent)

/-- A rod in FC service that has lost word lock for 100 us, or whose tiles are all silent, recovers (R278). -/
def recoveryStart (e : Env) (n : Nat) (b : Body) : Body :=
  let r := b.rod n
  let lost := !r.lock && match r.lockLost with
    | some t => e.after t 100000
    | none => false
  if b.inService n && (lost || b.allSilent n) then b.recover e n else b

/-- Settings of the active slicer path of a rod. -/
def Body.activePath (b : Body) (n : Nat) : Slicer := (b.rod n).paths.getD (b.regN 0x1308 (n + 1)) Slicer.reset

/-- One step of the climb (R276). -/
def laneStep (n : Nat) (b : Body) : Body :=
  let c := b.regN 0x1204 (n + 1)
  let r := b.rod n
  if r.phase = .idle ∧ (b.laneState n = 2 ∨ b.laneState n = 3) ∧ c < r.target then
    (b.modRod n (fun x => { x with from_ := c })).stepTo n (c + 1) 3
  else b

/-- Every REPORT of a check has come from the tiles enumerated. -/
def Body.reported (b : Body) (n : Nat) : Bool :=
  (b.held n).all (fun p => (b.rod n).reports.any (fun x => x.pos == p))

/-- A tile's REPORT is missing, or its status is not 0. -/
def Body.reportBad (b : Body) (n : Nat) : Bool :=
  !((b.held n).all (fun p => (b.rod n).reports.any (fun x => x.pos == p && x.status == 0)))

/-- A receiver meets margin (R274). -/
def Body.meets (b : Body) (h w : Nat) : Bool := decide (b.regN 0x1304 0 ≤ h) && decide (b.regN 0x1305 0 ≤ w)

/-- The check passes: every tile enumerated and the UP receiver meet margin (R274). -/
def Body.checkPass (b : Body) (n h w : Nat) : Bool :=
  !(b.reportBad n) && ((b.rod n).reports.filter (fun x => (b.held n).contains x.pos)).all (fun x => b.meets x.height x.width) && b.meets h w

/-- The rod waits for the REPORTs of a CHECK that has left. -/
def Body.checking (b : Body) (n : Nat) : Bool :=
  (match (b.rod n).phase with
   | .check _ _ => true
   | .recoverCheck => true
   | _ => false) && !((b.rod n).txq.any (fun f => match f with
     | .lane 2 _ _ _ => true
     | _ => false))

/-- A count as a histogram bin codes it (R285). -/
def binCode (c : Nat) : Nat := if c = 0 then 0 else Nat.log2 c + 1

/-- Eye statistics as `lane.rx_eye` holds them (R285). -/
def eyeBlock (code : Nat) (y : Eye) : Bytes :=
  le 1 1 ++ le 1 code ++ le 2 y.us ++ le 2 y.h ++ le 2 y.w ++ le 4 y.words ++ le 4 y.invalid ++
    ((fit 0 32 y.vert).map binCode ++ (fit 0 16 y.horiz).map binCode).map (BitVec.ofNat 8)

/-- `lane.rx_eye` after a measurement of the active path (R285). -/
def Body.setEye (b : Body) (n : Nat) (y : Eye) : Body := b.setStr 0x1309 (n + 1) (eyeBlock (b.regN 0x1204 (n + 1)) y)

/-- A check is judged at 1 ms, or at the last REPORT (R274, R276, R277, R279). -/
def laneCheck (e : Env) (n : Nat) (y : Eye) (b0 : Body) : Body :=
  if !(b0.checking n) || !(e.after (b0.rod n).tb 1000000 || b0.reported n) then b0
  else
    let c := b0.regN 0x1204 (n + 1)
    let r := b0.rod n
    let ok := b0.checkPass n y.h y.w
    let b1 := b0.setEye n y
    let b := if b1.reportBad n then b1.laneCause e n 5 else b1
    match r.phase with
    | .check back fclk =>
      if fclk then (if ok then b.serviceStart e n else b.recover e n)
      else if ok then
        if back then (b.laneCause e n 0).sendFclk n
        else
          let b1 := (b.markMeasure e n true).modRod n (fun x => { x with phase := .idle })
          if r.target ≤ c then b1.sendFclk n else b1
      else if back then b.recover e n
      else b.stepTo n r.from_ 3
    | .recoverCheck =>
      if ok then
        (b.modRod n (fun x => { x with phase := .recoverEnum })).startEnum e n .lane 1 b.phasesNow
      else if 1 < c then b.stepTo n (c - 1) 5
      else b.rodStop e n 2
    | _ => b

/-- 100 us after FCLK: phase alignment and CHECK (R277). -/
def fclkAlign (e : Env) (n : Nat) (b : Body) : Body :=
  let left := !((b.rod n).txq.any (fun f => match f with
    | .lane 3 _ _ _ => true
    | _ => false))
  if (b.rod n).phase = .fclkWait ∧ left ∧ e.after (b.rod n).tb 100000 then b.sendCheck n (.check false true) else b

/-! ## Sleep (R281, R283) -/

/-- The wake lead W of a rod, in ns (R281). -/
def Body.wakeLead (b : Body) (n : Nat) : Nat :=
  2000 * (b.tilesOn n + 1) + divUp (16 * 66 * bitTime (b.regN 0x1204 (n + 1))) 100

/-- A downstream frame of the rod falls due within d ns: a token, an echo, the data or HEADROOM of a sub-frame (R281). -/
def Body.dueWithin (b : Body) (e : Env) (n d : Nat) : Bool :=
  decide (((b.rod n).lastToken * 2 + 900000 : Nat) < e.tb * 2 + d) ||
  (!(b.held n).isEmpty && decide ((b.rod n).echoTb * 2 + b.regN 0x1210 0 * 1000000 < e.tb * 2 + d)) ||
  b.beads.subs.any (fun s => (!s.retired && decide (tdiff s.c e.wt < d)) ||
    (!s.setSent && decide (tdiff (s.e - b.regN 0x1400 0 * 1000) e.wt < d))) ||
  (b.live && match b.nextLatch with
    | some (k, m) => decide (tdiff (m.instC k) e.wt < d) || decide (tdiff (m.instE k - b.regN 0x1400 0 * 1000) e.wt < d)
    | none => false)

/-- The DN lane goes to sleep when nothing is due (R281). Nothing waits on it, so SLEEP leaves at once (R226). -/
def dnSleep (e : Env) (n : Nat) (b : Body) : Body :=
  let r := b.rod n
  if b.inService n && b.maySend (laneFrame 5 (b.regN 0x1204 (n + 1))) && bit (b.regN 0x1307 (n + 1)) 0 && r.txq.isEmpty && r.sleepTb.isNone && !r.tokenDue && !r.waking &&
      !(b.dueWithin e n (50000 + b.wakeLead n)) && !((b.held n).any (fun p => (b.tile n p).echo.isSome)) then
    (b.emitFrame e n (laneFrame 5 (b.regN 0x1204 (n + 1)))).modRod n (fun x => { x with sleepTb := some e.tb })
  else b

/-- A sleeping DN lane must wake: a frame waits, or one falls due within the wake lead (R281). -/
def Body.wakeDue (b : Body) (e : Env) (n : Nat) : Bool :=
  (b.rod n).sleepTb.isSome && (!(b.rod n).txq.isEmpty || (b.rod n).tokenDue || b.dueWithin e n (b.wakeLead n))

/-- The DN lane wakes: its wake lead begins (R281). -/
def Body.wakeLane (b : Body) (e : Env) (n : Nat) : Body :=
  (b.endSleep e n).modRod n (fun r => { r with waking := true, tb := e.tb })

/-- The DN lane wakes where it must (R281). -/
def dnWake (e : Env) (n : Nat) (b : Body) : Body := if b.wakeDue e n then b.wakeLane e n else b

/-- A request of the rod awaits an answer, or a receiver pass runs (R283). -/
def Body.awaits (b : Body) (n : Nat) : Bool :=
  (upFrom 0 64).any (fun p => (b.tile n p).cmd.isSome || (b.tile n p).echo.isSome) || b.checking n || (b.rod n).rx.isSome

/-- Ticks of the timebase until the wall clock reads t or later; 0 where it does. -/
def Env.until (e : Env) (t : Int) : Nat := if t ≤ e.wt then 0 else divUp ((t - e.wt).toNat * 2 ^ 40 - e.frac) (Nat.max 1 e.incr)

/-- A change of the clock from w0 moves the end of every sleep window not yet over, which is a wall time (R283, R532). -/
def Body.moveWindows (b : Body) (e : Env) (w0 : Int) : Body :=
  { b with rods := b.rods.map (fun (p : Nat × Rod) =>
      if w0 < p.2.upWall then (p.1, { p.2 with upEnd := e.tb + e.until p.2.upWall }) else p) }

/-- Grant an upstream sleep window that has yet to start, no sooner than 200 us of the timebase after the last one has ended (R47, R283,
R532). -/
def upsleep (e : Env) (n start dur : Nat) (b : Body) : Body :=
  let d := time32 e start - e.wt
  if b.inService n && bit (b.regN 0x1307 (n + 1)) 1 && decide (1000 ≤ dur) && decide (dur ≤ 5000000) && !(b.awaits n) &&
      e.after (b.rod n).upEnd 200000 && decide (0 ≤ d) && decide (d ≤ 1000000000) then
    (b.send n (.lane 6 (b.regN 0x1204 (n + 1)) start dur)).modRod n (fun r => { r with
      upWall := e.wt + d + dur, upEnd := e.tb + e.until (e.wt + d + dur) })
  else b

/-! ## Calibration (R286 to R293) -/

/-- Raise or lower one parameter of a slicer path: phase by 1, threshold by 4, a tap by 2, within its range; the phase within 32
of the active path's (R286, R287). -/
def nudgeSlicer (active s : Slicer) (par : Nat) (up : Bool) : Slicer :=
  let d (k : Int) : Int := if up then k else -k
  match par with
  | 0 =>
    let v := clampI 0 127 (s.phase + d 1)
    if 32 < (v - active.phase).natAbs then s else { s with phase := v }
  | 1 => { s with threshold := clampI (-128) 127 (s.threshold + d 4) }
  | k => { s with taps := setAt s.taps (k - 2) (clampI (-64) 63 (s.taps.getD (k - 2) 0 + d 2)) }

/-- Raise or lower a transmit tap by 1 within its range: 0 is c+1, 1 is c-1 (R290). -/
def nudgeTap (s : Slicer) (par : Nat) (up : Bool) : Slicer :=
  { s with taps := setAt s.taps par (clampI (if par = 0 then -31 else -15) 0 (s.taps.getD par 0 + (if up then 1 else -1))) }

/-- The settings of the candidate a pass measures. -/
def Pass.candidate (p : Pass) (nudge : Slicer → Nat → Bool → Slicer) : Slicer :=
  match p.cand with
  | 0 => p.base
  | 1 => nudge p.base p.par true
  | _ => nudge p.base p.par false

/-- The lowered candidate is next. -/
def Pass.lower (p : Pass) : Pass := { p with cand := 2, reports := 0 }

/-- A candidate has been measured with this merit: the pass goes on; true when it has ended (R286, R290). -/
def Pass.took (p : Pass) (nudge : Slicer → Nat → Bool → Slicer) (pars rounds merit : Nat) : Pass × Bool :=
  let c := p.candidate nudge
  match p.cand with
  | 0 => ({ p with best := c, bestMerit := merit, cand := 1, reports := 0 }, false)
  | 1 => ((if p.bestMerit < merit then { p with best := c, bestMerit := merit } else p).lower, false)
  | _ =>
    let q := if p.bestMerit < merit then { p with best := c, bestMerit := merit } else p
    let ch := q.changed || decide (q.best ≠ q.base)
    if p.par + 1 < pars then ({ q with base := q.best, par := p.par + 1, cand := 1, changed := ch, reports := 0 }, false)
    else
      let r := p.rounds + 1
      ({ q with base := q.best, par := 0, cand := 1, changed := false, rounds := r, reports := 0 }, !ch || decide (rounds ≤ r))

/-- Start a receiver pass on a rod in FC service, unless one runs (R286, R292, R293). -/
def Body.startRx (b : Body) (n : Nat) (byOp : Bool) : Body :=
  if b.inService n && (b.rod n).rx.isNone then b.modRod n (fun r => { r with rx := some (Pass.start (b.activePath n) byOp) }) else b

/-- The taps of a rod as a pass's settings. -/
def Body.tapPath (b : Body) (n : Nat) : Slicer := { Slicer.reset with taps := (b.rod n).taps }

/-- Start a transmit pass (R290, R292). -/
def Body.startTx (b : Body) (n : Nat) (byOp : Bool) : Body :=
  if b.inService n && (b.rod n).tx.isNone then b.modRod n (fun r => { r with tx := some (Pass.start (b.tapPath n) byOp) }) else b

/-- Start what `op.lane_cal` still waits for on a rod. -/
def Body.startAsked (b : Body) (n : Nat) : Body :=
  let k := (b.rod n).passes
  let b1 := if bit k 0 && (b.rod n).rx.isNone then (b.startRx n true).modRod n (fun r => { r with passes := setBit r.passes 0 false }) else b
  if bit k 1 && (b1.rod n).tx.isNone then (b1.startTx n true).modRod n (fun r => { r with passes := setBit r.passes 1 false }) else b1

/-- A pass is complete: temperature and count (R292). -/
def Body.passDone (b : Body) (n : Nat) : Body :=
  (b.setReg 0x130C (n + 1) (b.reg 0x1311 (n / 4 + 1))).bump 0x130D (n + 1) 1

/-- Merit of an eye. -/
def merit (h w : Nat) : Nat := Nat.min h w

/-- The active UP path has been measured in service: below margin it sets cause bit 6 and starts a receiver pass (R292); a pass that runs
already judges it when it ends (R293). -/
def Body.activeMeasured (b : Body) (e : Env) (n : Nat) (y : Eye) : Body :=
  if b.inService n && (b.rod n).rx.isNone && !(b.meets y.h y.w) then (b.laneCause e n 6).startRx n false else b

/-- The search of bring-up changes the active settings directly (R275). -/
def nudgeTrain (s : Slicer) (par : Nat) (up : Bool) : Slicer := nudgeSlicer s s par up

/-- One step of the search on the active path itself (R275, R286). -/
def Body.trainStep (b : Body) (n : Nat) (p : Pass) (y : Eye) : Body :=
  let a := p.took nudgeTrain 7 16 (merit y.h y.w)
  let s := if a.2 then a.1.base else a.1.candidate nudgeTrain
  (b.modRod n (fun r => { r with rx := if a.2 then none else some a.1, paths := setAt r.paths (b.regN 0x1308 (n + 1)) s })).setReg
    0x130A (n + 1) (slicerWord s : Nat)

/-- The spare takes over at the end of a receiver pass where its merit over the final step is at least the active's and they agreed (R288). -/
def calTakes (m : CalMeas) : Bool := decide (merit m.active.h m.active.w ≤ merit m.spare.h m.spare.w) && m.agreed

/-- The end of a receiver pass (R288). -/
def Body.takeOver (b : Body) (e : Env) (n : Nat) (m : CalMeas) (s : Slicer) : Body :=
  let act := b.regN 0x1308 (n + 1)
  if calTakes m then
    ((b.modRod n (fun r => { r with paths := setAt r.paths (1 - act) s })).setReg 0x1308 (n + 1) (1 - act : Nat)).setReg
      0x130A (n + 1) (slicerWord s : Nat)
  else b.laneCause e n 3

/-- One 64 us measurement: a step of the training search, of a receiver pass, or of the active path alone (R275, R286, R288, R289, R292). A
step in which the lane slept is repeated. -/
def calStep (e : Env) (n : Nat) (m : CalMeas) (b0 : Body) : Body :=
  if m.slept then b0
  else
    let b := b0.setEye n m.active
    match (b.rod n).rx with
    | none => b.activeMeasured e n m.active
    | some p =>
      if (b.rod n).phase = .train then b.trainStep n p m.active
      else
        let a := p.took (nudgeSlicer (b.activePath n)) 7 16 (merit m.spare.h m.spare.w)
        if !a.2 then b.modRod n (fun r => { r with rx := some a.1 })
        else ((((b.modRod n (fun r => { r with rx := none })).takeOver e n m a.1.base).passDone n).startAsked n).activeMeasured e n
          (if calTakes m then m.spare else m.active)

/-- The end of `lane.train_time` (R275, R276, R279). The trained settings are the best the search has found by then; a measurement that ends
with it is its last. -/
def trainExpiry (e : Env) (n : Nat) (last : Option CalMeas) (b0 : Body) : Body :=
  if !(e.after (b0.rod n).tb (b0.regN 0x1303 0 * 1000000)) then b0
  else
    let b := if (b0.rod n).phase = .train then last.elim b0 (fun m => calStep e n m b0) else b0
    let r := b.rod n
    match r.phase with
    | .train =>
      let trained := match r.rx with
        | some p => p.best
        | none => b.activePath n
      let b1 := (b.modRod n (fun x => { x with paths := [trained, trained], rx := none })).setReg 0x130A (n + 1) (slicerWord trained : Nat)
      if !r.lock then b1.rodStop e n 2
      else ((b1.modRod n (fun x => { x with phase := .enumerate })).setReg 0x1300 (n + 1) 2).startEnum e n .bringup 0 b.phasesNow
    | .stepTrain =>
      if b.laneState n = 5 then b.sendCheck n .recoverCheck else b.sendCheck n (.check (decide (r.from_ = b.regN 0x1204 (n + 1))) false)
    | .recoverTrain => b.sendCheck n .recoverCheck
    | _ => b

/-- The nearest tile's report to a transmit pass: 64 bytes of eye statistics and its error flags (R290, R291). A report of fewer than
1,000,000 words does not count, and only the second that counts measures the candidate. -/
def Body.txReport (b : Body) (e : Env) (n : Nat) (eye : Bytes) (flags : Nat) : Body :=
  let h := beAt eye 4 2
  let w := beAt eye 6 2
  match (b.rod n).tx with
  | none =>
    if beAt eye 0 1 = 1 && b.inService n && !(b.meets h w) then (b.laneCause e n 6).startTx n false else b
  | some p =>
    if beAt eye 8 4 < 1000000 then b
    else if p.reports = 0 then b.modRod n (fun r => { r with tx := some { p with reports := 1 } })
    else if flags % 16 ≠ 0 then
      let b1 := (b.modRod n (fun r => { r with tx := none, taps := p.base.taps })).applyTaps n
      ((b1.laneCause e n 4).passDone n).startAsked n
    else
      let a := p.took nudgeTap 2 8 (merit h w)
      if a.2 then
        let b1 := (b.modRod n (fun r => { r with tx := none, taps := a.1.base.taps })).applyTaps n
        (b1.passDone n).startAsked n
      else (b.modRod n (fun r => { r with tx := some a.1, taps := (a.1.candidate nudgeTap).taps })).applyTaps n

/-- Quad temperatures; a drift of more than `lane.cal_delta` starts both passes (R292). -/
def quadTemp (temps : List Int) (b : Body) : Body :=
  let b1 := ((upFrom 0 48).zip temps).foldl (fun x p => x.setReg 0x1311 (p.1 + 1) p.2) b
  (upFrom 0 192).foldl (fun x n =>
    if x.inService n && decide (16 * x.reg 0x1306 0 < ((x.reg 0x1311 (n / 4 + 1) - x.reg 0x130C (n + 1)).natAbs : Int)) then
      (x.startRx n false).startTx n false
    else x) b1

/-- Rods of `op.lane_cal`. -/
def Body.calRods (b : Body) : List Nat :=
  let v := b.regN 0x0414 0x10
  if v = 0xFF then (upFrom 0 192).filter b.inService else [v]

/-- Start of `op.lane_cal` (R292, R293). -/
def laneCalStart (e : Env) (slot : Nat) (b : Body) : Body × Rsp :=
  if b.opBusy 0x0414 then (b, wrote stBusy)
  else
    let rods := b.calRods
    let k := b.regN 0x0414 0x11
    let b1 := b.opBegin e 0x0414 slot rods
    ((rods.filter b.inService).foldl (fun x n => (x.modRod n (fun r => { r with passes := Nat.lor r.passes k })).startAsked n) b1, wrote stOK)

/-- A pass of `op.lane_cal` still runs or waits on a rod. -/
def Body.calBusy (b : Body) (n : Nat) : Bool :=
  let r := b.rod n
  decide (r.passes ≠ 0) || r.rx.any (fun p => p.byOp) || r.tx.any (fun p => p.byOp)

/-- `op.lane_cal` completes when every pass it started has ended (R293). -/
def laneCalComplete (e : Env) (b : Body) : Body :=
  match mfind 0x0414 b.ops with
  | none => b
  | some o => if o.rods.any b.calBusy then b else b.opEnd e 0x0414 true o.step 0

/-- The PLL of rod n's quad has not lost lock (R27). -/
def Body.quadLocked (b : Body) (n : Nat) : Bool := b.regN 0x0120 (n / 4 + 1) != 3

/-- Quads, bring-up and its retry (R275). -/
def bringupDue (e : Env) (n : Nat) (b : Body) : Body :=
  if devMemory ≤ b.devState ∧ b.devState ≤ devLive ∧ 4 ≤ b.regN 0x010B 0 ∧ b.rodsInUse.contains n ∧ b.laneState n = 0 ∧ !(b.rod n).used ∧ b.quadLocked n then
    let b1 := if b.devState = devMemory ∧ b.dev.linkTb.isNone then { b with dev := { b.dev with linkTb := some e.tb } } else b
    b1.bringup e n
  else b

/-- Every 1 s while a rod is down, bring-up is retried (R275). -/
def bringupRetry (e : Env) (n : Nat) (b : Body) : Body :=
  if (b.rod n).used ∧ b.laneState n = 0 ∧ e.after (b.rod n).tb 1000000000 ∧ devMemory ≤ b.devState ∧ b.devState ≤ devLive ∧ b.quadLocked n then
    b.bringup e n
  else b

/-- A write of 1 to `lane.restart` (R275). -/
def laneRestart (e : Env) (n : Nat) (b : Body) : Body × Rsp := if b.live then (b, wrote stLive) else (if b.quadLocked n then b.bringup e n else b, wrote stOK)

/-- `dev.link_timeout` after bring-up began, LINKED is entered with the rods that have passed (R509). -/
def linkTimeout (e : Env) (b : Body) : Body :=
  match b.dev.linkTb with
  | none => b
  | some t =>
    if b.devState = devMemory ∧ 4 ≤ b.regN 0x010B 0 ∧ e.after t (b.regN 0x010F 0 * 1000000) then (b.enterLinked e).progress e else b

/-- DARK of a dark path, at C(N_L + 1): every rod in service sends DARK, event 353, and, but for leaving LIVE, the enumeration
check runs on every rod with the new mode's P (R203, R244, R512); a forced step is applied later, at E_d. -/
def darkPathDark (e : Env) (b0 : Body) : Body :=
  let b := fireDue e 4 b0
  match b.seq.sw with
  | none => b
  | some w =>
    if w.seamless ∨ w.dark ∨ !(e.reached w.cd) then b
    else
      let b1 := (upFrom 0 192).foldl (fun x n =>
        if x.inService n && x.sendsData w.nL then x.sendDark n (w.nL + 1) w.ed ((x.map?.map (fun m => (m.tilesOf n).length)).getD 0) else x) b
      let b2 := { b1 with seq := { b1.seq with sw := some { w with dark := true } } }.raise e 353 0
      if w.leave then b2
      else
        let rods := (upFrom 0 192).filter (fun n => b2.rodsInUse.contains n || b2.carries n)
        let b3 := rods.foldl (fun x n => x.runEnum e n .dark 1 w.mode.phases) b2
        ({ b3 with dev := { b3.dev with darkRods := rods } }).setReg 0x0909 0 3

/-! ## Meanings -/

/-- DARK_PATH_DARK (R203, R512). -/
def execDarkPathDark (s : State) : Host.Outcome State Fault Refusal := s.act (darkPathDark s.env)

/-- BRINGUP_START (R275). -/
def execBringupStart (n : Nat) (s : State) : Host.Outcome State Fault Refusal := s.act (bringupDue s.env n)

/-- LANE_RESTART (R275). -/
def execLaneRestart (r : Req) (n : Nat) (s : State) : Host.Outcome State Fault Refusal :=
  s.act (serveWrite s.env r 0x1302 (n + 1) (.n 1) (fun _ => laneRestart s.env n))

/-- BRINGUP_RETRY_TIMER (R275). -/
def execBringupRetryTimer (n : Nat) (s : State) : Host.Outcome State Fault Refusal := s.act (bringupRetry s.env n)

/-- TRAIN_TIME_EXPIRY (R275, R276, R279). -/
def execTrainTimeExpiry (n : Nat) (last : Option CalMeas) (s : State) : Host.Outcome State Fault Refusal :=
  s.act (trainExpiry s.env n last)

/-- LANE_STEP (R276). -/
def execLaneStep (n : Nat) (s : State) : Host.Outcome State Fault Refusal := s.act (laneStep n)

/-- LANE_CHECK_TIMEOUT (R274). -/
def execLaneCheckTimeout (n : Nat) (size : Nat × Nat) (seen : EyeSeen) (s : State) : Host.Outcome State Fault Refusal :=
  s.act (laneCheck s.env n (eyeOf size seen))

/-- FCLK_ALIGN_TIMER (R277). -/
def execFclkAlignTimer (n : Nat) (s : State) : Host.Outcome State Fault Refusal := s.act (fclkAlign s.env n)

/-- RECOVERY_START (R278, R279). -/
def execRecoveryStart (n : Nat) (s : State) : Host.Outcome State Fault Refusal := s.act (recoveryStart s.env n)

/-- DN_SLEEP (R281). -/
def execDnSleep (n : Nat) (s : State) : Host.Outcome State Fault Refusal := s.act (dnSleep s.env n)

/-- DN_WAKE (R281). -/
def execDnWake (n : Nat) (s : State) : Host.Outcome State Fault Refusal := s.act (dnWake s.env n)

/-- UPSLEEP_GRANT (R283). -/
def execUpsleepGrant (n start dur : Nat) (s : State) : Host.Outcome State Fault Refusal := s.act (upsleep s.env n start dur)

/-- CAL_STEP (R286, R288). -/
def execCalStep (n : Nat) (m : CalMeas) (s : State) : Host.Outcome State Fault Refusal := s.act (calStep s.env n m)

/-- QUAD_TEMP_READ (R292). -/
def execQuadTempRead (temps : List Int) (s : State) : Host.Outcome State Fault Refusal := s.act (quadTemp temps)

/-- LANE_CAL_START (R292). -/
def execLaneCalStart (r : Req) (s : State) : Host.Outcome State Fault Refusal :=
  s.act (serveWrite s.env r 0x0414 1 (.n 1) (fun slot => laneCalStart s.env slot))

/-- LANE_CAL_COMPLETE (R293). -/
def execLaneCalComplete (s : State) : Host.Outcome State Fault Refusal := s.act (laneCalComplete s.env)

/-- ENUM_COLLECT_TIMEOUT (R244). -/
def execEnumCollectTimeout (n : Nat) (s : State) : Host.Outcome State Fault Refusal := s.act (enumTimeout s.env n)

/-- LINK_TIMEOUT (R509). -/
def execLinkTimeout (s : State) : Host.Outcome State Fault Refusal := s.act (linkTimeout s.env)

end Sys2Proof.Machine
end

