-- ==== Sys2Proof/Machine/Link.lean ====
section
/-! DEFINITION. The Kizen link: the order of downstream frames, tokens, upstream frames, commands and their answers, enumeration, delay
echoes, word lock, wakes and lamp faults (R217 to R265, R302 to R310, R315, R464, R465). -/

namespace Sys2Proof.Machine

/-! ## Downstream (R226, R227) -/

/-- Place of a frame in the priority of R226. -/
def DnFrame.place : DnFrame → Nat
  | .headroom .. => 1
  | .set .. => 2
  | .plane .. => 2
  | .schedule .. => 2
  | .repeatSet .. => 2
  | .dark .. => 2
  | .token => 3
  | .echoReq .. => 4
  | .config .. => 5
  | .command .. => 6
  | .enum .. => 7
  | .lane .. => 8

/-- A frame carries the token (R227). -/
def DnFrame.bearing : DnFrame → Bool
  | .schedule .. => true
  | .dark .. => true
  | .token => true
  | _ => false

/-- The frame at the front of the lowest place waiting. -/
def firstPlace (q : List DnFrame) : Nat → Option DnFrame
  | 0 => none
  | k + 1 =>
    match q.find? (fun f => f.place == 8 - k) with
    | some f => some f
    | none => firstPlace q k

/-- How far the absolute time a frame carries lies ahead of its egress, in ns; 0 for a frame that carries none (R47). -/
def DnFrame.ahead (e : Env) : DnFrame → Int
  | .schedule _ _ _ t _ _ _ => t - e.wt
  | .dark _ t => t - e.wt
  | .lane 6 _ start _ => time32 e start - e.wt
  | _ => 0

/-- A frame may leave at this boundary: a unit in SAFE or FROZEN sends it, and its time lies within 1 s ahead (R47). -/
def Body.ready (b : Body) (e : Env) (f : DnFrame) : Bool := b.maySend f && decide (f.ahead e ≤ 1000000000)

/-- A frame is data for a tile that must be measured first, unless that tile's set has begun (R249). -/
def Body.waitsEcho (b : Body) (n : Nat) (f : DnFrame) : Bool :=
  let held (p : Nat) : Bool := (b.tile n p).hold && (b.rod n).inSet != some p
  match f with
  | .set p _ _ _ _ _ => held p
  | .plane p _ _ => held p
  | _ => false

/-- The frames of a rod that may leave now. Sub-frame data keeps the order of R187: behind data that waits for a measurement, no other
leaves. -/
def Body.candidates (b : Body) (e : Env) (n : Nat) : List DnFrame :=
  let q := (b.rod n).txq.filter (b.ready e)
  match q.find? (fun f => f.place == 2) with
  | some f => if b.waitsEcho n f then q.filter (fun g => g.place != 2 || g.isDark) else q
  | none => q

/-- The frame a rod sends next (R226): a TOKEN of a promotion at once (R461), HEADROOM, a TOKEN that is due, then by place. -/
def Body.pick (b : Body) (e : Env) (n : Nat) : Option DnFrame :=
  let r := b.rod n
  let q := b.candidates e n
  if r.rush && q.contains .token then some .token
  else
    match q.find? (fun f => f.place == 1) with
    | some f => some f
    | none => if r.tokenDue && b.maySend .token then some .token else firstPlace q 8

/-- Frames whose time lies more than 1 s past leave the queue unsent (R47; log entry 90). -/
def Body.dropStale (b : Body) (e : Env) (n : Nat) : Body :=
  if (b.rod n).txq.any (fun f => decide (f.ahead e < -1000000000)) then
    b.modRod n (fun r => { r with txq := r.txq.filter (fun f => decide (-1000000000 ≤ f.ahead e)) })
  else b

/-- What follows when a frame has left (R77, R227, R239, R244, R247, R291, R303). -/
def Body.sent (b : Body) (e : Env) (n : Nat) (f : DnFrame) : Body :=
  let b1 := if f.bearing then b.modRod n (fun r => { r with lastToken := e.tb, tokenDue := false }) else b
  match f with
  | .set pos .. => b1.modRod n (fun r => { r with inSet := some pos })
  | .plane pos k _ =>
    let more := match (b1.rod n).txq.find? (fun g => g.place == 2) with
      | some (.plane p j _) => p == pos && j == k
      | _ => false
    ((if more then b1 else (b1.modRod n (fun r => { r with inSet := none })).applyTaps n)).settle e k n
  | .command pos seq code _ =>
    let b2 := b1.modTile n pos (fun t => { t with cmd := t.cmd.map (fun (c : Cmd) => if c.seq = seq then { c with onAir := true, tb := e.tb } else c) })
    if code = 1 then
      let p := b2.panOf n pos
      let x := b2.pan p
      b2.setPan p { x with slots := x.slots.map (fun (s : Slot) => if s.rod = n ∧ s.pos = pos ∧ !s.answered then { s with tb := e.tb } else s) }
    else b2
  | .config pos seq .. =>
    b1.modTile n pos (fun t => { t with cmd := t.cmd.map (fun (c : Cmd) => if c.seq = seq then { c with onAir := true, tb := e.tb } else c) })
  | .echoReq pos id =>
    b1.modTile n pos (fun t => { t with echo := t.echo.map (fun (x : EchoRun) => if x.id = id then { x with tb := e.tb } else x) })
  | .enum .. => b1.modRod n (fun r => { r with enumr := r.enumr.map (fun (x : EnumRun) => { x with tb := e.tb }) })
  | .lane op code _ _ =>
    if op = 1 then b1.stepped1 e n code
    else if op = 4 then b1.freeRun e n
    else if op = 2 ∨ op = 3 then b1.modRod n (fun r => { r with tb := e.tb })
    else b1
  | _ => b1

/-- IDLE words of a gap in which no frame is sent (R217, R271). -/
def gap (idle : Nat) : List (Nat × Nat) := List.replicate idle idleWord

/-- IDLE words that follow a frame at once: 16 behind a STEP, else 2 outside FC service (R270, R271, R276). -/
def Body.trail (b : Body) (n : Nat) (f : DnFrame) : Nat :=
  match f with
  | .lane 1 _ _ _ => 16
  | _ => if b.inService n then 0 else 2

/-- A frame leaves, and the IDLE words that follow it. -/
def Body.sendLink (b : Body) (e : Env) (n : Nat) (f : DnFrame) : Body :=
  let b1 := b.emitFrame e n f
  if b.trail n f = 0 then b1 else b1.sendWords n (gap (b.trail n f))

/-- A frame boundary of a lane that carries frames: IDLE words, then the frame of the highest place. -/
def Body.boundarySend (b : Body) (e : Env) (n idle : Nat) : Body :=
  match b.pick e n with
  | none => b.sendWords n (gap idle)
  | some f =>
    let b1 := b.modRod n (fun x => { x with txq := x.txq.erase f, rush := x.rush && decide (f ≠ .token), waking := false })
    ((b1.sendWords n (gap idle)).sendLink e n f).sent e n f

/-- A frame that sleep never delays waits: HEADROOM, or a TOKEN that is due (R227, R284). -/
def Body.pressing (b : Body) (e : Env) (n : Nat) : Bool :=
  match b.pick e n with
  | some (.headroom ..) => true
  | some .token => (b.rod n).tokenDue || (b.rod n).rush
  | _ => false

/-- A rod at a frame boundary (R217, R226, R270, R281). A lane that trains sends IDLE words alone (R275, R276, R279), one that is down or
asleep sends nothing; a sleeping lane wakes when it must, and sends IDLE words for its wake lead; a frame that sleep never delays leaves at
once. -/
def linkFrameSend (e : Env) (n idle : Nat) (b0 : Body) : Body :=
  if b0.laneState n = 0 then b0
  else if !(b0.carries n) then b0.sendWords n (gap idle)
  else
    let b1 := b0.dropStale e n
    let b := if b1.wakeDue e n then b1.wakeLane e n else b1
    if (b.rod n).sleepTb.isSome then b
    else if (b.rod n).waking && !(e.after (b.rod n).tb (b.wakeLead n)) && !(b.pressing e n) then b.sendWords n (gap idle)
    else (b.modRod n (fun x => { x with waking := false })).boundarySend e n idle

/-- A TOKEN is due when no token-bearing frame has left a rod in service for 0.9 ms (R227). -/
def tokenIsDue (e : Env) (n : Nat) (b : Body) : Body :=
  if b.inService n && b.maySend .token && e.after (b.rod n).lastToken 900000 then b.modRod n (fun r => { r with tokenDue := true }) else b

/-! ## Upstream (R218, R222, R223, R225, R253, R256, R263) -/

/-- A damaged upstream frame, or one of no upstream type. -/
def Body.upBad (b : Body) (e : Env) (n : Nat) : Body :=
  ((b.bump 0x1205 (n + 1) 1).tally e 8 (n + 1) 1).linkCause e n 4

/-- A sequence gap from a tile. -/
def Tile.gap (t : Tile) (seq : Nat) : Bool :=
  match t.upSeq with
  | some s => decide (seq ≠ (s + 1) % 65536)
  | none => false

/-- The upstream receiver of a rod has lost word lock (R218, R263, R278, R289). The search of bring-up goes
on (R275). -/
def Body.dropLock (b : Body) (e : Env) (n : Nat) : Body :=
  let b1 := b.modRod n (fun r => { r with lock := false, lockLost := some e.tb })
  let b2 := if (b.rod n).phase = .train then b1 else (b1.cancelPasses n false).startAsked n
  (b2.linkCause e n 3).ringUpdate e n

/-- The upstream receiver of a rod has gained word lock (R218). -/
def Body.gainLock (b : Body) (n : Nat) : Body :=
  let b1 := b.modRod n (fun r => { r with lock := true, lockLost := none })
  if b1.regN 0x1200 (n + 1) = 0 then b1.setReg 0x1200 (n + 1) 1 else b1

/-- Words come in on a rod that is not down: its descrambler, and its word lock (R216, R218). -/
def Body.hear (b : Body) (e : Env) (n : Nat) (ws : List (Nat × Nat)) : Body :=
  if 192 ≤ n ∨ b.laneState n = 0 then b
  else
    let h := b.heard n ws
    let b1 := b.modRod n (fun r => { r with up := h.mon })
    let b2 := if (b.rod n).lock ∧ h.lost then b1.dropLock e n else b1
    if h.lock ∧ (!(b.rod n).lock ∨ h.lost) then b2.gainLock n else b2

/-- What a rod's quad makes of an upstream header time more than 1 s from its own (R26, R256). -/
def Body.headerTime (b : Body) (e : Env) (n : Nat) (f : UpFrame) : Body :=
  let d := e.inDomain (n / 4)
  if 1000000000 < (tdiff (time32 d f.time) d.wt).natAbs then b.linkCause e n 9 else b

/-- Take an upstream frame on a rod with word lock: its damage, its gap, its time; the frame as descrambled, where it is one of type
`ty`. -/
def Body.upAccept (b0 : Body) (e : Env) (n ty : Nat) (w : UpFrame) : Body × Option UpFrame :=
  let b := b0.hear e n w.words
  match b0.received n w with
  | none => (b, none)
  | some f =>
    if f.damaged ∨ f.ty < 0x20 ∨ 0x25 < f.ty then (b.upBad e n, none)
    else if f.ty ≠ ty then (b, none)
    else
      let b1 := if f.addr = 63 then b
        else
          let x := if (b.tile n f.addr).gap f.seq then ((b.bump 0x1206 (n + 1) 1).tally e 8 (n + 1) 1).linkCause e n 4 else b
          x.modTile n f.addr (fun t => { t with upSeq := some f.seq, lastUp := e.tb, silent := false })
      (b1.headerTime e n f, some f)

/-- A frame of a tile that holds a position. -/
def Body.upTile (b : Body) (e : Env) (n ty : Nat) (w : UpFrame) : Body × Option UpFrame :=
  let a := b.upAccept e n ty w
  (a.1, a.2.filter (fun f => decide (f.addr < 63)))

/-- The port a tile selects against this unit's active token (R263, R465). -/
def Body.selection (b : Body) (e : Env) (n : Nat) (body : Bytes) : Body :=
  let side := b.forceN 0x1203 (n + 1)
  let sel := beAt body 5 1
  if b.isActive ∧ sel < 2 ∧ sel ≠ side then
    let other := beAt body (if side = 0 then 12 else 8) 4
    let own := b.regN 0x1207 (n + 1)
    let b1 := b.linkCause e n 6
    if b1.pairState = pairActive ∧ other ≠ own ∧ laterEpoch own other = other then (b1.raise e 904 0).leaveActive e else b1
  else b

/-- A TELEMETRY frame taken (R250, R251, R315). -/
def telemetry (e : Env) (n : Nat) (w : UpFrame) (b0 : Body) : Body :=
  let a := b0.upTile e n 0x20 w
  match a.2 with
  | none => a.1
  | some f =>
    let b := a.1
    let p := f.addr
    let fl := beAt f.body 6 2
    let bad := decide (fl % 16 ≠ 0) || bit fl 6
    let fresh := b.freeNat % 2 == 1
    let b1 := ((b.reportEpochs f.body).modTile n p (fun t => { t with
      tele := f.body, bothFresh := fresh
      sets := if bad then t.sets.map (fun (x : Nat × PhaseSet) => (x.1, { x.2 with bad := true })) else t.sets })).tookFree 1
    let temps := (upFrom 0 4).map (fun i => toSigned 16 (beAt f.body (16 + 2 * i) 2))
    let b2 := if beAt f.body 4 1 = 1 then
        (b1.modTile n p (fun t => { t with thermCount := (t.thermCount + 1) % 2 ^ 32, thermSum := t.thermSum + b1.looseDiv (temps.foldl (· + ·) 0) 4 })).tookFree 1
      else b1
    let b3 := if bad then b2.linkCause e n 2 else b2
    let b4 := if bit fl 7 then b3.linkCause e n 8 else b3
    let b5 := if bit fl 5 then b4.raise e 775 0 else b4
    let b6 := (b5.selection e n f.body).ringUpdate e n
    let side := b6.forceN 0x1203 (n + 1)
    if p = b6.nearest n then b6.txReport e n (slice f.body (if side = 1 then 128 else 64) 64) fl else b6

/-- An ENUM_RSP is collected (R243, R244). -/
def enumRsp (e : Env) (n : Nat) (w : UpFrame) (b : Body) : Body :=
  let a := b.upAccept e n 0x23 w
  match a.2 with
  | none => a.1
  | some f =>
    a.1.modRod n (fun r => { r with enumr := r.enumr.map (fun (x : EnumRun) => if x.measuring then x else { x with rsps := x.rsps ++ [f.body.take 64] }) })

/-- A CMD_RSP answers the command outstanding (R238, R239). -/
def cmdRsp (e : Env) (n : Nat) (w : UpFrame) (b : Body) : Body :=
  let a := b.upTile e n 0x24 w
  match a.2 with
  | none => a.1
  | some f =>
    match (a.1.tile n f.addr).cmd with
    | none => a.1
    | some c =>
      if c.onAir && c.seq == beAt f.body 0 2 then
        ((((a.1.modTile n f.addr (fun t => { t with cmd := none })).cmdAnswered e n f.addr c (beAt f.body 3 1 == 0)).issueCmd e n f.addr).enumStep
          e n)
      else a.1

/-- No CMD_RSP within 2 ms of a command's egress: sent again, at most 3 times, then abandoned (R239). -/
def commandRetry (e : Env) (n p : Nat) (b : Body) : Body :=
  match (b.tile n p).cmd with
  | none => b
  | some c =>
    if !c.onAir || !(e.after c.tb 2000000) then b
    else if c.tries < 3 then
      let d : Cmd := { c with tries := c.tries + 1, tb := e.tb, onAir := !(b.carries n) }
      let b1 := b.modTile n p (fun t => { t with cmd := some d })
      if b.carries n then b1.send n (b1.cmdFrame n p d) else b1
    else
      (((((b.modTile n p (fun t => { t with cmd := none })).cmdAbandoned e n p c.why).issueCmd e n p).enumStep e n)).progress e

/-! ## Enumeration as an operation (R244) -/

/-- Start of `op.enum`. -/
def enumOp (e : Env) (slot : Nat) (b : Body) : Body × Rsp :=
  if b.opBusy 0x0413 then (b, wrote stBusy)
  else
    let v := b.regN 0x0413 0x10
    let rods := if v = 0xFF then b.rodsInUse else [v]
    (rods.foldl (fun x n => x.runEnum e n .op (x.regN 0x0413 0x11) b.phasesNow) (b.opBegin e 0x0413 slot rods), wrote stOK)

/-- `op.enum` completes when every rod it named has its result; while it is cancelled, once the checks that run have ended (R427). -/
def enumComplete (e : Env) (b : Body) : Body :=
  match mfind 0x0413 b.ops with
  | none => b
  | some o => if o.rods.any b.enumBusy then b else b.opEnd e 0x0413 true 0 0

/-! ## Delay echoes (R246, R247, R249) -/

/-- An ECHO_RSP ends one echo of a measurement; 16 make it (R247). -/
def echoRsp (e : Env) (n : Nat) (w : UpFrame) (rtt : Nat) (b : Body) : Body :=
  let a := b.upTile e n 0x22 w
  match a.2 with
  | none => a.1
  | some f =>
    match (a.1.tile n f.addr).echo with
    | none => a.1
    | some x =>
      if x.id ≠ beAt f.body 0 2 then a.1
      else
        let b1 := a.1.modTile n f.addr (fun t => { t with turn := t.turn + beAt f.body 4 4, ldn := beAt f.body 8 2, lup := beAt f.body 10 2 })
        if x.left ≤ 1 then ((b1.measured e n f.addr (x.sum + rtt)).nextEcho e n).enumStep e n
        else
          let id := (b1.rod n).echoId
          ((b1.modRod n (fun r => { r with echoId := (r.echoId + 1) % 65536 })).modTile n f.addr (fun t => { t with
            echo := some ⟨id, e.tb, 0, x.left - 1, x.sum + rtt⟩ })).send n (.echoReq f.addr id)

/-- No ECHO_RSP within 1 ms: again with a new id, at most 3 times, then the measurement is abandoned (R247). -/
def echoTimeout (e : Env) (n p : Nat) (b : Body) : Body :=
  match (b.tile n p).echo with
  | none => b
  | some x =>
    if !(e.after x.tb 1000000) || (b.rod n).txq.contains (.echoReq p x.id) then b
    else if x.tries < 3 then
      let id := (b.rod n).echoId
      ((b.modRod n (fun r => { r with echoId := (r.echoId + 1) % 65536 })).modTile n p (fun t => { t with
        echo := some { x with id := id, tb := e.tb, tries := x.tries + 1 } })).send n (.echoReq p id)
    else
      let b1 := (b.modTile n p (fun t => { t with echo := none, measured := true, hold := false })).linkCause e n 12
      ((b1.modRod n (fun r => { r with enumr := r.enumr.map (fun (y : EnumRun) => { y with failed := true }) })).nextEcho e n).enumStep e n

/-- Every `kz.echo_period`, every tile of every rod in service is measured (R249). -/
def echoPeriod (e : Env) (b : Body) : Body :=
  (upFrom 0 192).foldl (fun x n => if x.inService n then (x.markMeasure e n false).nextEcho e n else x) b

/-! ## Silence and word lock (R218, R253, R263) -/

/-- No undamaged upstream frame of an enumerated tile for 3 telemetry periods (R253). -/
def tileSilent (e : Env) (n p : Nat) (b : Body) : Body :=
  let t := b.tile n p
  if n < 192 ∧ (b.held n).contains p ∧ !t.silent ∧ e.after t.lastUp (3 * b.regN 0x1211 0 * 1000000) then
    ((b.modTile n p (fun x => { x with silent := true })).linkCause e n 1).ringUpdate e n
  else b

/-- A tile's REPORT answers a CHECK, within 1 ms of it (R273, R274). -/
def laneReport (e : Env) (n : Nat) (w : UpFrame) (b : Body) : Body :=
  let a := b.upTile e n 0x25 w
  match a.2 with
  | none => a.1
  | some f =>
    if a.1.checking n && beAt f.body 0 1 == 2 && !(e.after (a.1.rod n).tb 1000001) then
      a.1.modRod n (fun r => { r with reports := r.reports.filter (fun x => x.pos != f.addr) ++
        [⟨f.addr, beAt f.body 2 1, beAt f.body 8 2, beAt f.body 10 2⟩] })
    else a.1

/-! ## Pans, channels, doses of tiles (R302 to R310, R315) -/

/-- A FAULT frame of a tile (R252, R307). -/
def faultFrame (e : Env) (n : Nat) (w : UpFrame) (b : Body) : Body :=
  let a := b.upTile e n 0x21 w
  match a.2 with
  | none => a.1
  | some f => a.1.faultReport e n f.addr f.body

/-- A write to `pan.command`: 1 wakes, 2 sleeps every tile of the pan (R302, R304). -/
def panCommand (e : Env) (p v : Nat) (b : Body) : Body × Rsp :=
  ((b.panTiles p).foldl (fun x t => if v = 1 then x.wakeReq e t.1 t.2 else x.sleepReq e t.1 t.2) b, wrote stOK)

/-- The tile a session has selected: rod and position. -/
def Body.selected (b : Body) (slot : Nat) : Nat × Nat :=
  match b.sess? slot with
  | some x => let v := (x.reg 0x1220 0).toNat
              (field v 15 8, field v 7 0)
  | none => (0, 0)

/-- A write to `tile.power` (R302, R304); a selection that names no position of a chain is out of range (log entry 6). -/
def tilePower (e : Env) (slot v : Nat) (b : Body) : Body × Rsp :=
  let t := b.selected slot
  if 192 ≤ t.1 ∨ 63 ≤ t.2 then (b, wrote stRange)
  else (if v = 1 then b.wakeReq e t.1 t.2 else b.sleepReq e t.1 t.2, wrote stOK)

/-- A write to `health.channel` sends CHANNEL_ON (R305, R310). -/
def healthChannel (e : Env) (v : Nat) (b : Body) : Body × Rsp :=
  let rod := field v 31 24
  let pos := field v 23 16
  if 192 ≤ rod ∨ 63 ≤ pos then (b, wrote stRange)
  else if b.isActive then (b.queueCmd e rod pos .channelOn 0x04 (be 2 (field v 15 0) ++ be 1 (field v 34 32)), wrote stOK)
  else (b, wrote stOK)

/-- A write to `dose.tile_reset` (R315, R377). -/
def doseTileReset (v : Nat) (b : Body) : Body × Rsp :=
  let rod := field v 15 8
  let pos := field v 7 0
  if b.devState = devFrozen then (b, wrote stFrozen)
  else if 192 ≤ rod ∨ 63 ≤ pos then (b, wrote stRange)
  else (b.modTile rod pos (fun t => { t with resetDose := true }), wrote stOK)

/-! ## Meanings -/

/-- LINK_FRAME_SEND (R226). -/
def execLinkFrameSend (n idle : Nat) (s : State) : Host.Outcome State Fault Refusal := s.act (linkFrameSend s.env n idle)

/-- TOKEN_DUE (R227). -/
def execTokenDue (n : Nat) (s : State) : Host.Outcome State Fault Refusal := s.act (tokenIsDue s.env n)

/-- TELEMETRY_RECEIVE (R250, R251, R262). -/
def execTelemetryReceive (n : Nat) (f : UpFrame) (s : State) : Host.Outcome State Fault Refusal := s.act (telemetry s.env n f)

/-- ENUM_RSP_RECEIVE (R243, R244). -/
def execEnumRspReceive (n : Nat) (f : UpFrame) (s : State) : Host.Outcome State Fault Refusal := s.act (enumRsp s.env n f)

/-- CMD_RSP_RECEIVE (R238, R239). -/
def execCmdRspReceive (n : Nat) (f : UpFrame) (s : State) : Host.Outcome State Fault Refusal := s.act (cmdRsp s.env n f)

/-- COMMAND_RETRY_TIMEOUT (R239). -/
def execCommandRetryTimeout (n p : Nat) (s : State) : Host.Outcome State Fault Refusal := s.act (commandRetry s.env n p)

/-- ENUM_START (R244). -/
def execEnumStart (r : Req) (s : State) : Host.Outcome State Fault Refusal :=
  s.act (serveWrite s.env r 0x0413 1 (.n 1) (fun slot => enumOp s.env slot))

/-- ENUM_COMPLETE (R244). -/
def execEnumComplete (s : State) : Host.Outcome State Fault Refusal := s.act (enumComplete s.env)

/-- ECHO_RSP_RECEIVE (R246, R247). -/
def execEchoRspReceive (n : Nat) (f : UpFrame) (rtt : Nat) (s : State) : Host.Outcome State Fault Refusal :=
  s.act (echoRsp s.env n f rtt)

/-- ECHO_TIMEOUT (R247). -/
def execEchoTimeout (n p : Nat) (s : State) : Host.Outcome State Fault Refusal := s.act (echoTimeout s.env n p)

/-- ECHO_PERIOD_TIMER (R249). -/
def execEchoPeriodTimer (s : State) : Host.Outcome State Fault Refusal := s.act (echoPeriod s.env)

/-- TILE_SILENT (R253). -/
def execTileSilent (n p : Nat) (s : State) : Host.Outcome State Fault Refusal := s.act (tileSilent s.env n p)

/-- UP_WORD_LOCK_LOST: words come in, which lose word lock where 16 of 64 are invalid (R218, R263). -/
def execUpWordLockLost (x : RodWords) (s : State) : Host.Outcome State Fault Refusal := s.act (fun b => b.hear s.env x.rod x.words)

/-- UP_WORD_LOCK_GAINED: words come in, which gain word lock once 64 in a row have valid sync headers (R218). -/
def execUpWordLockGained (x : RodWords) (s : State) : Host.Outcome State Fault Refusal := s.act (fun b => b.hear s.env x.rod x.words)

/-- LANE_REPORT_RECEIVE (R273, R274). -/
def execLaneReportReceive (n : Nat) (f : UpFrame) (s : State) : Host.Outcome State Fault Refusal := s.act (laneReport s.env n f)

/-- PAN_COMMAND_WAKE (R302). -/
def execPanCommandWake (r : Req) (p : Nat) (s : State) : Host.Outcome State Fault Refusal :=
  s.act (serveWrite s.env r (panKey 0x1418 p).1 (panKey 0x1418 p).2 (.n 1) (fun _ => panCommand s.env p 1))

/-- PAN_COMMAND_SLEEP (R304). -/
def execPanCommandSleep (r : Req) (p : Nat) (s : State) : Host.Outcome State Fault Refusal :=
  s.act (serveWrite s.env r (panKey 0x1418 p).1 (panKey 0x1418 p).2 (.n 2) (fun _ => panCommand s.env p 2))

/-- TILE_POWER_WAKE (R302). -/
def execTilePowerWake (r : Req) (s : State) : Host.Outcome State Fault Refusal :=
  s.act (serveWrite s.env r 0x1428 0 (.n 1) (fun slot => tilePower s.env slot 1))

/-- TILE_POWER_SLEEP (R304). -/
def execTilePowerSleep (r : Req) (s : State) : Host.Outcome State Fault Refusal :=
  s.act (serveWrite s.env r 0x1428 0 (.n 2) (fun slot => tilePower s.env slot 2))

/-- WAKE_SLOT_RELEASE (R303). -/
def execWakeSlotRelease (n p : Nat) (s : State) : Host.Outcome State Fault Refusal :=
  s.act (fun b => (slotRelease s.env n p b).progress s.env)

/-- FAULT_REPORT_RECEIVE (R252, R307, R308). -/
def execFaultReportReceive (n : Nat) (f : UpFrame) (s : State) : Host.Outcome State Fault Refusal := s.act (faultFrame s.env n f)

/-- HEALTH_CHANNEL_WRITE (R310). -/
def execHealthChannelWrite (r : Req) (v : Nat) (s : State) : Host.Outcome State Fault Refusal :=
  s.act (serveWrite s.env r 0x1433 0 (.n v) (fun _ => healthChannel s.env v))

/-- DOSE_TILE_RESET (R315). -/
def execDoseTileReset (r : Req) (v : Nat) (s : State) : Host.Outcome State Fault Refusal :=
  s.act (serveWrite s.env r 0x1504 0 (.n v) (fun _ => doseTileReset v))

end Sys2Proof.Machine
end

