-- ==== Sys2Proof/Machine/Ageing.lean ====
section
/-! DEFINITION. The setpoint instant, dose images, retention tables and lamp reckoning (R94, R297 to R299, R313 to R322). -/

namespace Sys2Proof.Machine

/-! ## The setpoint instant (R94, R298, R299) -/

/-- H of a sub-frame (R298). -/
def Body.instH (b : Body) (en : Int) : Int := en - b.regN 0x1400 0 * 1000

/-- HEADROOM of sub-frame n to every tile of one rod, and the commitments it makes. -/
def Body.headroomRod (b : Body) (rod n g phases : Nat) (tiles : List TileRec) (beads : List Bead) (use : Map Rec) : Body :=
  if b.inService rod && b.sendsData n then
    ((upFrom 0 tiles.length).zip tiles).foldl (fun x p =>
      let zs := (upFrom 0 p.2.zones).map (fun z => x.zoneSetpoint rod p.1 p.2 beads use n g phases z)
      (x.send rod (.headroom p.1 n zs)).modTile rod p.1 (fun t => t.commit n g phases zs)) b
  else b

/-- The first number not yet latched, of the next four, whose setpoint instant has come: its number, mode and count of
timing-mode changes. -/
def Body.earlyH (b : Body) (e : Env) : Option (Nat × Mode × Nat) :=
  if !b.live then none
  else
    ((upFrom 0 4).filterMap (fun k =>
      match b.latchAt k with
      | some (n, m) =>
        let new := match b.seq.sw with
          | some w => !w.latched && decide (w.nL < b.seq.next.getD 0 + k)
          | none => false
        if e.reached (b.instH (m.instE n)) && !(b.seq.early.contains n) then some (n, m, b.seq.gen + b2n new) else none
      | none => none)).head?

/-- The setpoint instant of a sub-frame fires (R51, R298). -/
def setpointInstant (e : Env) (b : Body) : Body :=
  match b.beads.subs.find? (fun s => !s.setSent && e.reached (b.instH s.e)) with
  | some s =>
    let m := b.subMap s
    let b1 := (b.subRods s).foldl (fun x r =>
      x.headroomRod r s.n s.gen s.mode.phases ((m.map (fun y => y.tilesOf r)).getD []) (x.rodBeadsOf s r) s.use) b
    (b1.modSub s.n (fun x => { x with setSent := true })).purge e
  | none =>
    match b.earlyH e with
    | some (n, m, g) =>
      let b1 := b.rodsInUse.foldl (fun x r =>
        x.headroomRod r n g m.phases ((x.map?.map (fun y => y.tilesOf r)).getD []) [] []) b
      { b1 with seq := { b1.seq with early := b1.seq.early ++ [n] } }
    | none => b

/-! ## Dose images (R313, R316) -/

/-- Bytes a n of the application-core region; none where they do not lie in it. -/
def Body.appBytes (b : Body) (a n : Nat) : Option Bytes :=
  let lo := b.base 8
  if lo ≤ a ∧ a + n ≤ lo + b.forceN 0x1803 0 * 2 ^ 20 then some (b.bytes a n) else none

/-- Tiles of the rod map in force, as rod and position. -/
def Body.mapTiles (b : Body) : List (Nat × Nat) :=
  match b.map? with
  | none => []
  | some m => (m.rods.map (fun r => (upFrom 0 r.2.length).map (fun p => (r.1, p)))).flatten

/-- Lamp indices of the rod map in force. -/
def Body.lampIdsNow (b : Body) : List Nat := (b.map?.map RodMap.lampIds).getD []

/-- A thermal record of an image. -/
def thermalRecord (rod pos : Nat) (t : Tile) : Bytes :=
  be 1 rod ++ be 1 pos ++ [0, 0] ++ le 4 t.thermCount ++ le 8 (ofSigned 64 t.thermSum)

/-- The dose image of this unit with an export serial (R316). -/
def Body.doseImage (b : Body) (e : Env) (serial : Nat) : Bytes :=
  let data := (b.lampIdsNow.map (fun i => b.bytes (b.doseAddr i 0) 12)).flatten ++
    (b.mapTiles.map (fun t => thermalRecord t.1 t.2 (b.tile t.1 t.2))).flatten
  let nc := divUp data.length 65536
  let off := divUp (64 + 4 * nc) 64 * 64
  let hd := [0x43, 0x57, 0x44, 0x49] ++ le 2 1 ++ le 2 64 ++ le 4 b.lampIdsNow.length ++
    le 4 ((b.map?.map (fun m => m.tag)).getD 0) ++ le 4 serial ++ le 2 b.mapTiles.length ++ le 2 0 ++ le 4 nc ++ le 4 off ++
    le 8 (e.wt / 1000000000) ++ le 8 b.cor.doseLast ++ le 8 (b.regN 0x0100 0) ++ le 4 0
  let crcs := ((chunks 65536 nc data).map (fun c => le 4 (crc32c c))).flatten
  hd ++ le 4 (crc32c hd) ++ crcs ++ List.replicate (off - (64 + 4 * nc)) 0 ++ data

/-- Start of `op.dose_export` (R316, R377). -/
def doseExportStart (e : Env) (slot : Nat) (b : Body) : Body × Rsp :=
  if b.opBusy 0x0416 then (b, wrote stBusy)
  else if b.devState = devFrozen then (b.opRefuse e 0x0416 stFrozen 0, wrote stFrozen)
  else (b.opBegin e 0x0416 slot [], wrote stOK)

/-- The destination of a cancelled export is undefined (R428). -/
def Body.scrambleExport (b : Body) (e : Env) : Body :=
  let a := (b.opArg 0x0416 0x10).toNat
  let n := (b.opArg 0x0416 0x11).toNat
  let k := Nat.min n (b.doseImage e 0).length
  if b.memUp ∧ (b.appBytes a n).isSome then (b.store a ((upFrom b.free k).map Config.freeByte)).tookFree k else b

/-- A cancelled export ends (R427, R428). -/
def Body.exportCancelled (b : Body) (e : Env) : Body := (b.scrambleExport e).opEnd e 0x0416 false stCancelled 0

/-- `op.dose_export` writes its image and completes: the serial goes to MRAM, event 966. A destination that does not lie in the
application-core region, or is shorter than the image, fails it (log entry 50). Its step ends a cancel (R427). -/
def doseExportComplete (e : Env) (b : Body) : Body :=
  if b.opState 0x0416 = 3 then b.exportCancelled e
  else if b.opState 0x0416 ≠ 1 then b
  else
    let a := (b.opArg 0x0416 0x10).toNat
    let n := (b.opArg 0x0416 0x11).toNat
    let serial := (b.regN 0x1503 0 + 1) % 2 ^ 32
    let img := b.doseImage e serial
    if (b.appBytes a n).isNone then b.opEnd e 0x0416 false stRange 0
    else if n < img.length then b.opEnd e 0x0416 false stSize 0
    else ((b.store a img).setReg 0x1503 0 (serial : Nat)).raise e 966 0 |>.opEnd e 0x0416 true 0 0

/-- A fault found before anything was written refuses an import; one found after zeroes what it wrote (R316, R428). -/
def Body.importFail (b : Body) (e : Env) (code chunk : Nat) : Body :=
  ((if chunk = 0 then b else b.clearDose).raise e 964 0).opEnd e 0x0417 false code chunk

/-- The first fault of a dose image: result and chunk; else its header, offset, data. -/
def Body.doseFault (b : Body) (a : Nat) (stale : Bool) : (Nat × Nat) ⊕ Bytes :=
  match b.appBytes a 64, b.map? with
  | none, _ => .inl (stSource, 0)
  | some _, none => .inl (stMapTag, 0)
  | some hd, some m =>
    let lamps := leAt hd 8 4
    let nc := leAt hd 24 4
    let off := leAt hd 28 4
    let len := 12 * lamps + 16 * leAt hd 20 2
    if hd.take 4 ≠ [0x43, 0x57, 0x44, 0x49] ∨ leAt hd 4 2 ≠ 1 then .inl (stFormat, 0)
    else if crc32c (hd.take 60) ≠ leAt hd 60 4 then .inl (stCrc, 0)
    else if leAt hd 6 2 ≠ 64 ∨ nc ≠ divUp len 65536 ∨ off ≠ divUp (64 + 4 * nc) 64 * 64 then .inl (stFormat, 0)
    else if leAt hd 12 4 ≠ m.tag then .inl (stMapTag, 0)
    else if lamps ≠ m.total then .inl (stCount, 0)
    else if leAt hd 16 4 < b.regN 0x1503 0 ∧ !stale then .inl (stStale, 0)
    else
      match b.appBytes (a + 64) (4 * nc), b.appBytes (a + off) len with
      | some crcs, some data =>
        match firstIdx (fun p : Bytes × Nat => crc32c p.1 != leAt crcs (4 * p.2) 4) 0 ((chunks 65536 nc data).zip (upFrom 0 nc)) with
        | some j => .inl (stChunk, j)
        | none => .inr (hd ++ data)
      | _, _ => .inl (stSource, 0)

/-- A dose import is refused: the operation fails with the reason, event 964; a chunk is the number its response carries (R316, R411, R427). -/
def Body.importRefused (b : Body) (e : Env) (code chunk : Nat) : Body × Rsp :=
  ((b.opRefuse e 0x0417 code chunk).raise e 964 0, if code = stChunk then .write code 2 chunk else wrote code)

/-- Start of `op.dose_import`, once the image that its arguments name has passed the checks (R316, R377). -/
def doseImportStart (e : Env) (slot : Nat) (b : Body) : Body × Rsp :=
  if b.opBusy 0x0417 then (b, wrote stBusy)
  else if b.devState = devFrozen then (b.opRefuse e 0x0417 stFrozen 0, wrote stFrozen)
  else if b.live then b.importRefused e stLive 0
  else
    match b.doseFault (b.regN 0x0417 0x10) (b.regN 0x0417 0x11 == 1) with
    | .inl f => b.importRefused e f.1 f.2
    | .inr _ => (b.opBegin e 0x0417 slot [], wrote stOK)

/-- A cancelled import ends; whether its first write had happened, which loses the dose, is free (R427, R428). -/
def Body.importCancelled (b : Body) (e : Env) : Body :=
  ((if b.freeNat % 2 = 1 then b.clearDose.raise e 964 0 else b).tookFree 1).opEnd e 0x0417 false stCancelled 0

/-- `op.dose_import` completes: every accumulator and thermal record is replaced (R316). Its step ends a cancel. -/
def doseImportComplete (e : Env) (b : Body) : Body :=
  if b.opState 0x0417 = 3 then b.importCancelled e
  else if b.opState 0x0417 ≠ 1 then b
  else
    match b.doseFault (b.opArg 0x0417 0x10).toNat (b.opArg 0x0417 0x11 == 1) with
    | .inl (c, j) => b.importFail e c j
    | .inr img =>
      let lamps := leAt img 8 4
      let data := img.drop 64
      let b1 := b.clearDose
      let b2 := (b1.lampIdsNow.zip (chunks 12 lamps data)).foldl (fun x p => x.store (x.doseAddr p.1 0) p.2) b1
      let b3 := (chunks 16 (leAt img 20 2) (data.drop (12 * lamps))).foldl (fun x r =>
        x.modTile (leAt r 0 1) (leAt r 1 1) (fun t => { t with thermCount := leAt r 4 4, thermSum := toSigned 64 (leAt r 8 8) })) b2
      (b3.setReg 0x1500 0 1).opEnd e 0x0417 true 0 0

/-! ## Retention tables (R317) -/

/-- Record i of the tables. -/
def retRecord (bs : Bytes) (i : Nat) : Bytes := slice bs (16 + 392 * i) 392

/-- Point k of emitter em: dose, retention. -/
def retPoint (r : Bytes) (em k : Nat) : Nat × Nat := (leAt r (8 + 128 * em + 8 * k) 4, leAt r (12 + 128 * em + 8 * k) 2)

/-- The points of one emitter are bad. -/
def pointsBad (r : Bytes) (em : Nat) : Bool :=
  retPoint r em 0 != (0, 0x8000) ||
  (upFrom 1 15).any (fun k => decide ((retPoint r em k).1 ≤ (retPoint r em (k - 1)).1) ||
    decide ((retPoint r em (k - 1)).2 < (retPoint r em k).2) || decide ((retPoint r em k).2 < 0x800))

/-- The rod map whose lamps correction generation g describes: that it was written for, whatever has become of that map since. -/
def Body.genMap (b : Body) (g : Nat) : Option RodMap :=
  match mfind g b.cor.genMaps with
  | some m => some m
  | none => b.mapOfTag (b.regN 0x1002 (g + 1))

/-- Bins that a generation of entries names, for the generations IN FORCE, PENDING and IDLE. -/
def Body.binsNamed (b : Body) : List Nat :=
  ((upFrom 0 2).map (fun g =>
    let st := b.gen 0 g
    if st = 2 ∨ st = 3 ∨ st = 4 then
      match b.genMap g with
      | some m => m.lampIds.map (fun i => leAt (b.bytes (b.entryAddr g i + 28) 2) 0 2)
      | none => []
    else [])).flatten

/-- A write of `age.retention`: every table is replaced (R317). -/
def retentionLoad (bs : Bytes) (b : Body) : Body × Rsp :=
  let n := leAt bs 6 2
  let bins := (upFrom 0 n).map (fun i => leAt (retRecord bs i) 0 2)
  if bs.length < 16 ∨ bs.take 4 ≠ [0x43, 0x57, 0x52, 0x54] ∨ leAt bs 4 2 ≠ 1 ∨ n = 0 ∨ 1024 < n ∨ bs.length ≠ 16 + 392 * n then (b, wrote stFormat)
  else if crc32c (bs.drop 16) ≠ leAt bs 12 4 then (b, wrote stCrc)
  else if bins.eraseDups.length ≠ n ∨ (upFrom 0 n).any (fun i =>
      let r := retRecord bs i
      decide (leAt r 4 2 < 0x100) || decide (0x800 < leAt r 4 2) || (upFrom 0 3).any (pointsBad r)) then (b, wrote stFormat)
  else if b.binsNamed.any (fun k => !(bins.contains k)) then (b, wrote stBin)
  else (b.setStr 0x1508 0 bs, wrote stOK)

/-! ## Lamp reckoning (R318 to R322) -/

/-- Quotient rounded to nearest; which way a tie goes is `tie`, a free value (log entry 8). -/
def roundTie (n d tie : Nat) : Nat := (2 * n + d - tie % 2) / (2 * Nat.max 1 d)

/-- Retention of an emitter at a dose, and whether the dose lies beyond the last point (R318). -/
def retention (r : Bytes) (em d tie : Nat) : Nat × Bool :=
  match (upFrom 0 15).find? (fun k => decide (d < (retPoint r em (k + 1)).1)) with
  | none => ((retPoint r em 15).2, decide ((retPoint r em 15).1 < d))
  | some k =>
    let p := retPoint r em k
    let q := retPoint r em (k + 1)
    (roundTie (p.2 * (q.1 - d) + q.2 * (d - p.1)) (q.1 - p.1) tie, false)

/-- What a reckoning makes of one lamp: its index, trims, flags without bit 3, need, and whether bit 3 is set whatever the ceiling. -/
structure Reckoned where
  lamp : Nat
  g : List Nat
  flags : Nat
  need : Option Nat
  beyond : Bool
deriving DecidableEq, Repr

/-- Record of a bin. -/
def Body.binRecord (b : Body) (bin : Nat) : Bytes :=
  let bs := b.str 0x1508 0
  ((upFrom 0 (leAt bs 6 2)).map (retRecord bs)).find? (fun r => leAt r 0 2 == bin) |>.getD []

/-- Reckon one lamp from its image entry and the flags folded into it; `k` numbers the free values it takes (R318, R319). -/
def Body.reckonLamp (b : Body) (m : RodMap) (i : Nat) (ent : Bytes) (flags k : Nat) : Reckoned :=
  let en := lampEntry ent
  let r := b.binRecord en.bin
  let t := match m.lampAt i with
    | some (rod, pos, _, _) => b.tile rod pos
    | none => Tile.reset
  let num : Int := if t.thermCount = 0 then 0 else t.thermSum - t.thermCount * toSigned 16 (leAt r 2 2)
  let per (em : Nat) : Nat × Bool :=
    let a := retention r em (effDose (b.dose i em) (leAt r 4 2) num t.thermCount) (Config.freeNum (k + 2 * em))
    let g0 := en.g.getD em 0
    if inMask flags em then (g0, a.2)
    else
      let g := roundTie (g0 * 32768) a.1 (Config.freeNum (k + 2 * em + 1))
      (Nat.min 0xFFFF g, a.2 || decide (0xFFFF < g))
  let ps := (upFrom 0 3).map per
  let gs := ps.map (fun p => p.1)
  let needs := ((upFrom 0 3).filter (fun em => !(inMask flags em))).map (fun em =>
    let row := en.m.getD (3 * em) 0 + en.m.getD (3 * em + 1) 0 + en.m.getD (3 * em + 2) 0
    let v : Int := (b.regN 0x1509 0 : Int) * row * (gs.getD em 0 : Nat)
    divUp v.toNat (2 ^ 29))
  { lamp := i, g := gs, flags := setBit flags 3 false,
    need := if needs.isEmpty then none else some (needs.foldl Nat.max 0), beyond := ps.any (fun p => p.2) }

/-- A number put into a list in rising order. -/
def insertUp (v : Nat) : List Nat → List Nat
  | [] => [v]
  | x :: xs => if v ≤ x then v :: x :: xs else x :: insertUp v xs

/-- The ceiling, before its limit (R319). -/
def ceilingOf (fraction : Nat) (needs : List Nat) : Nat :=
  let l := needs.foldr insertUp []
  let k := divUp (fraction * l.length) 1000000
  if k = 0 then 0 else l.getD (k - 1) 0

/-- Flags of a reckoned lamp under ceiling K (R319). -/
def Reckoned.flagsOf (x : Reckoned) (K : Nat) : Nat :=
  setBit x.flags 3 (x.beyond || (match x.need with
    | some v => decide (K < v)
    | none => false))

/-- Write one reckoned lamp into generation g: its image entry with new trims and flags. -/
def Body.writeLamp (b : Body) (g i : Nat) (ent : Bytes) (trims : List Nat) (flags : Nat) : Body :=
  b.store (b.entryAddr g i) (ent.take 18 ++ (trims.map (le 2)).flatten ++ slice ent 24 3 ++ [BitVec.ofNat 8 flags] ++ slice ent 28 4)

/-- Over-aged lamps of a generation (R319). -/
def Body.overAged (b : Body) (g : Nat) : Nat :=
  match b.genMap g with
  | some m => (m.lampIds.filter (fun i => bit (leAt (b.bytes (b.entryAddr g i + 27) 1) 0 1) 3)).length
  | none => 0

/-- Start `op.reckon` with arguments (R170, R171, R318, R377); a standby starts it only as its active directs. -/
def Body.reckonBegin (b : Body) (e : Env) (slot : Nat) (args : Map Int) : Body × Rsp :=
  let arg (k : Nat) : Int := mgetD 0 (key 0x0415 k) args
  if b.opBusy 0x0415 then (b, wrote stBusy)
  else if b.devState = devFrozen then (b.opRefuse e 0x0415 stFrozen 0, wrote stFrozen)
  else if !(b.genFree 0) then (b.opRefuse e 0x0415 stBusy 0, wrote stBusy)
  else if !b.follows ∧ b.regN 0x1500 0 = 0 ∧ arg 0x13 = 0 then (b.opRefuse e 0x0415 stNoDose 0, wrote stNoDose)
  else
    let b1 := if b.forwards then b.pairSend e (.operation 0x0415 1 (b.argBlock 0x0415)) else b
    let b2 := (b1.opBegin e 0x0415 slot []).beginGen 0
    ({ b2 with ops := (match mfind 0x0415 b2.ops with
        | some o => minsert 0x0415 { o with args := args } b2.ops
        | none => b2.ops) }, wrote stOK)

/-- A session's start of `op.reckon`. -/
def reckonStart (e : Env) (slot : Nat) (b : Body) : Body × Rsp :=
  if b.follows then (b, wrote stTwin) else b.reckonBegin e slot (b.opArgs 0x0415)

/-- The image a reckoning reads; its faults are those of a load (R169). -/
def Body.reckonImage (b : Body) : (Nat × Nat) ⊕ Bytes :=
  match b.appBytes (b.opArg 0x0415 0x10).toNat (b.opArg 0x0415 0x11).toNat with
  | none => .inl (stSource, 0)
  | some bs =>
    match b.imageFault bs with
    | some f => .inl f
    | none => .inr bs

/-- Record what a completed reckoning wrote into generation g. -/
def Body.reckonDone (b : Body) (e : Env) (g ceiling : Nat) (hd : Bytes) : Body :=
  let b1 := (((b.setGen 0 g 2).setReg 0x1001 (g + 1) (leAt hd 12 4 : Nat)).setReg 0x1002 (g + 1) (leAt hd 16 4 : Nat)).setReg 0x1003 (g + 1)
    (ceiling : Nat)
  let b2 := ((b1.tally e 14 1 1).setReg 0x150D 0 (e.wt : Nat)).raise e 960 0
  let now := if b2.inForce 0 = 0xFF then 0 else b2.overAged (b2.inForce 0)
  if now < b2.overAged g then b2.raise e 963 0 else b2

/-- A run of reckoned lamps with consecutive indices, at most 1,024. -/
def runOf : Nat → Nat → List (Nat × Nat × Nat × Nat × Nat) → List (Nat × Nat × Nat × Nat)
  | 0, _, _ => []
  | _, _, [] => []
  | k + 1, i, (j, x) :: l => if i = j then x :: runOf k (i + 1) l else []

/-- RESULT messages of reckoned lamps, in order (R452). -/
def tellResults (e : Env) : Nat → List (Nat × Nat × Nat × Nat × Nat) → Body → Body
  | 0, _, b => b
  | _, [], b => b
  | fuel + 1, (i, x) :: l, b =>
    let r := runOf 1024 i ((i, x) :: l)
    tellResults e fuel (((i, x) :: l).drop r.length) (b.pairSend e (.result i r none))

/-- `op.reckon` does its work and completes (R318 to R320, R322). A standby only takes its active's results. The step's end ends a cancel
(R427). -/
def reckonComplete (e : Env) (b : Body) : Body :=
  if b.opState 0x0415 = 3 then b.genCancelled e 0x0415
  else if b.opState 0x0415 ≠ 1 ∨ b.gen 0 (b.nonActive 0) ≠ 1 ∨ b.follows then b
  else
    match b.reckonImage with
    | .inl f => b.reckonFail e f.1 f.2
    | .inr bs =>
      match b.mapOfTag (leAt bs 16 4) with
      | none => b.reckonFail e stMapTag 0
      | some m =>
        let g := b.nonActive 0
        let opt := (b.opArg 0x0415 0x12).toNat
        let fold := if bit opt 1 then [] else b.toFold.filter (fun o => (m.lampAt o.lamp).isSome)
        let pend := b.cor.faults.filter (fun f => (m.lampAt f.lamp).isSome)
        let ents := m.lampIds.zip (imageEntries bs)
        let rs := (ents.zip (upFrom 0 ents.length)).map (fun p =>
          let i := p.1.1
          let img := leAt p.1.2 27 1
          let fl := match pend.find? (fun f => f.lamp == i) with
            | some f => f.flags
            | none => withOverride img (fold.find? (fun o => o.lamp == i)) % 256
          (p.1.2, b.reckonLamp m i p.1.2 fl (b.free + 6 * p.2)))
        let k0 := ceilingOf (b.regN 0x150A 0) (rs.filterMap (fun r => r.2.need))
        let K := Nat.min k0 (b.regN 0x150B 0)
        let b1 := (rs.foldl (fun x r => x.writeLamp g r.2.lamp r.1 r.2.g (r.2.flagsOf K)) b).tookFree (6 * rs.length)
        let b2 := { b1 with cor := { b1.cor with folded := b.toFold, genMaps := minsert g m b1.cor.genMaps,
                                                 faults := b1.cor.faults.filter (fun f => !(pend.contains f)) } }
        let b3 := if K < k0 then b2.raise e 962 0 else b2
        let b4 := b3.reckonDone e g K bs
        let b5 := if b4.forwards then
            (tellResults e (rs.length + 1) (rs.map (fun r => (r.2.lamp, r.2.g.getD 0 0, r.2.g.getD 1 0, r.2.g.getD 2 0, r.2.flagsOf K))) b4).pairSend
              e (.result 0 [] (some (K, b4.overAged g)))
          else b4
        b5.loadDone e 0x0415 opt 1

/-- A RESULT of the active unit: trims and flags of consecutive lamps, then the ceiling (R322). -/
def Body.takeResult (b : Body) (e : Env) (first : Nat) (lamps : List (Nat × Nat × Nat × Nat)) (final : Option (Nat × Nat)) : Body :=
  if b.opState 0x0415 ≠ 1 ∨ b.gen 0 (b.nonActive 0) ≠ 1 then b
  else
    let g := b.nonActive 0
    match b.reckonImage with
    | .inl f => b.reckonFail e f.1 f.2
    | .inr bs =>
      let m := (b.mapOfTag (leAt bs 16 4)).getD ⟨0, 0, 0, 0, []⟩
      let ents := imageEntries bs
      let b1 := ((upFrom first lamps.length).zip lamps).foldl (fun x p =>
        let ent := ((m.lampRank p.1).map (fun r => ents.getD r [])).getD []
        x.writeLamp g p.1 (fit 0 32 ent) [p.2.1, p.2.2.1, p.2.2.2.1] p.2.2.2.2) b
      match final with
      | none => b1
      | some f =>
        let b2 := { b1 with cor := { b1.cor with folded := b1.toFold, genMaps := minsert g m b1.cor.genMaps, faults := b1.cor.faults.filter (fun x => (m.lampAt x.lamp).isNone) } }
        (b2.reckonDone e g f.1 bs).opEnd e 0x0415 true 0 0

/-- Every `age.period` hours, `op.reckon` starts with the source of `age.auto_src` and arms its swap (R321). -/
def autoReckon (e : Env) (b : Body) : Body :=
  let v := b.regN 0x150F 0
  if b.regN 0x150E 0 = 0 ∨ v = 0 ∨ b.follows ∨ b.devState < devVerified then b
  else
    (b.reckonBegin e 0xFF [(key 0x0415 0x10, (v / 2 ^ 24 * 256 : Nat)), (key 0x0415 0x11, (v % 2 ^ 24 * 65536 : Nat)),
                           (key 0x0415 0x12, 1)]).1

/-! ## Meanings -/

/-- SETPOINT_INSTANT (R298). -/
def execSetpointInstant (s : State) : Host.Outcome State Fault Refusal := s.act (setpointInstant s.env)

/-- DOSE_EXPORT_START (R316). -/
def execDoseExportStart (r : Req) (s : State) : Host.Outcome State Fault Refusal :=
  s.act (serveWrite s.env r 0x0416 1 (.n 1) (fun slot => doseExportStart s.env slot))

/-- DOSE_EXPORT_COMPLETE (R316). -/
def execDoseExportComplete (s : State) : Host.Outcome State Fault Refusal := s.act (doseExportComplete s.env)

/-- DOSE_IMPORT_START (R316). -/
def execDoseImportStart (r : Req) (s : State) : Host.Outcome State Fault Refusal :=
  s.act (serveWrite s.env r 0x0417 1 (.n 1) (fun slot => doseImportStart s.env slot))

/-- DOSE_IMPORT_COMPLETE (R316). -/
def execDoseImportComplete (s : State) : Host.Outcome State Fault Refusal := s.act (doseImportComplete s.env)

/-- RETENTION_LOAD (R317). -/
def execRetentionLoad (r : Req) (data : Bytes) (s : State) : Host.Outcome State Fault Refusal :=
  s.act (serveWrite s.env r 0x1508 0 (.b data) (fun _ => retentionLoad data))

/-- RECKON_START (R318). -/
def execReckonStart (r : Req) (s : State) : Host.Outcome State Fault Refusal :=
  s.act (serveWrite s.env r 0x0415 1 (.n 1) (fun slot => reckonStart s.env slot))

/-- RECKON_COMPLETE (R318 to R320). -/
def execReckonComplete (s : State) : Host.Outcome State Fault Refusal := s.act (reckonComplete s.env)

/-- AUTO_RECKON_TIMER (R321). -/
def execAutoReckonTimer (s : State) : Host.Outcome State Fault Refusal := s.act (autoReckon s.env)

end Sys2Proof.Machine
end

