-- ==== Sys2Proof/Machine/Hbm.lean ====
section
/-! DEFINITION. The HBM controllers: queues, picks, refresh, ECC, the rake, panic and the freeze (R361, R365 to R378). -/

namespace Sys2Proof.Machine

/-! ## Priorities (R369 to R371) -/

/-- Urgency of age a (ns) against target t (R370). -/
def urgency (a t : Nat) : Nat := if 2 * a < t then 0 else if 4 * a < 3 * t then 1 else if a < t then 2 else 3

/-- The queue entry of a rake read of unit u: of the sweep, or of the repair list (R375). -/
def rakeEntry (e : Env) (u : Nat) (listed : Bool) : MemEntry := ⟨12, b2n listed, .rake, u, 0, false, [], 64, e.tb, false, none⟩

/-- Priority of an entry: 6 panic, 5 urgency 3, 4 real-time, 3 to 1 urgency 2 to 0, 0 background; a repair entry that has aged has urgency 0
(R371, R374). -/
def Body.prio (b : Body) (e : Env) (q : MemEntry) : Nat :=
  if q.port ≤ 2 then (if b.hbm.panic.contains (q.port, q.buffer) then 6 else 4)
  else if q.port ≤ 11 then [1, 2, 3, 5].getD (urgency ((e.tb - q.tb) * 2) (b.regN 0x180A (q.port + 1))) 0
  else b2n (q.buffer == 1 && b.hbm.repair.any (fun r => r.1 == q.unit && r.2.2))

/-- The priority of a queue: the highest of its entries (R366). -/
def Body.queuePrio (b : Body) (e : Env) (q : List MemEntry) : Nat := (q.map (b.prio e)).foldl Nat.max 0

/-- A buffer of port 0 or 1 is in panic (R372). -/
def Body.readPanic (b : Body) : Bool := b.hbm.panic.any (fun p => decide (p.1 ≤ 1))

/-- The level of a real-time buffer crosses its threshold (R369). -/
def bufferPanic (e : Env) (port buffer level : Nat) (b : Body) : Body :=
  let th := b.regN 0x1809 (port + 1)
  if 3 ≤ port ∨ [48, 12, 4].getD port 0 ≤ buffer then b
  else if level < th ∧ !(b.hbm.panic.contains (port, buffer)) then
    (({ b with hbm := { b.hbm with panic := b.hbm.panic ++ [(port, buffer)] } }).bump 0x180B (port + 1) 1).raiseSlow e
      (837000 + port) 837 0
  else if th + 10 ≤ level then { b with hbm := { b.hbm with panic := b.hbm.panic.filter (· != (port, buffer)) } }
  else b

/-! ## The freeze (R376, R378) -/

/-- A command record (R378). -/
def cmdRecord (e : Env) (cmd pc bank port row col prio : Nat) : Bytes :=
  le 4 ((e.inDomain (54 + pc / 32)).t64 % 2 ^ 32) ++ le 1 cmd ++ le 1 pc ++ le 1 bank ++ le 1 port ++ le 2 row ++ le 1 col ++ le 1 prio ++ le 4 0

/-- Record a command of pseudo-channel p: the last 256 of its controller. -/
def Body.record (b : Body) (p : Nat) (r : Bytes) : Body :=
  let l := mgetD [] (p / 32) b.hbm.cmds ++ [r]
  { b with hbm := { b.hbm with cmds := mputD [] (p / 32) (l.drop (l.length - 256)) b.hbm.cmds } }

/-- Queue state of a pseudo-channel (R378). -/
def Body.queueState (b : Body) (e : Env) (p : Nat) : Bytes :=
  let x := b.pch p
  (upFrom 0 48).map (fun k => BitVec.ofNat 8 (x.queue k).length) ++ le 1 x.ptr ++
    le 1 ((x.queues.map (fun q => b.queuePrio e q.2)).foldl Nat.max 0) ++ le 14 0

/-- What the freeze log names (R378). -/
structure FreezeAt where
  cause : Nat
  pc : Nat
  bank : Nat
  row : Nat
  col : Nat
  port : Nat
  addr : Nat
  syndromes : List Nat
  severity : Nat
deriving DecidableEq, Repr

/-- The freeze log (R378). Command records missing at the start of a history are zeros behind the last. -/
def Body.freezeLog (b : Body) (e : Env) (f : FreezeAt) : Bytes :=
  let head := [0x43, 0x57, 0x46, 0x5A] ++ le 2 1 ++ le 2 64 ++ le 1 f.cause ++ le 1 (f.pc / 32) ++ le 1 f.pc ++ le 1 f.bank ++
    le 2 f.row ++ le 1 f.col ++ le 1 f.port ++ le 8 f.addr ++ (fit 0 8 f.syndromes).map (BitVec.ofNat 8) ++ le 1 f.severity ++
    le 7 0 ++ le 8 (e.inDomain (54 + f.pc / 32)).t64 ++ le 8 (b.regN 0x0981 0) ++ le 4 0
  let ctl (k : Nat) : Bytes := fit 0 4096 (mgetD [] k b.hbm.cmds).flatten ++
    ((upFrom (32 * k) 32).map (b.queueState e)).flatten
  head ++ le 4 (crc32c head) ++ ctl 0 ++ ctl 1

/-- Answer a request. -/
def Body.memAnswer (b : Body) (q : MemEntry) (ok : Bool) (data : Bytes) : Body :=
  if q.port = 12 then b else b.emit (.memRsp q.port ok data)

/-- Every request the controllers hold is answered with MEMERR: a channel that issued one faults, and an operation that did fails (R376, R396). -/
def Body.dropRequests (b : Body) (e : Env) : Body :=
  let all := (b.hbm.pcs.map (fun p => p.2.entries)).flatten
  let chans := (b.dma.map (fun p => p.1)).filter (fun c => all.any (fun q => q.dma.any (fun d => d.1 == c)))
  let b1 := (all.filter (fun q => q.dma.isNone)).foldl (fun x q => x.memAnswer q false [])
    { b with hbm := { b.hbm with pcs := b.hbm.pcs.map (fun (p : Nat × PseudoCh) =>
        (p.1, { p.2 with queues := [], fabric := [], act := [] })) } }
  (chans.foldl (fun x c => x.chFaults e c 5) b1).memOpsFail e

/-- The freeze log and what a thaw tests are those of an error (R378, R379). -/
def Body.logFreeze (b : Body) (e : Env) (f : FreezeAt) : Body :=
  let b1 := b.setStr 0x1820 0 (b.freezeLog e f)
  { b1 with hbm := { b1.hbm with cause := f.cause, failRow := if f.cause ≤ 3 then some (f.pc, f.bank, f.row) else none } }

/-- Both controllers freeze, and the device enters FROZEN (R376); from SAFE it does not, where a later doubt changes nothing (R442, R445; log
entry 37). A further error while frozen changes nothing; what the queues held is kept for an error of controller 0 on the same slot (R378). -/
def Body.freeze (b : Body) (e : Env) (f : FreezeAt) : Body :=
  if b.regN 0x1805 0 = 3 then b
  else
    let b1 := (b.logFreeze e f).setReg 0x1805 0 3
    let b2 := { b1 with hbm := { b1.hbm with slot := if 32 ≤ f.pc ∧ f.cause ≤ 3 then some (e.tb, b.hbm.pcs) else none },
                        dev := { b1.dev with coresHalted := true } }
    (((b2.raise e 834 0).tally e 11 0 1).dropRequests e).doubt e 2 f.cause

/-- An error that controller 0 finds on the slot of the freeze is recorded in place of controller 1's (R378). -/
def Body.relog (b : Body) (e : Env) (f : FreezeAt) : Body :=
  let b1 := b.logFreeze e f
  let b2 := { b1 with hbm := { b1.hbm with slot := none } }
  if b2.regN 0x1A10 0 = 2 then b2.setReg 0x1A12 0 (f.cause : Nat) else b2

/-- The state in which an error of pseudo-channel p counts: as it is, or, on the slot on which controller 1 has found one, as controller 0 stood. -/
def Body.atSlot (b : Body) (e : Env) (p : Nat) : Option Body :=
  match b.hbm.slot with
  | some (t, pcs) => if b.regN 0x1805 0 = 3 ∧ t = e.tb ∧ p < 32 then some { b with hbm := { b.hbm with pcs := pcs } } else none
  | none => none

/-- A freeze without a request: cause and pseudo-channel (R376, R378). -/
def Body.freezeBare (b : Body) (e : Env) (cause p : Nat) : Body := b.freeze e ⟨cause, p, 0, 0, 0, if cause = 5 then 0 else 255, 0, [], 0⟩

/-! ## ECC (R373) -/

/-- A read of unit u of pseudo-channel p was corrected: counters, the last address, the hourly warning. -/
def Body.corrected (b : Body) (e : Env) (p u : Nat) : Body :=
  let h := e.tb / 1800000000000
  let old := mgetD (0, 0, false) p b.hbm.hour
  let n := if old.1 = h then old.2.1 + 1 else 1
  let told := decide (old.1 = h) && old.2.2
  let due := !told && decide (b.regN 0x1813 0 < n)
  let b1 := ((b.bump 0x1810 (p + 1) 1).setReg 0x1812 0 (u * 64 : Nat))
  let b2 := { b1 with hbm := { b1.hbm with hour := mputD (0, 0, false) p (h, n, told || due) b1.hbm.hour } }
  if due then b2.raise e 833 0 else b2

/-- What the freeze log names for an error a read finds; none where it finds none (R373, R378). -/
def EccAt (order u port col : Nat) (f : EccFound) : Option FreezeAt :=
  let x := placeOf order u
  let at' (cause : Nat) (sy : List Nat) (sev : Nat) : FreezeAt := ⟨cause, x.pc, x.bank, x.row, col, port, u * 64, sy, sev⟩
  match f with
  | .double sy => some (at' 1 sy 0)
  | .onDie sev => some (at' 2 [] sev)
  | .command => some (at' 3 [] 0)
  | _ => none

/-! ## Requests and picks (R365, R366) -/

/-- A range cut at the bounds of units: start and length of each piece (R365). -/
def unitPieces (a n : Nat) : List (Nat × Nat) :=
  (upFrom (a / 64) (if n = 0 then 0 else divUp (a % 64 + n) 64)).map (fun u =>
    (Nat.max a (64 * u), Nat.min (a + n) (64 * u + 64) - Nat.max a (64 * u)))

/-- An entry comes to its bank queue, or waits in the fabric behind a full one (R365). -/
def Body.enqueue (b : Body) (x : MemEntry) : Body :=
  let p := placeOf b.hbm.order x.unit
  let c := b.pch p.pc
  if (c.queue p.bank).length < 8 ∧ mgetD [] p.bank c.fabric = [] then b.setPch p.pc (c.setQueue p.bank (c.queue p.bank ++ [x]))
  else b.setPch p.pc { c with fabric := mputD [] p.bank (mgetD [] p.bank c.fabric ++ [x]) c.fabric }

/-- A unit enters the repair list, and with it a queue of its bank (R374, R375). -/
def Body.listRepair (b : Body) (e : Env) (u : Nat) : Body :=
  if b.hbm.repair.length < 64 ∧ !(b.hbm.repair.any (fun r => r.1 == u)) then
    { b with hbm := { b.hbm with repair := b.hbm.repair ++ [(u, e.tb, false)] } }.enqueue (rakeEntry e u true)
  else b

/-- The entry of a request for the n bytes from a, which lie in one unit. -/
def entryOf (e : Env) (q : MemReq) (a n : Nat) : MemEntry :=
  ⟨q.port, q.buffer, q.agent, a / 64, a % 64, q.write, (q.data.drop (a - q.addr)).take n, n, e.tb, q.cached, none⟩

/-- A request comes to the bank queues of its units through the firewall (R31, R365). -/
def hbmRequest (e : Env) (q : MemReq) (b : Body) : Body :=
  let x := entryOf e q q.addr q.len
  if b.regN 0x1805 0 ≠ 2 then b.memAnswer x false []
  else if !(b.allowed q.agent q.addr q.len q.write) then (b.memAnswer x false []).raise e 832 0
  else (unitPieces q.addr q.len).foldl (fun y p => y.enqueue (entryOf e q p.1 p.2)) b

/-- The port of the application cores (R368). -/
abbrev corePort : Nat := 10

/-- The data of a read that has ended. The cores' own read that their caches keep takes the bytes they hold already, and fills the rest; one
they do not keep leaves no copy behind (R382, log entry 88). -/
def Body.readData (b : Body) (q : MemEntry) (a : Nat) : Body × Bytes :=
  if q.agent ≠ .cores ∨ q.port ≠ corePort then (b, b.heldBytes a q.len)
  else if q.cached then
    let bs := (upFrom a q.len).map b.snoop
    (b.keepCopies a bs, bs)
  else (b.dropCopies a q.len, b.heldBytes a q.len)

/-- An access ends at its second column command without an uncorrectable error: lateness, data, the answer; `corrected` says that either of its
column commands was (R370, R373). A request of a channel is answered to it (R394). -/
def Body.endAccess (b : Body) (e : Env) (p : Nat) (q : MemEntry) (corrected : Bool) : Body :=
  let late := decide (3 ≤ q.port) && decide (q.port ≤ 11) && decide (b.regN 0x180A (q.port + 1) ≤ (e.tb - q.tb) * 2)
  let b1 := if late then b.bump 0x180C (q.port + 1) 1 else b
  let a := q.unit * 64 + q.off
  let b2 := if corrected then (b1.corrected e p q.unit).listRepair e q.unit else b1
  match q.dma with
  | some (c, id) =>
    if q.write then (b2.dmaStore c a (q.data.take q.len)).modReq c id (fun r => { r with ans := some .ok })
    else b2.modReq c id (fun r => { r with ans := some .ok, data := b2.dmaRead c a q.len })
  | none =>
    if q.write then
      let b3 := if q.agent = .cores ∧ q.port = corePort then b2.dropCopies a q.len else b2
      (b3.store a (q.data.take q.len)).memAnswer q true []
    else
      let r := b2.readData q a
      r.1.memAnswer q true r.2

/-- A bank queue gives up its head: a request waiting in the fabric takes the place. -/
def PseudoCh.pop (x : PseudoCh) (k : Nat) : PseudoCh :=
  match x.queue k, mgetD [] k x.fabric with
  | _ :: q, w :: ws => { (x.setQueue k (q ++ [w])) with fabric := mputD [] k ws x.fabric }
  | _ :: q, [] => x.setQueue k q
  | [], _ => x

/-- Bring a refresh of a bank to pseudo-channel p's record. -/
def Body.refreshed (b : Body) (e : Env) (p k : Nat) : Body := b.record p (cmdRecord e 6 p k 255 0 0 0)

/-- One refresh of a bank that was due is no longer. -/
def Body.refreshBank (b : Body) (p k : Nat) : Body :=
  let c := b.pch p
  let n := mgetD 0 k c.owed - 1
  b.setPch p { c with owed := mputD 0 k n c.owed, held := if n = 0 then c.held.filter (· != k) else c.held }

/-- The bank whose refresh goes before activates: one at its limit of eight, or one postponed under panic once panic has cleared (R372). -/
def Body.refreshFirst (b : Body) (c : PseudoCh) : Option Nat :=
  (c.owed.find? (fun o => (decide (8 ≤ o.2) || (c.held.contains o.1 && !b.readPanic)) && (mfind o.1 c.act).isNone)).map (fun o => o.1)

/-- The bank the search takes: the first from the pointer upward among those with the highest priority (R366). -/
def pickBank (ptr : Nat) (cand : List (Nat × Nat)) : Option (Nat × Nat) :=
  let top := (cand.map (fun c => c.2)).foldl Nat.max 0
  ((upFrom 0 48).map (fun i => (ptr + i) % 48)).findSome? (fun k => cand.find? (fun c => c.1 == k && c.2 == top))

/-- The banks an activate may go to, with their priorities: those that are ready, have an entry and no access activated; one that holds nothing but
background entries only while no queue of the pseudo-channel holds another (R366, R371). -/
def Body.openBanks (b : Body) (e : Env) (c : PseudoCh) (ready : List Nat) : List (Nat × Nat) :=
  let busy := c.queues.any (fun q => decide (0 < b.queuePrio e q.2))
  (((upFrom 0 48).filter (fun k => ready.contains k && !(c.queue k).isEmpty && (mfind k c.act).isNone)).map (fun k =>
    (k, b.queuePrio e (c.queue k)))).filter (fun x => !busy || decide (0 < x.2))

/-- What a command slot issues: the next command of an activated access of a bank, a refresh, or an activate with its priority. -/
inductive SlotCmd where
  | next (k : Nat) (q : MemEntry) (n : Nat) (fixed : Bool)
  | refresh (k : Nat)
  | activate (k : Nat) (q : MemEntry) (prio : Nat)
deriving DecidableEq, Repr

/-- The command of a slot of pseudo-channel p: the column command that is due, a refresh that goes first, the activate picked, or a refresh due
(R366, R372). -/
def Body.slotCmd (b : Body) (e : Env) (p : Nat) (t : CmdSlot) : Option SlotCmd :=
  let c := b.pch p
  match t.due.bind (fun k => (mfind k c.act).map (fun a => SlotCmd.next k a.1 a.2.1 a.2.2)) with
  | some x => some x
  | none =>
    match b.refreshFirst c with
    | some k => some (.refresh k)
    | none =>
      match pickBank c.ptr (b.openBanks e c t.ready) with
      | some (k, pr) => (c.queue k).head?.map (fun q => .activate k q pr)
      | none => (c.owed.find? (fun o => (mfind o.1 c.act).isNone)).map (fun o => .refresh o.1)

/-- Command code and column of step n of an activated access: two column commands, and of a rake's rewrite an activate and two more (R361, R375,
R378). -/
def stepOf (write : Bool) (col n : Nat) : Nat × Nat :=
  match n with
  | 0 => (if write then 4 else 2, 2 * col)
  | 1 => (if write then 5 else 3, 2 * col + 1)
  | 2 => (1, 0)
  | 3 => (4, 2 * col)
  | _ => (5, 2 * col + 1)

/-- The error a command meets: command-address parity on any, an uncorrectable data error on a read's column command (R373, R376). -/
def Body.slotError (b : Body) (p : Nat) (x : SlotCmd) (found : EccFound) : Option FreezeAt :=
  let o := b.hbm.order
  match x with
  | .next _ q n _ =>
    if n ≤ 1 ∧ !q.write then EccAt o q.unit q.port (stepOf q.write (placeOf o q.unit).col n).2 found
    else if found = .command then EccAt o q.unit q.port (stepOf q.write (placeOf o q.unit).col n).2 .command else none
  | .activate _ q _ => if found = .command then EccAt o q.unit q.port 0 .command else none
  | .refresh k => if found = .command then some ⟨3, p, k, 0, 0, 255, 0, [], 0⟩ else none

/-- The record of a slot's command (R378). -/
def Body.slotRecord (b : Body) (e : Env) (p : Nat) (x : SlotCmd) : Bytes :=
  match x with
  | .next k q n _ =>
    let at' := placeOf b.hbm.order q.unit
    let s := stepOf q.write at'.col n
    cmdRecord e s.1 p k q.port at'.row s.2 (b.prio e q)
  | .activate k q pr => cmdRecord e 1 p k q.port (placeOf b.hbm.order q.unit).row 0 pr
  | .refresh k => cmdRecord e 6 p k 255 0 0 0

/-- The access of bank k goes on to another step, or is over. -/
def Body.setAct (b : Body) (p k : Nat) (a : Option (MemEntry × Nat × Bool)) : Body :=
  let c := b.pch p
  b.setPch p { c with act := match a with
    | some x => minsert k x c.act
    | none => merase k c.act }

/-- A rake read has ended, a repair entry with its place in the list (R374). -/
def Body.raked (b : Body) (q : MemEntry) : Body :=
  if q.buffer = 1 then { b with hbm := { b.hbm with repair := b.hbm.repair.filter (fun (r : Nat × Nat × Bool) => r.1 != q.unit) } } else b

/-- A slot's command takes effect. A rake read that was corrected goes on to its rewrite, with no other command to the unit between (R375). -/
def Body.runSlot (b : Body) (e : Env) (p : Nat) (x : SlotCmd) (found : EccFound) : Body :=
  match x with
  | .next k q n fixed =>
    let hit := fixed || (found == .corrected && !q.write)
    (match n with
     | 0 => b.setAct p k (some (q, 1, hit))
     | 1 =>
       if q.port = 12 then (if hit then (b.corrected e p q.unit).setAct p k (some (q, 2, true)) else (b.setAct p k none).raked q)
       else (b.setAct p k none).endAccess e p q hit
     | 2 => b.setAct p k (some (q, 3, true))
     | 3 => b.setAct p k (some (q, 4, true))
     | _ => ((b.setAct p k none).bump 0x181A 0 1).raked q)
  | .activate k q _ =>
    let c := b.pch p
    b.setPch p { (c.pop k) with act := minsert k (q, 0, false) c.act, ptr := (k + 1) % 48 }
  | .refresh k => b.refreshBank p k

/-- A command slot of pseudo-channel p (R366): its command is recorded, and takes effect or meets an error. `t` says which bank's column command is
due and which banks' timing permits an activate. -/
def commandPick (e : Env) (p : Nat) (t : CmdSlot) (found : EccFound) (b : Body) : Body :=
  if 64 ≤ p then b
  else
    match b.atSlot e p with
    | some y =>
      (match (y.slotCmd e p t).bind (fun x => y.slotError p x found) with
       | some f => b.relog e f
       | none => b)
    | none =>
      if b.regN 0x1805 0 ≠ 2 then b
      else
        match b.slotCmd e p t with
        | none => b
        | some x =>
          let b1 := b.record p (b.slotRecord e p x)
          match b1.slotError p x found with
          | some f => b1.freeze e f
          | none => b1.runSlot e p x found

/-- The pseudo-channel has nothing queued or activated, so that its slot is free. -/
def PseudoCh.quiet (c : PseudoCh) : Bool := c.queues.isEmpty && c.fabric.isEmpty && c.act.isEmpty

/-- A per-bank refresh falls due (R372, R376). In a pseudo-channel with nothing else to do it is issued; else it waits for a slot, postponed while a
buffer of port 0 or 1 is in panic. A bank that owes eight is refreshed before it owes another. -/
def refreshDue (e : Env) (p : Nat) (b : Body) : Body :=
  let st := b.regN 0x1805 0
  if 64 ≤ p ∨ st < 2 ∨ (st = 3 ∧ 3 ≤ b.hbm.cause) then b
  else
    let c := b.pch p
    let k := c.refPtr
    let n := mgetD 0 k c.owed
    let c1 := { c with refPtr := (k + 1) % 48 }
    if c.quiet || decide (8 ≤ n) then (b.setPch p c1).refreshed e p k
    else b.setPch p { c1 with owed := minsert k (n + 1) c.owed, held := if b.readPanic && !(c.held.contains k) then c.held ++ [k] else c.held }

/-! ## The rake (R374, R375) -/

/-- Units of the assigned regions. -/
def Body.assignedUnits (b : Body) : Nat := ((b.regions.map (fun r => r.2)).foldl (· + ·) 0) / 64

/-- The pseudo-channel of unit u has nothing to do but the rake's read. -/
def Body.quiet (b : Body) (u : Nat) : Bool :=
  let c := b.pch (placeOf b.hbm.order u).pc
  c.quiet && c.owed.isEmpty

/-- The slots of a rake read that finds its pseudo-channel quiet: its activate and column commands, and those of the rewrite where the read is
corrected; what the read finds shows on its last column command. Slots, the entry's bank. -/
def rakeSlots (e : Env) (p k : Nat) (found : EccFound) (b : Body) : Body :=
  let run (f : EccFound) (x : Body) : Body := if x.regN 0x1805 0 = 2 then commandPick e p ⟨some k, [k]⟩ f x else x
  let b1 := run found (run .clean (run .clean b))
  if found = .corrected then run .clean (run .clean (run .clean b1)) else b1

/-- The rake's read of the sweep's next unit enters its bank queue; in a quiet pseudo-channel, whose slots are free, it is served at once (R371,
R374, R375; log entry 113). -/
def rakeRead (e : Env) (found : EccFound) (b : Body) : Body :=
  if b.regN 0x1805 0 ≠ 2 then b
  else
    let u := b.hbm.rake
    let n := Nat.max 1 b.assignedUnits
    let v := (u + 1) % n
    let x := placeOf b.hbm.order u
    let b1 := (({ b with hbm := { b.hbm with rake := v } }).setReg 0x1819 0 ((v * 1000 / n : Nat) : Int)).enqueue (rakeEntry e u false)
    if b.quiet u then rakeSlots e x.pc x.bank found b1 else b1

/-- A repair entry older than 1 ms takes urgency-0 priority (R374). -/
def repairAged (e : Env) (u : Nat) (b : Body) : Body :=
  { b with hbm := { b.hbm with repair := b.hbm.repair.map (fun (r : Nat × Nat × Bool) =>
      if r.1 = u ∧ e.after r.2.1 1000000 then (r.1, r.2.1, true) else r) } }

/-! ## Training (R363, R379, R380) -/

/-- The controllers take the order and the sizes, every region is zeroed, the firewall stands, and nothing that lay in HBM is
left: frames, stills, tables and rod maps (R363, R379, R380). -/
def Body.zeroed (b : Body) : Body :=
  let b1 := { b with
    mem := []
    lay := { b.lay with bufs := [], heldFrame := [] }
    cor := { b.cor with maps := [], overrides := [], folded := [], loads := [] }
    hbm := { b.hbm with order := b.regN 0x1800 0, sizes := [b.regN 0x1801 0, b.regN 0x1802 0, b.regN 0x1803 0], pcs := [], cmds := [],
                        rake := 0, repair := [], cause := 0, copies := [], failRow := none, slot := none }
    num := b.num.filter (fun p => !([0x0C50, 0x0C52, 0x1000, 0x1001, 0x1002, 0x1003, 0x1004, 0x1006, 0x1012, 0x1013, 0x1014, 0x1500].contains (p.1 / 256))) }
  ((upFrom 1 8).foldl (fun x k => x.setReg 0x1804 k (x.base k : Nat)) b1).setReg 0x1805 0 2

/-! ## Meanings -/

/-- HBM_COMMAND_PICK (R366). -/
def execHbmCommandPick (pc : Nat) (slot : CmdSlot) (found : EccFound) (s : State) : Host.Outcome State Fault Refusal :=
  s.act (commandPick s.env pc slot found)

/-- REFRESH_DUE (R372). -/
def execRefreshDue (pc : Nat) (s : State) : Host.Outcome State Fault Refusal := s.act (refreshDue s.env pc)

/-- RAKE_READ (R374). -/
def execRakeRead (found : EccFound) (s : State) : Host.Outcome State Fault Refusal := s.act (rakeRead s.env found)

/-- REPAIR_ENTRY_AGED (R374). -/
def execRepairEntryAged (unit : Nat) (s : State) : Host.Outcome State Fault Refusal := s.act (repairAged s.env unit)

/-- BUFFER_PANIC (R369). -/
def execBufferPanic (port buffer level : Nat) (s : State) : Host.Outcome State Fault Refusal :=
  s.act (bufferPanic s.env port buffer level)

end Sys2Proof.Machine
end

