-- ==== Sys2Proof/Machine/Dma.lean ====
section
/-! DEFINITION. The DMA engine: the programs of its channels and their requests (R383 to R397, R400). -/

namespace Sys2Proof.Machine

/-! ## Programs (R386, R387) -/

/-- Word i of the instruction at the channel's PC. -/
def Body.word (b : Body) (c i : Nat) : Nat := leAt (b.dmaRead c ((b.ch c).pc + 8 * i) 8) 0 8

/-- Words of an opcode; none where it is not in the table. -/
def opWords (op : Nat) : Option Nat := [none, some 3, some 4, some 1, some 2, some 1, some 1].getD op none

/-- Reserved fields and field ranges of an instruction (DECODE of R386). -/
def wordsOk (ws : List Nat) : Bool :=
  let w := ws.getD 0 0
  match field w 63 56 with
  | 1 => field w 55 32 == 0 && decide (0 < field w 31 0)
  | 2 =>
    let k := field w 55 52
    let q := ws.getD 3 0
    decide (k ≤ 3) && decide (field w 50 48 ≤ 3) && field w 47 32 == 0 && decide (0 < field w 31 0) && (k == 0 || field w 51 51 == 0) &&
      (if k = 3 then q == 0 else field q 63 (if k = 0 then 56 else 48) == 0 && field q 39 32 == 0)
  | 3 => field w 55 48 == 0 && field w 31 16 == 0 && decide (0 < field w 15 0)
  | 4 =>
    let m := field w 55 48
    decide (m ≤ 3) && field w 47 10 == 0 && (m == 0 || field w 9 0 == 0) && (m != 0 || ws.getD 1 0 == 0)
  | 5 => decide (field w 55 48 ≤ 1) && field w 47 38 == 0
  | 6 => field w 55 1 == 0
  | _ => false

/-- The iteration index of loop level L: 0 when fewer loops are active. -/
def DmaCh.iter (x : DmaCh) (l : Nat) : Nat := ((x.loops[l]?).map (fun f => f.idx)).getD 0

/-- The DMA address an address word names (R387); one below 0 is out of every region. -/
def DmaCh.addr (x : DmaCh) (w : Nat) : Nat :=
  let a : Int := field w 39 0 + x.iter (field w 63 62) * toSigned 22 (field w 61 40)
  if a < 0 then 2 ^ 48 else a.toNat

/-- Leave the loops whose body ends at the PC, or go round (R390). -/
def loopBack (pc : Nat) : List LoopFrame → Nat × List LoopFrame
  | [] => (pc, [])
  | f :: fs =>
    if f.stop ≠ pc then (pc, f :: fs)
    else if f.count = 0 ∨ f.idx + 1 < f.count then (f.start, { f with idx := f.idx + 1 } :: fs)
    else loopBack pc fs

/-- An instruction has ended: the PC moves past its n words. -/
def DmaCh.past (x : DmaCh) (n : Nat) : DmaCh :=
  let r := loopBack (x.pc + 8 * n) x.loops
  { x with pc := r.1, loops := r.2, work := none, wait := none }

/-- Count an instruction (R395). -/
def Body.chCount (b : Body) (c : Nat) : Body :=
  let x := b.ch c
  (b.setCh c { x with executed := x.executed + 1 }).setReg 0x1906 (c + 1) (((x.executed + 1) % 2 ^ 32 : Nat) : Int)

/-- A program fetch of channel c is refused: event 832 where the firewall refuses it, and the channel faults (R31, R383, R396). -/
def Body.fetchFails (b : Body) (e : Env) (c code : Nat) : Body := (if code = 4 then b.raise e 832 0 else b).chFaults e c code

/-- An earlier write of the channel to a unit of a range is in a queue still, so that a fetch from it comes later (R367, R394). -/
def DmaCh.fetchWaits (x : DmaCh) (a n : Nat) : Bool :=
  x.reqs.any (fun r => r.write && r.ans.isNone && decide (a / 64 ≤ r.addr / 64) && decide (r.addr / 64 ≤ (a + n - 1) / 64))

/-- Run `h` on the words of the instruction at the PC where it is one of opcode `op`: the checks before it make the faults of
R386, R395 and R396. A channel that is not ready for an instruction, stands at another, or has yet to fetch it behind a write of its own, is left
as it is. The fetch itself takes no place in the queues (DESIGN CHOICE, log entry 113). -/
def Body.chStep (b : Body) (e : Env) (c op : Nat) (h : DmaCh → List Nat → Body → Body) : Body :=
  let x := b.ch c
  if b.chState c ≠ chRunning ∨ x.work.isSome then b
  else if x.budget ≤ x.executed then b.chFaults e c 2
  else
    match b.accessBad c x.pc 8 false with
    | 0 =>
      if x.fetchWaits x.pc 8 then b
      else (match opWords (field (b.word c 0) 63 56) with
       | none => b.chFaults e c 6
       | some n =>
        let ws := (upFrom 0 n).map (b.word c)
        match b.accessBad c x.pc (8 * n) false with
        | 0 => if x.fetchWaits x.pc (8 * n) then b else if !(wordsOk ws) then b.chFaults e c 6 else if field (ws.getD 0 0) 63 56 ≠ op then b else h x ws b
        | code => b.fetchFails e c code)
    | code => b.fetchFails e c code

/-! ## Moves (R388, R389, R394) -/

/-- Two ranges overlap. -/
def meet (a n d m : Nat) : Bool := decide (a < d + m) && decide (d < a + n)

/-- Parameters of a MOVEX. -/
structure MoveX where
  kind : Nat
  dir : Nat
  size : Nat
  n : Nat
  lo : Nat
  planes : Nat
  pitch : Nat
deriving DecidableEq, Repr

/-- Fields of a MOVEX. -/
def moveXOf (ws : List Nat) : MoveX :=
  let w := ws.getD 0 0
  let q := ws.getD 3 0
  ⟨field w 55 52, field w 51 51, 2 ^ field w 50 48, field w 31 0, field q 55 48, field q 47 40, field q 31 0⟩

/-- The rules of the parameters of word 3 and of the size (PARAM of R389). -/
def MoveX.ok (m : MoveX) : Bool :=
  match m.kind with
  | 0 => m.size == 2 && decide (m.lo ≤ 15) && decide (1 ≤ m.planes) && decide (m.planes ≤ 16) && decide (m.lo + m.planes ≤ 16) &&
      decide (divUp m.n 8 ≤ m.pitch)
  | 3 => decide (2 ≤ m.size)
  | _ => decide (2 ≤ m.planes) && decide (m.planes ≤ 16)

/-- The arrays of a transform: offsets and lengths of its packed side, or of its side of planes or components. -/
def MoveX.packed (m : MoveX) : List (Nat × Nat) :=
  match m.kind with
  | 0 => [(0, 2 * m.n)]
  | 3 => [(0, m.size * m.n)]
  | _ => [(0, m.size * m.n * m.planes)]

/-- Offsets and lengths of the side of planes or components. -/
def MoveX.split (m : MoveX) : List (Nat × Nat) :=
  match m.kind with
  | 0 => (upFrom 0 m.planes).map (fun j => (j * m.pitch, divUp m.n 8))
  | 3 => [(0, m.size * m.n)]
  | _ => (upFrom 0 m.planes).map (fun j => (j * m.pitch, m.size * m.n))

/-- The transform reads the packed side. -/
def MoveX.fromPacked (m : MoveX) : Bool := (m.kind == 0 && m.dir == 0) || m.kind == 2 || m.kind == 3

/-- Offsets and lengths of the source of an instruction. -/
def srcRanges (ws : List Nat) : List (Nat × Nat) :=
  if field (ws.getD 0 0) 63 56 = 1 then [(0, field (ws.getD 0 0) 31 0)]
  else if (moveXOf ws).fromPacked then (moveXOf ws).packed else (moveXOf ws).split

/-- Offsets and lengths of the destination of an instruction. -/
def dstRanges (ws : List Nat) : List (Nat × Nat) :=
  if field (ws.getD 0 0) 63 56 = 1 then [(0, field (ws.getD 0 0) 31 0)]
  else if (moveXOf ws).fromPacked then (moveXOf ws).split else (moveXOf ws).packed

/-- A number of size bytes, little-endian, at an offset of a source read by `rd`. -/
def rdNum (rd : Nat → Byte) (off size : Nat) : Nat := ofLE ((upFrom off size).map rd)

/-- Byte at offset o of the destination's array j, from the source's bytes by offset (R388, R389). -/
def moveByte (ws : List Nat) (rd : Nat → Byte) (j o : Nat) : Byte :=
  if field (ws.getD 0 0) 63 56 = 1 then rd o
  else
    let m := moveXOf ws
    match m.kind with
    | 0 =>
      if m.dir = 0 then
        let i0 := 8 * o
        BitVec.ofNat 8 (((upFrom 0 8).map (fun k =>
          if i0 + k < m.n ∧ bit (rdNum rd (2 * (i0 + k)) 2) (m.lo + j) then 2 ^ (7 - k) else 0)).foldl (· + ·) 0)
      else
        let i := o / 2
        let v := ((upFrom 0 m.planes).map (fun j =>
          if bit (rd (j * m.pitch + i / 8)).toNat (7 - i % 8) then 2 ^ (m.lo + j) else 0)).foldl (· + ·) 0
        BitVec.ofNat 8 (v / 256 ^ (o % 2))
    | 1 =>
      let el := o / m.size
      rd (el % m.planes * m.pitch + el / m.planes * m.size + o % m.size)
    | 2 => rd ((m.planes * (o / m.size) + j) * m.size + o % m.size)
    | _ => rd (o / m.size * m.size + (m.size - 1 - o % m.size))

/-- The byte at an address among the bytes read. -/
def gotByte (got : List (Nat × Bytes)) (a : Nat) : Byte :=
  match got.find? (fun g => decide (g.1 ≤ a) && decide (a < g.1 + g.2.length)) with
  | some g => g.2.getD (a - g.1) 0
  | none => 0

/-- Writes of a move once every read has returned, array by array; where arrays of a small pitch share bytes the later is written last (R394). -/
def DmaWork.outputs (w : DmaWork) : List (Nat × Bytes) :=
  let rs := dstRanges w.words
  ((rs.zip (upFrom 0 rs.length)).map (fun r => (unitPieces (w.dst + r.1.1) r.1.2).map (fun p =>
    (p.1, (upFrom p.1 p.2).map (fun a => moveByte w.words (fun o => gotByte w.got (w.src + o)) r.2 (a - (w.dst + r.1.1))))))).flatten

/-- Channel c issues a request of n bytes at an address within one unit: to the SRAM, which answers it, or to the queue of its bank; one the firewall
refuses raises event 832, and a frozen memory answers MEMERR (R31, R365, R376, R383, R396). -/
def Body.request (b : Body) (e : Env) (c a n : Nat) (data : Option Bytes) : Body :=
  let x := b.ch c
  let bs := data.getD []
  let put (y : Body) (ans : Option DmaAnswer) (d : Bytes) : Body :=
    y.setCh c { y.ch c with nextId := x.nextId + 1, reqs := x.reqs ++ [⟨x.nextId, e.tb, a, n, data.isSome, d, ans⟩] }
  match b.accessBad c a n data.isSome with
  | 0 =>
    if sramBase ≤ a then
      (if data.isSome then put (b.dmaStore c a bs) (some .ok) bs else put b (some .ok) (b.dmaRead c a n))
    else (put b none bs).enqueue ⟨9, 0, chAgent c, a / 64, a % 64, data.isSome, bs, n, e.tb, false, some (c, x.nextId)⟩
  | 4 => put (b.raise e 832 0) (some .firewall) bs
  | _ => put b (some .memerr) bs

/-- Issue what a channel may issue, up to 64 requests outstanding; the move ends once every write has been issued (R394). -/
def issueDma : Nat → Env → Nat → Body → Body
  | 0, _, _, b => b
  | fuel + 1, e, c, b =>
    let x := b.ch c
    match x.work with
    | none => b
    | some w =>
      if 64 ≤ x.reqs.length then b
      else
        match w.reads, w.writes with
        | (a, n) :: rs, _ =>
          issueDma fuel e c ((b.setCh c { x with work := some { w with reads := rs } }).request e c a n none)
        | [], none =>
          if x.reqs.any (fun r => !r.write) then b
          else issueDma fuel e c (b.setCh c { x with work := some { w with writes := some w.outputs } })
        | [], some ((a, bs) :: ps) =>
          issueDma fuel e c ((b.setCh c { x with work := some { w with writes := some ps } }).request e c a bs.length (some bs))
        | [], some [] => b.setCh c (x.past w.words.length)

/-- Issue as much as the limit admits. -/
def Body.issue (b : Body) (e : Env) (c : Nat) : Body := issueDma 200 e c b

/-- MOVE or MOVEX begins: overlap, then its reads (R388, R389). -/
def Body.beginMove (b : Body) (e : Env) (c : Nat) (x : DmaCh) (ws : List Nat) : Body :=
  let src := x.addr (ws.getD 1 0)
  let dst := x.addr (ws.getD 2 0)
  let bad := (srcRanges ws).any (fun r => (dstRanges ws).any (fun q => meet (src + r.1) r.2 (dst + q.1) q.2))
  if field (ws.getD 0 0) 63 56 = 2 ∧ !(moveXOf ws).ok then b.chFaults e c 9
  else if bad then b.chFaults e c 8
  else
    let b1 := b.chCount c
    let reads := ((srcRanges ws).map (fun r => unitPieces (src + r.1) r.2)).flatten
    (b1.setCh c { b1.ch c with work := some ⟨ws, src, dst, reads, [], none⟩ }).issue e c

/-- MOVE (R388). -/
def dmaMove (e : Env) (c : Nat) (b : Body) : Body := b.chStep e c 1 (fun x ws b1 => b1.beginMove e c x ws)

/-- MOVEX (R389). -/
def dmaMovex (e : Env) (c : Nat) (b : Body) : Body := b.chStep e c 2 (fun x ws b1 => b1.beginMove e c x ws)

/-- LOOP (R390). -/
def dmaLoop (e : Env) (c : Nat) (b : Body) : Body :=
  b.chStep e c 3 (fun x ws b1 =>
    let start := x.pc + 8
    let stop := start + 8 * field (ws.getD 0 0) 15 0
    let again : Bool := match x.loops with
      | f :: _ => decide (f.stop < stop)
      | [] => false
    if 4 ≤ x.loops.length ∨ again then b1.chFaults e c 7
    else
      let b2 := b1.chCount c
      b2.setCh c { b2.ch c with pc := start, loops := ⟨start, stop, field (ws.getD 0 0) 47 32, 0⟩ :: x.loops })

/-- The first E(N) + offset after t, where instants are computed. -/
def Body.nextE (b : Body) (t off : Int) : Option Int :=
  if b.regN 0x0806 0 = 0 then none
  else b.modeInForce.bind (fun m =>
    let n0 := ((t - off) * m.tsf.2 / m.tsf.1).toNat - 8
    ((upFrom n0 26).find? (fun n => decide (t < m.instE n + off))).map (fun n => m.instE n + off))

/-- A WAIT's condition is met, by the follower of the fabric, in which the channels run (R26, R391). -/
def Body.waitMet (b : Body) (e : Env) (w : DmaWait) : Bool :=
  match w.mode with
  | 0 => w.met
  | 1 => (e.inDomain 57).reached (w.arg : Nat)
  | 2 => e.after w.tb w.arg
  | _ => match b.nextE (w.wt : Nat) (toSigned 64 w.arg) with
    | some t => (e.inDomain 57).reached t
    | none => false

/-- The time since a WAIT began counts toward no timeout (R396). -/
def DmaCh.shift (x : DmaCh) (e : Env) : DmaCh :=
  match x.wait with
  | some w => { x with reqs := x.reqs.map (fun (r : DmaReq) => { r with tb := r.tb + (e.tb - w.tb) }) }
  | none => x

/-- A WAIT ends, and the channel runs on (R391, R396). -/
def Body.waitEnds (b : Body) (e : Env) (c : Nat) : Body := (b.setCh c (((b.ch c).shift e).past 2)).setChState c chRunning

/-- WAIT (R391). -/
def dmaWait (e : Env) (c : Nat) (b : Body) : Body :=
  b.chStep e c 4 (fun _ ws b1 =>
    let w : DmaWait := ⟨field (ws.getD 0 0) 55 48, ws.getD 1 0, field (ws.getD 0 0) 9 0, e.follow 57, e.tb, false⟩
    let b2 := b1.chCount c
    let b3 := (b2.setCh c { b2.ch c with wait := some w }).setChState c chWaiting
    if b3.waitMet e w then b3.waitEnds e c else b3)

/-- The condition of a WAIT is met (R385). -/
def dmaWaitMet (e : Env) (c : Nat) (b : Body) : Body :=
  match (b.ch c).wait with
  | some w => if b.chState c = chWaiting ∧ b.waitMet e w then b.waitEnds e c else b
  | none => b

/-- SIGNAL, once every earlier write has returned its response (R392). -/
def dmaSignal (e : Env) (c : Nat) (b : Body) : Body :=
  b.chStep e c 5 (fun x ws b1 =>
    if x.reqs.any (fun r => r.write) then b1
    else
      let w := ws.getD 0 0
      let b2 := b1.chCount c
      let b3 := b2.setCh c ((b2.ch c).past 1)
      if field w 55 48 = 0 then (b3.setReg 0x1905 (c + 1) (field w 31 0 : Nat)).raise e (864 + c) 0
      else b3.bump 0x1908 (field w 37 32 + 1) (field w 31 0))

/-- A channel whose last response has returned: DONE from DRAINING, IDLE from STOPPING (R385). -/
def Body.drained (b : Body) (e : Env) (c : Nat) : Body :=
  let x := b.ch c
  if x.reqs.isEmpty then
    if b.chState c = chDraining then
      let b1 := (b.setChState c chDone).setReg 0x1903 (c + 1) 0
      if x.wantEvent then b1.raise e (864 + c) 0 else b1
    else if b.chState c = chStopping then (b.setChState c chIdle).setReg 0x1903 (c + 1) 1
    else b
  else b

/-- END (R393). -/
def dmaEnd (e : Env) (c : Nat) (b : Body) : Body :=
  b.chStep e c 6 (fun _ ws b1 =>
    let b2 := b1.chCount c
    ((b2.setCh c { b2.ch c with wantEvent := bit (ws.getD 0 0) 0 }).setChState c chDraining).drained e c)

/-! ## Start, stop, responses (R385, R396) -/

/-- A start of channel c at `prog` (R384, R385). Bits 2 to 0 of CH_PROG are 0. The address of the last write stays, and the requests go on
being numbered, so that no late response is taken for a new one's (R385, R397). -/
def dmaStart (c prog : Nat) (b : Body) : Body :=
  let st := b.chState c
  let p := prog - prog % 8
  if 32 ≤ c then b
  else if st = chIdle ∨ st = chDone ∨ st = chFault then
    let x : DmaCh := { DmaCh.reset with prog := p, pc := p, budget := b.regN 0x1900 (c + 1), timeout := b.regN 0x1901 (c + 1),
                                        lastWr := (b.ch c).lastWr, nextId := (b.ch c).nextId }
    ((((b.setCh c x).setChState c chRunning).setReg 0x1903 (c + 1) 0).setReg 0x1906 (c + 1) 0)
  else b.setCh c { b.ch c with refused := true, prog := p }

/-- A stop of channel c (R385). -/
def dmaStop (e : Env) (c : Nat) (b : Body) : Body :=
  let st := b.chState c
  if st = chRunning ∨ st = chWaiting ∨ st = chDraining then
    ((b.setCh c { (b.ch c).shift e with work := none, wait := none }).setChState c chStopping).drained e c
  else b

/-- An earlier request of the channel to a unit of request r has had no response: r's comes later, for the two complete in the order of
their issue (R367, R394). -/
def DmaCh.behind (x : DmaCh) (r : DmaReq) : Bool := x.reqs.any (fun q => decide (q.id < r.id) && q.addr / 64 == r.addr / 64)

/-- A response returns to channel c (R385, R394, R396). One that no request has on the way, or that comes out of the order of R367, changes nothing. -/
def dmaResponse (e : Env) (c id : Nat) (a : DmaAnswer) (b : Body) : Body :=
  let x := b.ch c
  match (x.reqs.find? (fun r => r.id == id)).filter (fun r => r.ans == some a && !x.behind r) with
  | none => b
  | some r =>
    let reqs := x.reqs.filter (fun q => q.id != id)
    match a with
    | .firewall => (b.setCh c { x with reqs := reqs }).chFaults e c 4
    | .memerr => ((if b.mayHaveWritten c r then b.spoil c r else b).setCh c { x with reqs := reqs }).chFaults e c 5
    | .ok =>
      let b1 :=
        if r.write then b.setCh c { x with reqs := reqs, lastWr := r.addr }
        else b.setCh c { x with reqs := reqs, work := x.work.map (fun w => { w with got := w.got ++ [(r.addr, r.data)] }) }
      (b1.issue e c).drained e c

/-- A request of channel c has had no response within its timeout (R396). -/
def dmaTimeout (e : Env) (c : Nat) (b : Body) : Body :=
  let x := b.ch c
  let now : Env := match x.wait with
    | some w => { e with tb := w.tb }
    | none => e
  if x.reqs.any (fun r => now.after r.tb x.timeout) then b.chFaults e c 3 else b

/-! ## Registers (R384) -/

/-- CH_STATUS. -/
def Body.chStatus (b : Body) (c : Nat) : Nat := b.regN 0x1903 (c + 1) * 256 + b2n (b.ch c).refused * 128 + b.chState c

/-- The registers of a channel at offsets 0x00 to 0x30. A channel in FAULT shows the requests its fault found outstanding (R397). -/
def Body.chReg (b : Body) (c off : Nat) : Nat :=
  let x := b.ch c
  match off with
  | 0x00 => x.prog
  | 0x10 => b.chStatus c
  | 0x18 => x.pc
  | 0x20 => if b.chState c = chFault then leAt (b.str 0x1904 (c + 1)) 8 2 else x.reqs.length
  | 0x28 => x.lastWr
  | 0x30 => x.executed
  | _ => 0

/-! ## Meanings -/

/-- DMA_START (R385). -/
def execDmaStart (ch prog : Nat) (s : State) : Host.Outcome State Fault Refusal := s.act (dmaStart ch prog)

/-- DMA_STOP (R385). -/
def execDmaStop (ch : Nat) (s : State) : Host.Outcome State Fault Refusal := s.act (dmaStop s.env ch)

/-- MOVE (R388). -/
def execMove (ch : Nat) (s : State) : Host.Outcome State Fault Refusal := s.act (dmaMove s.env ch)

/-- MOVEX (R389). -/
def execMovex (ch : Nat) (s : State) : Host.Outcome State Fault Refusal := s.act (dmaMovex s.env ch)

/-- LOOP (R390). -/
def execLoop (ch : Nat) (s : State) : Host.Outcome State Fault Refusal := s.act (dmaLoop s.env ch)

/-- WAIT (R391). -/
def execWait (ch : Nat) (s : State) : Host.Outcome State Fault Refusal := s.act (dmaWait s.env ch)

/-- DMA_WAIT_MET (R391). -/
def execDmaWaitMet (ch : Nat) (s : State) : Host.Outcome State Fault Refusal := s.act (dmaWaitMet s.env ch)

/-- SIGNAL (R392). -/
def execSignal (ch : Nat) (s : State) : Host.Outcome State Fault Refusal := s.act (dmaSignal s.env ch)

/-- END (R393). -/
def execEndProg (ch : Nat) (s : State) : Host.Outcome State Fault Refusal := s.act (dmaEnd s.env ch)

/-- DMA_RESPONSE (R385). -/
def execDmaResponse (ch id : Nat) (a : DmaAnswer) (s : State) : Host.Outcome State Fault Refusal := s.act (dmaResponse s.env ch id a)

/-- DMA_RESPONSE_TIMEOUT (R396). -/
def execDmaResponseTimeout (ch : Nat) (s : State) : Host.Outcome State Fault Refusal := s.act (dmaTimeout s.env ch)

end Sys2Proof.Machine
end

