-- ==== Sys2Proof/Machine/Lifetime.lean ====
section
/-! DEFINITION. Identity and attestation, the tally and its harvest, path-delay monitors, AVS and silicon reckoning, thermal checks
(R469 to R491, R499). -/

namespace Sys2Proof.Machine

/-! ## Attestation (R469 to R473) -/

/-- The public key of the die, `id.attest_key` (R471). -/
def dieKey : Bytes := fit 0 97 (Config.fusedBytes (key 0x0107 0))

/-- `id.fingerprint`: SHA-256 of the public key (R471). -/
def dieFingerprint : Bytes := sha256 dieKey

/-- The fused identity fields in the order of R472 and R482, from `id.serial` to `id.sites`. -/
def Body.fusedId (b : Body) (put : Nat → Nat → Bytes) : Bytes :=
  put 8 (b.regN 0x0100 0) ++ fit 0 8 (Config.fusedBytes (key 0x0101 0)) ++ put 1 (b.regN 0x0102 0) ++ put 2 (b.regN 0x0103 0) ++
    put 2 (b.regN 0x0104 0) ++ [0, 0, 0] ++ put 4 (b.regN 0x0105 0)

/-- An attestation report over a nonce (R472, R473; log entry 11). -/
def Body.attestReport (b : Body) (e : Env) (nonce : Bytes) : Bytes :=
  let m := [0x43, 0x57, 0x41, 0x54] ++ be 2 1 ++ be 2 256 ++ nonce ++ b.fusedId be ++ be 4 0 ++
    fit 0 48 (sha384 (b.str 0x0117 1 ++ b.str 0x0117 2 ++ b.str 0x0117 3)) ++ be 1 b.devState ++ be 1 (b.regN 0x1A02 0) ++
    be 2 0 ++ be 4 (b.regN 0x1A03 0) ++ be 8 e.t64 ++ be 8 (b.regN 0x1C00 0) ++ be 16 0
  m ++ fit 0 96 (Config.dieSignature (sha384 m))

/-- A write to `id.attest_nonce`: the old report goes, a new one is formed from the state now. -/
def attestNonce (e : Env) (slot : Nat) (nonce : Bytes) (b : Body) : Body × Rsp :=
  if nonce.length ≠ 32 then (b, wrote stRange)
  else (b.modSess slot (fun x => { x with attest := ⟨some nonce, e.tb, some (b.attestReport e nonce), none⟩ }), wrote stOK)

/-- The report is ready. -/
def attestReady (slot : Nat) (b : Body) : Body :=
  b.modSess slot (fun x => match x.attest.forming with
    | some r => { x with attest := { x.attest with forming := none, report := some r } }
    | none => x)

/-! ## The tally (R474 to R479) -/

/-- Add one second to a histogram bin; `full` is its histogram's bit of `tally.full` (R479). -/
def Body.histBin (b : Body) (e : Env) (rec sub full : Nat) : Body :=
  let v := b.regN (0x1C00 + rec) sub
  if v + 1 < 2 ^ 32 then b.setReg (0x1C00 + rec) sub ((v + 1 : Nat) : Int)
  else
    let b1 := b.setReg (0x1C00 + rec) sub ((2 ^ 32 - 1 : Nat) : Int)
    if bit (b1.regN 0x1C11 0) full then b1
    else (b1.setReg 0x1C11 0 (Nat.lor (b1.regN 0x1C11 0) (2 ^ full) : Nat)).raise e 977 full

/-- Bin of a reading in 1/16 degree (R476). -/
def tempBin (t : Int) : Nat :=
  ([25, 35, 45, 55, 65, 70, 75, 80, 85, 90, 95, 100, 105, 110, 115].filter (fun (x : Int) => decide (x * 16 ≤ t))).length

/-- Bin of a mean of mv against a setpoint (R477). -/
def supplyBin (mv sp : Nat) : Nat :=
  ((upFrom 0 15).filter (fun (j : Nat) => decide ((sp : Int) * (-35 + 5 * (j : Int)) ≤ ((mv : Int) - sp) * 1000))).length

/-- The least or greatest sample an element holds; `mark` says whether it holds one. -/
def Body.extreme (b : Body) (idx sub mark : Nat) (least : Bool) (v : Int) : Body :=
  let old := b.reg idx sub
  let new := if !(b.si.seen.contains mark) then v else if least then min old v else max old v
  { b.setReg idx sub new with si := { b.si with seen := if b.si.seen.contains mark then b.si.seen else b.si.seen ++ [mark] } }

/-- One reading of sensor s enters the tally (R474, R476). -/
def Body.tallyTemp (b : Body) (e : Env) (s : Nat) (t : Int) : Body :=
  let b1 := (b.histBin e 2 (16 * s + tempBin t + 1) s).extreme 0x1C03 (s + 1) (2000 + s) false t
  let v := b1.reg 0x1C04 (s + 1) + t
  if v < 2 ^ 63 then b1.setReg 0x1C04 (s + 1) v
  else
    let b2 := b1.setReg 0x1C04 (s + 1) (2 ^ 63 - 1)
    if bit (b2.regN 0x1C10 0) 4 then b2 else (b2.setReg 0x1C10 0 (Nat.lor (b2.regN 0x1C10 0) 16 : Nat)).raise e 976 4

/-! ## Rails (R495, R499) -/

/-- Fused voltage of AVS rail r, mV. -/
def vfuse (r : Nat) : Nat := Config.fusedNum (key 0x1D03 (r + 1))

/-- Setpoint in force of rail r, mV (R495). -/
def Body.setpointOf (b : Body) (r : Nat) : Nat :=
  if r < 2 then mgetD 850 r b.si.set else [850, 850, 800, 850, 1200, 1100, 400, 1800].getD r 0

/-- A sample lies within 5 % of a setpoint. -/
def inWindow (sp mv : Nat) : Bool := decide (100 * mv ≤ 105 * sp) && decide (95 * sp ≤ 100 * mv)

/-- A sample of rail r lies in its window: the union of two while a change settles, for at most 1 ms (R488, R495). -/
def Body.railOk (b : Body) (e : Env) (r mv : Nat) : Bool :=
  inWindow (b.setpointOf r) mv || (match b.si.busy with
    | some c => c.rail == r && !(e.after c.tb 1000001) && inWindow c.old mv
    | none => false)

/-- The mean of rail r over a second: `dev.rail`, the tally, and event 6 with its rearm (R477, R499). -/
def Body.railSecond (b : Body) (e : Env) (r mv : Nat) : Body :=
  let sp := b.setpointOf r
  let dev : Nat := ((mv : Int) - sp).natAbs * 1000
  let b1 := (((b.setReg 0x0112 (r + 1) (mv : Nat)).histBin e 5 (16 * r + supplyBin mv sp + 1) (16 + r)).extreme 0x1C06 (r + 1) (1000 + r) true
    (mv : Nat)).extreme 0x1C07 (r + 1) (1100 + r) false (mv : Nat)
  let good := if dev ≤ 30 * sp then mgetD 0 r b1.dev.lastRail + 1 else 0
  let told := mgetD 0 r b1.dev.railTold
  let b2 := { b1 with dev := { b1.dev with lastRail := mputD 0 r good b1.dev.lastRail } }
  if 35 * sp < dev then
    if told = 0 then ({ b2 with dev := { b2.dev with railTold := mputD 0 r 1 b2.dev.railTold } }).raise e 6 r else b2
  else if 10 ≤ good then { b2 with dev := { b2.dev with railTold := mputD 0 r 0 b2.dev.railTold } }
  else b2

/-! ## Thermal checks (R491) -/

/-- The hottest sensor and its reading. -/
def hottest (ts : List Int) : Nat × Int :=
  (ts.zip (upFrom 0 ts.length)).foldl (fun (a : Nat × Int) p => if a.2 < p.1 then (p.2, p.1) else a) (0, -10000)

/-- One second at temperature t against a limit that must hold for `n` seconds and rearms below `low` for 10 s. -/
def Heat.second (h : Heat) (t high low : Int) (n : Nat) : Heat × Bool :=
  let above := if high < t then h.above + 1 else 0
  let below := if t < low then h.below + 1 else 0
  let told := h.told && decide (below < 10)
  if n ≤ above ∧ !told then (⟨above, true, below⟩, true) else (⟨above, told, below⟩, false)

/-- The lifetime mean of sensor s lies above 85 degrees. -/
def Body.oldMean (b : Body) (s : Nat) : Bool :=
  let n : Nat := ((upFrom (16 * s + 1) 16).map (fun k => b.regN 0x1C02 k)).foldl (· + ·) 0
  decide (85 * 16 * (n : Int) < b.reg 0x1C04 (s + 1)) && decide (0 < n)

/-- The thermal checks of a second. -/
def Body.heatCheck (b : Body) (e : Env) (ts : List Int) : Body :=
  let m := hottest ts
  let a := b.si.hot.second m.2 1600 1520 10
  let c := b.si.hotter.second m.2 1680 1600 1
  let b1 := { b with si := { b.si with hot := a.1, hotter := c.1 } }
  let b2 := if a.2 then b1.raise e 1000 m.1 else b1
  let b3 := if c.2 then b2.raise e 1001 m.1 else b2
  match (upFrom 0 12).find? b3.oldMean with
  | some s =>
    if !b3.si.oldTold ∧ 3600000 ≤ b3.regN 0x1C00 0 then ({ b3 with si := { b3.si with oldTold := true } }).raise e 1002 s else b3
  | none => b3

/-- Once per second outside OFF (R474, R476, R477, R491, R499). `temps` and `mv` hold the readings and the means of the second. -/
def tallySecond (e : Env) (temps : List Int) (mv : List Nat) (b : Body) : Body :=
  if b.devState = devOff then b
  else
    let b1 := b.tally e 0 0 1
    let b2 := ((temps.take 12).zip (upFrom 0 12)).foldl (fun x p => (x.tallyTemp e p.2 p.1).setReg 0x1D0B (p.2 + 1) p.1) b1
    let b3 := ((mv.take 8).zip (upFrom 0 8)).foldl (fun x p => x.railSecond e p.2 p.1) b2
    b3.heatCheck e (temps.take 12)

/-! ## The harvest (R481, R482) -/

/-- A record of the harvest image: number, element size, flags, elements. -/
def Body.tallyRec (b : Body) (r size : Nat) (full : Bool) (els : List (Nat × Nat)) : Bytes :=
  let flags := b2n (bit (b.regN 0x1C10 0) r || full) + 2 * b2n (bit (b.regN 0x1C12 0) r)
  let body := (els.map (fun p => le size (ofSigned (8 * size) (b.reg p.1 p.2)))).flatten
  le 2 r ++ le 1 size ++ le 1 flags ++ le 4 els.length ++ fit 0 (divUp body.length 8 * 8) body

/-- Elements of an entry: n from sub-index lo. -/
def elsOf (idx lo n : Nat) : List (Nat × Nat) := (upFrom lo n).map (fun k => (idx, k))

/-- Records 0 to 18 of R474. -/
def Body.tallyRecs (b : Body) : Bytes :=
  let one (r : Nat) : Bytes := b.tallyRec r 8 false [(0x1C00 + r, 0)]
  let arr (r size n : Nat) : Bytes := b.tallyRec r size false (elsOf (0x1C00 + r) 1 n)
  one 0 ++ one 1 ++ b.tallyRec 2 4 (field (b.regN 0x1C11 0) 11 0 != 0) (elsOf 0x1C02 1 192) ++ arr 3 2 12 ++ arr 4 8 12 ++
    b.tallyRec 5 4 (field (b.regN 0x1C11 0) 23 16 != 0) (elsOf 0x1C05 1 128) ++ arr 6 2 8 ++ arr 7 2 8 ++ arr 8 8 192 ++ arr 9 8 192 ++
    one 10 ++ one 11 ++ arr 12 8 11 ++ arr 13 8 2 ++ arr 14 8 2 ++ arr 15 8 2 ++ b.tallyRec 16 2 false (elsOf 0x1D0D 1 96) ++
    b.tallyRec 17 2 false (elsOf 0x1D04 1 2) ++ b.tallyRec 18 8 false [(0x1D09, 0)]

/-- The harvest image with a serial (R482). -/
def Body.harvestImage (b : Body) (e : Env) (serial : Nat) : Bytes :=
  let head := [0x43, 0x57, 0x48, 0x56] ++ le 2 1 ++ le 2 128 ++ b.fusedId le ++ le 4 serial ++ le 8 e.t64 ++ le 8 (b.regN 0x0981 0) ++
    le 2 19 ++ le 2 0 ++ le 4 5032 ++ dieFingerprint ++ le 4 (b.regN 0x1C10 0) ++
    le 4 (b.regN 0x1C11 0) ++ le 4 (b.regN 0x1C12 0) ++ le 16 0
  let m := head ++ le 4 (crc32c head) ++ b.tallyRecs
  m ++ fit 0 96 (Config.dieSignature (sha384 m))

/-- Start of `op.harvest`: the tally is taken now (R481). A destination that does not lie in the application-core region is
refused with RANGE (log entry 50). -/
def harvestStart (e : Env) (slot : Nat) (b : Body) : Body × Rsp :=
  let away := b.regN 0x041A 0x10 == 1
  if b.opBusy 0x041A then (b, wrote stBusy)
  else if away && b.devState == devFrozen then (b.opRefuse e 0x041A stFrozen 0, wrote stFrozen)
  else if away && (b.appBytes (b.regN 0x041A 0x11) 5256).isNone then (b.opRefuse e 0x041A stRange 0, wrote stRange)
  else
    let serial := (b.regN 0x1C14 0 + 1) % 2 ^ 32
    ({ b.opBegin e 0x041A slot [] with si := { b.si with harvest := b.harvestImage e serial } }, wrote stOK)

/-- `op.harvest` completes: the image, the serial, event 979 (R481). -/
def harvestComplete (e : Env) (b : Body) : Body :=
  if b.opState 0x041A ≠ 1 then b
  else
    let img := b.si.harvest
    let b1 := ((b.setStr 0x1C13 0 img).setReg 0x1C14 0 (((b.regN 0x1C14 0 + 1) % 2 ^ 32 : Nat) : Int)).raise e 979 0
    let b2 := if b.opArg 0x041A 0x10 = 1 ∧ b.memUp then b1.store (b.opArg 0x041A 0x11).toNat img else b1
    ({ b2 with si := { b2.si with harvest := [] } }).opEnd e 0x041A true 0 0

/-! ## AVS (R485, R488, R489) -/

/-- Monitors of AVS rail r that take part in the re-plan (R483). -/
def railMonitors (r : Nat) : List Nat := if r = 1 then upFrom 0 40 else upFrom 40 52

/-- AVS rail of monitor m; none for VDD_SAFE. -/
def monitorRail (m : Nat) : Option Nat := if m < 40 then some 1 else if m < 92 then some 0 else none

/-- Write rail r to a target over AVSBus (R488). -/
def Body.avsWrite (b : Body) (e : Env) (r mv : Nat) : Body :=
  ({ b with si := { b.si with busy := some ⟨r, b.setpointOf r, mv, e.tb, 0, none⟩, set := mputD 850 r mv b.si.set } }).emit (.avs r mv)

/-- A sample v lies within 5 mV of the new setpoint (R488). -/
def AvsChange.near (c : AvsChange) (v : Nat) : Bool := decide (((v : Int) - c.new).natAbs ≤ 5)

/-- The rail has settled: read back over AVSBus as mv, and confirmed by the supervisor's own last sample since the write (R488; log
entry 116 where there is none). -/
def AvsChange.settled (c : AvsChange) (mv : Nat) : Bool := c.near mv && c.sample.all c.near

/-- The supervisor's sample of rail r is noted for the change that settles (R488). -/
def Body.avsSampled (b : Body) (r mv : Nat) : Body :=
  match b.si.busy with
  | some c => if c.rail = r then { b with si := { b.si with busy := some { c with sample := some mv } } } else b
  | none => b

/-- A silicon reckoning stores a new offset of rail r, event 992, and writes it. -/
def Body.avsOffset (b : Body) (e : Env) (r o : Nat) : Body :=
  ((b.setReg 0x1D04 (r + 1) (o : Nat)).raise e 992 r).avsWrite e r (vfuse r + o)

/-- Publish the lamp-update budget that follows from the step counts (R490). -/
def Body.publishBudget (b : Body) (e : Env) : Body :=
  let s := Nat.max (b.regN 0x1D08 1) (b.regN 0x1D08 2)
  let v := 301989888 * (40 - s)
  if v = b.regN 0x1D09 0 then b
  else
    let b1 := b.setReg 0x1D09 0 (v : Nat)
    match b1.modeInForce with
    | some m => if b1.live ∧ b1.overBudget v m then b1.raise e 997 0 else b1
    | none => b1

/-- The least window minimum of a rail's monitors and the monitor that sets it (R486). -/
def Body.worst (b : Body) (r : Nat) : Int × Nat :=
  ((railMonitors r).map (fun m => (b.reg 0x1D01 (m + 1), m))).foldl (fun (a : Int × Nat) p => if p.1 < a.1 then p else a) (100000, 0)

/-- The clock a rail at its maximum steps down: its sub-index of `si.steps` and its domain (R489). -/
def stepClock (r m : Nat) : Option (Nat × Nat) :=
  if r = 1 then some (1, 56) else if monitorDomain m = 57 then some (2, 57) else if monitorDomain m = 58 then some (3, 58) else none

/-- A rail needs more voltage than its maximum: its clock steps down, or the rail is held with event 995 (R489). -/
def Body.stepDown (b : Body) (e : Env) (r m : Nat) : Body × Bool :=
  match stepClock r m with
  | some (k, d) =>
    let s := b.regN 0x1D08 k
    if s < 8 then ((b.setReg 0x1D08 k ((s + 1 : Nat) : Int)).raise e 994 d, false) else (b.raise e 995 r, true)
  | none => (b.raise e 995 r, true)

/-- The step counts of the clocks of rail r return to 0: the re-plan of a reckoning asked to start from 0 steps (R489). -/
def Body.zeroSteps (b : Body) (r : Nat) : Body :=
  if r = 1 then b.setReg 0x1D08 1 0 else (b.setReg 0x1D08 2 0).setReg 0x1D08 3 0

/-- Re-plan rail r (R486, R489): whether it was held, and what it writes. -/
def Body.replan (b : Body) (e : Env) (r : Nat) : Body × Bool :=
  let w := b.worst r
  let d : Int := b.reg 0x1D05 (r + 1) - w.1
  let o := b.regN 0x1D04 (r + 1)
  if 0 < d then
    let up := Nat.min 25 (5 * divUp (d.toNat * b.regN 0x1D06 0) 5000)
    if 900 < vfuse r + o + up then
      let a := b.stepDown e r w.2
      let top := 900 - vfuse r
      (if o < top then a.1.avsOffset e r top else a.1, a.2)
    else (b.avsOffset e r (o + up), false)
  else if d ≤ -20 ∧ 5 ≤ o then (b.avsOffset e r (o - 5), false)
  else (b, false)

/-- The next AVSBus write: one waiting, else the reckoning's next rail; none while one settles (R488), nor of a reckoning that is
being cancelled. An urgent raise is no change by a
silicon reckoning: it raises no event 992. -/
def avsNext (e : Env) : Nat → Body → Body
  | 0, b => b
  | k + 1, b =>
    if b.si.busy.isSome then b
    else
      match b.si.queue with
      | (r, urgent) :: qs =>
        let b1 := { b with si := { b.si with queue := qs } }
        let o := b.regN 0x1D04 (r + 1)
        let b2 :=
          if urgent then (if vfuse r + o + 5 ≤ 900 then (b1.setReg 0x1D04 (r + 1) (o + 5 : Nat)).avsWrite e r (vfuse r + o + 5) else b1)
          else b1.avsWrite e r (vfuse r + o)
        avsNext e k b2
      | [] =>
        if b.opState 0x041B = 3 then b else
        match b.si.run with
        | none => b
        | some x =>
          match x.todo with
          | [] => b
          | r :: rs =>
            if !(e.after b.si.winTb 3600000000000) then
              avsNext e k { b with si := { b.si with run := some { x with todo := rs, skipped := setBit x.skipped r true } } }
            else
              let a := (if x.fresh then b.zeroSteps r else b).replan e r
              let b2 := a.1.publishBudget e
              avsNext e k { b2 with si := { b2.si with run := some { x with
                todo := rs, held := x.held || a.2, wrote := x.wrote || b2.si.busy.isSome } } }

/-- Rails are written to V_fuse + o at the entry to MEMORY, before domains 56 to 58 start (R485, R509). -/
def Body.avsBoot (b : Body) (e : Env) : Body :=
  avsNext e 4 { b with si := { b.si with queue := b.si.queue ++ [(0, false), (1, false)] } }

/-- A silicon reckoning starts; from 0 steps where it is asked to (R486, R487, R489). -/
def Body.siBegin (b : Body) (e : Env) (slot : Nat) (fresh : Bool) : Body :=
  let b1 := b.opBegin e 0x041B slot []
  avsNext e 4 { b1 with si := { b1.si with run := some ⟨[0, 1], 0, false, false, fresh⟩ } }

/-- A write of 1 to `op.si_reckon`. -/
def siReckonStart (e : Env) (slot : Nat) (b : Body) : Body × Rsp :=
  if b.opBusy 0x041B then (b, wrote stBusy) else (b.siBegin e slot (bit (b.regN 0x041B 0x10) 0), wrote stOK)

/-- An automatic trigger; one that arises while the operation runs is dropped (R487). -/
def Body.siAuto (b : Body) (e : Env) : Body := if b.opBusy 0x041B then b else b.siBegin e 0xFF false

/-- Every `si.period` hours (R487), from VERIFIED on (log entry 116). -/
def siPeriod (e : Env) (b : Body) : Body := if b.regN 0x1D07 0 = 0 ∨ b.devState < devVerified then b else b.siAuto e

/-- 1 ms after a write the rail is checked: settled, written once more, or reported (R488). -/
def avsSettle (e : Env) (r mv : Nat) (b : Body) : Body :=
  match b.si.busy with
  | none => b
  | some c =>
    if c.rail ≠ r ∨ !(e.after c.tb 1000000) then b
    else
      let b1 := b.setReg 0x1D0A (r + 1) (mv : Nat)
      let done := avsNext e 8 { b1 with si := { b1.si with busy := none } }
      if c.settled mv then done
      else if c.tries = 0 then ({ b1 with si := { b1.si with busy := some { c with tb := e.tb, tries := 1, sample := none } } }).emit (.avs r c.new)
      else done.raise e 996 r

/-- A silicon reckoning completes once every rail has been re-planned and has settled (R486, R487, R489). One that is being cancelled has
written nothing, and ends (R427, R487). -/
def siReckonComplete (e : Env) (b : Body) : Body :=
  if b.opState 0x041B = 3 then ({ b with si := { b.si with run := none } }).opEnd e 0x041B false stCancelled 0 else
  match b.si.run with
  | none => b
  | some x =>
    if !x.todo.isEmpty ∨ b.si.busy.isSome ∨ b.opState 0x041B ≠ 1 then b
    else
      let code := if x.skipped = 0 ∧ !x.held then stOK else stPartial
      ((({ b with si := { b.si with run := none } }).tally e 14 2 1).setReg 0x1D0C 0 (e.wt : Nat)).raise e 998 code |>.opEnd e 0x041B true
        code x.skipped

/-! ## Monitors (R484, R487, R488) -/

/-- A sample joins the samples of the last 24 h that may yet be the least. -/
def slide (tb : Nat) (v : Int) (q : List (Nat × Int)) : List (Nat × Int) :=
  (q.filter (fun p => decide (tb * 2 < p.1 * 2 + 86400000000000) && decide (p.2 < v))) ++ [(tb, v)]

/-- One sample of monitor m: its entries, and whether its window minimum has fallen below margin plus 10 ps. -/
def Body.slackOne (b : Body) (e : Env) (m : Nat) (v : Int) : Body × Bool :=
  let q := slide e.tb v (mgetD [] m b.si.win)
  let w := ((q.head?).map (fun p => p.2)).getD v
  let old := if mgetD [] m b.si.win = [] then 100000 else b.reg 0x1D01 (m + 1)
  let b1 := (((b.setReg 0x1D00 (m + 1) v).setReg 0x1D01 (m + 1) w).extreme 0x1D0D (m + 1) m true v)
  let lim := match monitorRail m with
    | some r => b.reg 0x1D05 (r + 1) + 10
    | none => -100000
  ({ b1 with si := { b1.si with win := mputD [] m q b1.si.win } }, decide (w < lim) && decide (lim ≤ old))

/-- The sample of monitor m lies below half its rail's margin. -/
def Body.slackLow (b : Body) (m : Nat) (v : Int) : Bool :=
  match monitorRail m with
  | some r => decide (2 * v < b.reg 0x1D05 (r + 1))
  | none => false

/-- An urgent raise of the rail of monitor m (R488). -/
def Body.urgentRaise (b : Body) (e : Env) (m : Nat) : Body :=
  match monitorRail m with
  | none => b
  | some r =>
    let may := match mfind r b.si.urgent with
      | some t => e.after t 100000000
      | none => true
    if !may then b
    else
      let b1 := { b with si := { b.si with urgent := minsert r e.tb b.si.urgent, queue := b.si.queue ++ [(r, true)] } }
      ((avsNext e 4 b1).raise e 993 m).siAuto e

/-- Every 1 ms each monitor measures its slack (R484, R487, R488). -/
def slackSample (e : Env) (ps : List Int) (b : Body) : Body :=
  if b.devState = devOff then b
  else
    let vs := (ps.take 96).zip (upFrom 0 96)
    let a := vs.foldl (fun (a : Body × Bool) p =>
      let r := a.1.slackOne e p.2 p.1
      (r.1, a.2 || r.2)) (b, false)
    let lows := (vs.filter (fun p => b.slackLow p.2 p.1)).map (fun p => p.2)
    let twice := lows.filter (fun m => b.si.low.contains m)
    let b1 := { a.1 with si := { a.1.si with low := lows } }
    let b2 := twice.foldl (fun x m => x.urgentRaise e m) b1
    if a.2 then b2.siAuto e else b2

/-! ## Meanings -/

/-- ATTEST_NONCE_WRITE (R472). -/
def execAttestNonceWrite (r : Req) (nonce : Bytes) (s : State) : Host.Outcome State Fault Refusal :=
  s.act (serveWrite s.env r 0x0108 0 (.b nonce) (fun slot => attestNonce s.env slot nonce))

/-- ATTEST_REPORT_READY (R472). -/
def execAttestReportReady (slot : Nat) (s : State) : Host.Outcome State Fault Refusal := s.act (attestReady slot)

/-- TALLY_SECOND (R476). -/
def execTallySecond (temps : List Int) (mv : List Nat) (s : State) : Host.Outcome State Fault Refusal :=
  s.act (tallySecond s.env temps mv)

/-- HARVEST_START (R481). -/
def execHarvestStart (r : Req) (s : State) : Host.Outcome State Fault Refusal :=
  s.act (serveWrite s.env r 0x041A 1 (.n 1) (fun slot => harvestStart s.env slot))

/-- HARVEST_COMPLETE (R482). -/
def execHarvestComplete (s : State) : Host.Outcome State Fault Refusal := s.act (harvestComplete s.env)

/-- SLACK_SAMPLE (R484). -/
def execSlackSample (ps : List Int) (s : State) : Host.Outcome State Fault Refusal := s.act (slackSample s.env ps)

/-- SI_RECKON_START (R487). -/
def execSiReckonStart (r : Req) (s : State) : Host.Outcome State Fault Refusal :=
  s.act (serveWrite s.env r 0x041B 1 (.n 1) (fun slot => siReckonStart s.env slot))

/-- SI_RECKON_PERIOD (R487). -/
def execSiReckonPeriod (s : State) : Host.Outcome State Fault Refusal := s.act (siPeriod s.env)

/-- AVS_SETTLE_CHECK (R488). -/
def execAvsSettleCheck (rail mv : Nat) (s : State) : Host.Outcome State Fault Refusal := s.act (avsSettle s.env rail mv)

/-- SI_RECKON_COMPLETE (R489). -/
def execSiReckonComplete (s : State) : Host.Outcome State Fault Refusal := s.act (siReckonComplete s.env)

end Sys2Proof.Machine
end

