-- ==== Sys2Proof/Machine/Media.lean ====
section
/-! DEFINITION. Media ports, flows and decoded streams (R325 to R349), and what a complete frame sets off (R86, R129, R194). -/

namespace Sys2Proof.Machine

/-! ## Ports -/

/-- Set cause bits of port p (R360). -/
def Body.portCause (b : Body) (e : Env) (p bitNo : Nat) : Body := b.setCause e 0x0A09 (p + 1) (2 ^ bitNo) (128 + p)

/-- Set cause bits of flow f. -/
def Body.flowCause (b : Body) (e : Env) (f bitNo : Nat) : Body := b.setCause e 0x0A24 (f + 1) (2 ^ bitNo) (144 + f)

/-- Set cause bits of stream s. -/
def Body.streamCause (b : Body) (e : Env) (s bitNo : Nat) : Body := b.setCause e 0x0B0A (s + 1) (2 ^ bitNo) (192 + s)

/-- A port's link goes down (R328). -/
def portDown (e : Env) (p : Nat) (b : Body) : Body :=
  if p < 4 then (b.setReg 0x0A00 (p + 1) 0).portCause e p 0 else b

/-- A port's link comes up (R325); not while the PLL of its domain has lost lock (R27). -/
def portRise (p : Nat) (b : Body) : Body := if p < 4 ∧ b.regN 0x0120 (p + 49) ≠ 3 then b.setReg 0x0A00 (p + 1) 1 else b

/-- A poll of a port's module (R328). A module is another when its upper page differs (DEDUCED). -/
def modulePoll (e : Env) (p : Nat) (pages : Option Bytes) (b : Body) : Body :=
  if 4 ≤ p then b
  else
    match pages with
    | none => if b.str 0x0A08 (p + 1) = [] then b else (b.setStr 0x0A08 (p + 1) []).portCause e p 4
    | some bs =>
      let page := fit 0 256 bs
      let up := page.drop 128
      let b1 := { b.setStr 0x0A08 (p + 1) page with media := { b.media with mods := minsert p up b.media.mods } }
      match mfind p b.media.mods with
      | some old => if old = up then b1 else b1.portCause e p 4
      | none => b1

/-! ## Flows -/

/-- Receiver of flow f; none while it is not admitted. -/
def Body.rx? (b : Body) (f : Nat) : Option FlowRx := mfind f b.media.rx

/-- Replace the receiver of a flow. -/
def Body.setRx (b : Body) (f : Nat) (x : FlowRx) : Body :=
  { b with media := { b.media with rx := minsert f x b.media.rx } }

/-- Leg g of flow f: port, destination, source (empty any), UDP port; none without the leg. -/
structure Leg where
  port : Nat
  dst : Bytes
  src : Bytes
  udp : Nat
deriving DecidableEq, Repr

/-- The text of an address as it counts in a match; a text that is no address matches nothing. -/
def textAddr (bs : Bytes) : Bytes := if bs = [] then [] else (addrOf bs).getD [0]

/-- Legs of flow f under its entries (R358). -/
def Body.legs (b : Body) (f : Nat) : List Leg :=
  let ps := b.regN 0x0A11 (f + 1)
  let u := b.regN 0x0A16 (f + 1)
  ⟨field ps 3 0, textAddr (b.str 0x0A12 (f + 1)), textAddr (b.str 0x0A13 (f + 1)), field u 31 16⟩ ::
  (if field ps 7 4 = 15 then []
   else [⟨field ps 7 4, textAddr (b.str 0x0A14 (f + 1)), textAddr (b.str 0x0A15 (f + 1)), field u 15 0⟩])

/-- Width, height, sampling, depth and packing of a flow's format. -/
structure FlowFmt where
  w : Nat
  h : Nat
  sampling : Nat
  depth : Nat
  packing : Nat
deriving DecidableEq, Repr

/-- Format of flow f. -/
def Body.flowFmt (b : Body) (f : Nat) : FlowFmt :=
  let v := b.regN 0x0A18 (f + 1)
  ⟨field v 63 48, field v 47 32, field v 31 24, field v 23 16, field v 15 8⟩

/-- Colour coding of a format with a colour word (R146, R358). -/
def fmtOf (sampling depth colour : Nat) : Fmt :=
  ⟨sampling, depth, field colour 15 12, field colour 11 8, field colour 7 4, field colour 3 0 == 1⟩

/-- Bytes and pixels of a pgroup (R330). -/
def pgroup (sampling depth : Nat) : Option (Nat × Nat) :=
  if sampling = 0 then (if depth = 10 then some (5, 2) else if depth = 12 then some (6, 2) else none)
  else if sampling ≤ 2 then
    (if depth = 10 then some (15, 4) else if depth = 12 then some (9, 2) else if depth = 16 then some (6, 1) else none)
  else none

/-- Bytes of a frame buffer (R334). -/
def bufBytes (sampling w h : Nat) : Nat := if sampling = 0 then 4 * w * h else 6 * w * h

/-- Wire rate of flow f in Mb/s (R336), under its entries. -/
def Body.wireRate (b : Body) (f : Nat) : Nat :=
  if b.regN 0x0A10 (f + 1) = 2 then b.regN 0x0A1D (f + 1)
  else
    let x := b.flowFmt f
    match pgroup x.sampling x.depth, rateOf (b.regN 0x0A19 (f + 1)) with
    | some (gb, gp), some (d, n) =>
      let pay := b.regN 0x0A1B (f + 1)
      let pkts := divUp (x.w * x.h * gb / gp) (Nat.max 1 pay)
      let leg := (b.legs f).getD 0 ⟨0, [], [], 0⟩
      let frame := (if leg.dst.length = 16 then 106 else 86) + (if b.regN 0x0A05 (leg.port + 1) = 0 then 0 else 4)
      divUp (pkts * (pay + frame) * 8 * n) (1000000 * d)
    | _, _ => 0

/-- Flows admitted. -/
def Body.admitted (b : Body) : List Nat := (upFrom 0 16).filter (fun f => b.regN 0x0A1E (f + 1) == 1)

/-- The format checks of R330 and R331 and the payload type's range (FORMAT of R337). -/
def Body.formatOk (b : Body) (f : Nat) : Bool :=
  let pt := b.regN 0x0A17 (f + 1)
  let x := b.flowFmt f
  let c := b.regN 0x0A1A (f + 1)
  let pay := b.regN 0x0A1B (f + 1)
  decide (96 ≤ pt) && decide (pt ≤ 127) && (rateOf (b.regN 0x0A19 (f + 1))).isSome &&
  (match b.regN 0x0A10 (f + 1) with
   | 1 =>
     (match pgroup x.sampling x.depth, rateOf (b.regN 0x0A19 (f + 1)) with
      | some (gb, gp), some (d, n) =>
        decide (0 < x.w) && decide (x.w ≤ 7680) && decide (0 < x.h) && decide (x.h ≤ 4320) && x.w % gp == 0 &&
        decide (x.w * x.h * n ≤ 1990656000 * d) && decide (x.packing ≤ 1) && decide (0 < pay) && pay % gb == 0 &&
        decide (b.regN 0x0A1C (f + 1) ≤ 2) && (x.sampling == 2 || decide (field c 15 12 ≤ 1)) && decide (field c 11 8 ≤ 2) &&
        decide (field c 7 4 ≤ 1) && decide (field c 3 0 ≤ 1)
      | _, _ => false)
   | 2 => decide (1 ≤ b.regN 0x0A1D (f + 1)) && decide (b.regN 0x0A1D (f + 1) ≤ 1000)
   | _ => false)

/-- The ports of a flow are legal (PORTS of R337). -/
def portsOk : List Leg → Bool
  | [a] => decide (a.port < 4)
  | [a, d] => decide (a.port < 4) && decide (d.port < 4) && decide (a.port ≠ d.port) && decide (a.port / 2 = d.port / 2)
  | _ => false

/-- A leg's addresses are legal on its port (ADDRESS of R337). -/
def Body.legOk (b : Body) (l : Leg) : Bool :=
  let v6 := l.dst.length == 16
  (l.dst.length == 4 || v6) && (b.portAddr l.port v6).isSome && (isMulticast l.dst || b.ownAddr l.port l.dst) &&
  (l.src == [] || l.src.length == l.dst.length)

/-- Wire rate admitted on port p (R336). -/
def Body.portRate (b : Body) (p : Nat) : Nat :=
  ((b.admitted.filter (fun f => (b.legs f).any (fun l => l.port == p))).map (fun f => b.regN 0x0A20 (f + 1))).foldl (· + ·) 0

/-- Wire rate of all admitted flows. -/
def Body.allRate (b : Body) : Nat := (b.admitted.map (fun f => b.regN 0x0A20 (f + 1))).foldl (· + ·) 0

/-- Bytes of the layer buffer region in use: the rings of flows, streams and scalers, stills, and buffers whose ring went
while they were leased. -/
def Body.layerUsed (b : Body) : Nat :=
  let depth := b.forceN 0x0C58 0
  let flows := (b.admitted.filter (fun f => b.regN 0x0A10 (f + 1) == 1)).map (fun f =>
    depth * bufBytes (b.flowFmt f).sampling (b.flowFmt f).w (b.flowFmt f).h)
  let streams := b.media.streams.map (fun p => depth * bufBytes 0 p.2.w p.2.h)
  let c := b.cfgNow
  let copies := ((upFrom 0 31).filter (fun l => (c.scaler? l).isSome)).map (fun l => depth * bufBytes 1 (c.dest l).w (c.dest l).h)
  let loose := (b.lay.bufs.filter (fun p => p.2.kind == 3 || p.2.dying)).map (fun p =>
    if p.2.kind = 3 then p.2.w * p.2.h * (if p.2.alpha then 8 else 6) else bufBytes p.2.fmt.sampling p.2.w p.2.h)
  (flows ++ streams ++ copies ++ loose).foldl (· + ·) 0

/-- `buffer.free`. -/
def Body.layerFree (b : Body) : Nat := b.forceN 0x1801 0 * 2 ^ 20 - b.layerUsed

/-- The result of the admission checks of flow f, in order (R337). -/
def Body.admitResult (b : Body) (f : Nat) : Nat :=
  let ls := b.legs f
  let rate := b.wireRate f
  let x := b.flowFmt f
  if !(b.formatOk f) then 1
  else if !(portsOk ls) then 2
  else if ls.any (fun l => !(b.legOk l)) then 3
  else if b.admitted.any (fun g => (b.legs g).any (fun l => ls.contains l)) then 4
  else if ls.any (fun l => decide (95000 < b.portRate l.port + rate)) then 5
  else if 380000 < b.allRate + rate then 6
  else if b.regN 0x0A10 (f + 1) = 1 ∧ b.layerFree < b.forceN 0x0C58 0 * bufBytes x.sampling x.w x.h then 7
  else 0

/-- The rates admitted, as their entries report them. -/
def Body.setRates (b : Body) : Body :=
  ((upFrom 0 4).foldl (fun x p => x.setReg 0x0A07 (p + 1) (x.portRate p : Nat)) b).setReg 0x0A32 0 (b.allRate : Nat)

/-! ## Membership (R338) -/

/-- The newest version of the membership protocol: IGMPv3, MLDv2 (R338). -/
def newestVersion (v6 : Bool) : Nat := if v6 then 2 else 3

/-- The version port p speaks: the oldest of which a querier is present, its last query within 260 s, the timeout of the RFCs with their
defaults (PRESUMED, log entry 54); else the newest. -/
def Body.version (b : Body) (e : Env) (p : Nat) (v6 : Bool) : Nat :=
  ((upFrom 1 (newestVersion v6 - 1)).find? (fun v => match mfind ((p * 2 + b2n v6) * 4 + v) b.media.compat with
    | some t => !(e.after t 260000000000)
    | none => false)).getD (newestVersion v6)

/-- Source filtering is lost: an older querier is present on port p. -/
def Body.compat (b : Body) (e : Env) (p : Nat) (v6 : Bool) : Bool := b.version e p v6 != newestVersion v6

/-- A change of mode of port p cancels its answers owed and the joins it has yet to repeat, as the RFCs have it (log entry 54). It is noticed
where the port next acts. -/
def Body.noteMode (b : Body) (e : Env) (p : Nat) (v6 : Bool) : Body :=
  let v := b.version e p v6
  if (mfind (p * 2 + b2n v6) b.media.modes).getD (newestVersion v6) = v then b
  else
    let legs := (b.admitted.map (fun f => ((b.legs f).zip [0, 1]).map (fun q => (f, q.2, q.1)))).flatten
    let mine := legs.filter (fun (q : Nat × Nat × Leg) => q.2.2.port == p && (q.2.2.dst.length == 16) == v6)
    { b with media := { b.media with
        modes := minsert (p * 2 + b2n v6) v b.media.modes
        queries := b.media.queries.filter (fun (q : Query) => !(q.port == p && q.v6 == v6))
        unjoin := b.media.unjoin ++ mine.map (fun q => (q.1, q.2.1)) } }

/-- Send a report for a group on port p, in the version the port speaks. Source filtering is lost while an older querier is present, and IGMPv1
has no message to leave with (log entry 54). -/
def Body.report (b : Body) (e : Env) (p kind : Nat) (group : Bytes) (srcs : List Bytes) : Body :=
  let v6 := group.length == 16
  let v := b.version e p v6
  if b.portUp p && !(kind == 3 && v == 1 && !v6) then
    b.emit (.report p v6 v kind group (if v = newestVersion v6 then srcs else []))
  else b

/-- The report that holds a leg's membership: INCLUDE of its source, or EXCLUDE of none. -/
def Body.reportLeg (b : Body) (e : Env) (l : Leg) : Body :=
  if isMulticast l.dst then b.report e l.port (if l.src = [] then 2 else 1) l.dst (if l.src = [] then [] else [l.src]) else b

/-- Join reports of a flow. -/
def Body.reportFlow (b : Body) (e : Env) (f : Nat) : Body := (b.legs f).foldl (fun x l => x.reportLeg e l) b

/-- The answer owed on port p to queries of a group, or to general ones (the empty group). -/
def Body.query? (b : Body) (p : Nat) (v6 : Bool) (group : Bytes) : Option Query :=
  b.media.queries.find? (fun q => q.port == p && q.v6 == v6 && q.group == group)

/-- One answer is owed in place of another for the same group. -/
def Body.owe (b : Body) (q : Query) : Body :=
  { b with media := { b.media with
      queries := b.media.queries.filter (fun (y : Query) => !(y.port == q.port && y.v6 == q.v6 && y.group == q.group)) ++ [q] } }

/-- An answer is owed at a tick to a query of a group or a general one, merged with that owed already to the group. -/
def Body.oweGroup (b : Body) (p : Nat) (v6 : Bool) (group : Bytes) (srcs : List Bytes) (due : Nat) : Body :=
  match group, b.query? p v6 group with
  | _ :: _, some q =>
    b.owe ⟨p, v6, group, Nat.min q.due due,
      if srcs = [] ∨ q.sources = [] then [] else q.sources ++ srcs.filter (fun x => !(q.sources.contains x)), []⟩
  | _, _ => b.owe ⟨p, v6, group, due, srcs, []⟩

/-- A membership query of a version: the port takes the mode it asks for, and an answer is owed after its delay, as the RFCs merge it with those
owed already. A general answer owed sooner answers it as well; a later general one goes; for a group the sooner of the two answers stays, for the
group if either asks for it whole and for the sources of both otherwise (R338; log entry 54). -/
def membershipQuery (e : Env) (p : Nat) (v6 : Bool) (group : Bytes) (srcs : List Bytes) (version : Nat) (delay : Nat) (b0 : Body) : Body :=
  let b := b0.noteMode e p v6
  let b1 := if version < newestVersion v6 then
      ({ b with media := { b.media with compat := minsert ((p * 2 + b2n v6) * 4 + version) e.tb b.media.compat } }.noteMode e p v6).portCause e p 3
    else b
  let due := e.tb + delay * 500000
  match b1.query? p v6 [] with
  | some g =>
    if g.due ≤ due ∧ !(g.muted.contains group) then (if group = [] then b1.owe { g with muted := [] } else b1)
    else b1.oweGroup p v6 group srcs due
  | none => b1.oweGroup p v6 group srcs due

/-- A report or a leave of another member reaches the membership function (R327). In a compatibility mode a report heard for a group takes the
place of the port's own answer for it, as the RFCs have it (R338; log entry 54). -/
def membershipHeard (e : Env) (p : Nat) (v6 : Bool) (group : Bytes) (version : Nat) (leave : Bool) (b0 : Body) : Body :=
  let b := b0.noteMode e p v6
  if leave || !(b.compat e p v6) || decide (newestVersion v6 ≤ version) then b
  else
    { b with media := { b.media with
        queries := (b.media.queries.filter (fun (q : Query) => !(q.port == p && q.v6 == v6 && q.group == group))).map (fun q =>
          if q.port = p ∧ q.v6 = v6 then { q with muted := q.muted ++ [group] } else q) } }

/-- The state of a group on port p, merged from the legs that joined it: none for any source, or the list of its sources (R338). -/
def Body.groupSources (b : Body) (p : Nat) (group : Bytes) : Option (List Bytes) :=
  let mine := (b.admitted.map b.legs).flatten.filter (fun l => l.port == p && l.dst == group)
  if mine.any (fun l => l.src == []) then none
  else some (mine.foldl (fun a l => if a.contains l.src then a else a ++ [l.src]) [])

/-- Report the state of a group in answer to a query for some sources of it, or for all of it, as a port without source filtering always
has it. -/
def Body.answerGroup (b : Body) (e : Env) (p : Nat) (sources : List Bytes) (group : Bytes) : Body :=
  let asked := if b.compat e p (group.length == 16) then [] else sources
  match b.groupSources p group, asked with
  | none, [] => b.report e p 2 group []
  | none, _ => b.report e p 1 group asked
  | some [], _ => b
  | some own, [] => b.report e p 1 group own
  | some own, _ =>
    let both := own.filter (fun x => asked.contains x)
    if both.isEmpty then b else b.report e p 1 group both

/-- The groups joined on port p, each once. -/
def Body.groups (b : Body) (p : Nat) (v6 : Bool) : List Bytes :=
  ((b.admitted.map b.legs).flatten.filter (fun (l : Leg) => l.port == p && (l.dst.length == 16) == v6 && isMulticast l.dst)).foldl
    (fun a l => if a.contains l.dst then a else a ++ [l.dst]) []

/-- The answer to a query falls due: the state of each group it asks for is reported. -/
def queryTimer (e : Env) (p : Nat) (v6 : Bool) (group : Bytes) (b0 : Body) : Body :=
  let b := b0.noteMode e p v6
  match b.query? p v6 group with
  | none => b
  | some q =>
    if e.tb < q.due then b
    else
      let b1 := { b with media := { b.media with queries := b.media.queries.filter (fun (y : Query) => y != q) } }
      if group = [] then ((b1.groups p v6).filter (fun g => !(q.muted.contains g))).foldl (fun x g => x.answerGroup e p [] g) b1 else b1.answerGroup e p q.sources group

/-- A write of 1 to `flow.admit` (R337, R338). One to a flow already admitted changes nothing. -/
def flowAdmit (e : Env) (f : Nat) (b : Body) : Body × Rsp :=
  if b.regN 0x0A1E (f + 1) = 1 then (b, wrote stOK)
  else
    let b0 := b.setReg 0x0A20 (f + 1) (b.wireRate f : Nat)
    match b0.admitResult f with
    | 0 =>
      let ls := b0.legs f
      let b1 := ((b0.setReg 0x0A1F (f + 1) 0).setReg 0x0A1E (f + 1) 1).setRates
      let rx : FlowRx := ⟨[], 0, [], [], ls.map (fun _ => e.tb), ls.map (fun _ => false), some e.tb⟩
      let b2 := ls.foldl (fun x l => x.noteMode e l.port (l.dst.length == 16)) b1
      let b3 := { b2 with media := { b2.media with unjoin := b2.media.unjoin.filter (fun q => q.1 != f) } }
      ((b3.setRx f rx).reportFlow e f, wrote stOK)
    | res => ((b0.setReg 0x0A1F (f + 1) (res : Nat)).flowCause e f 0, wrote stOK)

/-- The join report is sent a second time after 1 s, but on legs where a change of mode has cancelled it (R338). -/
def joinRepeat (e : Env) (f : Nat) (b0 : Body) : Body :=
  let b := (b0.legs f).foldl (fun x l => x.noteMode e l.port (l.dst.length == 16)) b0
  match b.rx? f with
  | none => b
  | some x =>
    match x.joinTb with
    | none => b
    | some t => if e.after t 1000000000 then
        (((b.legs f).zip [0, 1]).filter (fun q => !(b.media.unjoin.contains (f, q.2)))).foldl (fun y q => y.reportLeg e q.1)
          (b.setRx f { x with joinTb := none })
      else b

/-- Release every buffer of a ring and the copies scaled from it (R139, R339, R342). -/
def Body.releaseRing (b : Body) (e : Env) (kind num : Nat) : Body :=
  b.releaseAll e ((b.lay.bufs.filter (fun p => (p.2.kind == kind && p.2.num == num) ||
    (p.2.kind == 6 && p.2.ofKind == kind && p.2.ofNum == num))).map (fun p => p.1))

/-- Every sequence number from lo to hi has been kept. -/
def FlowRx.whole (x : FlowRx) (lo hi : Nat) : Bool := (upFrom lo (hi + 1 - lo)).all (fun n => x.kept.any (fun p => p.seq == n))

/-- An access unit has a sequence gap (R348): by the packets its flow keeps, or as it stood when the flow was deleted. -/
def Body.lost (b : Body) (f : Nat) (a : Au) : Bool :=
  match a.fixed, b.rx? f with
  | some v, _ => v
  | none, some x => !(x.whole a.lo a.hi)
  | none, none => false

/-- A write of 0 to `flow.admit` (R339). -/
def flowDelete (e : Env) (f : Nat) (b : Body) : Body × Rsp :=
  match b.rx? f with
  | none => (b, wrote stOK)
  | some _ =>
    let b1 := (b.legs f).foldl (fun x l => if isMulticast l.dst then x.report e l.port 3 l.dst [] else x) b
    let fix (x : Stream) : Stream :=
      if x.flow = f then { x with aus := x.aus.map (fun a => { a with fixed := some (b1.lost f a) }) } else x
    let b2 := { b1 with media := { b1.media with rx := merase f b1.media.rx,
                                                 streams := b1.media.streams.map (fun (p : Nat × Stream) => (p.1, fix p.2)) } }
    (((b2.setReg 0x0A1E (f + 1) 0).setRates).releaseRing e 1 f, wrote stOK)

/-! ## A complete frame (R86, R116, R119, R126, R129, R194 to R196) -/

/-- A complete frame clears the freeze of layer l: it is of the source that froze, with another signature, and `freeze.auto_clear` is 1
(R196). -/
def Body.thaws (b : Body) (l : Nat) (f : FrameBuf) : Bool :=
  match b.frozenBy l with
  | some x => (x.kind, x.num) == (f.kind, f.num) && x.sig != f.sig && b.cfgNow.lay 0x1122 l == 1
  | none => false

/-- The run of equal frames of a source that a complete frame begins or continues (R194): one whose PT does not advance is not counted, and of
another signature it ends the run all the same. -/
def FreezeRun.next (r : Option FreezeRun) (f : FrameBuf) : FreezeRun :=
  match r with
  | some x =>
    if (x.kind, x.num) ≠ (f.kind, f.num) then ⟨1, f.kind, f.num, f.sig, f.pt⟩
    else if f.pt ≤ x.pt then (if x.sig = f.sig then x else { x with count := 0, sig := f.sig })
    else if x.sig = f.sig then { x with count := x.count + 1, pt := f.pt }
    else ⟨1, f.kind, f.num, f.sig, f.pt⟩
  | none => ⟨1, f.kind, f.num, f.sig, f.pt⟩

/-- The freeze watch of layer l takes a complete frame: of its serving source it is counted (R194), of the source that froze it may clear
the freeze (R196). -/
def Body.watchFreeze (b0 : Body) (e : Env) (l : Nat) (f : FrameBuf) : Body :=
  let b := if b0.thaws l f then b0.clearFreeze e l else b0
  let c := b.cfgNow
  if c.lay 0x0C14 l ≠ 1 ∨ b.ring (c.source l).1 (c.source l).2 ≠ (f.kind, f.num) then b
  else
    let r := FreezeRun.next (mfind l b.lay.freezeRun) f
    let b1 := { b with lay := { b.lay with freezeRun := minsert l r b.lay.freezeRun } }
    if c.lay 0x1120 l ≤ r.count ∧ b1.regN 0x1123 (l + 1) = 0 then b1.freezeLayer e l f else b1

/-- A frame's format fits the scaler of layer l: the taps are reduced where it asks for that (R128, R129). -/
def Body.noteTaps (b : Body) (e : Env) (c : Cfg) (l : Nat) (f : FrameBuf) : Body :=
  let r := c.crop l f.w f.h
  let less := c.reduces l r.w r.h
  let b1 := b.setScaleMark l f.kind f.num (b2n less)
  if less && b.scaleMark l f.kind f.num != 1 then b1.layerCause e l 5 else b1

/-- The copy of a frame for the scaled layer l: its buffer, where one is made (R124, R126, R129). A source whose format broke the scaler's
limits is scaled again only once a commit has corrected it. -/
def Body.scaleFor (b0 : Body) (e : Env) (l s : Nat) (f : FrameBuf) : Body × Option Nat :=
  let c := b0.cfgNow
  let b := b0.noteTaps e c l f
  if !(b0.scalerFits c l f.kind f.num f.w f.h) then
    let r := c.crop l f.w f.h
    let p := b0.srcPeriod f.kind f.num
    let fast := decide (2400000000 * p.1 < r.w * r.h * p.2 * 1000000000) || decide (16 * (c.dest l).w < r.w)
    let b1 := (b0.setScaleMark l f.kind f.num 2).layerCause e l 6
    (if fast then (b1.bump 0x0D07 (s + 1) 1).raise e (288 + s) 0 else b1, none)
  else if b0.scaleMark l f.kind f.num = 2 then (b0, none)
  else
    let d := c.dest l
    let g : FrameBuf := { f with kind := 6, num := s, w := d.w, h := d.h, alpha := false, px := scaleFrame c l s f, ofKind := f.kind,
                                 ofNum := f.num, geom := c.geom l s f.w f.h }
    match b.takeBuf g with
    | none => ((b.bump 0x0C5C 0 1).layerCause e l 7, none)
    | some (b1, id) => (b1, some id)

/-- A frame of a ring is complete in buffer id: its signature, whether it comes late by arrival (R120), the freeze watch, the scaled
copies, and the squashes. A CONCEALED picture counts as refused here, once, by every layer in force that names the stream as source or backup
and takes none such, enabled or not; and again at a commit on the layer that finds it the newest (DESIGN CHOICE; log entry 104). A scaler whose
check fails makes no copy of it (R438; log entry 112). -/
def Body.frameDone (b : Body) (e : Env) (k : PathCheck) (id : Nat) (f0 : FrameBuf) : Body :=
  let rank := b.media.rank + 1
  let late := b.lay.bufs.any (fun p => p.2.kind == f0.kind && p.2.num == f0.num && p.2.done.isSome && decide (f0.pt < p.2.pt))
  let f := { f0 with done := some e.tb, rank := rank, sig := frameSig f0.px, late := late }
  let b1 := { b with media := { b.media with rank := rank }, lay := { b.lay with bufs := minsert id f b.lay.bufs } }
  let users := (upFrom 0 31).filter (fun l => b1.uses b1.cfgNow l f.kind f.num)
  let b2 := users.foldl (fun x l => if f.concealed && b1.cfgNow.lay 0x0C12 l == 1 then x.layerCause e l 3 else x) b1
  let b2' := if late then { b2 with lay := { b2.lay with latePend :=
      (users.filter (fun l => b2.cfgNow.lay 0x0C0F l != 1)).foldl (fun m l => mputD 0 (lateKey l f.kind f.num) (mgetD 0 (lateKey l f.kind f.num) m + 1) m) b2.lay.latePend } }
    else b2
  let b3 := (upFrom 0 31).foldl (fun x l => x.watchFreeze e l f) b2'
  let scaled := users.foldl (fun (a : Body × List Nat) l =>
    let s := b1.cfgNow.lay 0x0C07 l
    if s < 16 ∧ k ≠ .scaler s then
      let r := a.1.scaleFor e l s f
      (r.1, match r.2 with
        | some i => a.2 ++ [i]
        | none => a.2)
    else a) (b3, [])
  (id :: scaled.2).foldl (fun x i => x.squashAll e i) scaled.1

/-! ## Reception (R332, R333, R335) -/

/-- The skew window in ns. -/
def Body.skewNs (b : Body) : Nat := b.regN 0x0A30 0 * 1000000

/-- The silence limit in ns. -/
def Body.silenceNs (b : Body) : Nat := b.regN 0x0A31 0 * 1000000

/-- Extended sequence number nearest the newest kept one (R332); the first packet of a flow starts above one whole turn. -/
def extend (kept : List RxPkt) (turn v : Nat) : Nat :=
  match kept.foldl (fun (a : Option Nat) p => some (Nat.max (a.getD 0) p.seq)) none with
  | none => turn + v % turn
  | some n => ((n : Int) + Int.bmod ((v : Int) - n) turn).toNat

/-- Presentation time of an RTP timestamp whose first kept packet arrived at t_a (R335). Of two counts as near as each other the lower is taken
(DESIGN CHOICE, log entry 111). -/
def ptOf (ts ta : Nat) : Int :=
  let near : Int := (ta * 9 : Nat) / 100000
  let d := Int.bmod ((ts : Int) - near) (2 ^ 32)
  let n := near + (if d = -(2 ^ 31) ∧ ta * 9 % 100000 ≠ 0 then 2 ^ 31 else d)
  n * 100000 / 9

/-- Packets kept from leg B that leg A has not brought within the window (R332, R358). -/
def Body.countRepaired (b : Body) (e : Env) (f : Nat) (x : FlowRx) : Body × FlowRx :=
  let late := x.kept.filter (fun p => p.fromB && e.after p.tb b.skewNs)
  if late.isEmpty then (b, x)
  else (b.bump 0x0A23 (f + 1) late.length,
        { x with kept := x.kept.map (fun p => if e.after p.tb b.skewNs then { p with fromB := false } else p) })

/-- The first sequence number a frame must have, from the first after the marker of the frame before it. Where the packet kept next below is no
marker, that marker was lost, and the frame begins with its own first packet kept; but an access unit behind a gap of two packets or more may have
lost its own first ones, and counts as having lost them (R333, R348; DEDUCED, log entry 41). -/
def FlowRx.startOf (x : FlowRx) (au : Bool) (r : RxFrame) : Nat :=
  match (x.kept.filter (fun p => decide (p.seq < r.first))).foldl (fun (a : Option RxPkt) p => match a with
      | some q => if q.seq < p.seq then some p else some q
      | none => some p) none with
  | some p => if p.marker || (au && decide (p.seq + 2 < r.first)) then p.seq + 1 else r.first
  | none => r.first

/-- Packets that nothing needs any more leave the list: those below the window, every frame in progress and every waiting access
unit, but the newest of them, and those of leg B that leg A may yet bring (R358). -/
def FlowRx.prune (x : FlowRx) (need : List Nat) : FlowRx :=
  let lows := need ++ x.frames.map (fun r => r.first)
  let low := lows.foldl Nat.min x.floor
  let last := (x.kept.filter (fun p => decide (p.seq < low))).foldl (fun a p => Nat.max a p.seq) 0
  { x with kept := x.kept.filter (fun p => decide (low ≤ p.seq) || p.seq == last || p.fromB) }

/-- The pixel a frame's pieces give at (x, y). -/
def pieceAt (ps : List (Nat × Nat × List (List Nat))) (x y : Nat) : Option (List Nat) :=
  (ps.find? (fun p => p.1 == y && decide (p.2.1 ≤ x) && decide (x < p.2.1 + p.2.2.length))).bind (fun p => p.2.2[x - p.2.1]?)

/-- Components of a pixel at column x: an odd column of 4:2:2 holds Y' alone. -/
def compsAt (sampling x : Nat) : Nat := if sampling = 0 ∧ x % 2 = 1 then 1 else 3

/-- A packet fits the declared format (R333). -/
def piecesOk (m : FlowFmt) (p : RtpPacket) : Bool :=
  p.wholeGroups && p.rows.all (fun r => decide (r.1 < m.h) && decide (r.2.1 + r.2.2.length ≤ m.w) &&
    (r.2.2.zip (upFrom r.2.1 r.2.2.length)).all (fun q => q.1.length == compsAt m.sampling q.2))

/-- Remove the frame of a timestamp from a receiver, and note that it has ended. -/
def FlowRx.end (x : FlowRx) (ts : Nat) : FlowRx :=
  { x with frames := x.frames.filter (fun r => r.ts != ts), gone := (x.gone ++ [ts]).drop (x.gone.length + 1 - 8) }

/-- A frame is discarded (R333); `bad` when its packets do not fit the format. -/
def Body.discardFrame (b : Body) (e : Env) (f : Nat) (r : RxFrame) (bad : Bool) : Body :=
  match b.rx? f with
  | none => b
  | some x =>
    let b1 := { b.setRx f (x.end r.ts) with lay := { b.lay with bufs := merase r.buf b.lay.bufs } }
    if b.regN 0x0A10 (f + 1) = 1 then
      let b2 := (b1.bump 0x0A22 (f + 1) 1).flowCause e f 3
      if bad then b2.flowCause e f 5 else b2
    else b1

/-- The picture of a frame's pieces. -/
def picOf (m : FlowFmt) (ps : List (Nat × Nat × List (List Nat))) : List (List (Option (List Nat))) :=
  (upFrom 0 m.h).map (fun y => (upFrom 0 m.w).map (fun x => pieceAt ps x y))

/-- A kind-1 frame that has become complete leaves the receiver (R333). -/
def Body.tryFrame (b : Body) (e : Env) (k : PathCheck) (f : Nat) (ts : Nat) : Body :=
  match b.rx? f with
  | none => b
  | some x =>
    match x.frames.find? (fun r => r.ts == ts) with
    | none => b
    | some r =>
      match r.marker, mfind r.buf b.lay.bufs with
      | some seqM, some buf =>
        let px := picOf (b.flowFmt f) r.pieces
        if x.whole (x.startOf false r) seqM && px.all (fun row => row.all Option.isSome) then
          ((b.setRx f (x.end ts)).bump 0x0A21 (f + 1) 1).frameDone e k r.buf
            { buf with px := px.map (fun row => row.map (fun p => p.getD [])) }
        else b
      | _, _ => b

/-! ## Access units (R343, R344) -/

/-- Stream s, started. -/
def Body.stream? (b : Body) (s : Nat) : Option Stream := mfind s b.media.streams

/-- Replace a started stream. -/
def Body.setStream (b : Body) (s : Nat) (x : Stream) : Body :=
  { b with media := { b.media with streams := minsert s x b.media.streams } }

/-- The started stream of a flow. -/
def Body.streamOf (b : Body) (f : Nat) : Option (Nat × Stream) := b.media.streams.find? (fun p => p.2.flow == f)

/-- `stream.enable` as it reads. -/
def Body.streamState (b : Body) (s : Nat) : Nat := b.regN 0x0B04 (s + 1)

/-- Access units before the first IRAP are discarded while the stream waits for one (R343). -/
def Stream.toIrap (x : Stream) : Stream := { x with aus := x.aus.dropWhile (fun a => !a.irap) }

/-- A complete access unit goes to its stream's bitstream buffer (R344). -/
def Body.putAu (b : Body) (e : Env) (f : Nat) (a : Au) : Body :=
  match b.streamOf f with
  | none => b
  | some (s, x) =>
    let wait := b.streamState s != 2
    if wait && !a.irap && x.aus.isEmpty then b
    else if 8388608 < (x.aus.map (fun u => u.bytes)).foldl (· + ·) 0 + a.bytes then b.streamCause e s 4
    else b.setStream s { x with aus := x.aus ++ [a] }

/-- An access unit whose marker has been kept leaves the receiver. -/
def Body.tryAu (b : Body) (e : Env) (f : Nat) (ts : Nat) : Body :=
  match b.rx? f with
  | none => b
  | some x =>
    match x.frames.find? (fun r => r.ts == ts) with
    | none => b
    | some r =>
      match r.marker with
      | none => b
      | some seqM => (b.setRx f (x.end ts)).putAu e f ⟨ts, r.pt, x.startOf true r, seqM, r.irap, r.bytes, e.tb, none⟩

/-- Sequence numbers the waiting access units of a flow need. -/
def Body.auNeeds (b : Body) (f : Nat) : List Nat := ((b.streamOf f).map (fun p => p.2.aus.map (fun a => a.lo))).getD []

/-! ## A packet of a leg -/

/-- A new frame or access unit begins with its first kept packet; a kind-1 frame that finds no buffer is not written (R138). -/
def Body.beginFrame (b : Body) (e : Env) (f : Nat) (p : RtpPacket) (seq ta : Nat) : Body :=
  match b.rx? f with
  | none => b
  | some x =>
    let pt := ptOf p.ts ta
    let early := decide (pt < (ta : Int) - 1000000000)
    let b1 := if early then b.flowCause e f 6 else b
    let r (id : Nat) : RxFrame := ⟨p.ts, id, ta, pt, seq, seq, e.tb, none, none, [], 0, false⟩
    if b.regN 0x0A10 (f + 1) = 1 then
      let m := b.flowFmt f
      let buf : FrameBuf :=
        { kind := 1, num := f, w := m.w, h := m.h, alpha := false, fmt := fmtOf m.sampling m.depth (b.regN 0x0A1A (f + 1)), px := [],
          count := b.regN 0x0A21 (f + 1), pt := pt, rank := 0, done := none, sig := 0, concealed := false, ofKind := 0, ofNum := 0,
          geom := [], dying := false, late := false }
      match b1.takeBuf buf with
      | none => (b1.setRx f (x.end p.ts)).writerDrop e 1 f
      | some (b2, id) => b2.setRx f { x with frames := x.frames ++ [r id] }
    else b1.setRx f { x with frames := x.frames ++ [r 0] }

/-- A frame takes a kept packet. -/
def RxFrame.take (r : RxFrame) (e : Env) (p : RtpPacket) (seq : Nat) : RxFrame :=
  { r with first := Nat.min r.first seq, hi := Nat.max r.hi seq, lastTb := e.tb,
           marker := if p.marker then some seq else r.marker, pieces := r.pieces ++ p.rows, bytes := r.bytes + p.nal.length,
           irap := r.irap || p.irap }

/-- A packet kept for the first time (R332, R333, R344). Where the checks of the receiver fail, its frame or access unit is discarded incomplete
(R438). -/
def Body.keepPacket (b : Body) (e : Env) (k : PathCheck) (f leg : Nat) (p : RtpPacket) (seq ta : Nat) : Body :=
  match b.rx? f with
  | none => b
  | some x0 =>
    let newest := x0.kept.foldl (fun a q => Nat.max a q.seq) 0
    let mark (r : RxFrame) : RxFrame :=
      if r.ts ≠ p.ts ∧ r.hi < seq ∧ r.later.isNone then { r with later := some e.tb } else r
    let x := { x0 with
      kept := x0.kept ++ [⟨seq, e.tb, p.ts, p.marker, leg == 1⟩]
      frames := x0.frames.map mark
      floor := if newest < seq then
          (x0.kept.filter (fun q => decide (q.tb * 2 + b.skewNs < e.tb * 2))).foldl (fun a q => Nat.max a q.seq) x0.floor
        else x0.floor }
    let b1 := b.setRx f x
    let ended := x.gone.contains p.ts
    let b2 := if ended || x.frames.any (fun r => r.ts == p.ts) then b1 else b1.beginFrame e f p seq ta
    match b2.rx? f with
    | none => b2
    | some y =>
      match y.frames.find? (fun r => r.ts == p.ts) with
      | none => b2
      | some r =>
        if k = .source then b2.discardFrame e f r false
        else if b2.regN 0x0A10 (f + 1) = 1 ∧ !(piecesOk (b2.flowFmt f) p) then b2.discardFrame e f r true
        else
          let b3 := b2.setRx f { y with frames := y.frames.map (fun q => if q.ts = p.ts then q.take e p seq else q) }
          if b2.regN 0x0A10 (f + 1) = 1 then b3.tryFrame e k f p.ts else b3.tryAu e f p.ts

/-- A packet on leg `leg` of flow f (R331, R332). One of another payload type, or a PACI packet, is no packet of the flow. -/
def Body.legPacket (b : Body) (e : Env) (k : PathCheck) (f leg : Nat) (p : RtpPacket) (ta : Nat) : Body :=
  match b.rx? f with
  | none => b
  | some x0 =>
    let x1 := { x0 with legTb := setAt x0.legTb leg e.tb, silent := setAt x0.silent leg false }
    let a := (b.setRx f x1).countRepaired e f x1
    let x := a.2
    let b1 := a.1.setRx f x
    let kind := b.regN 0x0A10 (f + 1)
    if p.pt ≠ b.regN 0x0A17 (f + 1) ∨ (kind = 2 ∧ p.paci) then b1
    else
      let seq := extend x.kept (if kind = 1 then 2 ^ 32 else 65536) p.seq
      if seq ≤ x.floor then b1.flowCause e f 4
      else if x.kept.any (fun q => q.seq == seq) then
        if leg = 0 then
          b1.setRx f { x with kept := x.kept.map (fun q => if q.seq = seq then { q with fromB := false } else q) }
        else b1
      else
        let b2 := b1.keepPacket e k f leg p seq ta
        match b2.rx? f with
        | some y => b2.setRx f (y.prune (b2.auNeeds f))
        | none => b2

/-- The flow leg a packet matches on port p (R327). -/
def Body.legFor (b : Body) (p : Nat) (k : RtpPacket) : Option (Nat × Nat) :=
  ((b.admitted.map (fun f => ((b.legs f).zip [0, 1]).map (fun q => (f, q.2, q.1)))).flatten.find? (fun (q : Nat × Nat × Leg) =>
    q.2.2.port == p && q.2.2.dst == k.dst && q.2.2.udp == k.udp && (q.2.2.src == [] || q.2.2.src == k.src))).map
      (fun q => (q.1, q.2.1))

/-- Bytes a received media frame counts, where the command says them. -/
def frameLen : MediaFrame → Nat
  | .ptp _ _ n => n
  | .udp _ n => n
  | .host n => n
  | .other n => n
  | .echo _ _ _ data => 46 + data.length
  | _ => 0

/-- An ARP packet on port p: a request for its address is answered, a reply to it tells the MAC address of a hop (R326). -/
def arpReceive (p : Nat) (asks : Bool) (mac ip target : Bytes) (b : Body) : Body :=
  if !(b.ownAddr p target) then b.dropFrame p
  else if asks then (b.hopAnswers p ip mac).arpAnswer p mac ip target
  else b.hopAnswers p ip mac

/-- Neighbour discovery on port p (R326): a solicitation for its address is answered; an advertisement tells the MAC address of the hop it
names. -/
def ndReceive (p : Nat) (asks : Bool) (mac src target : Bytes) (b : Body) : Body :=
  if asks then (if b.ownAddr p target then b.ndAnswer p mac src target else b.dropFrame p) else b.hopAnswers p target mac

/-- A frame arrives on port p with a VLAN tag or none (R325 to R327). A PTP message is recognised under any one tag (R64); anything else must
carry the tag of the port. -/
def mediaReceive (e : Env) (p : Nat) (x : TaggedFrame) (b : Body) : Body :=
  if 4 ≤ p ∨ !(b.portUp p) then b
  else if 9216 < frameLen x.frame then b.dropFrame p
  else
    let tagged := x.tag == b.vlanTag p
    match x.frame with
    | .ptp m mine n =>
      if b.ptpMine m then ptpReceive e p m b else if mine && tagged then b.toHost e p n else b.dropFrame p
    | .membershipQuery v6 g srcs v d => if tagged then membershipQuery e p v6 g srcs v d b else b.dropFrame p
    | .membershipReport v6 g v leave => if tagged then membershipHeard e p v6 g v leave b else b.dropFrame p
    | .udp k n =>
      if !tagged then b.dropFrame p
      else
        match b.legFor p k with
        | some (fl, leg) => b.legPacket e x.check fl leg k (b.stampIn e p)
        | none => if b.ownAddr p k.dst then b.toHost e p n else b.dropFrame p
    | .arp asks mac ip target => if tagged then arpReceive p asks mac ip target b else b.dropFrame p
    | .nd asks mac src target => if tagged then ndReceive p asks mac src target b else b.dropFrame p
    | .echo mac src dst data => if tagged && b.ownAddr p dst then b.echoAnswer p mac src dst data else b.dropFrame p
    | .host n => if tagged then b.toHost e p n else b.dropFrame p
    | .other _ => b.dropFrame p

/-- A frame in progress has passed a limit of R333. -/
def Body.overdue (b : Body) (e : Env) (r : RxFrame) : Bool :=
  e.after r.lastTb b.silenceNs || (match r.later with
    | some t => e.after t b.skewNs
    | none => false)

/-- Frames in progress of flow f past their limits are discarded (R333). -/
def incompleteDiscard (e : Env) (f : Nat) (b : Body) : Body :=
  match b.rx? f with
  | none => b
  | some x0 =>
    let a := b.countRepaired e f x0
    (a.2.frames.filter (a.1.overdue e)).foldl (fun y r => y.discardFrame e f r false) (a.1.setRx f a.2)

/-- A leg of flow f has received nothing for `media.timeout` (R332). -/
def legTimeout (e : Env) (f leg : Nat) (b : Body) : Body :=
  match b.rx? f with
  | none => b
  | some x =>
    match x.legTb[leg]?, x.silent[leg]? with
    | some t, some false =>
      if e.after t b.silenceNs then
        let s := setAt x.silent leg true
        let b1 := (b.setRx f { x with silent := s }).flowCause e f 1
        if s.all id then b1.flowCause e f 2 else b1
      else b
    | _, _ => b

/-! ## Streams (R341 to R349) -/

/-- The load of a stream of flow f: maximum size times the flow's frame rate, in units of 1/100,100 of a sample a second. -/
def Body.streamLoad (b : Body) (f w h : Nat) : Nat :=
  match rateOf (b.regN 0x0A19 (f + 1)) with
  | some (d, n) => w * h * n * 100100 / d
  | none => 0

/-- The load of a switch of 10 microseconds before each picture of a stream of flow f, in the same unit: 9,953.28 samples (R340, R344). -/
def Body.streamTurn (b : Body) (f : Nat) : Nat :=
  match rateOf (b.regN 0x0A19 (f + 1)) with
  | some (d, n) => 995328 * n * 1001 / d
  | none => 0

/-- The load of some streams on one engine, by their loads and those of their switches. An engine with one stream switches to no other (R344;
DEDUCED, log entry 94). -/
def loadOf (xs : List (Nat × Nat)) : Nat :=
  (xs.map (fun x => x.1 + (if xs.length ≤ 1 then 0 else x.2))).foldl (· + ·) 0

/-- Loads of the streams that engine d serves. -/
def Body.decStreams (b : Body) (d : Nat) : List (Nat × Nat) :=
  (b.media.streams.filter (fun p => p.2.engine == d)).map (fun p => (p.2.load, p.2.turn))

/-- Admitted load of engine d in units of 1/100,100 of a sample per second, the time of switches included (R344). -/
def Body.decLoad (b : Body) (d : Nat) : Nat := loadOf (b.decStreams d)

/-- The limit of R340 in the same unit. -/
abbrev decLimit : Nat := 995328000 * 100100

/-- The lowest free context of engine d. -/
def Body.freeCtx (b : Body) (d : Nat) : Option Nat :=
  (upFrom 0 8).find? (fun c => !(b.media.streams.any (fun p => p.2.engine == d && p.2.ctx == c)))

/-- The load of engine d with a further stream. -/
def Body.loadWith (b : Body) (d : Nat) (x : Nat × Nat) : Nat := loadOf (b.decStreams d ++ [x])

/-- Engine d can take a further stream. -/
def Body.engineTakes (b : Body) (d : Nat) (x : Nat × Nat) : Bool := (b.freeCtx d).isSome && decide (b.loadWith d x ≤ decLimit)

/-- The engine a start takes: the one named, or the least loaded of those that can (R341). -/
def Body.pickDecoder (b : Body) (want : Nat) (x : Nat × Nat) : Option Nat :=
  if want = 255 then
    ((upFrom 0 4).filter (fun d => b.engineTakes d x)).foldl (fun (a : Option Nat) d => match a with
      | none => some d
      | some o => if b.loadWith d x < b.loadWith o x then some d else some o) none
  else if want < 4 ∧ b.engineTakes want x then some want else none

/-- Bytes of the codec pool region in use (R342). -/
def Body.codecUsed (b : Body) : Nat := (b.media.streams.map (fun p => (p.2.dpb + 1) * p.2.w * p.2.h * 4 + 8388608)).foldl (· + ·) 0

/-- The load each decode engine reports. -/
def Body.setDecLoads (b : Body) : Body :=
  (upFrom 0 4).foldl (fun x d => x.setReg 0x0B20 (d + 1) ((x.decLoad d * 1000 / decLimit : Nat) : Int)) b

/-- A write of 1 to `stream.enable` (R341, R342). One to a started stream changes nothing. -/
def streamStart (e : Env) (s : Nat) (b : Body) : Body × Rsp :=
  if (b.stream? s).isSome then (b, wrote stOK)
  else
    let f := b.regN 0x0B00 (s + 1)
    let sz := b.regN 0x0B02 (s + 1)
    let w := field sz 31 16
    let h := field sz 15 0
    let dpb := b.regN 0x0B03 (s + 1)
    let refuse (n : Nat) : Body × Rsp := ((b.setReg 0x0B05 (s + 1) (n : Nat)).streamCause e s 0, wrote stOK)
    if 16 ≤ f ∨ b.regN 0x0A1E (f + 1) ≠ 1 ∨ b.regN 0x0A10 (f + 1) ≠ 2 ∨ (b.streamOf f).isSome then refuse 1
    else if 4096 < w ∨ 2176 < h ∨ w = 0 ∨ h = 0 then refuse 2
    else
      let l := b.streamLoad f w h
      match b.pickDecoder (b.regN 0x0B01 (s + 1)) (l, b.streamTurn f) with
      | none => refuse 3
      | some d =>
        if b.forceN 0x1802 0 * 2 ^ 20 < b.codecUsed + (dpb + 1) * w * h * 4 + 8388608 ∨
            b.layerFree < b.forceN 0x0C58 0 * bufBytes 0 w h then refuse 4
        else
          let x : Stream := ⟨f, d, (b.freeCtx d).getD 0, w, h, dpb, l, b.streamTurn f, [], [], none, false, false, none⟩
          ((((b.setReg 0x0B05 (s + 1) 0).setReg 0x0B04 (s + 1) 1).setReg 0x0B06 (s + 1) (d : Nat)).setStream s x |>.setDecLoads,
            wrote stOK)

/-- A write of 0 to `stream.enable` (R342, R343). -/
def streamStop (e : Env) (s : Nat) (b : Body) : Body × Rsp :=
  if (b.stream? s).isNone then (b, wrote stOK)
  else
    let b1 := { b with media := { b.media with streams := merase s b.media.streams } }
    ((((b1.setReg 0x0B04 (s + 1) 0).setReg 0x0B06 (s + 1) 255).setDecLoads).releaseRing e 2 s, wrote stOK)

/-- The SPS of a picture fits R340 and the stream's allocation (R343). H.265 codes a level as 30 times its number (PRESUMED, log entry 95). -/
def Stream.fits (x : Stream) (p : Picture) : Bool :=
  (p.chroma == 1 || (p.chroma == 2 && p.profile == 4)) && decide (p.level ≤ 156) && !p.fieldCoded && !p.packed && decide (p.depth ≤ 10) && (p.profile == 1 || p.profile == 2 || p.profile == 4) && decide (p.width ≤ Nat.min 4096 x.w) &&
  decide (p.height ≤ Nat.min 2176 x.h) && decide (p.needDpb ≤ x.dpb)

/-- Black at nominal level in 4:2:2 (R347). -/
def blackPlanes (w h depth : Nat) : List (List Nat) :=
  let c := List.replicate (w / 2 * h) (128 * 2 ^ (depth - 8))
  [List.replicate (w * h) (16 * 2 ^ (depth - 8)), c, c]

/-- The pixels of a decoded picture in the 4:2:2 layout (R334, R345). -/
def PoolPic.px (p : PoolPic) : List (List (List Nat)) :=
  let y := p.planes.getD 0 []
  let cb := p.planes.getD 1 []
  let cr := p.planes.getD 2 []
  let half := cb.length * 4 == p.w * p.h
  (upFrom 0 p.h).map (fun r =>
    let row := if half then r / 2 else r
    (upFrom 0 p.w).map (fun x =>
      let i := row * (p.w / 2) + x / 2
      if x % 2 = 0 then [y.getD (r * p.w + x) 0, cb.getD i 0, cr.getD i 0] else [y.getD (r * p.w + x) 0]))

/-- A picture leaves the decoder into its stream's output ring (R345, R349). -/
def Body.outputPic (b : Body) (e : Env) (k : PathCheck) (s : Nat) (p : PoolPic) : Body :=
  match b.stream? s with
  | none => b
  | some x =>
    let hid := p.concealed || (x.spread && !p.irap)
    let b1 := (b.setStream s { x with spread := hid }).bump 0x0B08 (s + 1) 1
    let b2 := if hid then (b1.bump 0x0B09 (s + 1) 1).streamCause e s 1 else b1
    let buf : FrameBuf :=
      { kind := 2, num := s, w := p.w, h := p.h, alpha := false, fmt := p.fmt, px := p.px, count := b.regN 0x0B08 (s + 1), pt := p.pt,
        rank := 0, done := none, sig := 0, concealed := hid, ofKind := 0, ofNum := 0, geom := [], dying := false, late := false }
    match b2.takeBuf buf with
    | none => b2.writerDrop e 2 s
    | some (b3, id) => b3.frameDone e k id buf

/-- The mark of a picture after a reference picture set (R346). -/
def PoolPic.remark (short long : List Int) (p : PoolPic) : PoolPic :=
  { p with mark := if long.contains p.poc then 2 else if short.contains p.poc then 1 else 0 }

/-- Buffers that are neither referred to nor waiting for output become free (R346). -/
def freePics (pool : List PoolPic) : List PoolPic := pool.filter (fun q => q.mark != 0 || q.waiting)

/-- The bounds that a coded sequence sets the pictures that wait for output: their number, their lateness, and the pictures held (R345). -/
structure Bounds where
  reorder : Nat
  latency : Option Nat
  hold : Option Nat
deriving DecidableEq, Repr

/-- A picture has to leave. -/
def Bounds.full (m : Bounds) (pool : List PoolPic) : Bool :=
  let w := pool.filter (fun q => q.waiting)
  decide (m.reorder < w.length) ||
    (match m.latency with
     | some l => w.any (fun q => decide (l ≤ q.late))
     | none => false) ||
    (match m.hold with
     | some n => decide (n ≤ pool.length)
     | none => false)

/-- The index of the waiting picture that comes first in output order. -/
def nextOut (pool : List PoolPic) : Option Nat :=
  ((pool.zip (upFrom 0 pool.length)).foldl (fun (a : Option (Int × Nat)) p =>
    if !p.1.waiting then a
    else match a with
      | some x => if p.1.poc < x.1 then some (p.1.poc, p.2) else some x
      | none => some (p.1.poc, p.2)) none).map (fun x => x.2)

/-- Pictures leave in output order while a bound asks it: the bumping of H.265 (R345; PRESUMED, log entry 95). Fuel, the pool; what left, and
the pool that stays. -/
def bump (m : Bounds) : Nat → List PoolPic → List PoolPic × List PoolPic
  | 0, pool => ([], pool)
  | n + 1, pool =>
    match nextOut pool with
    | none => ([], pool)
    | some i =>
      match pool[i]?, m.full pool with
      | some q, true =>
        let r := bump m n (freePics (setAt pool i { q with waiting := false }))
        (q :: r.1, r.2)
      | _, _ => ([], pool)

/-- What leaves before a picture is decoded, and the pool it finds: a fresh sequence empties the pool, giving up what waits where it says
so; any other picture makes room (R345). -/
def beforePic (p : Picture) (pool : List PoolPic) : List PoolPic × List PoolPic :=
  if p.fresh then
    let all := pool.map (fun q => { q with mark := 0, waiting := q.waiting && !p.noPrior })
    bump ⟨0, some 0, none⟩ all.length (freePics all)
  else
    let marked := freePics (pool.map (PoolPic.remark p.stShort p.stLong))
    bump ⟨p.reorder, p.latency, some p.needDpb⟩ marked.length marked

/-- What leaves once a picture is decoded (R345): it counts against those that follow it in output order. -/
def afterPic (p : Picture) (pool : List PoolPic) (new : PoolPic) : List PoolPic × List PoolPic :=
  let aged := if p.outFlag then pool.map (fun q => if q.waiting && decide (p.poc < q.poc) then { q with late := q.late + 1 } else q) else pool
  let all := aged ++ [new]
  bump ⟨p.reorder, p.latency, none⟩ all.length all

/-- Component planes with the samples of missing CTUs copied, co-located, from another picture of the same shape (R348): CTU size, addresses,
widths of the planes, the planes, those to copy from. -/
def copyCtus (ctb w : Nat) (missing : List Nat) (planes last : List (List Nat)) : List (List Nat) :=
  if planes.map List.length ≠ last.map List.length then planes
  else
    let across := divUp w (Nat.max 1 ctb)
    let lum := (planes.getD 0 []).length
    ((planes.zip last).zip (upFrom 0 planes.length)).map (fun t =>
      let pw := if t.2 = 0 then w else w / 2
      let step := if t.2 ≠ 0 ∧ t.1.1.length * 4 = lum then 2 else 1
      ((t.1.1.zip t.1.2).zip (upFrom 0 t.1.1.length)).map (fun q =>
        let x := (q.2 % Nat.max 1 pw) * (if t.2 = 0 then 1 else 2)
        let y := q.2 / Nat.max 1 pw * step
        if missing.contains (y / Nat.max 1 ctb * across + x / Nat.max 1 ctb) then q.1.2 else q.1.1))

/-- The pictures that a reference picture set names and the pool lacks (R347). -/
def missingRefs (p : Picture) (pool : List PoolPic) : List Int :=
  (p.stShort ++ p.stLong).foldl (fun a c => if a.contains c || pool.any (fun q => q.poc == c) then a else a ++ [c]) []

/-- A substitute for picture c (R347). -/
def Stream.subst (x : Stream) (p : Picture) (f : Fmt) (pt : Int) (c : Int) : PoolPic :=
  let m := if p.stLong.contains c then 2 else 1
  match x.last with
  | some q => { q with poc := c, mark := m, waiting := false, irap := false, concealed := false, late := 0 }
  | none => ⟨c, m, false, p.width, p.height, f, blackPlanes p.width p.height p.depth, pt, false, false, 0⟩

/-- A picture is decoded: what leaves first, marks, substitutes, the picture itself, what leaves after it (R345 to R349). Where segments are
missing and the stream has no decoded picture to copy from, or one of another shape, the engine's samples stand (log entry 95). -/
def Body.decode (b : Body) (e : Env) (s : Nat) (a : Au) (p : Picture) : Body :=
  match b.stream? s with
  | none => b
  | some x =>
    let f : Fmt := if p.vuiKnown then fmtOf 0 p.depth p.vui else fmtOf 0 p.depth 0
    let b0 := if !p.vuiKnown && x.vui != some p.vui then b.raise e 340 0 else b
    let first := beforePic p x.pool
    let lack := missingRefs p first.2
    let hid := !lack.isEmpty || !p.missing.isEmpty
    let planes := match x.last with
      | some q => copyCtus p.ctb p.width p.missing p.planes q.planes
      | none => p.planes
    let new : PoolPic := ⟨p.poc, 1, p.outFlag, p.width, p.height, f, planes, a.pt, p.irap, hid, 0⟩
    let after := afterPic p (first.2 ++ lack.map (x.subst p f a.pt)) new
    let y := { x with pool := after.2, last := some new, vui := some p.vui }
    let b1 := first.1.foldl (fun z q => z.outputPic e p.check s q) (b0.setStream s y)
    let b2 := if hid then (match b1.stream? s with
      | some z => b1.setStream s { z with spread := true }
      | none => b1) else b1
    let b3 := if lack.isEmpty then b2 else b2.streamCause e s 2
    after.1.foldl (fun z q => z.outputPic e p.check s q) b3

/-- The next access unit a stream decodes: lost ones are passed over, and all before an IRAP while it waits for one. -/
def Body.nextAu (b : Body) (s : Nat) (x : Stream) : List Au :=
  let l := x.aus.dropWhile (b.lost x.flow)
  if b.streamState s = 2 then l else l.dropWhile (fun a => !a.irap || b.lost x.flow a)

/-- The stream engine d decodes from next: that whose oldest access unit became complete first, the lower context on a tie
(R344). -/
def Body.nextStream (b : Body) (d : Nat) : Option Nat :=
  ((b.media.streams.filter (fun p => p.2.engine == d)).foldl (fun (best : Option (Nat × Nat × Nat)) p =>
    match b.nextAu p.1 p.2 with
    | [] => best
    | a :: _ =>
      match best with
      | none => some (a.tb, p.2.ctx, p.1)
      | some (t, c, _) => if a.tb < t ∨ (a.tb = t ∧ p.2.ctx < c) then some (a.tb, p.2.ctx, p.1) else best) none).map (fun t => t.2.2)

/-- A decode engine ends a picture (R343 to R349). One whose decoding meets a syntax error, or in which the checks of the decoder fail, is lost
(R348, R438). A picture of another stream than the engine's next is no event of the
block (log entry 6). -/
def pictureComplete (e : Env) (d : Nat) (p : Picture) (b : Body) : Body :=
  if b.nextStream d ≠ some p.stream then b
  else
    match b.stream? p.stream with
    | none => b
    | some x =>
      match b.nextAu p.stream x with
      | [] => b
      | a :: rest =>
        let s := p.stream
        let st := b.streamState s
        let y := { x with aus := rest }
        let b1 := b.setStream s y
        if p.syntaxError || p.check == .source then b1
        else if st ≠ 2 then
          if p.irap && x.fits p then
            let z := { y with skipRasl := true, pool := if st = 1 then [] else y.pool, last := if st = 1 then none else y.last }
            (((b.setStream s z).setReg 0x0B04 (s + 1) 2).setReg 0x0B07 (s + 1) (p.profile : Nat)).decode e s a
              { p with fresh := true, noPrior := true }
          else b.setStream s y.toIrap
        else if !(x.fits p) then ((b.setStream s y.toIrap).setReg 0x0B04 (s + 1) 3).streamCause e s 3
        else if p.rasl && x.skipRasl then b1
        else
          ((b.setStream s { y with skipRasl := x.skipRasl && !p.irap }).setReg 0x0B07 (s + 1) (p.profile : Nat)).decode e s a p

/-- An access unit has waited for more than two frame periods of its flow (R344). -/
def auWait (e : Env) (s : Nat) (b : Body) : Body :=
  match b.stream? s with
  | none => b
  | some x =>
    match x.aus, rateOf (b.regN 0x0A19 (x.flow + 1)) with
    | a :: _, some (d, n) => if 2 * d * 1000000000 < (e.tb - a.tb) * 2 * n then b.streamCause e s 5 else b
    | _, _ => b

/-! ## Meanings -/

/-- PORT_LINK_DOWN (R328). -/
def execPortLinkDown (port : Nat) (s : State) : Host.Outcome State Fault Refusal := s.act (portDown s.env port)

/-- PORT_LINK_UP (R325). -/
def execPortLinkUp (port : Nat) (s : State) : Host.Outcome State Fault Refusal := s.act (portRise port)

/-- MODULE_POLL (R328). -/
def execModulePoll (port : Nat) (pages : Option Bytes) (s : State) : Host.Outcome State Fault Refusal :=
  s.act (modulePoll s.env port pages)

/-- MEDIA_FRAME_RECEIVE (R327). -/
def execMediaFrameReceive (port : Nat) (f : TaggedFrame) (s : State) : Host.Outcome State Fault Refusal :=
  s.act (mediaReceive s.env port f)

/-- INCOMPLETE_FRAME_DISCARD (R333). -/
def execIncompleteFrameDiscard (flow : Nat) (s : State) : Host.Outcome State Fault Refusal := s.act (incompleteDiscard s.env flow)

/-- LEG_TIMEOUT (R332). -/
def execLegTimeout (flow leg : Nat) (s : State) : Host.Outcome State Fault Refusal := s.act (legTimeout s.env flow leg)

/-- FLOW_ADMIT (R337). -/
def execFlowAdmit (r : Req) (flow : Nat) (s : State) : Host.Outcome State Fault Refusal :=
  s.act (serveWrite s.env r 0x0A1E (flow + 1) (.n 1) (fun _ => flowAdmit s.env flow))

/-- JOIN_REPORT_REPEAT (R338). -/
def execJoinReportRepeat (flow : Nat) (s : State) : Host.Outcome State Fault Refusal := s.act (joinRepeat s.env flow)

/-- FLOW_DELETE (R339). -/
def execFlowDelete (r : Req) (flow : Nat) (s : State) : Host.Outcome State Fault Refusal :=
  s.act (serveWrite s.env r 0x0A1E (flow + 1) (.n 0) (fun _ => flowDelete s.env flow))

/-- STREAM_START (R341). -/
def execStreamStart (r : Req) (stream : Nat) (s : State) : Host.Outcome State Fault Refusal :=
  s.act (serveWrite s.env r 0x0B04 (stream + 1) (.n 1) (fun _ => streamStart s.env stream))

/-- STREAM_STOP (R342). -/
def execStreamStop (r : Req) (stream : Nat) (s : State) : Host.Outcome State Fault Refusal :=
  s.act (serveWrite s.env r 0x0B04 (stream + 1) (.n 0) (fun _ => streamStop s.env stream))

/-- DECODE_PICTURE_COMPLETE (R343 to R349). -/
def execDecodePictureComplete (engine : Nat) (pic : Picture) (s : State) : Host.Outcome State Fault Refusal :=
  s.act (pictureComplete s.env engine pic)

/-- AU_WAIT_TIMEOUT (R344). -/
def execAuWaitTimeout (stream : Nat) (s : State) : Host.Outcome State Fault Refusal := s.act (auWait s.env stream)

/-- QUERY_RESPONSE_TIMER (R338). -/
def execQueryResponseTimer (port : Nat) (v6 : Bool) (group : Bytes) (s : State) : Host.Outcome State Fault Refusal :=
  s.act (queryTimer s.env port v6 group)

end Sys2Proof.Machine
end

