-- ==== Sys2Proof/Machine/Sessions.lean ====
section
/-! DEFINITION. Handshakes, credentials, the life of a session, notifications, event configuration and status, core event lines
(R413 to R420, R430 to R437). -/

namespace Sys2Proof.Machine

/-! ## The end of a session (R417) -/

/-- A session ends: a commit of it that waits is answered to nobody, an operation its open write transfer feeds finds its stream ended, and
stills nothing names any more go. -/
def Body.closeSession (b : Body) (e : Env) (slot detail : Nat) : Body :=
  match b.sess? slot with
  | none => b
  | some x =>
    let b0 := b.endSession e slot detail
    let b1 := ({ b0 with lay := { b0.lay with waits := b0.lay.waits.map (fun (w : GuardWait) =>
      if w.slot = slot then { w with slot := 255 } else w) } }).sweepStills
    match x.wr with
    | some t => if t.idx = 0x1010 then b1.cutStream e 0 else if t.idx = 0x1011 then b1.cutStream e 1 else b1
    | none => b1

/-- End every session with a property. -/
def Body.closeWhere (b : Body) (e : Env) (p : Nat → Session → Bool) (detail : Nat) : Body :=
  ((b.dict.sess.filter (fun s => p s.1 s.2)).map (fun s => s.1)).foldl (fun x s => x.closeSession e s detail) b

/-! ## Handshakes (R413 to R416, R418) -/

/-- The parameter block (R413). -/
def paramBlock (sid cred idle : Nat) : Bytes := be 2 sid ++ be 1 cred ++ [0] ++ be 2 idle ++ be 2 1400

/-- Credential slots that are enabled Custodians. -/
def Body.custodians (b : Body) : List Nat :=
  (upFrom 0 32).filter (fun c => b.regN 0x0220 (c + 1) == 1 && b.regN 0x0221 (c + 1) == 4)

/-- Key and role of a credential (R418). -/
def Body.credOf (b : Body) (c : Nat) : Bytes × Nat :=
  if c = 255 then (List.replicate 32 0, 4) else (mgetD (List.replicate 32 0) c b.dict.keys, b.regN 0x0221 (c + 1))

/-- Seconds of lockout a credential has left; none when it is not locked out (R416). -/
def Body.lockedFor (b : Body) (e : Env) (c : Nat) : Option Nat :=
  match mfind c b.dict.lockEnd with
  | some t => some (divUp ((t - e.tb) * 2) 1000000000)
  | none => none

/-- The lowest session slot that is neither open nor reserved. -/
def Body.freeSlot (b : Body) : Option Nat :=
  (upFrom 0 8).find? (fun s => (b.sess? s).isNone && !(b.dict.hand.any (fun h => h.slot == s)))

/-- Why a HELLO is rejected: code and remaining seconds (R415). -/
def Body.helloBad (b : Body) (e : Env) (via : Transport) (version cred : Nat) : Option (Nat × Nat) :=
  if version ≠ 1 then some (6, 0)
  else if b.freeSlot.isNone ∨ 4 ≤ b.dict.hand.length then some (1, 0)
  else if cred = 255 then (if via ≠ .mailbox ∨ !b.custodians.isEmpty then some (7, 0) else none)
  else if 32 ≤ cred ∨ b.regN 0x0220 (cred + 1) ≠ 1 then some (2, 0)
  else (b.lockedFor e cred).map (fun r => (3, r))

/-- The device serves the dictionary: image 0 runs (R509). -/
def Body.serves (b : Body) (via : Transport) : Bool :=
  b.dev.fw && decide (devVerified ≤ b.devState) && (via == .mailbox || b.regN 0x0120 53 != 3)

/-- A message outside a session leaves the device: no key, sequence 0. -/
def Body.sendBare (b : Body) (e : Env) (sid : Nat) (via : Transport) (peer : Bytes) (r : Rsp) : Body :=
  b.sendRsp e none sid via peer 0 0 r

/-- HELLO with the device's fresh nonce nd (R413). -/
def hello (e : Env) (via : Transport) (peer : Bytes) (version cred idle : Nat) (nc nd : Bytes) (b : Body) : Body :=
  if !(b.serves via) then b
  else
    match b.helloBad e via version cred, b.freeSlot with
    | some (code, rem), _ => b.sendBare e 0 via peer (.reject code rem)
    | none, none => b
    | none, some slot =>
      let ctr := if b.dict.sidCtr % 8192 + 1 = 8192 then 1 else b.dict.sidCtr % 8192 + 1
      let sid := ctr * 8 + slot
      let t := if idle = 0 then 30 else Nat.max 5 (Nat.min 3600 idle)
      let h : Handshake := ⟨sid, slot, cred, via, peer, t, nc, nd, e.tb⟩
      ({ b with dict := { b.dict with sidCtr := ctr, hand := b.dict.hand ++ [h] } }).sendBare e sid via peer
        (.challenge nd (paramBlock sid cred t))

/-- A wrong proof: a failure, and the lockout at the fifth in a row (R416). -/
def Body.proofFails (b : Body) (e : Env) (c : Nat) : Body :=
  if 32 ≤ c then b.raise e 34 c
  else
    let n := b.regN 0x0224 (c + 1) + 1
    let b1 := ({ (b.setReg 0x0224 (c + 1) (n : Nat)) with dict := { b.dict with lastFail := minsert c e.tb b.dict.lastFail } }).raise e 34 c
    if n = 5 then
      ({ b1 with dict := { b1.dict with
          lockEnd := minsert c (e.tb + 60 * 2 ^ b1.regN 0x0226 (c + 1) * 500000000) b1.dict.lockEnd } }).raise e 35 c
    else b1

/-- A session as it opens. -/
def Session.start (h : Handshake) (role : Nat) (keys : Bytes) (e : Env) : Session :=
  { sid := h.sid, cred := h.cred, role := role, via := h.via, peer := h.peer, kc2d := keys.take 32, kd2c := keys.drop 32,
    idle := h.idle, opened := e.wt, last := e.tb, hi := 0, window := 0, kept := [], tx := 0, own := [], shadow := [], shadowB := [],
    gather := [], gatherTb := none, sent := [], lost := 0, wr := none, rd := none, attest := ⟨none, 0, none, none⟩, tagFail := 0 }

/-- PROVE within 5 s of its CHALLENGE; a handshake that is rejected gives up its reservation (R413 to R416). -/
def prove (e : Env) (via : Transport) (peer : Bytes) (version sid : Nat) (proof : Bytes) (b : Body) : Body :=
  if !(b.serves via) then b
  else
    match b.dict.hand.find? (fun h => h.sid == sid && h.via == via && h.peer == peer) with
    | none => b.sendBare e sid via peer (.reject (if version ≠ 1 then 6 else 5) 0)
    | some h =>
      let b1 := { b with dict := { b.dict with hand := b.dict.hand.filter (fun (y : Handshake) => y.sid != sid) } }
      if version ≠ 1 then b1.sendBare e sid via peer (.reject 6 0)
      else if e.beyond h.tb 5000000000 then b1.sendBare e sid via peer (.reject 5 0)
      else
        let p := paramBlock sid h.cred h.idle
        let k := b.credOf h.cred
        if hmac k.1 (ascii "IDP prove" ++ h.nc ++ h.nd ++ p) ≠ proof then
          (b1.proofFails e h.cred).sendBare e sid via peer (.reject 4 0)
        else
          let b2 := if h.cred < 32 then (b1.setReg 0x0224 (h.cred + 1) 0).setReg 0x0226 (h.cred + 1) 0 else b1.raise e 37 0
          let x := Session.start h k.2 (hkdf (h.nc ++ h.nd) k.1 (ascii "IDP keys" ++ p) 64) e
          ((b2.setSess h.slot x).sendRsp e (some x.kd2c) sid via peer 0 0 (.welcome k.2 h.idle (Wtime.ofNs e.wt))).raise e 32 sid

/-- A handshake without PROVE within 5 s is forgotten (R413, R415). -/
def handshakeExpiry (e : Env) (sid : Nat) (b : Body) : Body :=
  { b with dict := { b.dict with hand := b.dict.hand.filter (fun (h : Handshake) => !(h.sid == sid && e.beyond h.tb 5000000000)) } }

/-- No accepted message for the idle timeout (R417). -/
def idleTimeout (e : Env) (slot : Nat) (b : Body) : Body :=
  match b.sess? slot with
  | some x => if e.after x.last (x.idle * 1000000000) then b.closeSession e slot 1 else b
  | none => b

/-- A lockout ends (R416). -/
def lockoutExpiry (e : Env) (c : Nat) (b : Body) : Body :=
  match mfind c b.dict.lockEnd with
  | some t =>
    if t ≤ e.tb then
      (({ b with dict := { b.dict with lockEnd := merase c b.dict.lockEnd } }).setReg 0x0224 (c + 1) 0).setReg 0x0226 (c + 1)
        ((Nat.min 6 (b.regN 0x0226 (c + 1) + 1) : Nat) : Int)
    else b
  | none => b

/-- 24 hours without a failure return the lockout level to 0 (R416). -/
def lockLevelReset (e : Env) (c : Nat) (b : Body) : Body :=
  match mfind c b.dict.lastFail with
  | some t => if e.after t 86400000000000 then b.setReg 0x0226 (c + 1) 0 else b
  | none => b

/-- The session in a slot has an accepted write of `seq` answered OK. -/
def Body.wroteOK (b : Body) (slot seq : Nat) : Bool :=
  match b.sess? slot with
  | some x => x.kept.any (fun k => k.seq == seq && (k.rsp == some (wrote stOK) || k.rsp == some (.blobClose stOK)))
  | none => false

/-- A write of 1 to `sess.end` of a slot (R417). A session that ends itself is answered first. -/
def sessEnd (e : Env) (self slot : Nat) (b : Body) : Body × Rsp :=
  match b.sess? slot with
  | none => (b, wrote stState)
  | some _ => (if self = slot then b else b.closeSession e slot 2, wrote stOK)

/-! ## Credentials (R417 to R419) -/

/-- A credential has changed: its time, event 37; sessions that use it end where `cut` says so, the writing one after its
response. -/
def Body.credChanged (b : Body) (e : Env) (self c : Nat) (cut : Bool) : Body :=
  let b1 := (b.setReg 0x0227 (c + 1) (e.wt : Nat)).raise e 37 0
  if cut then b1.closeWhere e (fun s x => x.cred == c && s != self) 3 else b1

/-- A write to `cred.key`: unwrapped with the pad of R419. -/
def credKey (e : Env) (self seq c : Nat) (wrapped : Bytes) (b : Body) : Body × Rsp :=
  match b.sess? self with
  | none => (b, wrote stState)
  | some x =>
    let pad := hkdf [] x.kc2d (ascii "IDP wrap" ++ be 1 c ++ be 4 seq) 32
    let k : Bytes := (wrapped.zip pad).map (fun p => p.1 ^^^ p.2)
    if wrapped.length ≠ 32 ∨ k = List.replicate 32 0 then (b, wrote stRange)
    else (({ b with dict := { b.dict with keys := minsert c k b.dict.keys } }).credChanged e self c true, wrote stOK)

/-- A write to `cred.enable` or `cred.role`. -/
def credWrite (e : Env) (self idx c v : Nat) (b : Body) : Body × Rsp :=
  let b1 := b.setReg idx (c + 1) (v : Nat)
  if !b.custodians.isEmpty && b1.custodians.isEmpty then (b, wrote stLastCustodian)
  else (b1.credChanged e self c (idx == 0x0221 || v == 0), wrote stOK)

/-- After the response: the writing session ends when it has cut its own credential (R417). -/
def Body.cutSelf (b : Body) (e : Env) (slot seq c : Nat) (cut : Bool) : Body :=
  match b.sess? slot with
  | some x => if cut && x.cred == c && b.wroteOK slot seq then b.closeSession e slot 3 else b
  | none => b

/-! ## Notifications (R435) -/

/-- A record as NOTIFY carries it: the layout of R433, big-endian. -/
def EvRec.be (r : EvRec) : Bytes :=
  Machine.be 8 r.t64 ++ Machine.be 2 r.src ++ Machine.be 1 r.sev ++ Machine.be 1 r.line ++ Machine.be 2 r.detail ++ Machine.be 2 r.count

/-- A record as the event rings hold it (R433). -/
def EvRec.le (r : EvRec) : Bytes :=
  Machine.le 8 r.t64 ++ Machine.le 2 r.src ++ Machine.le 1 r.sev ++ Machine.le 1 r.line ++ Machine.le 2 r.detail ++ Machine.le 2 r.count

/-- Send a NOTIFY on a session. -/
def Body.sendNotify (b : Body) (e : Env) (x : Session) (n : Notify) : Body :=
  (b.emit (.notify x.sid n.nseq n.lost n.recs)).leave e x.via x.peer (deviceMsg (some x.kd2c) 0x30 x.sid n.nseq
    (be 1 n.recs.length ++ be 2 (Nat.min n.lost 65535) ++ (n.recs.map EvRec.be).flatten))

/-- Records gathered for 1 ms leave, up to 32 (R435). -/
def gatherExpiry (e : Env) (slot : Nat) (b : Body) : Body :=
  match b.sess? slot with
  | none => b
  | some x =>
    match x.gatherTb with
    | none => b
    | some t =>
      if !(e.after t 1000000) ∨ x.gather.isEmpty then b
      else
        let n : Notify := ⟨x.tx + 1, x.lost, x.gather.take 32, 0, e.tb⟩
        let rest := x.gather.drop 32
        let y := { x with tx := x.tx + 1, lost := 0, gather := rest, gatherTb := if rest.isEmpty then none else some t, sent := x.sent ++ [n] }
        (b.setSess slot y).sendNotify e y n

/-- A NOTIFY is acknowledged. -/
def notifyAck (slot nseq : Nat) (b : Body) : Body :=
  b.modSess slot (fun x => { x with sent := x.sent.filter (fun n => n.nseq != nseq) })

/-- A NOTIFY not acknowledged within 100 ms is repeated, up to three times, and then dropped. -/
def notifyRetransmit (e : Env) (slot nseq : Nat) (b : Body) : Body :=
  match b.sess? slot with
  | none => b
  | some x =>
    match x.sent.find? (fun n => n.nseq == nseq) with
    | none => b
    | some n =>
      if !(e.after n.tb 100000000) then b
      else if n.tries < 3 then
        let n' := { n with tries := n.tries + 1, tb := e.tb }
        (b.setSess slot { x with sent := x.sent.map (fun y => if y.nseq = nseq then n' else y) }).sendNotify e x n'
      else
        (b.setSess slot { x with sent := x.sent.filter (fun y => y.nseq != nseq), lost := x.lost + n.lost + n.recs.length }).raise e 38 0

/-! ## Event configuration and status (R430 to R433) -/

/-- A write to `evt.config` (R432). -/
def evtConfig (role src v : Nat) (b : Body) : Body × Rsp :=
  let old := b.evCfg src
  let alloc := field (evtConfigDefault src) 27 26
  if alloc = 3 ∧ (field v 27 26 ≠ field old 27 26 ∨ bit v 31 ≠ bit old 31 ∨ field v 25 20 ≠ field old 25 20) then (b, wrote stFixed)
  else if field v 27 26 = 3 ∧ field old 27 26 ≠ 3 then (b, wrote stFixed)
  else if field v 25 20 ≠ field old 25 20 ∧ role ≠ 3 then (b, wrote stRole)
  else (b.setReg (0x0300 + src / 128) (src % 128 + 1) (v : Nat), wrote stOK)

/-- A write to `evt.status` (R431). -/
def evtStatus (src v : Nat) (b : Body) : Body × Rsp :=
  let k := 0x0308 + src / 128
  let old := b.regN k (src % 128 + 1)
  let s := if bit v 31 then 0 else old / 2 ^ 31 * 2 ^ 31
  let n := if bit v 0 then 0 else old % 65536
  (b.setReg k (src % 128 + 1) (s + n : Nat), wrote stOK)

/-- The cores write 1s to LINE_PENDING (R433). -/
def linePendingWrite (v : Nat) (b : Body) : Body :=
  let old := b.ev.linePending
  let off := Nat.land old v
  (((upFrom 0 64).filter (fun i => bit off i)).map (fun i => Out.coreLine i false)).foldl Body.emit
    { b with ev := { b.ev with linePending := old - off } }

/-! ## The from-device ring (R420) -/

/-- Messages held while the ring was full are posted as slots come free. -/
def postHeld (e : Env) : Nat → Body → Body
  | 0, b => b
  | k + 1, b =>
    match b.mbox.held with
    | [] => b
    | m :: ms =>
      if b.mbox.fdWrite - b.mbox.fdRead < 16 then
        postHeld e k (({ b with mbox := { b.mbox with held := ms, fdWrite := b.mbox.fdWrite + 1, fdRing := b.mbox.fdRing ++ [m] } }).raise e 40 0)
      else b

/-- The cores write FD_READ. -/
def fdRead (e : Env) (v : Nat) (b : Body) : Body :=
  let n := Nat.min ((v + 2 ^ 32 - b.mbox.fdRead % 2 ^ 32) % 2 ^ 32) (b.mbox.fdWrite - b.mbox.fdRead)
  postHeld e b.mbox.held.length { b with mbox := { b.mbox with fdRead := b.mbox.fdRead + n, fdRing := b.mbox.fdRing.drop n } }

/-! ## Meanings -/

/-- HELLO (R413). -/
def execHello (via : Transport) (peer : Bytes) (version cred idle : Nat) (nc nd : Bytes) (s : State) :
    Host.Outcome State Fault Refusal :=
  s.act (hello s.env via peer version cred idle nc nd)

/-- PROVE (R413). -/
def execProve (via : Transport) (peer : Bytes) (version sid : Nat) (proof : Bytes) (s : State) :
    Host.Outcome State Fault Refusal :=
  s.act (prove s.env via peer version sid proof)

/-- HANDSHAKE_EXPIRY (R413). -/
def execHandshakeExpiry (sid : Nat) (s : State) : Host.Outcome State Fault Refusal := s.act (handshakeExpiry s.env sid)

/-- SESSION_IDLE_TIMEOUT (R417). -/
def execSessionIdleTimeout (slot : Nat) (s : State) : Host.Outcome State Fault Refusal := s.act (idleTimeout s.env slot)

/-- SESS_END_WRITE (R417). -/
def execSessEndWrite (r : Req) (slot : Nat) (s : State) : Host.Outcome State Fault Refusal :=
  s.act (serve s.env r 0x12 (writeBody 0x0206 (slot + 1) .u8 (.n 1))
    (fun self b =>
      let a := checkedWrite s.env (b.roleOf self) 0x0206 (slot + 1) .u8 (.n 1) (sessEnd s.env self slot) b
      (a.1, some a.2))
    (fun self b => if self = slot ∧ b.wroteOK self r.seq then b.closeSession s.env slot 2 else b))

/-- LOCKOUT_EXPIRY (R416). -/
def execLockoutExpiry (cred : Nat) (s : State) : Host.Outcome State Fault Refusal := s.act (lockoutExpiry s.env cred)

/-- LOCK_LEVEL_RESET (R416). -/
def execLockLevelReset (cred : Nat) (s : State) : Host.Outcome State Fault Refusal := s.act (lockLevelReset s.env cred)

/-- CRED_KEY_WRITE (R419). -/
def execCredKeyWrite (r : Req) (cred : Nat) (wrapped : Bytes) (s : State) : Host.Outcome State Fault Refusal :=
  s.act (serve s.env r 0x12 (writeBody 0x0223 (cred + 1) .blob (.b wrapped))
    (fun self b =>
      let a := checkedWrite s.env (b.roleOf self) 0x0223 (cred + 1) .blob (.b wrapped) (credKey s.env self r.seq cred wrapped) b
      (a.1, some a.2))
    (fun self b => b.cutSelf s.env self r.seq cred true))

/-- CRED_WRITE (R417, R418). -/
def execCredWrite (r : Req) (idx cred v : Nat) (s : State) : Host.Outcome State Fault Refusal :=
  s.act (serve s.env r 0x12 (writeBody idx (cred + 1) (tyOf idx (cred + 1)) (.n v))
    (fun self b =>
      if idx ≠ 0x0220 ∧ idx ≠ 0x0221 then (b, some (wrote stNoEntry))
      else
        let a := checkedWrite s.env (b.roleOf self) idx (cred + 1) (tyOf idx (cred + 1)) (.n v) (credWrite s.env self idx cred v) b
        (a.1, some a.2))
    (fun self b => b.cutSelf s.env self r.seq cred (idx == 0x0221 || v == 0)))

/-- NOTIFY_GATHER_EXPIRY (R435). -/
def execNotifyGatherExpiry (slot : Nat) (s : State) : Host.Outcome State Fault Refusal := s.act (gatherExpiry s.env slot)

/-- NOTIFY_ACK (R435). -/
def execNotifyAck (r : Req) (nseq : Nat) (s : State) : Host.Outcome State Fault Refusal :=
  s.act (serve s.env r 0x31 (be 4 nseq) (fun slot b => (notifyAck slot nseq b, none)) (fun _ b => b))

/-- NOTIFY_RETRANSMIT (R435). -/
def execNotifyRetransmit (slot nseq : Nat) (s : State) : Host.Outcome State Fault Refusal :=
  s.act (notifyRetransmit s.env slot nseq)

/-- KEEPALIVE (R410). -/
def execKeepalive (r : Req) (body : Bytes) (s : State) : Host.Outcome State Fault Refusal :=
  s.act (serve s.env r 0x3E body (fun _ b => (b, some (.echo false body))) (fun _ b => b))

/-- CLOSE (R417). -/
def execClose (r : Req) (body : Bytes) (s : State) : Host.Outcome State Fault Refusal :=
  s.act (serve s.env r 0x3F body (fun _ b => (b, some (.echo true body))) (fun slot b => b.closeSession s.env slot 0))

/-- EVT_CONFIG_WRITE (R432). -/
def execEvtConfigWrite (r : Req) (src v : Nat) (s : State) : Host.Outcome State Fault Refusal :=
  s.act (serveWrite s.env r (0x0300 + src / 128) (src % 128 + 1) (.n v) (fun slot b => evtConfig (b.roleOf slot) src v b))

/-- EVT_STATUS_WRITE (R431). -/
def execEvtStatusWrite (r : Req) (src v : Nat) (s : State) : Host.Outcome State Fault Refusal :=
  s.act (serveWrite s.env r (0x0308 + src / 128) (src % 128 + 1) (.n v) (fun _ => evtStatus src v))

/-- LINE_PENDING_WRITE (R433). -/
def execLinePendingWrite (v : Nat) (s : State) : Host.Outcome State Fault Refusal := s.act (linePendingWrite v)

/-- MAILBOX_FD_READ (R420). -/
def execMailboxFdRead (v : Nat) (s : State) : Host.Outcome State Fault Refusal := s.act (fdRead s.env v)

end Sys2Proof.Machine
end

