-- ==== Sys2Proof/Machine/Device.lean ====
section
/-! DEFINITION. Clock domains and references, supervision, doubt from outside, recovery and thaw, reset, boot, the target state (R25 to
R28, R32, R379, R380, R442 to R445, R478, R495, R500 to R511, R518, R528). -/

namespace Sys2Proof.Machine

/-! ## Fault conditions (R442, R445) -/

/-- A condition of doubt cause c is present. -/
def Body.faultOn (b : Body) (c k : Nat) : Body :=
  { b with flt := { b.flt with present := mputD 0 c (setBit (mgetD 0 c b.flt.present) k true) b.flt.present } }

/-- A condition of doubt cause c has gone; when it was the last, the tick is noted. -/
def Body.faultOff (b : Body) (e : Env) (c k : Nat) : Body :=
  let v := mgetD 0 c b.flt.present
  if bit v k then
    let w := setBit v k false
    { b with flt := { b.flt with present := mputD 0 c w b.flt.present,
                                 cleared := if w = 0 then minsert c e.tb b.flt.cleared else b.flt.cleared } }
  else b

/-- Every condition of the cause has been absent for the last 1 s. -/
def Body.faultGone (b : Body) (e : Env) (c : Nat) : Bool :=
  mgetD 0 c b.flt.present == 0 && (match mfind c b.flt.cleared with
    | some t => e.after t 1000000000
    | none => true)

/-! ## Reset (R405, R500, R501) -/

/-- Entries kept in MRAM besides the Reset class: credentials, dose export serial, retention tables, the epoch, the tally, the silicon
plan and what R529 names (R405, R437, R447, R474, R485 to R489). -/
def mramIdx (idx : Nat) : Bool :=
  (0x0220 ≤ idx && idx ≤ 0x0227) || (0x1C00 ≤ idx && idx ≤ 0x1C12) ||
  [0x1503, 0x1508, 0x1C14, 0x1D04, 0x1D05, 0x1D06, 0x1D07, 0x1D08, 0x1D09, 0x1D0D, 0x010F, 0x0110, 0x0118, 0x0119, 0x1A03].contains idx

/-- An entry is of class Reset. -/
def isReset (k : Nat) : Bool :=
  match lookup (k / 256) (k % 256) with
  | some t => t.cls == .reset
  | none => false

/-- A stored value survives a reset. -/
def keptKey (k : Nat) : Bool := mramIdx (k / 256) || isReset k

/-- The body at the assertion of a reset of a cause: what MRAM keeps, the outputs' record, and the triggers low (R501). A reset
that lasts a stated time ends no sooner than `due` (R500). -/
def Body.resetTo (b : Body) (cause : Nat) (due : Option Nat) : Body :=
  let low := b.trigsLow
  { Body.reset with
    num := b.num.filter (fun p => keptKey p.1)
    blob := b.blob.filter (fun p => keptKey p.1)
    dict := { Body.reset.dict with keys := b.dict.keys, lockEnd := b.dict.lockEnd, lastFail := b.dict.lastFail }
    si := { Silicon.reset with seen := b.si.seen }
    dev := { Body.reset.dev with cause := some cause, resetDue := due, epochSet := b.dev.epochSet }
    out := low.out
    free := b.free }

/-- The body after an effect, with the wall clock at zero once a reset has been asserted (R34, R500). -/
def State.settle (s : State) (b : Body) : State :=
  if b.dev.cause.isSome && s.b.dev.cause.isNone then { s with clk := { Clock.reset with tb := s.clk.tb }, b := b }
  else { s with b := b }

/-- The answer of a meaning that may assert a reset. -/
def State.actR (s : State) (f : Body → Body) : Host.Outcome State Fault Refusal := .next (s.settle (f s.b))

/-- A reset asserted from outside: power, pin; and the supervisor pair's own in SAFE, which lasts 1 ms (R500). -/
def resetAssert (e : Env) (cause : Nat) (b : Body) : Body :=
  if cause = 1 ∨ cause = 2 then b.resetTo cause none
  else if cause = 4 ∧ b.devState = devSafe then b.resetTo 4 (some (e.tb + 500000))
  else b

/-- The reset of a write to `dev.reset`: it ends 10 ms after the response has left. -/
def Body.dictReset (b : Body) (e : Env) : Body := b.resetTo 3 (some (e.tb + 5000000))

/-- Boot sources of BOOT_SEL (R503): 1 slot A, 2 slot B, 3 management port. -/
def bootSources (sel : Nat) : List Nat := [[1, 2], [3], [1, 2, 3], []].getD sel []

/-- The capture inputs take their levels. -/
def Body.takeLevels (b : Body) (levels : List Bool) : Body :=
  { b with tu := { b.tu with cap := ((upFrom 0 8).zip levels).foldl (fun m (p : Nat × Bool) =>
      mputD Capture.reset p.1 { Capture.reset with raw := p.2, qual := p.2 } m) b.tu.cap } }

/-- A damaged tally word is set to 0 (R478). -/
def Body.healTally (b : Body) (e : Env) (w : Nat × Nat) : Body :=
  if 18 < w.1 then b
  else
    let idx := if w.1 = 16 then 0x1D0D else if w.1 = 17 then 0x1D04 else if w.1 = 18 then 0x1D09 else 0x1C00 + w.1
    ((b.setReg idx w.2 0).setReg 0x1C12 0 (Nat.lor (b.regN 0x1C12 0) (2 ^ w.1) : Nat)).raise e 978 w.1

/-- The pair begins: SEEKING, and at the first reset with `pair.mode` = 1 the epoch is PAIR_ROLE (R447, R448). Until then the epoch has its
default, which is PAIR_ROLE too (R467). -/
def Body.startPair (b : Body) (role : Nat) : Body :=
  if b.forceN 0x1A00 0 = 1 then
    let b1 := b.setReg 0x1A02 0 (pairSeeking : Nat)
    if b1.dev.epochSet then b1.setEpoch (b1.regN 0x1A03 0)
    else ({ b1 with dev := { b1.dev with epochSet := true } }).setEpoch role
  else b.setEpoch (if b.dev.epochSet then b.regN 0x1A03 0 else role)

/-- A reset ends: BOOT is entered with the island on its oscillator while its PLL locks (R24), the pins are sampled, Reset-class values go into force, the fuses and the tally are checked, the
sensors take their first sample (R404, R470, R478, R500 to R502, R509, R528). -/
def resetEnd (e : Env) (sel role : Nat) (fuseOk : Bool) (temps : List Int) (damaged : List (Nat × Nat)) (levels : List Bool)
    (b : Body) : Body :=
  match b.dev.cause with
  | none => b
  | some c =>
    let early := match b.dev.resetDue with
      | some t => decide (e.tb < t)
      | none => false
    if early then b
    else
      let b1 := { b with
        dev := { b.dev with cause := none, resetDue := none, role := role, bootSel := sel, sources := bootSources sel, bootTb := e.tb,
                            force := b.num.filter (fun p => isReset p.1), forceB := b.blob.filter (fun p => isReset p.1) }
        si := { b.si with winTb := e.tb } }
      let b2 := (((b1.setReg 0x010E 0 (c : Nat)).setReg 0x0114 0 (sel : Nat)).setReg 0x1A01 0 (role : Nat)).startPair role
      let b3 := ((((b2.takeLevels levels).setReg 0x0120 60 1).enter e devBoot).raise e 1 c).tally e 1 0 1
      let b40 := damaged.foldl (fun x w => x.healTally e w) b3
      let b4 := { b40 with si := { b40.si with budget := b40.regN 0x1D09 0 } }
      let b5 := ((temps.take 12).zip (upFrom 0 12)).foldl (fun x p =>
        let y := x.setReg 0x1D0B (p.2 + 1) p.1
        if p.1 < 0 then y.raise e 7 p.2 else y) b4
      if fuseOk then b5
      else (({ b5 with dev := { b5.dev with sources := [] } }).raise e 10 0).doubt e 7 0xFFFFFFFF

/-! ## Boot (R503 to R509) -/

/-- A domain's PLL has lost lock and not locked again. -/
def Body.clkLost (b : Body) (d : Nat) : Bool := b.regN 0x0120 (d + 1) == 3

/-- PLLs enter the state given; one that has lost lock stays lost until it locks again (R27). -/
def Body.clocks (b : Body) (ds : List Nat) (st : Nat) : Body :=
  ds.foldl (fun x d => if x.clkLost d then x else x.setReg 0x0120 (d + 1) (st : Nat)) b

/-- No doubt holds any longer. -/
def Body.clearDoubt (b : Body) : Body := b.setReg 0x1A10 0 0

/-- BOOT, or SAFE on a retry, with a valid source and REFCLK0 verified: VERIFIED (R509). Image 0 starts, the dictionary is served, memory
training starts, every PLL but those of the engines, the fabric and the cores is locked, and theirs are locking (log entry 61). A retry
that leaves SAFE frees the time outputs (R55, R60). -/
def Body.bootEnter (b : Body) (e : Env) : Body :=
  if b.dev.found ∧ !b.dev.fw ∧ bit (b.regN 0x0123 0) 0 ∧ (b.devState = devBoot ∨ b.devState = devSafe ∧ b.regN 0x1A10 0 = 7) then
    let b1 := (({ b with dev := { b.dev with fw := true, sources := [] } }).clocks (upFrom 0 56) 2).clocks [56, 57, 58] 1
    (b1.trigsIdle.clearDoubt.setReg 0x1805 0 1).enter e devVerified
  else b

/-- The images a part must name (R506): number, target, largest length. -/
def partImages (owner : Bool) : List (Nat × Nat × Nat) :=
  if owner then [(2, 2, 25165824)] else [(0, 0, 1572864), (1, 1, 8388608)]

/-- Images of a part that fail (R505 to R507): all of them where the part's own fields, CRC, key, signature or version fail. -/
def partFails (p : Option BootPart) (owner : Bool) (floor : Nat) : List Nat :=
  let want := partImages owner
  match p with
  | none => want.map (fun w => w.1)
  | some q =>
    let named (w : Nat × Nat × Nat) : Bool := q.images.any (fun i => i.1 == w.1 && i.2.1 == w.2.1 && decide (i.2.2.1 ≤ w.2.2))
    let bad := q.magic != (if owner then 0x4357424F else 0x43574256) || q.version != 1 || q.headerLen != 64 ||
      q.count != want.length || q.images.length != want.length || !(want.all named) || !q.crcOk || !q.keyOk || !q.sigOk ||
      decide (q.secver < floor)
    if bad then want.map (fun w => w.1)
    else (want.filter (fun w => !(q.images.any (fun i => i.1 == w.1 && i.2.2.2.1)))).map (fun w => w.1)

/-- Where a slot of the flash begins, and its bytes (R504). -/
def slotBase (src : Nat) : Nat := if src = 2 then 0x02000000 else 0

/-- Bytes of a slot (R504). -/
abbrev slotBytes : Nat := 0x02000000

/-- A container can be read from a source: one in flash lies in a slot, of a flash of at least 64 MiB (R504). -/
def readableFrom (src : Nat) (img : BootImage) : Bool :=
  match img.flash with
  | some f => src == 3 || (decide (2 * slotBytes ≤ f.bytes) && decide (img.span ≤ slotBytes))
  | none => src == 3

/-- The boot controller reads a source: a slot of the flash begins with its SFDP in 1S-1S-1S mode at 50 MHz, and the container is then read
in 8D-8D-8D where SFDP declares it, at no more than 200 MHz (R504; log entry 87). -/
def Body.readFlash (b : Body) (src : Nat) (img : BootImage) : Body :=
  match img.flash with
  | some f =>
    if src = 3 then b
    else
      let b1 := { b with dev := { b.dev with octal := b.dev.octal || f.octal } }
      let b2 := if b.dev.octal then b1 else b1.emit (.xspi false 50 0 256)
      b2.emit (.xspi b1.dev.octal (if b1.dev.octal then Nat.min 200 Config.octalMhz else 50) (slotBase src) (Nat.min slotBytes img.span))
  | none => b

/-- Images of a container that fail as a source is read, in the order of the parts (R504 to R507). -/
def Body.containerBad (b : Body) (src : Nat) (img : BootImage) : List Nat :=
  if readableFrom src img then partFails img.vendor false (b.forceN 0x0119 1) ++ partFails img.owner true (b.forceN 0x0119 2) else [0, 1, 2]

/-- Digest of image i of a part. -/
def partDigest (p : Option BootPart) (i : Nat) : Bytes :=
  match p with
  | none => []
  | some q => ((q.images.find? (fun x => x.1 == i)).map (fun x => x.2.2.2.2)).getD []

/-- The source under trial fails at image `img`: the next is tried; without another, SAFE (R507). -/
def Body.sourceFails (b : Body) (e : Env) (img : Nat) : Body :=
  let low := match b.dev.failed with
    | some f => Nat.min f img
    | none => img
  let b1 := ({ b with dev := { b.dev with sources := b.dev.sources.drop 1, tried := b.dev.tried + 1, failed := some low, bootTb := e.tb } }).raise
    e 3 img
  if b1.dev.sources.isEmpty ∧ b1.devState = devBoot then b1.doubt e 7 low else b1

/-- The boot ROM is trying sources. -/
def Body.booting (b : Body) : Bool :=
  !b.dev.fw && !b.dev.found && (b.devState == devBoot || (b.devState == devSafe && b.regN 0x1A10 0 == 7))

/-- The boot ROM has read the source under trial (R503 to R507). -/
def bootSourceTry (e : Env) (img : BootImage) (b0 : Body) : Body :=
  match b0.dev.sources with
  | [] => b0
  | src :: _ =>
    if !b0.booting then b0
    else
      let b := b0.readFlash src img
      match b.containerBad src img with
      | i :: _ => b.sourceFails e i
      | [] =>
        let b1 := { b with dev := { b.dev with found := true, source := img } }
        let ver (p : Option BootPart) : Nat := (p.map (fun q => q.secver)).getD 0
        let b2 := ((b1.setReg 0x0115 0 (src : Nat)).setReg 0x0116 1 (ver img.vendor : Nat)).setReg 0x0116 2 (ver img.owner : Nat)
        let b3 := ((b2.setStr 0x0117 1 (partDigest img.vendor 0)).setStr 0x0117 2 (partDigest img.vendor 1)).setStr 0x0117 3
          (partDigest img.owner 2)
        let b4 : Body := if (0 : Nat) < b3.dev.tried then b3.raise e 2 src else b3
        b4.bootEnter e

/-- 60 s without a container from the management port: begun again under 0b01, else abandoned (R505). -/
def netbootTimeout (e : Env) (b : Body) : Body :=
  match b.dev.sources with
  | 3 :: _ =>
    if b.booting ∧ e.after b.dev.bootTb 60000000000 then
      if b.dev.bootSel = 1 then { b with dev := { b.dev with bootTb := e.tb } } else b.sourceFails e 0
    else b
  | _ => b

/-- Every 10 s the boot ROM tries every source again, under 0b01 and 0b10 (R507). -/
def bootRetry (e : Env) (b : Body) : Body :=
  if b.booting ∧ b.devState = devSafe ∧ b.dev.sources.isEmpty ∧ b.dev.failed.isSome ∧ (b.dev.bootSel = 1 ∨ b.dev.bootSel = 2) ∧
      e.after b.dev.bootTb 10000000000 then
    { b with dev := { b.dev with sources := bootSources b.dev.bootSel, tried := 0, failed := none, bootTb := e.tb } }
  else b

/-! ## Memory comes up (R32, R363, R379, R380, R508) -/

/-- Memory is up: regions zeroed, MEMORY entered, AVS rails set, engines, fabric and cores started (R380, R485, R509). A domain that has lost
lock starts nothing until it locks again (R27). -/
def Body.memoryUp (b : Body) (e : Env) : Body :=
  let b1 := ((b.zeroed.clearDoubt).enter e devMemory).avsBoot e
  let b2 := b1.clocks [56, 57, 58] 2
  { b2 with beads := { b2.beads with stopped := false }, dev := { b2.dev with coresHalted := b2.clkLost 58 } }

/-- Image n read again differs: event 3, doubt 7, and nothing starts from the images (R508). -/
def Body.imageFails (b : Body) (e : Env) (n : Nat) : Body :=
  let b1 := (b.raise e 3 n).doubt e 7 n
  { b1 with dev := { b1.dev with coresHalted := true } }

/-- Training ends: the regions and images, or a freeze (R376, R380, R508). `imageOk` tells of images 1 and 2. -/
def hbmTraining (e : Env) (ok : Bool) (pc : Nat) (imageOk : List Bool) (b : Body) : Body :=
  if b.regN 0x1805 0 ≠ 1 ∨ b.devState ≠ devVerified then b
  else if !ok then b.freezeBare e 5 pc
  else
    match (imageOk.zip [1, 2]).find? (fun p => !p.1) with
    | some p => (b.memoryUp e).imageFails e p.2
    | none => b.memoryUp e

/-- Start of `op.thaw` (R379, R380). -/
def thawStart (e : Env) (slot : Nat) (b : Body) : Body × Rsp :=
  if b.opBusy 0x0418 then (b, wrote stBusy)
  else if b.devState ≠ devFrozen then (b.opRefuse e 0x0418 stNotFrozen 0, wrote stNotFrozen)
  else
    let b1 := (b.opBegin e 0x0418 slot []).setReg 0x1805 0 4
    (if bit (b.regN 0x0418 0x10) 1 then b1 else b1.setStr 0x1820 0 [], wrote stOK)

/-- A thaw fails in the controllers: still FROZEN, event 836. -/
def Body.thawFails (b : Body) (e : Env) (code : Nat) : Body :=
  ((b.setReg 0x1805 0 3).raise e 836 0).opEnd e 0x0418 false code 0

/-- Soft post-package repair of the row the freeze named, where bit 0 of the argument asks for it (step 2 of R379). -/
def Body.repairRow (b : Body) : Body :=
  match b.hbm.failRow with
  | some (p, k, r) => if bit (b.regN 0x0418 0x10) 0 then b.emit (.softRepair p k r) else b
  | none => b

/-- The steps of a thaw end (R379). With a PHY out of lock its training cannot pass. -/
def thawComplete (e : Env) (res : ThawResult) (b : Body) : Body :=
  if b.regN 0x1805 0 ≠ 4 then b
  else
    match (if b.clkLost 54 || b.clkLost 55 then ThawResult.train else res) with
    | .train => b.thawFails e stTrain
    | .test f u =>
      let b0 := b.repairRow
      let p := placeOf b.hbm.order u
      let b1 := match EccAt b.hbm.order u 255 (p.col * 2 + 1) f with
        | some at_ => { (b0.setStr 0x1820 0 (b0.freezeLog e at_)) with hbm := { b0.hbm with failRow := some (p.pc, p.bank, p.row) } }
        | none => b0
      b1.thawFails e stTest
    | .image n =>
      let b1 := (b.repairRow.zeroed.raise e 3 n).opEnd e 0x0418 false stCrc 0
      (b1.setReg 0x010A 0 (devMemory : Nat)).doubt e 7 n
    | .ok =>
      let b1 := ((b.repairRow.memoryUp e).rodsDown e).trigsIdle
      let b2 := ({ b1 with dev := { b1.dev with linkTb := none, wakeAsked := false, waking := [] } }).closeWhere e
        (fun _ x => x.via == Transport.mailbox) 4
      ((b2.raise e 835 0).opEnd e 0x0418 true stOK 0).progress e

/-! ## Recovery (R445) -/

/-- Rods whose check `op.recover` runs to an end: those whose lanes carry frames. The check of a rod that is down ends with NONE at once. -/
def Body.recoverable (b : Body) : List Nat := b.rodsInUse.filter b.carries

/-- The check of a rod that is down: no ENUM_RSP, result NONE (R244). -/
def Body.noneDown (b : Body) (e : Env) (n : Nat) : Body := if b.carries n then b else (b.setReg 0x1202 (n + 1) 1).linkCause e n 0

/-- Start of `op.recover`. -/
def recoverStart (e : Env) (slot : Nat) (b : Body) : Body × Rsp :=
  let c := b.regN 0x1A10 0
  if b.opBusy 0x0419 then (b, wrote stBusy)
  else if b.devState ≠ devSafe ∨ c = 1 ∨ c = 7 ∨ (3 ≤ c ∧ c ≤ 5 ∧ !(b.faultGone e c)) then
    (b.opRefuse e 0x0419 stState 0, wrote stState)
  else
    let rods := b.recoverable
    let phases := match b.modeInForce with
      | some m => m.phases
      | none => b.entryMode.phases
    let b1 := b.opBegin e 0x0419 slot rods
    let b2 := b.rodsInUse.foldl (fun x n => x.noneDown e n) { b1 with dev := { b1.dev with recoverRods := rods } }
    (rods.foldl (fun x n => (x.enumLost e n).startEnum e n .recover 1 phases) b2 |> fun x =>
      { x with dev := { x.dev with recoverRods := rods } }, wrote stOK)

/-- `op.recover` completes once every rod has been checked: LINKED, beads re-armed, a paired unit SEEKING. -/
def recoverComplete (e : Env) (b : Body) : Body :=
  if b.opState 0x0419 ≠ 1 ∨ !b.dev.recoverRods.isEmpty ∨ b.devState ≠ devSafe then b
  else
    let b1 := { b with
      beads := { b.beads with stopped := false }
      dev := { b.dev with linkTb := none, wakeAsked := false, waking := [] } }
    let b2 := if b1.regN 0x1A02 0 = pairDemoted then b1.setReg 0x1A02 0 (pairSeeking : Nat) else b1
    (((b2.trigsIdle.clearDoubt).enter e devLinked).opEnd e 0x0419 true stOK 0).progress e

/-! ## Clocks and references (R25, R27) -/

/-- Rod n's quad has lost lock: cause bit 7, and event 576 + n also where that bit already stood (R27; the raise then sets no bit). -/
def Body.quadLost (b : Body) (e : Env) (n : Nat) : Body :=
  let told := bit (b.regN 0x130F (n + 1)) 7
  let b1 := if b.laneState n = 0 then b.laneCause e n 7 else b.rodStop e n 7
  if told then b1.raise e (576 + n) 0 else b1

/-- A PLL loses lock, or a follower its bound, which counts as the same (R26, R27; log entry 82). -/
def pllLost (e : Env) (d : Nat) (b : Body) : Body :=
  if b.regN 0x0120 (d + 1) ≠ 2 then b
  else
    let b1 := ((b.setReg 0x0120 (d + 1) 3).bump 0x0122 (d + 1) 1).raise e 4 d
    if d < 48 then
      (upFrom (4 * d) 4).foldl (fun x n => x.quadLost e n) b1
    else if d < 52 then portDown e (d - 48) b1
    else if d = 52 then b1
    else if d = 53 then b1.pairLinkLost e
    else if d < 56 then (if b1.regN 0x1805 0 = 1 ∨ b1.regN 0x1805 0 = 2 then b1.freezeBare e 4 (32 * (d - 54)) else b1)
    else if d < 58 then b1.doubt e 8 d
    else if d = 58 then { b1 with dev := { b1.dev with coresHalted := true } }
    else ((b1.faultOn 3 2).raise e 5 1).doubt e 3 1

/-- A PLL locks again (R27). R27 names no state in which a relocked quad's rods restart bring-up: they do in every state in which lanes run,
SAFE and FROZEN with them (log entry 69). The cores' caches are empty when the
cores restart (log entry 88). -/
def pllRelock (e : Env) (d : Nat) (imageOk : Bool) (b : Body) : Body :=
  if b.regN 0x0120 (d + 1) ≠ 3 then b
  else
    let b1 := b.setReg 0x0120 (d + 1) 2
    if d < 48 then
      (upFrom (4 * d) 4).foldl (fun x n =>
        if (x.rod n).used ∧ x.laneState n = 0 ∧ devMemory ≤ x.devState then x.bringup e n else x) b1
    else if d = 58 then
      if b1.devState = devFrozen then b1
      else if imageOk then
        ({ b1 with dev := { b1.dev with coresHalted := false }, hbm := { b1.hbm with copies := [] } }).closeWhere e (fun _ x => x.via == Transport.mailbox) 4
      else b1.raise e 3 2
    else if d = 59 then b1.faultOff e 3 2
    else b1

/-- A reference counted over one window lies within 1,000 ppm of 156.25 MHz (R25). -/
def refGood (hz : Nat) : Bool := decide (((hz : Int) - 156250000).natAbs ≤ 156250)

/-- One reference in one window: whether it is now lost. Once REFCLK0 is verified the island leaves its oscillator (R24). -/
def Body.refWindow (b : Body) (e : Env) (k hz : Nat) : Body × Bool :=
  let n := mgetD 0 k b.flt.refBad
  let count (x : Body) (v : Nat) : Body := { x with flt := { x.flt with refBad := mputD 0 k v x.flt.refBad } }
  if refGood hz then
    let b1 := (count (b.faultOff e 3 k) 0).setReg 0x0123 0 (setBit (b.regN 0x0123 0) k true : Nat)
    (if k = 0 ∧ b1.regN 0x0120 60 = 1 then b1.setReg 0x0120 60 2 else b1, false)
  else
    let b1 := count b (Nat.min 3 (n + 1))
    if n = 2 then ((b1.faultOn 3 k).setReg 0x0123 0 (setBit (b1.regN 0x0123 0) k false : Nat), true) else (b1, false)

/-- At the end of a window both references are judged; a loss is event 5 and doubt, and REFCLK0 verified lets BOOT proceed. -/
def refWindow (e : Env) (hz0 hz1 : Nat) (b : Body) : Body :=
  if b.devState = devOff then b
  else
    let r0 := b.refWindow e 0 hz0
    let r1 := r0.1.refWindow e 1 hz1
    let lost := b2n r0.2 + 2 * b2n r1.2
    if lost = 0 then r1.1.bootEnter e else (r1.1.raise e 5 lost).doubt e 3 lost

/-! ## Supervision (R442, R495, R518) -/

/-- One sample of each rail: two outside the window in a row are doubt. -/
def supplySample (e : Env) (mv : List Nat) (b : Body) : Body :=
  if b.devState = devOff then b
  else
    ((mv.take 8).zip (upFrom 0 8)).foldl (fun z p =>
      let x := z.avsSampled p.2 p.1
      let n := mgetD 0 p.2 x.flt.railBad
      let count (y : Body) (v : Nat) : Body := { y with flt := { y.flt with railBad := mputD 0 p.2 v y.flt.railBad } }
      if x.railOk e p.2 p.1 then count (x.faultOff e 4 p.2) 0
      else
        let y := count x (Nat.min 2 (n + 1))
        if n = 1 then (y.faultOn 4 p.2).doubt e 4 p.2 else y) b

/-- One reading of each tally sensor, in 1/16 degree: two above 110 degrees in a row are doubt. -/
def tempSample (e : Env) (ts : List Int) (b : Body) : Body :=
  if b.devState = devOff then b
  else
    ((ts.take 12).zip (upFrom 0 12)).foldl (fun x p =>
      let n := mgetD 0 p.2 x.flt.tempBad
      let count (y : Body) (v : Nat) : Body := { y with flt := { y.flt with tempBad := mputD 0 p.2 v y.flt.tempBad } }
      let x1 := x.setReg 0x1D0B (p.2 + 1) p.1
      if p.1 ≤ 1760 then count (x1.faultOff e 5 p.2) 0
      else
        let y := count x1 (Nat.min 2 (n + 1))
        if n = 1 then (y.faultOn 5 p.2).doubt e 5 p.2 else y) b

/-- A lockstep comparison fails: doubt 1; of the supervisor pair in SAFE, a reset that ends after 1 ms (R442, R500). -/
def lockstep (e : Env) (pair : Nat) (b : Body) : Body :=
  if pair = 0 ∧ b.devState = devSafe then b.resetTo 4 (some (e.tb + 500000)) else b.doubt e 1 pair

/-- A write of 1 to `fault.enter_safe`. -/
def enterSafe (e : Env) (slot : Nat) (b : Body) : Body × Rsp := (b.doubt e 11 slot, wrote stOK)

/-- A boundary-scan instruction outside OFF (R518). -/
def boundaryScan (e : Env) (b : Body) : Body := b.doubt e 11 0xFF

/-! ## The target state (R510) -/

/-- Tiles still queued leave the queues of every pan. -/
def Body.emptyQueues (b : Body) : Body :=
  { b with pans := b.pans.map (fun (p : Nat × Pan) => (p.1, { p.2 with queue := [] })), dev := { b.dev with waking := [], wakeAsked := false } }

/-- A write to `dev.target`. -/
def devTarget (e : Env) (v : Nat) (b0 : Body) : Body × Rsp :=
  let b := fireDue e 4 b0
  let old := b.regN 0x010B 0
  if v < old ∧ old = 6 ∧ b.regN 0x0909 0 ≠ 0 then (b, wrote stBusy)
  else
    let b1 := b.setReg 0x010B 0 (v : Nat)
    let b2 := if v < 4 ∧ b1.devState = devMemory then ({ b1 with dev := { b1.dev with linkTb := none } }).rodsDown e else b1
    let b3 := if v < 5 ∧ 5 ≤ old ∧ b2.devState = devLinked then b2.emptyQueues else b2
    (b3.progress e, wrote stOK)

/-! ## Meanings -/

/-- PLL_LOSS_OF_LOCK (R27). -/
def execPllLossOfLock (domain : Nat) (s : State) : Host.Outcome State Fault Refusal := s.act (pllLost s.env domain)

/-- PLL_RELOCK (R27). -/
def execPllRelock (domain : Nat) (imageOk : Bool) (s : State) : Host.Outcome State Fault Refusal :=
  s.act (pllRelock s.env domain imageOk)

/-- REFCLK_SUPERVISION_WINDOW (R25). -/
def execRefclkSupervisionWindow (hz0 hz1 : Nat) (s : State) : Host.Outcome State Fault Refusal := s.act (refWindow s.env hz0 hz1)

/-- THAW_START (R379). -/
def execThawStart (r : Req) (s : State) : Host.Outcome State Fault Refusal :=
  s.act (serveWrite s.env r 0x0418 1 (.n 1) (fun slot => thawStart s.env slot))

/-- THAW_COMPLETE (R379). -/
def execThawComplete (res : ThawResult) (s : State) : Host.Outcome State Fault Refusal := s.act (thawComplete s.env res)

/-- HBM_TRAINING_COMPLETE (R380). -/
def execHbmTrainingComplete (ok : Bool) (failedPc : Nat) (imageOk : List Bool) (s : State) : Host.Outcome State Fault Refusal :=
  s.act (hbmTraining s.env ok failedPc imageOk)

/-- LOCKSTEP_MISMATCH (R442). -/
def execLockstepMismatch (pair : Nat) (s : State) : Host.Outcome State Fault Refusal := s.actR (lockstep s.env pair)

/-- SUPPLY_SAMPLE (R442). -/
def execSupplySample (mv : List Nat) (s : State) : Host.Outcome State Fault Refusal := s.act (supplySample s.env mv)

/-- TEMP_SAMPLE (R442). -/
def execTempSample (temps : List Int) (s : State) : Host.Outcome State Fault Refusal := s.act (tempSample s.env temps)

/-- FAULT_ENTER_SAFE (R442). -/
def execFaultEnterSafe (r : Req) (s : State) : Host.Outcome State Fault Refusal :=
  s.act (serveWrite s.env r 0x1A13 0 (.n 1) (fun slot => enterSafe s.env slot))

/-- RECOVER_START (R445). -/
def execRecoverStart (r : Req) (s : State) : Host.Outcome State Fault Refusal :=
  s.act (serveWrite s.env r 0x0419 1 (.n 1) (fun slot => recoverStart s.env slot))

/-- RECOVER_COMPLETE (R445). -/
def execRecoverComplete (s : State) : Host.Outcome State Fault Refusal := s.act (recoverComplete s.env)

/-- RESET_ASSERT (R500). -/
def execResetAssert (cause : Nat) (s : State) : Host.Outcome State Fault Refusal :=
  .next { s with
    clk := if cause = 1 ∨ cause = 2 ∨ cause = 4 ∧ s.b.devState = devSafe then { Clock.reset with tb := s.clk.tb } else s.clk
    b := resetAssert s.env cause s.b }

/-- DEV_RESET_WRITE (R500): the response leaves, then the reset is asserted. -/
def execDevResetWrite (r : Req) (s : State) : Host.Outcome State Fault Refusal :=
  s.actR (serve s.env r 0x12 (writeBody 0x010D 0 .u8 (.n 1))
    (fun self b =>
      let a := checkedWrite s.env (b.roleOf self) 0x010D 0 .u8 (.n 1) (fun x => (x, wrote stOK)) b
      (a.1, some a.2))
    (fun self b => if b.wroteOK self r.seq then b.dictReset s.env else b))

/-- RESET_END (R500). -/
def execResetEnd (bootSel role : Nat) (fuseOk : Bool) (temps : List Int) (damaged : List (Nat × Nat)) (levels : List Bool) (s : State) :
    Host.Outcome State Fault Refusal := s.act (resetEnd s.env bootSel role fuseOk temps damaged levels)

/-- BOOT_SOURCE_TRY (R503). -/
def execBootSourceTry (img : BootImage) (s : State) : Host.Outcome State Fault Refusal := s.act (bootSourceTry s.env img)

/-- NETBOOT_TIMEOUT (R505). -/
def execNetbootTimeout (s : State) : Host.Outcome State Fault Refusal := s.act (netbootTimeout s.env)

/-- BOOT_RETRY_TIMER (R507). -/
def execBootRetryTimer (s : State) : Host.Outcome State Fault Refusal := s.act (bootRetry s.env)

/-- DEV_TARGET_WRITE (R510). -/
def execDevTargetWrite (r : Req) (v : Nat) (s : State) : Host.Outcome State Fault Refusal :=
  s.act (serveWrite s.env r 0x010B 0 (.n v) (fun _ => devTarget s.env v))

/-- JTAG_BOUNDARY_SCAN (R518). -/
def execJtagBoundaryScan (s : State) : Host.Outcome State Fault Refusal := s.act (boundaryScan s.env)

end Sys2Proof.Machine
end

