-- ==== Sys2Proof/Machine/Tick.lean ====
section
/-! DEFINITION. The tick of the wall clock, the changes that wait for it, and forced steps (R33 to R36, R40, R42 to R44). -/

namespace Sys2Proof.Machine

/-- One tick of the wall clock, as the pseudocode of R33 states it; the seconds counter has 48 bits (R11). -/
def Clock.tick1 (c : Clock) : Clock :=
  let f := c.frac + c.incr
  let ns := c.ns + f / 2 ^ 40
  if 1000000000 ≤ ns then { c with sec := (c.sec + 1) % 2 ^ 48, ns := ns - 1000000000, frac := f % 2 ^ 40, tb := c.tb + 1 }
  else { c with ns := ns, frac := f % 2 ^ 40, tb := c.tb + 1 }

/-- n ticks of the wall clock with no change between them (R33). The seconds counter has 48 bits (R11). -/
def Clock.ticks (c : Clock) (n : Nat) : Clock :=
  let f := c.frac + n * c.incr
  let t := c.ns + f / 2 ^ 40
  { c with sec := (c.sec + t / 1000000000) % 2 ^ 48, ns := t % 1000000000, frac := f % 2 ^ 40, tb := c.tb + n }

/-- The time of a clock in ns. -/
def Clock.time (c : Clock) : Nat := c.sec * 1000000000 + c.ns

/-- The clock stepped by v: the fraction keeps (R36). -/
def Clock.step (c : Clock) (v : Int) : Clock :=
  let t := ((c.time : Int) + v).toNat
  { c with sec := (t / 1000000000) % 2 ^ 48, ns := t % 1000000000 }

/-- What effects read of a clock. -/
def Clock.env (c : Clock) : Env := ⟨c.time, c.tb, c.frac, c.incr⟩

/-- A step applied to the clock and to what runs by it. -/
def State.stepBy (s : State) (v : Int) : State :=
  let c := s.clk.step v
  { s with clk := c, b := (s.b.stepped c.env s.clk.time c.time).moveWindows c.env s.clk.time }

/-- One tick with the changes that wait: the oldest takes effect with it (R36). An increment counts from this tick on; a step
follows the tick. -/
def State.tickChange (s : State) (ch : ClockChange) (rest : List ClockChange) : State :=
  let s1 := { s with b := { s.b with tu := { s.b.tu with changes := rest } } }
  match ch with
  | .incr v =>
    let c := { s1.clk with incr := v }
    { s1 with clk := c.ticks 1, b := s1.b.moveWindows c.env c.time }
  | .step v => { s1 with clk := s1.clk.ticks 1 }.stepBy v
  | .force v => { s1 with clk := s1.clk.ticks 1 }.stepBy v

/-- The ticks that the changes waiting take, at most n; the rest of n is left. -/
def State.tickChanges : List ClockChange → Nat → State → State × Nat
  | [], n, s => (s, n)
  | _ :: _, 0, s => (s, 0)
  | ch :: rest, n + 1, s => State.tickChanges rest n (s.tickChange ch rest)

/-- The number of ticks until the clock reads t or later; 0 when it does. -/
def Clock.until (c : Clock) (t : Int) : Nat :=
  if t ≤ c.time then 0 else divUp ((t - c.time).toNat * 2 ^ 40 - c.frac) (Nat.max 1 c.incr)

/-- A forced step of a dark path at E_d: the clock steps, and k' is chosen on the stepped clock (R44, R203). R203 asks C'(first) at or
after C(N_L + 1), which lies on the clock before the step; on the stepped clock the model asks it at or after the stepped time at E_d,
the instant at which k' is chosen (DESIGN CHOICE; log entry 76). -/
def State.darkStep (s : State) (w : Switch) (v : Int) : State :=
  let s1 := s.stepBy v
  let e := s1.clk.env
  let first := darkFirst s1.b.seq.mode w.mode (e.wt, 1) (e.wt, 1)
  { s1 with b := { s1.b with seq := { s1.b.seq with sw := some { w with step := none, first := some first, newE := w.mode.instE first } } } }

/-- n ticks without changes, with the step of a dark path at the tick at which the clock reads E_d. -/
def State.run (s : State) (n : Nat) : State :=
  match s.b.seq.sw with
  | some w =>
    match w.step with
    | some v =>
      let k := s.clk.until w.ed
      if w.dark ∧ k ≤ n then
        let s1 := { s with clk := s.clk.ticks k }.darkStep w v
        { s1 with clk := s1.clk.ticks (n - k) }
      else { s with clk := s.clk.ticks n }
    | none => { s with clk := s.clk.ticks n }
  | none => { s with clk := s.clk.ticks n }

/-- Apply a forced step: while LIVE by a dark path to the mode in force (R44), else with the next tick (R36). -/
def Body.applyForce (b : Body) (v : Int) : Body :=
  if b.live then (b.beginDark b.seq.mode (b.regN 0x0981 0) false (some v)).setReg 0x0909 0 2 else b.change (.force v)

/-- A forced step that waited for a switch begins once that has ended (log entry 98). -/
def Body.nextForce (b : Body) : Body :=
  match b.seq.force with
  | some v => if b.seq.sw.isNone then { b with seq := { b.seq with force := none } }.applyForce v else b
  | none => b

/-- n ticks of the 500 MHz timebase: changes that wait take effect one a tick, then the clock runs (R33, R36). -/
def State.advance (s : State) (n : Nat) : State :=
  let s0 := { s with b := s.b.nextForce }
  let a := State.tickChanges s0.b.tu.changes n s0
  a.1.run a.2

/-- A write of 1 to `time.force` (R42, R44); TWIN on a unit that follows the active's clock (R457). A step held for 10 s is held no longer.
While a switch is in progress the step waits for its end (log entry 98). -/
def timeForce (e : Env) (b : Body) : Body × Rsp :=
  if b.follows && b.regN 0x1A05 0 == 1 then (b, wrote stTwin)
  else
    match b.tu.held with
    | none => (b, wrote stNotHeld)
    | some (v, t) =>
      if e.after t 10000000000 then (b.dropHeld, wrote stNotHeld)
      else if b.wallSoon e + v < 0 then (b.dropHeld.raise e 64 0, wrote stRange)
      else
        let b1 := (b.dropHeld.raise e 66 0).tally e 15 2 1
        if b.seq.sw.isSome then
          ({ b1 with seq := { b1.seq with force := some ((b1.seq.force.getD 0) + v) } }, wrote stOK)
        else (b1.applyForce v, wrote stOK)

/-- WALL_CLOCK_TICK (R33): `ticks` ticks of the timebase. -/
def execWallClockTick (ticks : Nat) (s : State) : Host.Outcome State Fault Refusal := .next (s.advance ticks)

/-- TIME_FORCE (R42, R44). -/
def execTimeForce (r : Req) (s : State) : Host.Outcome State Fault Refusal :=
  s.act (serveWrite s.env r 0x0805 0 (.n 1) (fun _ => timeForce s.env))

end Sys2Proof.Machine
end

