-- ==== Sys2Proof/Machine/Writes.lean ====
section
/-! DEFINITION. What a WRITE does, entry by entry, and the commands of operations (R57, R62, R140, R329, R359, R404, R422 to R428,
R531). -/

namespace Sys2Proof.Machine

/-! ## Commands of operations (R427, R428) -/

/-- Start of operation idx. -/
def opStart (e : Env) (slot idx : Nat) (b : Body) : Body × Rsp :=
  if idx = 0x0410 then loadStart e 0 slot b
  else if idx = 0x0411 then loadStart e 1 slot b
  else if idx = 0x0412 then (if b.follows then (b, wrote stTwin) else modeSwitch e e.wt (b.regN 0x0981 0) slot b)
  else if idx = 0x0413 then enumOp e slot b
  else if idx = 0x0414 then laneCalStart e slot b
  else if idx = 0x0415 then reckonStart e slot b
  else if idx = 0x0416 then doseExportStart e slot b
  else if idx = 0x0417 then doseImportStart e slot b
  else if idx = 0x0418 then thawStart e slot b
  else if idx = 0x0419 then recoverStart e slot b
  else if idx = 0x041A then harvestStart e slot b
  else siReckonStart e slot b

/-- Operations that allow suspension. -/
def maySuspend (idx : Nat) : Bool := idx == 0x0410 || idx == 0x0411 || idx == 0x0415 || idx == 0x0416

/-- Suspend. -/
def opSuspend (e : Env) (idx : Nat) (b : Body) : Body × Rsp :=
  if b.opState idx ≠ 1 then (b, wrote stState)
  else if !(maySuspend idx) then (b, wrote stNoSuspend)
  else
    let b1 := { b.setReg idx 2 2 with ops := (match mfind idx b.ops with
      | some o => minsert idx { o with tb := e.tb } b.ops
      | none => b.ops) }
    (if idx = 0x0415 then b1.forwardOp e idx 2 else b1, wrote stOK)

/-- The streamed entry of a load. -/
def streamIdx (kind : Nat) : Nat := 0x1010 + kind

/-- The open write transfer that feeds a load: its slot and itself. -/
def Body.feeding (b : Body) (kind : Nat) : Option (Nat × Transfer) :=
  (b.dict.sess.filterMap (fun p => match p.2.wr with
    | some t => if t.idx = streamIdx kind then some (p.1, t) else none
    | none => none)).head?

/-- Bytes that follow offset `off` without a gap. -/
def gather : Nat → Nat → Map Bytes → Bytes
  | 0, _, _ => []
  | k + 1, off, segs =>
    match mfind off segs with
    | some s => s ++ gather k (off + s.length) segs
    | none => []

/-- A message of a transfer leaves on a session. -/
def Body.sendBlob (b : Body) (e : Env) (slot : Nat) (o : Nat → Out) (ty : Nat) (body : Bytes) : Body :=
  match b.sess? slot with
  | none => b
  | some x =>
    let b1 := (b.setSess slot { x with tx := x.tx + 1 }).emit (o x.sid)
    b1.leave e x.via x.peer (deviceMsg (some x.kd2c) ty x.sid (x.tx + 1) body)

/-- BLOB_ACK of the device. -/
def Body.blobAck (b : Body) (e : Env) (slot tid status off : Nat) : Body :=
  b.sendBlob e slot (fun sid => .blobAck sid tid status off) 0x23 (be 2 tid ++ be 2 status ++ be 8 off)

/-- A load takes what its stream holds in order, and acknowledges it (R424). -/
def Body.consume (b : Body) (e : Env) (kind : Nat) : Body :=
  match b.feeding kind with
  | none => b
  | some (slot, t) =>
    if b.opState (loadOp kind) ≠ 1 then b
    else
      let bs := gather (t.segs.length + 1) t.done t.segs
      let t' := { t with done := t.done + bs.length, segs := t.segs.filter (fun s => decide (t.done + bs.length ≤ s.1)),
                         tb := if bs.isEmpty then t.tb else e.tb }
      let b1 := b.modSess slot (fun x => { x with wr := some t' })
      let b2 := b1.setLoad kind { b1.load kind with data := (b1.load kind).data ++ bs }
      b2.blobAck e slot t.tid stOK t'.done

/-- Resume: the time suspended does not count against a transfer that feeds the operation (R423). -/
def opResume (e : Env) (idx : Nat) (b : Body) : Body × Rsp :=
  if b.opState idx ≠ 2 then (b, wrote stState)
  else
    let b1 := b.setReg idx 2 1
    if idx = 0x0410 ∨ idx = 0x0411 then
      let kind := idx - 0x0410
      let gone := match mfind idx b1.ops with
        | some o => e.tb - o.tb
        | none => 0
      let b2 := match b1.feeding kind with
        | some (slot, t) => (b1.modSess slot (fun x => { x with wr := some { t with tb := t.tb + gone } })).consume e kind
        | none => b1
      (b2, wrote stOK)
    else (if idx = 0x0415 then b1.forwardOp e idx 3 else b1, wrote stOK)

/-- The operation is CANCELLING: no new step begins, and it ends with the step that runs (R427). -/
def Body.cancelling (b : Body) (idx : Nat) : Body := b.setReg idx 2 3

/-- A cancel of an operation whose step runs until its own command ends it: one that is suspended runs none, and `ended` follows at once. -/
def Body.stepCancel (b : Body) (idx : Nat) (ended : Body → Body) : Body × Rsp :=
  let b1 := b.cancelling idx
  (if b.opState idx = 2 then ended b1 else b1, wrote stOK)

/-- The enumeration of `op.enum` that waits on a rod is given up; one that runs ends first. -/
def Body.cancelEnum (b : Body) (n : Nat) : Body :=
  b.modRod n (fun r => { r with enumq := r.enumq.filter (fun x => x.why != .op) })

/-- Cancel (R427, R428). -/
def opCancel (e : Env) (idx : Nat) (b : Body) : Body × Rsp :=
  if b.opState idx ≠ 1 ∧ b.opState idx ≠ 2 then (b, wrote stState)
  else if idx = 0x0410 ∨ idx = 0x0411 then b.stepCancel idx (fun x => x.genCancelled e idx)
  else if idx = 0x0412 then
    let a := modeSwitchCancel e b
    (if a.2 = wrote stOK then a.1.forwardOp e idx 4 else a.1, a.2)
  else if idx = 0x0413 then
    (enumComplete e ((upFrom 0 192).foldl (fun x n => if x.enumBusy n then x.cancelEnum n else x) (b.cancelling idx)), wrote stOK)
  else if idx = 0x0414 then
    (laneCalComplete e (((mfind idx b.ops).map (fun o => o.rods)).getD [] |>.foldl
      (fun x n => if x.calBusy n then x.cancelPasses n true else x) (b.cancelling idx)), wrote stOK)
  else if idx = 0x0415 then (b.forwardOp e idx 4).stepCancel idx (fun x => x.genCancelled e idx)
  else if idx = 0x0416 then b.stepCancel idx (fun x => x.exportCancelled e)
  else if idx = 0x0417 then b.stepCancel idx (fun x => x.importCancelled e)
  else if idx = 0x041B then
    match b.si.run with
    | some x => if x.wrote then (b, wrote stTooLate) else (b.cancelling idx, wrote stOK)
    | none => (b, wrote stTooLate)
  else (b, wrote stTooLate)

/-- A write to sub-index 1 of an operation entry: 1 start, 2 suspend, 3 resume, 4 cancel. -/
def opCommand (e : Env) (slot idx cmd : Nat) (b : Body) : Body × Rsp :=
  if cmd = 1 then opStart e slot idx b
  else if cmd = 2 then opSuspend e idx b
  else if cmd = 3 then opResume e idx b
  else opCancel e idx b

/-! ## Values stored as they are (R404, R531) -/

/-- Store a value. -/
def plainWrite (idx sub : Nat) (v : WireVal) (b : Body) : Body × Rsp :=
  match v with
  | .b s => (b.setStr idx sub s, wrote stOK)
  | _ => (b.setReg idx sub v.num, wrote stOK)

/-- A text that names addresses holds what its entry's table gives: an address with its prefix for a port, an address for a gateway and a
stream's destination; empty is none (R358, R359, R531). -/
def addressText (idx : Nat) (v : Bytes) : Bool :=
  let parts := splitOn 47 v []
  let own (bits : Nat) (a : Option Bytes) : Bool :=
    a.isSome && parts.length == 2 && (match decOf (parts.getD 1 []) with
      | some n => decide (n ≤ bits)
      | none => false)
  if v.isEmpty then true
  else if idx = 0x0A02 then own 32 (ipv4Of (parts.getD 0 []))
  else if idx = 0x0A03 then own 128 (ipv6Of (parts.getD 0 []))
  else if idx = 0x0A04 ∨ idx = 0x0B49 then (addrOf v).isSome
  else true

/-- Store a value unless something in use forbids it. -/
def freeWrite (busy : Bool) (idx sub : Nat) (v : WireVal) (b : Body) : Body × Rsp :=
  if busy then (b, wrote stBusy) else plainWrite idx sub v b

/-- A value of the session's own (R407). -/
def ownWrite (slot idx sub : Nat) (v : Int) (b : Body) : Body × Rsp :=
  (b.modSess slot (fun x => { x with own := mputD (dflt idx sub) (key idx sub) v x.own }), wrote stOK)

/-- A write to `tc.edge`: only changes after it are stamped when it turns the input on or changes the kind (R62). -/
def edgeWrite (e : Env) (sub : Nat) (v : Int) (b : Body) : Body × Rsp :=
  let c := sub - 1
  let b1 := if v ≠ b.reg 0x0820 sub ∧ v ≠ 0 then b.setCapt c { b.capt c with asked := e.tb } else b
  (b1.setReg 0x0820 sub v, wrote stOK)

/-- A write to `port.fec` restarts the link (R358). -/
def fecWrite (e : Env) (sub : Nat) (v : Int) (b : Body) : Body × Rsp :=
  (portDown e (sub - 1) (b.setReg 0x0A01 sub v), wrote stOK)

/-- A WRITE to a streamed entry: the whole value, closed at once (R422, R424). -/
def imageWrite (kind : Nat) (bs : Bytes) (b : Body) : Body × Rsp :=
  if b.devState = devFrozen then (b, wrote stFrozen)
  else if b.opState (loadOp kind) ≠ 1 ∨ b.opArg (loadOp kind) 0x10 ≠ 0 then (b, wrote stState)
  else if (b.feeding kind).isSome ∨ (b.load kind).closed then (b, wrote stBusy)
  else ((b.setLoad kind ⟨bs, true⟩), wrote stOK)

/-! ## Hand-over (R463) -/

/-- The first sub-frame whose confirm point lies at or after t: one issued, else one of the next latches. -/
def Body.firstConfirm (b : Body) (t : Int) : Option Nat :=
  match b.beads.subs.find? (fun s => !s.retired && decide (t ≤ s.c)) with
  | some s => some s.n
  | none => ((upFrom 0 16).filterMap b.latchAt).find? (fun p => decide (t ≤ p.2.instC p.1)) |>.map (fun p => p.1)

/-- A write of 1 to `pair.switch`; STATE too where no sub-frame will come. -/
def pairSwitch (e : Env) (b : Body) : Body × Rsp :=
  if b.pairState ≠ pairActive then (b, wrote stState)
  else if b.regN 0x1A04 0 ≠ pairStandby then (b, wrote stTwin)
  else
    match b.firstConfirm ((e.wt : Int) + 1000000) with
    | none => (b, wrote stState)
    | some n => ((b.modPair (fun p => { p with handover := some n })).pairSend e (.handover n), wrote stOK)

/-! ## The write of one entry -/

/-- Writes in 0x0100 to 0x03FF. -/
def writeIdent (e : Env) (slot seq role idx sub : Nat) (v : WireVal) (b : Body) : Body × Rsp :=
  let n := v.num.toNat
  if idx = 0x0108 then attestNonce e slot v.bytes b
  else if idx = 0x010B then devTarget e n b
  else if idx = 0x010D then (b, wrote stOK)
  else if idx = 0x0118 then
    (if v.bytes.length = 0 ∨ v.bytes.length = 97 then plainWrite idx sub v b else (b, wrote stRange))
  else if idx = 0x0119 then (if v.num < b.reg idx sub then (b, wrote stRange) else plainWrite idx sub v b)
  else if idx = 0x0206 then sessEnd e slot (sub - 1) b
  else if idx = 0x0210 ∨ idx = 0x0211 then ownWrite slot idx sub v.num b
  else if idx = 0x0220 ∨ idx = 0x0221 then credWrite e slot idx (sub - 1) n b
  else if idx = 0x0222 then ((b.setStr idx sub v.bytes).credChanged e slot (sub - 1) false, wrote stOK)
  else if idx = 0x0223 then credKey e slot seq (sub - 1) v.bytes b
  else if 0x0300 ≤ idx ∧ idx < 0x0308 then evtConfig role ((idx - 0x0300) * 128 + sub - 1) n b
  else if 0x0308 ≤ idx ∧ idx < 0x0310 then evtStatus ((idx - 0x0308) * 128 + sub - 1) n b
  else plainWrite idx sub v b

/-- A field of a trigger: BUSY while it is armed (R57). Outside SAFE and FROZEN a write of its mode or polarity leaves the output at
the inactive level the new value gives (R55, R60). -/
def ttField (idx sub : Nat) (v : WireVal) (b : Body) : Body × Rsp :=
  let armed := b.regN 0x0819 sub == 1 || b.regN 0x0819 sub == 2
  let a := freeWrite armed idx sub v b
  if armed ∨ idx ≠ 0x0810 ∧ idx ≠ 0x0815 ∨ b.devState = devSafe ∨ b.devState = devFrozen then a
  else (a.1.drive (sub - 1) (a.1.ttIdle (sub - 1)), a.2)

/-- Writes in 0x0400 to 0x08FF. -/
def writeTime (e : Env) (slot idx sub : Nat) (v : WireVal) (b : Body) : Body × Rsp :=
  if 0x0410 ≤ idx ∧ idx ≤ 0x041B then
    (if sub = 1 then opCommand e slot idx v.num.toNat b else freeWrite (b.opBusy idx) idx sub v b)
  else if idx = 0x0801 then timeIncr e v.num.toNat b
  else if idx = 0x0802 then timeStep e v.num b
  else if idx = 0x0805 then timeForce e b
  else if idx = 0x0818 then (if v.num = 1 then ttArm e (sub - 1) b else ttDisarm (sub - 1) b)
  else if 0x0810 ≤ idx ∧ idx ≤ 0x081A then
    ttField idx sub v b
  else if idx = 0x0820 then edgeWrite e sub v.num b
  else if idx = 0x0830 then tsPairMode (sub - 1) v.num.toNat b
  else plainWrite idx sub v b

/-- Writes in 0x0900 to 0x0BFF that are not shadowed. -/
def writeMedia (e : Env) (idx sub : Nat) (v : WireVal) (b : Body) : Body × Rsp :=
  if idx < 0x0A00 then modeEntry idx sub v.num b
  else if idx = 0x0A01 then fecWrite e sub v.num b
  else if idx = 0x0A1E then (if v.num = 1 then flowAdmit e (sub - 1) b else flowDelete e (sub - 1) b)
  else if 0x0A10 ≤ idx ∧ idx ≤ 0x0A24 ∧ b.regN 0x0A1E sub = 1 then (b, wrote stBusy)
  else if idx = 0x0B04 then (if v.num = 1 then streamStart e (sub - 1) b else streamStop e (sub - 1) b)
  else if idx = 0x0B40 then (if v.num = 1 then confEnable (sub - 1) b else confDisable (sub - 1) b)
  else if idx = 0x0B4D then freeWrite (b.encOn ((sub - 1) / 9)) idx sub v b
  else if 0x0B41 ≤ idx ∧ idx ≤ 0x0B51 ∧ idx ≠ 0x0B44 ∧ b.encOn (sub - 1) = true then (b, wrote stBusy)
  else if isCause idx then (b.clearCause idx sub v.num.toNat, wrote stOK)
  else if !addressText idx v.bytes then (b, wrote stRange)
  else plainWrite idx sub v b

/-- Writes in 0x0C00 to 0x1FFF that are neither shadowed nor commits. -/
def writeRest (e : Env) (slot idx sub : Nat) (v : WireVal) (b : Body) : Body × Rsp :=
  let n := v.num.toNat
  if idx = 0x0C29 then cfgDiscard slot b
  else if idx = 0x0C51 then stillFree e slot (sub - 1) b
  else if idx = 0x1010 ∨ idx = 0x1011 then imageWrite (idx - 0x1010) v.bytes b
  else if idx = 0x1018 then lampState e n b
  else if idx = 0x1124 then freezeClear e (sub - 1) b
  else if idx = 0x1220 then ownWrite slot idx sub v.num b
  else if idx = 0x1302 then laneRestart e (sub - 1) b
  else if idx = 0x1400 then modeEntry idx sub v.num b
  else if idx = 0x1410 ∨ idx = 0x1411 then ((b.setReg idx sub v.num).pump e (if idx = 0x1410 then sub - 1 else sub + 127), wrote stOK)
  else if idx = 0x1418 then panCommand e (sub - 1) n b
  else if idx = 0x1419 then panCommand e (sub + 127) n b
  else if idx = 0x1428 then tilePower e slot n b
  else if idx = 0x1433 then healthChannel e n b
  else if idx = 0x1504 then doseTileReset n b
  else if idx = 0x1508 then retentionLoad v.bytes b
  else if 0x1801 ≤ idx ∧ idx ≤ 0x1803 then (if n % 256 = 0 then plainWrite idx sub v b else (b, wrote stRange))
  else if idx = 0x1A06 then pairSwitch e b
  else if idx = 0x1A13 then enterSafe e slot b
  else if isCause idx then (b.clearCause idx sub n, wrote stOK)
  else plainWrite idx sub v b

/-- What a write does once it has passed the checks every write meets. A commit may be answered later. -/
def entryWrite (e : Env) (slot seq role idx sub : Nat) (v : WireVal) (b : Body) : Body × Option Rsp :=
  let all (a : Body × Rsp) : Body × Option Rsp := (a.1, some a.2)
  if idx = 0x0C28 then cfgCommit e slot seq b
  else if idx = 0x0C50 then all (stillLoad slot (sub - 1) v.bytes b)
  else if isRws (key idx sub) then all (shadowWrite slot idx sub v b)
  else if idx < 0x0400 then all (writeIdent e slot seq role idx sub v b)
  else if idx < 0x0900 then all (writeTime e slot idx sub v b)
  else if idx < 0x0C00 then all (writeMedia e idx sub v b)
  else all (writeRest e slot idx sub v b)

/-- A write with its checks, forwarded to the twin where it succeeds (R454). -/
def dictWrite (e : Env) (slot seq idx sub : Nat) (ty : Ty) (v : WireVal) (b : Body) : Body × Option Rsp :=
  match b.checkWrite (b.roleOf slot) idx sub ty v with
  | 0 =>
    let a := entryWrite e slot seq (b.roleOf slot) idx sub v b
    match a.2 with
    | some (.write 0 _ _) => (a.1.forwardWrite e idx sub v, a.2)
    | _ => a
  | st => (b, some (wrote st))

/-- What follows the response of a write: a session that ends itself or has changed its own credential ends (R417), a reset is
asserted (R500). -/
def afterWrite (e : Env) (slot seq idx sub : Nat) (v : WireVal) (b : Body) : Body :=
  if idx = 0x0206 then (if slot = sub - 1 ∧ b.wroteOK slot seq then b.closeSession e slot 2 else b)
  else if idx = 0x0223 ∨ idx = 0x0221 then b.cutSelf e slot seq (sub - 1) true
  else if idx = 0x0220 then b.cutSelf e slot seq (sub - 1) (v.num == 0)
  else if idx = 0x010D then (if b.wroteOK slot seq then b.dictReset e else b)
  else b

/-- A WRITE request (R410, R411). -/
def writeReq (e : Env) (r : Req) (idx sub : Nat) (ty : Ty) (v : WireVal) (b : Body) : Body :=
  serve e r 0x12 (writeBody idx sub ty v) (fun slot x => dictWrite e slot r.seq idx sub ty v x)
    (fun slot x => afterWrite e slot r.seq idx sub v x) b

/-! ## Meanings -/

/-- WRITE (R404, R406, R531). -/
def execWrite (r : Req) (idx sub : Nat) (ty : Ty) (v : WireVal) (s : State) : Host.Outcome State Fault Refusal :=
  s.actR (writeReq s.env r idx sub ty v)

/-- SHADOW_WRITE: the write of an entry of class RWS, which enters the shadow set; a still's table entry loads the still (R115, R140). -/
def execShadowWrite (r : Req) (idx sub : Nat) (v : WireVal) (s : State) : Host.Outcome State Fault Refusal :=
  s.actR (writeReq s.env r idx sub (tyOf idx sub) v)

/-- OP_SUSPEND (R427, R428). -/
def execOpSuspend (r : Req) (idx : Nat) (s : State) : Host.Outcome State Fault Refusal :=
  s.act (serveWrite s.env r idx 1 (.n 2) (fun _ => opSuspend s.env idx))

/-- OP_RESUME (R427). -/
def execOpResume (r : Req) (idx : Nat) (s : State) : Host.Outcome State Fault Refusal :=
  s.act (serveWrite s.env r idx 1 (.n 3) (fun _ => opResume s.env idx))

/-- OP_CANCEL (R427, R428). -/
def execOpCancel (r : Req) (idx : Nat) (s : State) : Host.Outcome State Fault Refusal :=
  s.act (serveWrite s.env r idx 1 (.n 4) (fun _ => opCancel s.env idx))

/-- PAIR_SWITCH (R463). -/
def execPairSwitch (r : Req) (s : State) : Host.Outcome State Fault Refusal :=
  s.act (serveWrite s.env r 0x1A06 0 (.n 1) (fun _ => pairSwitch s.env))

end Sys2Proof.Machine
end

