-- ==== Sys2Proof/Machine/Reads.lean ====
section
/-! DEFINITION. READ and DESCRIBE: the values of entries, stored or computed when read (R24, R54, R402 to R411, R437, R472). -/

namespace Sys2Proof.Machine

/-! ## Numbers computed when read -/

/-- The lane rate code a quad's word clock is reported at: the highest of its four rods', since R28 gives the quad one value and no rule says
which rod's where they differ (log entry 68). -/
def Body.quadCode (b : Body) (q : Nat) : Nat := ((upFrom (4 * q) 4).map (fun n => b.regN 0x1204 (n + 1))).foldl Nat.max 0

/-- Present core or word clock of a domain in kHz (R24, R489). The island runs on its 50 MHz oscillator unless its PLL is locked; any other
domain that is off, locking or lost reads 0, and an HBM PHY reads its controller's 1.6 GHz, not the PHY clock (log entry 68). A quad with no
lane running, and the rounding of a word clock, are free (log entry 63). -/
def Body.clkFreq (b : Body) (d : Nat) : Int :=
  if b.regN 0x0120 (d + 1) ≠ 2 then (if d = 59 ∧ b.devState ≠ devOff then 50000 else 0)
  else if d < 48 then
    (if b.quadCode d = 0 then (b.freeNat % 2 ^ 32 : Nat) else b.looseDiv ((1562500 * 2 ^ (b.quadCode d - 1) : Nat) : Int) 66)
  else if d < 52 ∨ d = 53 then 390625
  else if d = 52 then 125000
  else if d < 56 then 1600000
  else if d = 56 then ((37500 * (40 - b.regN 0x1D08 1) : Nat) : Int)
  else if d = 57 then ((1200000 - 30000 * b.regN 0x1D08 2 : Nat) : Int)
  else if d = 58 then ((2000000 - 50000 * b.regN 0x1D08 3 : Nat) : Int)
  else 800000

/-- A value of the session in a slot, or a default. -/
def Body.ofSess (b : Body) (sub : Nat) (d : Int) (f : Session → Int) : Int := ((b.sess? (sub - 1)).map f).getD d

/-- Number of a transport in `sess.transport`. -/
def Transport.num : Transport → Int
  | .ipv4 => 1 | .ipv6 => 2 | .mailbox => 3

/-- `sched.next`: N, I, C and E of the sub-frame latched next; free where no latch will fire. -/
def Body.schedNext (b : Body) (sub : Nat) : Int :=
  match b.nextLatch with
  | some (n, m) => if sub = 1 then (n : Int) else if sub = 2 then m.instI n else if sub = 3 then m.instC n else m.instE n
  | none => (b.freeNat % 2 ^ 64 : Nat)

/-- A number of the mode in force. -/
def Body.ofMode (b : Body) (d : Int) (f : Mode → Int) : Int := (b.modeInForce.map f).getD d

/-- `sched.tsf`: T_sf as a reduced fraction of ns. -/
def Body.tsfEntry (b : Body) (sub : Nat) : Int :=
  b.ofMode (b.freeNat % 2 ^ 16 : Nat) (fun m =>
    let g := Nat.gcd m.tsf.1 m.tsf.2
    if sub = 1 then (m.tsf.1 / g : Nat) else (m.tsf.2 / g : Nat))

/-- Layer served by scaler s in force. -/
def Body.scalerLayer (b : Body) (s : Nat) : Option Nat := (upFrom 0 31).find? (fun l => b.cfgNow.scaler? l == some s)

/-- Crop width and height of layer l in force over its serving source. -/
def Body.cropNow (b : Body) (l : Nat) : Option (Nat × Nat) :=
  b.cropSize b.cfgNow l (b.cfgNow.source l).1 (b.cfgNow.source l).2

/-- `layer.taps`: vertical taps in use, 0 when unscaled (R122, R128). -/
def Body.layerTaps (b : Body) (l : Nat) : Nat :=
  match b.cfgNow.scaler? l with
  | none => 0
  | some s =>
    let T := b.cfgNow.regN 0x0D01 (s + 1)
    match b.cropNow l with
    | none => T
    | some r => (tapsFor T (b.cfgNow.lay 0x0C13 l == 1) r.1 r.2 (b.cfgNow.dest l).h).getD T

/-- `scaler.lines`: L for the crop width in force (R127). -/
def Body.linesNow (b : Body) (s : Nat) : Nat :=
  match (b.scalerLayer s).bind b.cropNow with
  | some r => scalerLines r.1
  | none => 48

/-- `bead.load`, per-mille, its rounding free (R103). -/
def Body.beadLoad (b : Body) : Int :=
  b.ofMode 0 (fun m => match rateOf m.rate with
    | some (a, d) => clampI 0 65535 (b.looseDiv ((b.lampsInUse * m.phases * d * 1000 : Nat) : Int) (Nat.max 1 (a * b.budget)))
    | none => 0)

/-- `emit.send_time` of rod n: S_r at the present lane rate, rounded up to whole ns (DESIGN CHOICE; log entry 108). -/
def Body.sendTimeNow (b : Body) (n : Nat) : Nat :=
  match b.map? with
  | some m => if (m.tilesOf n).isEmpty ∨ b.regN 0x1204 (n + 1) = 0 then 0 else divUp (b.sendTime m n) 100
  | none => 0

/-- The tile the reading session has selected; of one that no chain can hold, nothing is known (R264). -/
def Body.tileSel (b : Body) (slot : Nat) : Tile :=
  let t := b.selected slot
  if t.1 < 192 ∧ t.2 < 63 then b.tile t.1 t.2 else Tile.reset

/-- Indices whose value, where the spec leaves it open, is free: a read of one takes a free value. -/
def readsFree (idx : Nat) : Bool :=
  [0x0C17, 0x0121, 0x0982, 0x0983, 0x0E02, 0x0E0E].contains idx || (decide (0x0410 ≤ idx) && decide (idx ≤ 0x041B))

/-- Progress of an operation, per-mille: of one that is under way, free, since no rule measures it (R426, log entry 24). -/
def Body.opProgress (b : Body) (idx : Nat) : Int := if b.opBusy idx then (b.freeNat % 1001 : Nat) else b.reg idx 3

/-- The number a read of (idx, sub) gives a session. -/
def Body.readNum (b : Body) (e : Env) (slot idx sub : Nat) : Int :=
  if sub = 0 ∧ (lookup idx 1).isSome then dflt idx 0
  else if idx = 0x0121 then b.clkFreq (sub - 1)
  else if 0x0410 ≤ idx ∧ idx ≤ 0x041B ∧ sub = 3 then b.opProgress idx
  else if idx = 0x0200 then (slot : Nat)
  else if idx = 0x0201 then b.ofSess sub 255 (fun x => (x.cred : Nat))
  else if idx = 0x0202 then b.ofSess sub 0 (fun x => (x.role : Nat))
  else if idx = 0x0203 then b.ofSess sub 0 (fun x => Transport.num x.via)
  else if idx = 0x0205 then b.ofSess sub 0 (fun x => (x.opened : Nat))
  else if idx = 0x0207 then b.ofSess sub 0 (fun x => (x.tagFail : Nat))
  else if idx = 0x0210 ∨ idx = 0x0211 ∨ idx = 0x1220 then b.ofSess (slot + 1) 0 (fun x => x.reg idx sub)
  else if idx = 0x0225 then ((b.lockedFor e (sub - 1)).getD 0 : Nat)
  else if idx = 0x0800 then (e.wt : Nat)
  else if idx = 0x0907 then b.ofMode 0 Mode.tEm
  else if idx = 0x0908 then b.ofMode 0 Mode.unitUsed
  else if idx = 0x0982 then b.schedNext sub
  else if idx = 0x0983 then b.tsfEntry sub
  else if idx = 0x0C17 then (let v := b.reg idx sub; if v < 0 then (b.freeNat % (2 ^ 48 * 1000000000) : Nat) else v)
  else if idx = 0x0C1A then (b.layerTaps (sub - 1) : Nat)
  else if idx = 0x0C2A then b.ofSess (slot + 1) 0 (fun x => (x.set.size : Nat))
  else if idx = 0x0C2B then (b.lay.armed.size : Nat)
  else if idx = 0x0C59 then (b.layerFree : Nat)
  else if idx = 0x0C5A then (b.leasedCount : Nat)
  else if idx = 0x0D05 then (b.linesNow (sub - 1) : Nat)
  else if idx = 0x0D06 then ((b.scalerLayer (sub - 1)).getD 255 : Nat)
  else if idx = 0x0E02 then b.beadLoad
  else if idx = 0x0E06 then b.ofMode 0 (fun m => (b.quota m : Nat))
  else if idx = 0x0E0E then b.ofMode (b.freeNat % 2 ^ 8 : Nat) (fun m => if sub = 1 then (m.pRot : Nat) else (m.checksPer : Nat))
  else if idx = 0x1019 then (b.freeOverrides.cor.overrides.length : Nat)
  else if idx = 0x1106 then (b.sendTimeNow (sub - 1) : Nat)
  else if idx = 0x1223 then ((b.tileSel slot).trimHeld.getD 0 : Nat)
  else if idx = 0x1224 then ((b.tileSel slot).rtt : Nat)
  else if idx = 0x141A then ((b.pan (sub - 1)).queue.length : Nat)
  else if idx = 0x141B then ((b.pan (sub + 127)).queue.length : Nat)
  else if idx = 0x1432 then (b.cor.faults.length : Nat)
  else if idx = 0x150C then (if b.inForce 0 = 0xFF then 0 else (b.overAged (b.inForce 0) : Nat))
  else b.reg idx sub

/-! ## Byte strings computed when read -/

/-- The byte string a read of (idx, sub) gives a session, or the status that refuses it. -/
def Body.readStr (b : Body) (slot idx sub : Nat) : Nat ⊕ Bytes :=
  if idx = 0x0101 then .inr (fit 0 8 (Config.fusedBytes (key idx sub)))
  else if idx = 0x0106 then .inr dieFingerprint
  else if idx = 0x0107 then .inr dieKey
  else if idx = 0x0109 then
    match (b.sess? slot).map (fun x => x.attest) with
    | none => .inl stState
    | some a =>
      match a.nonce, a.report with
      | none, _ => .inl stState
      | some _, none => .inl stBusy
      | some _, some rep => .inr rep
  else if idx = 0x0204 then .inr (((b.sess? (sub - 1)).map (fun x => x.peer.take 64)).getD [])
  else if idx = 0x0310 then .inr (fit 0 4096 (b.ev.history.map EvRec.le).flatten)
  else if idx = 0x101B then b.probe
  else if idx = 0x1221 then .inr (b.tileSel slot).cap
  else if idx = 0x1222 then .inr (b.tileSel slot).tele
  else if idx = 0x0C50 then
    if b.devState = devFrozen then .inl stFrozen
    else .inr (((mfind (b.regN idx sub) b.lay.bufs).map FrameBuf.stillBytes).getD [])
  else .inr (b.str idx sub)

/-! ## READ (R404, R406, R411) -/

/-- The entry's `pending` flag (R404). -/
def Body.pendingFlag (b : Body) (t : Entry) (idx sub : Nat) : Bool :=
  if t.access ≠ .rw then false
  else
    match t.cls with
    | .reset =>
      if t.ty = .blob ∨ t.ty = .str then b.str idx sub != mgetD [] (key idx sub) b.dev.forceB else b.reg idx sub != b.force idx sub
    | .mode => b.live && idx != 0x1400 && (b.setEntryMode b.seq.mode).reg idx sub != b.reg idx sub
    | _ => false

/-- One value of a READ, or the status that refuses it. -/
def Body.readOne (b : Body) (e : Env) (slot idx sub : Nat) : Nat ⊕ (Ty × Bool × Val) :=
  match lookup idx sub with
  | none => .inl stNoEntry
  | some t =>
    if t.access = .wo then .inl stAccess
    else if t.role = .custodian ∧ b.roleOf slot ≠ 4 then .inl stRole
    else
      match t.ty with
      | .str => (match b.readStr slot idx sub with
        | .inl st => .inl st
        | .inr s => .inr (.str, b.pendingFlag t idx sub, .b s))
      | .blob => (match b.readStr slot idx sub with
        | .inl st => .inl st
        | .inr s => if 1024 < s.length then .inl stSize else .inr (.blob, b.pendingFlag t idx sub, .b s))
      | .oper => .inr (.u8, false, .n (b.readNum e slot idx sub))
      | ty => .inr (ty, b.pendingFlag t idx sub, .n (b.readNum e slot idx sub))

/-- Values of consecutive sub-entries, all or nothing. -/
def Body.readAll (b : Body) (e : Env) (slot idx : Nat) : List Nat → Nat ⊕ List (Ty × Bool × Val)
  | [] => .inr []
  | s :: ss =>
    match b.readOne e slot idx s, b.readAll e slot idx ss with
    | .inl st, _ => .inl st
    | .inr _, .inl st => .inl st
    | .inr v, .inr vs => .inr (v :: vs)

/-- Response of a READ. A count of 0 or above 64 is out of range. -/
def Body.readRsp (b : Body) (e : Env) (slot idx sub count : Nat) : Rsp :=
  if count = 0 ∨ 64 < count then .read stRange []
  else
    match b.readAll e slot idx (upFrom sub count) with
    | .inl st => .read st []
    | .inr vs => if 1372 < (Rsp.wire 0 (.read stOK vs)).2.length then .read stSize [] else .read stOK vs

/-- A READ request. -/
def readReq (e : Env) (r : Req) (idx sub count : Nat) (b : Body) : Body :=
  serve e r 0x10 (readBody idx sub count)
    (fun slot x => (if readsFree idx then x.tookFree 1 else x, some (x.readRsp e slot idx sub count))) (fun _ x => x) b

/-! ## DESCRIBE (R403, R410) -/

/-- The default of an entry: that of `pair.epoch` is PAIR_ROLE (R467). -/
def Body.dfltNow (b : Body) (idx sub : Nat) : Int := if idx = 0x1A03 then (b.dev.role : Nat) else dflt idx sub

/-- The value of the constant sub-index 0x00 of an array; 0 for an entry that is none. -/
def subZero (idx : Nat) : Nat :=
  match lookup idx 0 with
  | some t => if t.access = .const then (dflt idx 0).toNat else 0
  | none => 0

/-- Response of a DESCRIBE. -/
def Body.describeRsp (b : Body) (idx sub : Nat) : Rsp :=
  match lookup idx sub with
  | none => .describe stNoEntry 0 0 0 0 0 "" (.n 0)
  | some t =>
    let d : Val := if t.ty = .str ∨ t.ty = .blob then .b [] else .n (b.dfltNow idx sub)
    .describe stOK t.ty.code t.access.code t.role.code t.cls.code (subZero idx) t.name d

/-- Body of a DESCRIBE. -/
def describeBody (idx sub : Nat) : Bytes := be 2 idx ++ be 1 sub

/-- A DESCRIBE request. -/
def describeReq (e : Env) (r : Req) (idx sub : Nat) (b : Body) : Body :=
  serve e r 0x14 (describeBody idx sub) (fun _ x => (x, some (x.describeRsp idx sub))) (fun _ x => x) b

/-! ## Meanings -/

/-- READ (R411). -/
def execRead (r : Req) (idx sub count : Nat) (s : State) : Host.Outcome State Fault Refusal := s.act (readReq s.env r idx sub count)

/-- DESCRIBE (R403). -/
def execDescribe (r : Req) (idx sub : Nat) (s : State) : Host.Outcome State Fault Refusal := s.act (describeReq s.env r idx sub)

end Sys2Proof.Machine
end

