-- ==== Sys2Proof/Machine/Transfers.lean ====
section
/-! DEFINITION. BLOB transfers, and the messages the application cores post to the mailbox (R420, R422 to R425). -/

namespace Sys2Proof.Machine

/-- Bytes of a segment (R423). -/
abbrev segLen : Nat := 1024

/-- Segments a transfer may run ahead of its acknowledged offset (R423, R425). -/
abbrev segWindow : Nat := 16

/-- An entry that streams into its operation (R424). -/
def isStreamed (idx : Nat) : Bool := idx == 0x1010 || idx == 0x1011

/-- An entry whose value lies in HBM (R377). -/
def inHbm (idx : Nat) : Bool := idx == 0x0C50 || isStreamed idx

/-- A new transfer id. -/
def Body.nextTid (b : Body) : Nat := (b.dict.tidCtr + 1) % 65536

/-- Take the next transfer id. -/
def Body.takeTid (b : Body) : Body := { b with dict := { b.dict with tidCtr := b.nextTid } }

/-- Write transfers open in all sessions. -/
def Body.writesOpen (b : Body) : Nat := (b.dict.sess.filter (fun s => s.2.wr.isSome)).length

/-! ## Opening (R422, R424, R425) -/

/-- Why a write transfer may not open; OK when it may. -/
def Body.openWriteBad (b : Body) (slot idx sub : Nat) : Nat :=
  match b.checkWrite (b.roleOf slot) idx sub .blob (.b []) with
  | 0 =>
    if inHbm idx ∧ b.devState = devFrozen then stFrozen
    else if ((b.sess? slot).bind (fun x => x.wr)).isSome ∨ 4 ≤ b.writesOpen then stBusy
    else if isStreamed idx ∧ ¬(b.opState (loadOp (idx - 0x1010)) = 1 ∧ b.opArg (loadOp (idx - 0x1010)) 0x10 = 0) then stState
    else if isStreamed idx ∧ ((b.feeding (idx - 0x1010)).isSome ∨ (b.load (idx - 0x1010)).closed) then stBusy
    else stOK
  | st => st

/-- BLOB_OPEN for writing. -/
def openWrite (e : Env) (slot idx sub len : Nat) (b : Body) : Body × Rsp :=
  match b.openWriteBad slot idx sub with
  | 0 =>
    let b1 := b.takeTid.modSess slot (fun x => { x with wr := some ⟨b.nextTid, idx, sub, len, [], [], 0, 0, e.tb, []⟩ })
    (if isStreamed idx then b1.setLoad (idx - 0x1010) ⟨[], false⟩ else b1, .blobOpen stOK b.nextTid len)
  | st => (b, .blobOpen st 0 0)

/-- The value a read transfer takes, or the status that refuses it. -/
def Body.snapshot (b : Body) (slot idx sub : Nat) : Nat ⊕ Bytes :=
  match lookup idx sub with
  | none => .inl stNoEntry
  | some t =>
    if t.ty ≠ .blob then .inl stType
    else if t.access = .wo then .inl stAccess
    else if t.role = .custodian ∧ b.roleOf slot ≠ 4 then .inl stRole
    else if ((b.sess? slot).bind (fun x => x.rd)).isSome then .inl stBusy
    else b.readStr slot idx sub

/-- BLOB_OPEN for reading. -/
def openRead (e : Env) (slot idx sub : Nat) (b : Body) : Body × Rsp :=
  match b.snapshot slot idx sub with
  | .inl st => (b, .blobOpen st 0 0)
  | .inr s =>
    let t : Transfer := ⟨b.nextTid, idx, sub, s.length, s, [], 0, 0, e.tb, []⟩
    (b.takeTid.modSess slot (fun x => { x with rd := some t }), .blobOpen stOK t.tid s.length)

/-- BLOB_OPEN; a direction that is neither write nor read is out of range. -/
def blobOpen (e : Env) (slot idx sub dir len : Nat) (b : Body) : Body × Rsp :=
  if dir = 0 then openWrite e slot idx sub len b
  else if dir = 1 then openRead e slot idx sub b
  else (b, .blobOpen stRange 0 0)

/-- Body of a BLOB_OPEN: the length stands in a write's only. -/
def blobOpenBody (idx sub dir len : Nat) : Bytes := be 2 idx ++ be 1 sub ++ be 1 dir ++ (if dir = 1 then [] else be 8 len)

/-! ## A read transfer (R425) -/

/-- The segment of a read transfer at an offset. -/
def Transfer.segAt (t : Transfer) (off : Nat) : Bytes := slice t.data off (Nat.min segLen (t.len - off))

/-- The device sends segments of a read transfer, by their offsets, and notes when. -/
def Body.sendSegs (b : Body) (e : Env) (slot : Nat) (t : Transfer) (offs : List Nat) : Body :=
  let air := offs.foldl (fun m o => minsert o e.tb m) t.air
  offs.foldl (fun x off =>
    let d := t.segAt off
    x.sendBlob e slot (fun sid => .blobData sid t.tid off d) 0x22 (be 2 t.tid ++ be 8 off ++ be 2 d.length ++ d))
    (b.modSess slot (fun x => { x with rd := some { t with air := air } }))

/-- How far the window of a read transfer reaches: 16 whole segments on from the one in which the acknowledged offset lies. -/
def Transfer.reach (t : Transfer) : Nat := Nat.min t.len (segLen * (t.done / segLen + segWindow))

/-- Send what the window now admits; a snapshot acknowledged whole is released. -/
def Body.pushRead (b : Body) (e : Env) (slot : Nat) (t : Transfer) : Body :=
  if t.len ≤ t.done then b.modSess slot (fun x => { x with rd := none })
  else
    b.sendSegs e slot { t with sent := Nat.max t.sent t.reach }
      ((upFrom 0 (divUp (t.reach - t.sent) segLen)).map (fun i => t.sent + segLen * i))

/-- After the response of a BLOB_OPEN, the first window of a read leaves. -/
def afterOpen (e : Env) (slot dir : Nat) (b : Body) : Body :=
  match (b.sess? slot).bind (fun x => x.rd) with
  | some t => if dir = 1 ∧ t.sent = 0 ∧ t.done = 0 then b.pushRead e slot t else b
  | none => b

/-- BLOB_ACK of the client; a status other than OK ends the transfer. -/
def clientAck (e : Env) (slot tid status off : Nat) (b : Body) : Body :=
  match (b.sess? slot).bind (fun x => x.rd) with
  | some t =>
    if t.tid ≠ tid then b
    else if status ≠ 0 then b.modSess slot (fun x => { x with rd := none })
    else if off ≤ t.done ∨ t.sent < off then b
    else b.pushRead e slot { t with done := off, tb := e.tb, air := t.air.filter (fun s => decide (off < s.1 + segLen) && decide (off < t.len)) }
  | none => b

/-- Each segment not acknowledged within 100 ms of when it last left leaves again. -/
def readRetransmit (e : Env) (slot : Nat) (b : Body) : Body :=
  match (b.sess? slot).bind (fun x => x.rd) with
  | some t => b.sendSegs e slot t ((t.air.filter (fun s => e.after s.2 100000000)).map (fun s => s.1))
  | none => b

/-! ## A write transfer (R423, R424) -/

/-- A write transfer ends with BLOB; a load it feeds finds its stream cut. -/
def Body.dropWrite (b : Body) (e : Env) (slot : Nat) (t : Transfer) : Body :=
  let b1 := (b.modSess slot (fun x => { x with wr := none })).blobAck e slot t.tid stBlob t.done
  if isStreamed t.idx then b1.cutStream e (t.idx - 0x1010) else b1

/-- A transfer with a segment held; what follows its acknowledged offset without a gap is taken, unless it streams. -/
def Transfer.take (t : Transfer) (off : Nat) (d : Bytes) (tb : Nat) : Transfer :=
  let segs := minsert off d t.segs
  if isStreamed t.idx then { t with segs := segs }
  else
    let bs := gather (segs.length + 1) t.done segs
    { t with data := t.data ++ bs, done := t.done + bs.length,
             segs := segs.filter (fun s => decide (t.done + bs.length ≤ s.1)), tb := if bs.isEmpty then t.tb else tb }

/-- BLOB_DATA. A segment outside the window is discarded; one already held is acknowledged again. A streamed segment is
acknowledged as its operation consumes it, and refused when the operation no longer runs, in FROZEN with that reason (R377). -/
def takeData (e : Env) (slot tid off : Nat) (d : Bytes) (b : Body) : Body :=
  match (b.sess? slot).bind (fun x => x.wr) with
  | none => b
  | some t =>
    if t.tid ≠ tid ∨ off % segLen ≠ 0 ∨ d.isEmpty ∨ segLen < d.length ∨ t.done + segLen * segWindow < off then b
    else if isStreamed t.idx ∧ b.devState = devFrozen then
      (b.modSess slot (fun x => { x with wr := none })).blobAck e slot tid stFrozen t.done
    else if off < t.done then b.blobAck e slot tid stOK t.done
    else
      let t' := t.take off d e.tb
      let b1 := b.modSess slot (fun x => { x with wr := some t' })
      if isStreamed t.idx then
        let st := b.opState (loadOp (t.idx - 0x1010))
        if st = 1 then b1.consume e (t.idx - 0x1010)
        else if st = 2 then b1
        else b.dropWrite e slot t
      else b1.blobAck e slot tid stOK t'.done

/-- The value that a write transfer has brought in order, the segments a suspended load has not consumed with it. -/
def Body.brought (b : Body) (t : Transfer) : Bytes :=
  if isStreamed t.idx then (b.load (t.idx - 0x1010)).data ++ gather (t.segs.length + 1) t.done t.segs else t.data

/-- A value whose transfer closed well is validated and applied by its entry's rules. -/
def closeApply (e : Env) (slot seq : Nat) (t : Transfer) (v : Bytes) (b : Body) : Body × Rsp :=
  let role := b.roleOf slot
  match b.checkWrite role t.idx t.sub .blob (.b []) with
  | 0 =>
    let a := entryWrite e slot seq role t.idx t.sub (.b v) b
    match a.2 with
    | some (.write st _ _) => (if st = 0 then a.1.forwardWrite e t.idx t.sub (.b v) else a.1, .blobClose st)
    | _ => (a.1, .blobClose stOK)
  | st => (b, .blobClose st)

/-- BLOB_CLOSE. In FROZEN a transfer to a load ends with that reason (R377). -/
def blobClose (e : Env) (slot seq tid crc : Nat) (b : Body) : Body × Rsp :=
  match (b.sess? slot).bind (fun x => x.wr) with
  | none => (b, .blobClose stBlob)
  | some t =>
    if t.tid ≠ tid then (b, .blobClose stBlob)
    else
      let v := b.brought t
      let b1 := b.modSess slot (fun x => { x with wr := none })
      if isStreamed t.idx ∧ b.devState = devFrozen then (b1, .blobClose stFrozen)
      else if v.length ≠ t.len ∨ crc32c v ≠ crc then
        (if isStreamed t.idx then b1.cutStream e (t.idx - 0x1010) else b1, .blobClose stBlob)
      else if isStreamed t.idx then
        let k := t.idx - 0x1010
        if b.opState (loadOp k) = 1 ∨ b.opState (loadOp k) = 2 then (b1.setLoad k ⟨v, true⟩, .blobClose stOK)
        else (b1, .blobClose stBlob)
      else closeApply e slot seq t v b1

/-- 10 s without progress, the time its operation is suspended apart (R423, R425). -/
def transferTimeout (e : Env) (slot dir : Nat) (b : Body) : Body :=
  if dir = 1 then
    match (b.sess? slot).bind (fun x => x.rd) with
    | some t => if e.after t.tb 10000000000 then b.modSess slot (fun x => { x with rd := none }) else b
    | none => b
  else
    match (b.sess? slot).bind (fun x => x.wr) with
    | some t =>
      if isStreamed t.idx && b.opState (loadOp (t.idx - 0x1010)) == 2 then b
      else if e.after t.tb 10000000000 then b.dropWrite e slot t else b
    | none => b

/-! ## Requests -/

/-- A BLOB_OPEN request. -/
def openReq (e : Env) (r : Req) (body : Bytes) (idx sub dir len : Nat) (b : Body) : Body :=
  serve e r 0x20 body (fun slot x => let a := blobOpen e slot idx sub dir len x; (a.1, some a.2)) (fun slot x => afterOpen e slot dir x) b

/-- A BLOB_DATA request. -/
def dataReq (e : Env) (r : Req) (tid off : Nat) (d : Bytes) (b : Body) : Body :=
  serve e r 0x22 (be 2 tid ++ be 8 off ++ be 2 d.length ++ d) (fun slot x => (takeData e slot tid off d x, none)) (fun _ x => x) b

/-- A BLOB_CLOSE request. -/
def closeReq (e : Env) (r : Req) (tid crc : Nat) (b : Body) : Body :=
  let what := (b.sess? (r.sid % 8)).bind (fun x => x.wr)
  serve e r 0x24 (be 2 tid ++ be 4 crc) (fun slot x => let a := blobClose e slot r.seq tid crc x; (a.1, some a.2))
    (fun slot x => match what with
      | some t => afterWrite e slot r.seq t.idx t.sub (.b []) x
      | none => x) b

/-- A BLOB_ACK request. -/
def ackReq (e : Env) (r : Req) (tid status off : Nat) (b : Body) : Body :=
  serve e r 0x23 (be 2 tid ++ be 2 status ++ be 8 off) (fun slot x => (clientAck e slot tid status off x, none)) (fun _ x => x) b

/-! ## The mailbox (R420) -/

/-- A WRITE as its bytes give it: an unknown type is refused with TYPE, a value cut short with RANGE. -/
def rawWrite (e : Env) (r : Req) (body : Bytes) (b : Body) : Body :=
  let idx := beAt body 0 2
  let sub := beAt body 2 1
  match Ty.ofCode (beAt body 3 1) with
  | none => serve e r 0x12 body (fun _ x => (x, some (wrote (if (lookup idx sub).isSome then stType else stNoEntry)))) (fun _ x => x) b
  | some ty =>
    match decodeWire ty (body.drop 4) with
    | none => serve e r 0x12 body (fun _ x => (x, some (wrote stRange))) (fun _ x => x) b
    | some v =>
      serve e r 0x12 body (fun slot x => dictWrite e slot r.seq idx sub ty v x) (fun slot x => afterWrite e slot r.seq idx sub v x) b

/-- A request of a mailbox session, by its message type; one of no known type or of a wrong length is discarded. -/
def mailRequest (e : Env) (r : Req) (ty : Nat) (body : Bytes) (b : Body) : Body :=
  let n := body.length
  if ty = 0x10 then (if n = 4 then readReq e r (beAt body 0 2) (beAt body 2 1) (beAt body 3 1) b else b)
  else if ty = 0x12 then (if 4 ≤ n then rawWrite e r body b else b)
  else if ty = 0x14 then (if n = 3 then describeReq e r (beAt body 0 2) (beAt body 2 1) b else b)
  else if ty = 0x20 then
    (if (beAt body 3 1 = 1 ∧ n = 4) ∨ n = 12 then openReq e r body (beAt body 0 2) (beAt body 2 1) (beAt body 3 1) (beAt body 4 8) b else b)
  else if ty = 0x22 then
    (if 12 ≤ n ∧ n = 12 + beAt body 10 2 then dataReq e r (beAt body 0 2) (beAt body 2 8) (body.drop 12) b else b)
  else if ty = 0x23 then (if n = 12 then ackReq e r (beAt body 0 2) (beAt body 2 2) (beAt body 4 8) b else b)
  else if ty = 0x24 then (if n = 6 then closeReq e r (beAt body 0 2) (beAt body 2 4) b else b)
  else if ty = 0x31 then
    (if n = 4 then serve e r 0x31 body (fun slot x => (notifyAck slot (beAt body 0 4) x, none)) (fun _ x => x) b else b)
  else if ty = 0x3E then serve e r 0x3E body (fun _ x => (x, some (.echo false body))) (fun _ x => x) b
  else if ty = 0x3F then serve e r 0x3F body (fun _ x => (x, some (.echo true body))) (fun slot x => x.closeSession e slot 0) b
  else b

/-- One message of the to-device ring, which finds `depth` requests in the dictionary pair's queue. Reserved bits of its header are ignored (R9). Its device nonce, where it is a HELLO, is sixteen free bytes. -/
def mailMessage (e : Env) (depth : Nat) (m : Bytes) (b : Body) : Body :=
  let n := beAt m 8 2
  let ty := beAt m 1 1
  let sid := beAt m 2 2
  let body := slice m 12 n
  if m.length ≠ 28 + n ∨ 1372 < n then b
  else if ty = 0x01 then
    (if n = 20 then
      (hello e .mailbox [] (beAt m 0 1) (beAt body 0 1) (beAt body 2 2) (slice body 4 16) ((upFrom b.free 16).map Config.freeByte) b).tookFree 16
    else b)
  else if ty = 0x03 then (if n = 32 then prove e .mailbox [] (beAt m 0 1) sid body b else b)
  else if bit (beAt m 10 1) 0 then b
  else mailRequest e ⟨sid, beAt m 4 4, .mailbox, [], m.drop (12 + n), depth, beAt m 10 2, beAt m 0 1⟩ ty body b

/-- Messages posted to the device and not yet taken, modulo 2^32 as the counters run. -/
def Mailbox.waiting (m : Mailbox) : Nat := (m.tdWrite + 2 ^ 32 - m.tdRead % 2 ^ 32) % 2 ^ 32

/-- Where the slot of message number k begins in a ring of 16 slots of 1,536 bytes. -/
def slotBase16 (k : Nat) : Nat := k % 16 * 1536

/-- n bytes of the to-device ring from an offset. -/
def Mailbox.tdBytes (m : Mailbox) (off n : Nat) : Bytes := (upFrom off n).map (fun a => mgetD 0 a m.td)

/-- The message in the slot of number k of the to-device ring: a length, then as many bytes, at most what the slot holds. -/
def Mailbox.message (m : Mailbox) (k : Nat) : Bytes :=
  m.tdBytes (slotBase16 k + 2) (Nat.min 1534 (ofLE (m.tdBytes (slotBase16 k) 2)))

/-- The cores put a message into the next slot, where one is free. -/
def Mailbox.post (m : Mailbox) (msg : Bytes) : Mailbox :=
  if 16 ≤ m.waiting then m
  else { m with td := memStore m.td (slotBase16 m.tdWrite) (le 2 (Nat.min 1534 msg.length) ++ msg.take 1534), tdWrite := (m.tdWrite + 1) % 2 ^ 32 }

/-- The device takes at most k messages of the ring, in order; each stands in the dictionary pair's queue behind those taken before it. -/
def takeMail (e : Env) : Nat → Nat → Body → Body
  | 0, _, b => b
  | k + 1, depth, b =>
    if b.mbox.waiting = 0 then b
    else
      takeMail e k (depth + 1) (mailMessage e depth (b.mbox.message b.mbox.tdRead)
        { b with mbox := { b.mbox with tdRead := (b.mbox.tdRead + 1) % 2 ^ 32 } })

/-- The cores have posted messages, as many as the ring has room for, and ring the doorbell: the device takes what waits, at most the 16
that the ring holds. -/
def doorbell (e : Env) (p : MailPost) (b : Body) : Body :=
  let b1 := { b with mbox := p.msgs.foldl Mailbox.post b.mbox }
  if b1.serves .mailbox then takeMail e 16 p.depth b1 else b1

/-! ## Meanings -/

/-- BLOB_OPEN (R422, R424, R425). -/
def execBlobOpen (r : Req) (idx sub dir len : Nat) (s : State) : Host.Outcome State Fault Refusal :=
  s.act (openReq s.env r (blobOpenBody idx sub dir len) idx sub dir len)

/-- BLOB_DATA (R423). -/
def execBlobData (r : Req) (tid off : Nat) (data : Bytes) (s : State) : Host.Outcome State Fault Refusal :=
  s.act (dataReq s.env r tid off data)

/-- BLOB_CLOSE (R423). -/
def execBlobClose (r : Req) (tid crc : Nat) (s : State) : Host.Outcome State Fault Refusal := s.act (closeReq s.env r tid crc)

/-- BLOB_ACK (R425). -/
def execBlobAck (r : Req) (tid status off : Nat) (s : State) : Host.Outcome State Fault Refusal :=
  s.act (ackReq s.env r tid status off)

/-- BLOB_READ_RETRANSMIT (R425). -/
def execBlobReadRetransmit (slot : Nat) (s : State) : Host.Outcome State Fault Refusal := s.act (readRetransmit s.env slot)

/-- BLOB_TRANSFER_TIMEOUT (R423). -/
def execBlobTransferTimeout (slot dir : Nat) (s : State) : Host.Outcome State Fault Refusal := s.act (transferTimeout s.env slot dir)

/-- MAILBOX_DOORBELL (R420). -/
def execMailboxDoorbell (posted : MailPost) (s : State) : Host.Outcome State Fault Refusal := s.actR (doorbell s.env posted)

end Sys2Proof.Machine
end

