-- ==== Sys2Proof/Machine/Cores.lean ====
section
/-! DEFINITION. What the application cores reach: their physical map, the windows on the mailbox, the event lines, the queues and the DMA
channels, and their caches; HBM requests (R365, R381, R382, R384, R420, R433). -/

namespace Sys2Proof.Machine

/-! ## The physical map (R381) -/

/-- What a core physical address names; offsets are from the start of each window, `region` carries the device physical address. -/
inductive CoreSpot where
  | mailbox (off : Nat)
  | lines (off : Nat)
  | queue (off : Nat)
  | channel (c off : Nat)
  | region (addr : Nat)
  | nothing
deriving DecidableEq, Repr

/-- n bytes from a lie in a window. -/
def inSpan (a n lo size : Nat) : Bool := decide (lo ≤ a) && decide (a + n ≤ lo + size)

/-- Where an access of n bytes at core physical address a goes (R381). -/
def Body.coreSpot (b : Body) (a n : Nat) : CoreSpot :=
  if inSpan a n 0x10000000 0x10000 then .mailbox (a - 0x10000000)
  else if inSpan a n 0x10010000 0x1000 then .lines (a - 0x10010000)
  else if inSpan a n 0x11000000 0x40000 then .queue (a - 0x11000000)
  else if inSpan a n 0x20000000 0x1800 then .channel ((a - 0x20000000) / 256) ((a - 0x20000000) % 256)
  else if inSpan a n 0x400000000 (Nat.min 0x400000000 (b.forceN 0x1803 0 * 2 ^ 20)) then .region (b.base 8 + (a - 0x400000000))
  else .nothing

/-! ## Reads of the windows -/

/-- A byte of the from-device ring, whose messages in it begin with message number `first`: length, then the message (R420); none where it
holds no message. -/
def slotByte (ring : List Bytes) (first off : Nat) : Option Byte :=
  let k := (off / 1536 + 16 - first % 16) % 16
  (ring[k]?).bind (fun m => (le 2 m.length ++ m)[off % 1536]?)

/-- A byte of the mailbox (R420); none where nothing says what it reads. -/
def Body.mailboxByte (b : Body) (off : Nat) : Option Byte :=
  let m := b.mbox
  if off < 0x10 then (le 4 m.tdWrite ++ le 4 m.tdRead ++ le 4 m.fdWrite ++ le 4 m.fdRead)[off]?
  else if 0x1000 ≤ off ∧ off < 0x7000 then some (mgetD 0 (off - 0x1000) m.td)
  else if 0x7000 ≤ off ∧ off < 0xD000 then slotByte m.fdRing m.fdRead (off - 0x7000)
  else if 0xD000 ≤ off then some 0
  else none

/-- A byte of the event line page (R433), reserved ones 0 (R9); none where nothing says what it reads. -/
def Body.linesByte (b : Body) (off : Nat) : Option Byte :=
  let v := b.ev
  if off < 0x14 then (le 8 v.linePending ++ le 4 v.evWrite ++ le 4 v.evRead ++ le 4 v.evLost)[off]?
  else if off < 0x40 then some 0
  else
    let slot := (off - 0x40) / 16
    let first := v.evWrite - v.ring.length
    (v.ring[(slot + 252 - first % 252) % 252]?).bind (fun r => r.le[off % 16]?)

/-- A byte of the registers of the channels from channel c (R384): eight bytes each, little-endian. -/
def Body.channelByte (b : Body) (c off : Nat) : Option Byte := (le 8 (b.chReg (c + off / 256) (off % 256 / 8 * 8)))[off % 8]?

/-- The bytes of a window; those that no rule gives a value are free (log entry 89). -/
def Body.coreBytes (b : Body) (spot : CoreSpot) (n : Nat) : Bytes :=
  let rd (f : Nat → Option Byte) (off : Nat) : Bytes := (upFrom 0 n).map (fun i => (f (off + i)).getD (Config.freeByte (b.free + i)))
  match spot with
  | .mailbox off => rd b.mailboxByte off
  | .lines off => rd b.linesByte off
  | .channel c off => rd (b.channelByte c) off
  | _ => rd (fun _ => none) 0

/-! ## Writes of the windows -/

/-- The cores write EV_READ: records taken (R433). -/
def Body.evTaken (b : Body) (v : Nat) : Body :=
  let n := Nat.min ((v + 2 ^ 32 - b.ev.evRead % 2 ^ 32) % 2 ^ 32) (b.ev.evWrite - b.ev.evRead)
  { b with ev := { b.ev with evRead := b.ev.evRead + n } }

/-- A write of `data` at offset `off` reaches the word of n bytes at offset `lo`. -/
def hits (lo n off : Nat) (data : Bytes) : Bool :=
  decide (off < lo + n) && decide (lo < off + data.length) && decide (0 < data.length)

/-- The value that such a write leaves in a word that held `old`: the bytes written, and the others as they were. -/
def merged (lo n old off : Nat) (data : Bytes) : Nat :=
  ofLE ((upFrom lo n).map (fun a => if off ≤ a ∧ a < off + data.length then data.getD (a - off) 0 else (le n old).getD (a - lo) 0))

/-- A write to the registers of channel c (R384): CH_PROG, and CH_CTRL with stop before start. -/
def Body.channelWrite (b : Body) (e : Env) (c off : Nat) (data : Bytes) : Body :=
  let b1 := if hits 0 8 off data then
      (let v := merged 0 8 (b.ch c).prog off data
       b.setCh c { b.ch c with prog := v - v % 8 }) else b
  let v := merged 8 8 0 off data
  if !hits 8 8 off data then b1
  else if bit v 1 then dmaStop e c b1
  else if bit v 0 then dmaStart c (b1.ch c).prog b1
  else b1

/-- A write of the cores to the mailbox (R420): bytes of the to-device ring, TD_WRITE, FD_READ, and the doorbell. The other words are the
device's. -/
def Body.mailboxWrite (b : Body) (e : Env) (off : Nat) (data : Bytes) : Body :=
  let lo := Nat.max off 0x1000
  let b1 := { b with mbox := { b.mbox with
    td := memStore b.mbox.td (lo - 0x1000) ((data.drop (lo - off)).take (0x7000 - lo))
    tdWrite := if hits 0 4 off data then merged 0 4 b.mbox.tdWrite off data else b.mbox.tdWrite } }
  let b2 := if hits 0x0C 4 off data then fdRead e (merged 0x0C 4 b1.mbox.fdRead off data) b1 else b1
  if hits 0x10 4 off data then doorbell e ⟨[], 0⟩ b2 else b2

/-- A write of the cores to the event line page (R433): ones clear LINE_PENDING, and EV_READ takes records. -/
def Body.linesWrite (b : Body) (off : Nat) (data : Bytes) : Body :=
  let b1 := if hits 0 8 off data then linePendingWrite (merged 0 8 0 off data) b else b
  if hits 0x0C 4 off data then b1.evTaken (merged 0x0C 4 b1.ev.evRead off data) else b1

/-- A write of the cores to a window; nothing says what a write to a queue does (log entry 89), and the words that no rule lets the cores write
keep their value. -/
def Body.coreWrite (b : Body) (e : Env) (spot : CoreSpot) (data : Bytes) : Body :=
  match spot with
  | .mailbox off => b.mailboxWrite e off data
  | .lines off => b.linesWrite off data
  | .channel c off => b.channelWrite e c off data
  | _ => b

/-! ## The caches (R382) -/

/-- The caches hold a copy of every byte of a range. -/
def Body.holdsCopies (b : Body) (a n : Nat) : Bool := (upFrom a n).all (fun i => (mfind i b.hbm.copies).isSome)

/-- An access of the cores to their region of HBM at device address d: one the caches keep is served by them where it is a write or they hold
every byte; any other goes to the controllers. -/
def Body.regionAccess (b : Body) (e : Env) (q : MemReq) (d : Nat) : Body :=
  if q.cached ∧ q.write then (b.keepCopies d (q.data.take q.len)).emit (.memRsp q.port true [])
  else if q.cached ∧ b.holdsCopies d q.len then b.emit (.memRsp q.port true ((upFrom d q.len).map b.snoop))
  else hbmRequest e { q with addr := d } b

/-- An access of the application cores (R381): HBM, a window, or a bus error. -/
def coreRequest (e : Env) (q : MemReq) (b : Body) : Body :=
  match b.coreSpot q.addr q.len with
  | .region d => b.regionAccess e q d
  | .nothing => b.emit (.busError q.addr)
  | spot =>
    if q.write then (b.coreWrite e spot (q.data.take q.len)).emit (.memRsp q.port true [])
    else (b.emit (.memRsp q.port true (b.coreBytes spot q.len))).tookFree q.len

/-- A memory request: of the application cores on their own port through their map, of any other agent by device address. -/
def memRequest (e : Env) (q : MemReq) (b : Body) : Body :=
  if q.agent = .cores ∧ q.port = corePort then coreRequest e q b else hbmRequest e q b

/-! ## Meanings -/

/-- HBM_REQUEST (R365, R381). -/
def execHbmRequest (q : MemReq) (s : State) : Host.Outcome State Fault Refusal := s.actR (memRequest s.env q)

end Sys2Proof.Machine
end

