-- ==== Sys2Proof/Machine/Snapshot.lean ====
section
/-! DEFINITION. What a join carries over the pairing link: the snapshot the active unit sends, and how the joining unit takes it
(R449, R452). The layout of SNAPSHOT data is the model's own (log entry 64). -/

namespace Sys2Proof.Machine

/-! ## What a snapshot carries -/

/-- An entry that the units of a pair share: shadowed, or stored and forwarded. -/
def sharedKey (k : Nat) : Bool :=
  isRws k || (match lookup (k / 256) (k % 256) with
    | some t => forwarded (k / 256) && t.access == .rw && !(isCause (k / 256))
    | none => false)

/-- Keys of a snapshot beside the entries in force: armed values, freeze states, frames held, what is in force, the order. -/
abbrev snapArmed : Nat := 2 ^ 32
abbrev snapFreeze : Nat := 2 ^ 33
abbrev snapHeld : Nat := 2 ^ 33 + 256
abbrev snapForce : Nat := 2 ^ 33 + 512
abbrev snapOrder : Nat := 2 ^ 33 + 768
abbrev snapFrozen : Nat := 2 ^ 33 + 1024

/-- What froze a layer, as a snapshot carries it. -/
def Frozen.bytes (x : Frozen) : Bytes := be 1 x.kind ++ be 1 x.num ++ be 1 (b2n x.backup) ++ be 8 x.sig

/-- A number as a snapshot carries it: a still as its bytes. -/
def Body.snapVal (b : Body) (k : Nat) (v : Int) : Val :=
  if k / 256 = 0x0C50 then .b (((mfind v.toNat b.lay.bufs).map FrameBuf.stillBytes).getD []) else .n v

/-- The identity of a frame: source, presentation time, signature. -/
def FrameBuf.ident (f : FrameBuf) : Bytes := be 1 f.kind ++ be 1 f.num ++ be 8 (f.pt % (2 ^ 64 : Nat)).toNat ++ be 8 f.sig

/-- Serial and map tag of the tables in force, and the tag of the rod map in force; -1 where there is none. -/
def Body.forceIds (b : Body) : List Int :=
  let c := b.inForce 0
  let m := b.inForce 1
  [if c = 0xFF then -1 else b.reg 0x1001 (c + 1), if c = 0xFF then -1 else b.reg 0x1002 (c + 1),
   if m = 0xFF then -1 else b.reg 0x1013 (m + 1)]

/-- The entries of a snapshot. -/
def Body.snapEntries (b : Body) : List (Nat × Val) :=
  ((b.num.filter (fun p => sharedKey p.1)).map (fun p => (p.1, b.snapVal p.1 p.2))) ++
  ((b.blob.filter (fun p => sharedKey p.1)).map (fun p => (p.1, Val.b p.2))) ++
  (b.lay.armed.num.map (fun p => (snapArmed + p.1, b.snapVal p.1 p.2))) ++
  (b.lay.armed.blob.map (fun p => (snapArmed + p.1, Val.b p.2))) ++
  ((upFrom 0 31).filterMap (fun l => if b.reg 0x1123 (l + 1) = 0 then none else some (snapFreeze + l, Val.n (b.reg 0x1123 (l + 1))))) ++
  (b.lay.frozen.map (fun p => (snapFrozen + p.1, Val.b p.2.bytes))) ++
  (b.lay.heldFrame.filterMap (fun p => (mfind p.2 b.lay.bufs).map (fun f => (snapHeld + p.1, Val.b f.ident)))) ++
  ((upFrom 0 3).zip b.forceIds).map (fun p => (snapForce + p.1, Val.n p.2)) ++ [(snapOrder, Val.n (b.pair.order : Nat))]

/-- Overrides as a snapshot carries them: lamp, flags, the first sub-frame, the end above 0. -/
def Body.snapOverrides (b : Body) : List (Nat × Nat × Nat × Nat) :=
  b.cor.overrides.map (fun o => (o.lamp, o.flags, o.from_, match o.til with
    | some u => u + 1
    | none => 0))

/-- Pan queues, and slots in use under pan numbers above 255. -/
def Body.snapPans (b : Body) : List (Nat × Nat × Nat) :=
  (b.pans.map (fun p => p.2.queue.map (fun w => (p.1, w.rod, w.pos)) ++ p.2.slots.map (fun s => (p.1 + 256, s.rod, s.pos)))).flatten

/-- One part of a snapshot: entries, overrides, pans. -/
abbrev SnapPart : Type := List (Nat × Val) × List (Nat × Nat × Nat × Nat) × List (Nat × Nat × Nat)

/-- The key that continues the byte string under the key below. -/
abbrev snapMore : Nat := 2 ^ 40

/-- An entry in pieces that a message holds: a long byte string goes on under keys that continue it. -/
def snapPieces (q : Nat × Val) : List (Nat × Val) :=
  match q.2 with
  | .n v => [(q.1, .n v)]
  | .b s =>
    if s.length ≤ 1024 then [q]
    else (q.1, .b (s.take 1024)) :: (chunks 1024 s.length (s.drop 1024)).map (fun c => (snapMore + q.1, Val.b c))

/-- Bytes of an entry on the wire. -/
def snapSize (q : Nat × Val) : Nat :=
  match q.2 with
  | .n _ => 15
  | .b s => 9 + s.length

/-- Entries in runs of at most 8,192 bytes: those left, the run begun, its size. -/
def snapRuns : List (Nat × Val) → List (Nat × Val) → Nat → List (List (Nat × Val))
  | [], run, _ => if run.isEmpty then [] else [run]
  | q :: qs, run, n =>
    if 8192 < n + snapSize q then run :: snapRuns qs [q] (snapSize q) else snapRuns qs (run ++ [q]) (n + snapSize q)

/-- A snapshot in parts that fit a message (R450). -/
def Body.snapParts (b : Body) : List SnapPart :=
  let os := b.snapOverrides
  let ps := b.snapPans
  (snapRuns (b.snapEntries.map snapPieces).flatten [] 0).map (fun c => (c, [], [])) ++ (chunks 256 os.length os).map (fun c => ([], c, [])) ++
  (chunks 512 ps.length ps).map (fun c => ([], [], c))

/-- Send parts of a snapshot from an offset on; the message behind them, at the offset of their end, carries nothing (R452). -/
def sendParts (e : Env) : List SnapPart → Nat → Body → Body
  | [], off, b => b.pairSend e (.snapshot off [] [] [] true)
  | p :: ps, off, b => sendParts e ps (off + (snapBytes p.1 p.2.1 p.2.2).length) (b.pairSend e (.snapshot off p.1 p.2.1 p.2.2 false))

/-- The active unit sends its snapshot. -/
def Body.sendSnapshot (b : Body) (e : Env) : Body := (sendParts e b.snapParts 0 b).modPair (fun p => { p with snapOut := 1 })

/-- An entry of a snapshot is taken: a piece goes on the byte string it continues. -/
def snapTake (m : Map Val) (q : Nat × Val) : Map Val :=
  if snapMore ≤ q.1 then
    match mfind (q.1 - snapMore) m, q.2 with
    | some (.b s), .b c => minsert (q.1 - snapMore) (.b (s ++ c)) m
    | _, _ => m
  else minsert q.1 q.2 m

/-! ## Taking a snapshot -/

/-- The number a snapshot gives an entry. -/
def snapNum (m : Map Val) (idx sub : Nat) : Int :=
  match mfind (key idx sub) m with
  | some (.n v) => v
  | _ => dflt idx sub

/-- The byte string a snapshot gives an entry. -/
def snapStr (m : Map Val) (idx sub : Nat) : Bytes :=
  match mfind (key idx sub) m with
  | some (.b s) => s
  | _ => []

/-- The generations in force and the Mode-class entries are the active's (R449). -/
def Body.snapAgrees (b : Body) (m : Map Val) : Bool :=
  ((upFrom 0 3).zip b.forceIds).all (fun p => mfind (snapForce + p.1) m == some (Val.n p.2)) &&
  ((b.num.map (fun p => p.1)) ++ (m.map (fun p => p.1))).all (fun k =>
    match lookup (k / 256) (k % 256) with
    | some t => t.cls != .mode || snapNum m (k / 256) (k % 256) == b.reg (k / 256) (k % 256)
    | none => true)

/-- Some entry of `n` indices from lo differs at a sub-index. -/
def Body.snapDiffers (b : Body) (m : Map Val) (lo n sub : Nat) : Bool :=
  (upFrom lo n).any (fun i => snapNum m i sub != b.reg i sub || snapStr m i sub != b.str i sub)

/-- Flows, streams and encoders whose settings change end first. -/
def Body.snapStop (b : Body) (e : Env) (m : Map Val) : Body :=
  let flows := (upFrom 0 16).filter (fun f => b.snapDiffers m 0x0A10 15 (f + 1))
  let b1 := flows.foldl (fun x f => (flowDelete e f x).1) b
  let strs := (upFrom 0 32).filter (fun s => b.snapDiffers m 0x0B00 5 (s + 1) || flows.contains (b.regN 0x0B00 (s + 1)))
  let b2 := strs.foldl (fun x s => (streamStop e s x).1) b1
  let encs := (upFrom 0 2).filter (fun n => b.snapDiffers m 0x0B40 13 (n + 1) ||
    (upFrom 1 9).any (fun k => b.snapDiffers m 0x0B4D 1 (9 * n + k)))
  encs.foldl (fun x n => (confDisable n x).1) b2

/-- Entries that start something when written. -/
def isEnable (idx : Nat) : Bool := idx == 0x0A1E || idx == 0x0B04 || idx == 0x0B40

/-- Stored entries take the active's values. -/
def Body.snapPlain (b : Body) (m : Map Val) : Body :=
  let mine (k : Nat) : Bool := decide (k < 2 ^ 24) && sharedKey k && !(isRws k) && !(isEnable (k / 256))
  let ns := ((b.num.map (fun p => p.1)) ++ (m.map (fun p => p.1))).filter mine
  let ss := ((b.blob.map (fun p => p.1)) ++ (m.map (fun p => p.1))).filter mine
  let b1 := ns.foldl (fun x k => x.setReg (k / 256) (k % 256) (snapNum m (k / 256) (k % 256))) b
  ss.foldl (fun x k => x.setStr (k / 256) (k % 256) (snapStr m (k / 256) (k % 256))) b1

/-- What the active unit runs starts here too. -/
def Body.snapStart (b : Body) (e : Env) (m : Map Val) : Body :=
  let on (idx n : Nat) : List Nat := (upFrom 0 n).filter (fun i => snapNum m idx (i + 1) == 1)
  let b1 := (on 0x0A1E 16).foldl (fun x f => (flowAdmit e f x).1) b
  let b2 := (on 0x0B04 32).foldl (fun x s => (streamStart e s x).1) b1
  (on 0x0B40 2).foldl (fun x n => (confEnable n x).1) b2

/-- A still of a set, in a new buffer; its number names the buffer. -/
def Body.newStill (b : Body) (n : Nat) (bs : Bytes) : Body × Int :=
  match stillOf n bs with
  | none => (b, 0)
  | some f =>
    let id := b.lay.bufCtr + 1
    ({ b with lay := { b.lay with bufCtr := id, bufs := minsert id f b.lay.bufs } }, id)

/-- The shadowed values under keys from `off` on, as a set. -/
def Body.snapSet (b : Body) (m : Map Val) (off : Nat) : Body × Cfg :=
  let es := (m.filter (fun p => decide (off ≤ p.1) && decide (p.1 < off + 2 ^ 26) && isRws (p.1 - off))).map (fun p => (p.1 - off, p.2))
  es.foldl (fun (a : Body × Cfg) p =>
    match p.2 with
    | .n v => (a.1, { a.2 with num := minsert p.1 v a.2.num })
    | .b s =>
      if p.1 / 256 = 0x0C50 then
        let r := a.1.newStill (p.1 % 256 - 1) s
        (r.1, { a.2 with num := minsert p.1 r.2 a.2.num })
      else (a.1, { a.2 with blob := minsert p.1 s a.2.blob })) (b, ⟨[], []⟩)

/-- The configuration in force becomes the active's, defaults included, and so does the armed set. -/
def Body.snapConfig (b : Body) (e : Env) (m : Map Val) : Body :=
  let a := b.snapSet m 0
  let own := a.1.cfgNow
  let set : Cfg := ⟨own.num.foldl (fun x p => if (mfind p.1 x).isNone then minsert p.1 (dflt (p.1 / 256) (p.1 % 256)) x else x) a.2.num,
                    own.blob.foldl (fun x p => if (mfind p.1 x).isNone then minsert p.1 [] x else x) a.2.blob⟩
  let r := (a.1.applySet e 0 set).snapSet m snapArmed
  { r.1 with lay := { r.1.lay with armed := r.2 } }

/-- Freeze states and the frames that layers hold. -/
def Body.snapLayers (b : Body) (m : Map Val) : Body :=
  (upFrom 0 31).foldl (fun x l =>
    let y := x.setReg 0x1123 (l + 1) (match mfind (snapFreeze + l) m with
      | some (.n v) => v
      | _ => 0)
    let id := match mfind (snapHeld + l) m with
      | some (.b s) => (y.lay.bufs.find? (fun p => p.2.ident == s)).map (fun p => p.1)
      | _ => none
    let z := { y with lay := { y.lay with frozen := match mfind (snapFrozen + l) m with
      | some (.b s) => minsert l ⟨beAt s 0 1, beAt s 1 1, beAt s 3 8, beAt s 2 1 == 1⟩ y.lay.frozen
      | _ => merase l y.lay.frozen } }
    { z with lay := { z.lay with heldFrame := match id with
      | some i => minsert l i z.lay.heldFrame
      | none => merase l z.lay.heldFrame } }) b

/-- A tile waits in a pan's queue, or has a slot, at the active unit. -/
def Body.snapPan (b : Body) (e : Env) (p : Nat × Nat × Nat) : Body :=
  if p.1 < 256 then b.setPan p.1 { b.pan p.1 with queue := (b.pan p.1).queue ++ [⟨p.2.1, p.2.2, e.tb⟩] }
  else b.setPan (p.1 - 256) { b.pan (p.1 - 256) with slots := (b.pan (p.1 - 256)).slots ++ [⟨p.2.1, p.2.2, e.tb, true⟩] }

/-- Overrides, pan queues and orders of the active unit. -/
def Body.snapRest (b : Body) (e : Env) (m : Map Val) : Body :=
  let b1 := { b with cor := { b.cor with overrides := b.pair.snapOv.map (fun (o : Nat × Nat × Nat × Nat) =>
    ⟨o.1, o.2.1, o.2.2.1, if o.2.2.2 = 0 then none else some (o.2.2.2 - 1)⟩) } }
  let b2 := (b1.pans.map (fun p => p.1)).foldl (fun x k => x.setPan k { x.pan k with queue := [], slots := [] }) b1
  let b3 := b2.pair.snapPan.foldl (fun x p => x.snapPan e p) b2
  let o := match mfind snapOrder m with
    | some (.n v) => v.toNat
    | _ => 0
  b3.modPair (fun p => { p with order := o, done := o, snap := [], snapOv := [], snapPan := [], shadow := [], shadowB := [] })

/-- The snapshot is whole: apply it, or leave the join where a check fails (R449). -/
def Body.applySnap (b : Body) (e : Env) : Body :=
  let m := b.pair.snap
  if b.snapAgrees m then
    let b1 := (((b.snapStop e m).snapPlain m).snapStart e m).snapConfig e m
    (((b1.snapLayers m).snapRest e m).sweepStills).modPair (fun p => { p with applied := true })
  else b.outOfStep e 1

/-- A SNAPSHOT message (R449). -/
def Body.takeSnapshot (b : Body) (e : Env) (off : Nat) (part : SnapPart) (last : Bool) : Body :=
  if b.pairState ≠ pairJoining then b
  else
    let b0 := if off = 0 then b.modPair (fun p => { p with snap := [], snapOv := [], snapPan := [], applied := false }) else b
    let b1 := b0.modPair (fun p => { p with
      snap := part.1.foldl snapTake p.snap
      snapOv := p.snapOv ++ part.2.1
      snapPan := p.snapPan ++ part.2.2 })
    if last then b1.applySnap e else b1

end Sys2Proof.Machine
end

