-- ==== Sys2Proof/Machine/Pair.lean ====
section
/-! DEFINITION. Messages of the pairing link, its timers, joining, following and switching over (R446 to R463, R466). -/

namespace Sys2Proof.Machine

/-! ## Orders the standby executes (R305, R322, R452, R454) -/

/-- A forwarded write to a stored entry, as the active unit executed it: no session, no role. -/
def Body.pairEntry (b : Body) (e : Env) (idx sub : Nat) (v : Val) : Body :=
  let w : WireVal := match v with
    | .n x => .n x
    | .b s => .b s
  if idx = 0x0C51 then
    let id := b.regN 0x0C50 sub
    if id = 0 then b else ((b.setReg 0x0C50 sub 0).setReg 0x0C52 sub 0).release e id
  else (entryWrite e 0xFF 0 3 idx sub w b).1

/-- A forwarded write to a shadowed entry waits for its COMMIT. -/
def Body.pairShadow (b : Body) (idx sub : Nat) (v : Val) : Body :=
  match v with
  | .n x => b.modPair (fun p => { p with shadow := minsert (key idx sub) x p.shadow })
  | .b s =>
    if idx = 0x0C50 then
      let a := b.newStill (sub - 1) s
      a.1.modPair (fun p => { p with shadow := minsert (key idx sub) a.2 p.shadow })
    else b.modPair (fun p => { p with shadowB := minsert (key idx sub) s p.shadowB })

/-- The order number executed last. -/
def Body.didOrder (b : Body) (order : Nat) : Body := b.modPair (fun p => { p with done := order, order := order })

/-- WRITE: a piece of the greatest size waits for the rest of its value, anything else ends one (log entry 29). -/
def takeWrite (e : Env) (order idx sub : Nat) (v : Val) (b : Body) : Body :=
  if !b.follows then b
  else
    match v with
    | .b s =>
      if s.length = writePiece then b.modPair (fun p => { p with part := p.part ++ s })
      else
        let all : Val := .b (b.pair.part ++ s)
        let b1 := b.modPair (fun p => { p with part := [] })
        (if isRws (key idx sub) then b1.pairShadow idx sub all else b1.pairEntry e idx sub all).didOrder order
    | .n x => (if isRws (key idx sub) then b.pairShadow idx sub (.n x) else b.pairEntry e idx sub (.n x)).didOrder order

/-- COMMIT: the set gathered, executed behind what is due on this tick (R52) and once the latches told before it have followed. -/
def takeCommit (e : Env) (order : Nat) (b0 : Body) : Body :=
  let b := fireDue e 4 b0
  if b.follows then
    let set : Cfg := ⟨b.pair.shadow, b.pair.shadowB⟩
    ((b.modPair (fun p => { p with shadow := [], shadowB := [], commits := p.commits ++ [(order, set)] })).didOrder order).runCommits e false
  else b

/-- LATCH: kept for a sub-frame this unit follows. -/
def takeLatch (n order crc : Nat) (b : Body) : Body :=
  if b.mustFollow n then b.modPair (fun p => { p with latches := p.latches ++ [⟨n, order, crc⟩] }) else b

/-- DECISION: followed where the sub-frame is latched, else kept for its latch (R456). -/
def takeDecision (e : Env) (d : DecisionMsg) (b : Body) : Body :=
  if b.mustFollow d.n then
    if (b.sub? d.n).isSome then b.follow e d else b.modPair (fun p => { p with decs := p.decs ++ [d] })
  else b

/-- SEAL: a DECISION missed leaves step (R456). -/
def takeSeal (e : Env) (n count : Nat) (b : Body) : Body :=
  match b.sub? n with
  | some s => if b.mustFollow n ∧ s.decCount ≠ count then b.outOfStep e 0 else b
  | none => b

/-- Newest sub-frame latched by the pair, as far as this unit knows. -/
def Body.newestTold (b : Body) : Nat := (b.pair.latches.map (fun l => l.n)).foldl Nat.max (b.regN 0x0981 0)

/-- OPERATION: a mode switch at the active's time, a reckoning, leaving LIVE (R211, R322, R512). -/
def takeOperation (e : Env) (t64 idx cmd : Nat) (args : List (Nat × Int)) (b0 : Body) : Body :=
  if b0.follows then
    let b := if idx = 0x0412 then args.foldl (fun x p => x.setReg idx p.1 p.2) b0 else b0
    if idx = 0x0412 then
      (if cmd = 1 then (modeSwitch e ((e.wt : Int) + tdiff t64 e.wt) b.newestTold 0xFF b).1 else (modeSwitchCancel e b).1)
    else if idx = 0x0415 then
      (if cmd = 1 then (b.reckonBegin e 0xFF (args.foldl (fun m p => minsert (key idx p.1) p.2 m) [])).1
       else if cmd = 2 then (opSuspend e idx b).1
       else if cmd = 3 then (opResume e idx b).1
       else (opCancel e idx b).1)
    else if idx = 0x010B then (b.setReg 0x010B 0 5).leaveLive e b.newestTold
    else b
  else b0

/-- RESULT of a reckoning (R322). -/
def takeResults (e : Env) (first : Nat) (lamps : List (Nat × Nat × Nat × Nat)) (final : Option (Nat × Nat)) (b : Body) : Body :=
  if b.follows then b.takeResult e first lamps final else b

/-- A tile leaves a pan's queue. -/
def Pan.without (x : Pan) (rod pos : Nat) : Pan := { x with queue := x.queue.filter (fun w => !(w.rod == rod && w.pos == pos)) }

/-- PAN: the queue and slots of the active unit, mirrored: queued, slot taken, slot released, slept (R305). A release no sooner than the ramp and
the settle time after the slot was taken is that of a tile that woke, an earlier one that of a WAKE abandoned (R303; DEDUCED, log entry
107). -/
def takePan (e : Env) (pan rod pos action : Nat) (b : Body) : Body :=
  if b.follows then
    let x := (b.pan pan).without rod pos
    if action = 0 then b.setPan pan { x with queue := x.queue ++ [⟨rod, pos, e.tb⟩] }
    else if action = 1 then b.setPan pan { x with slots := x.slots ++ [⟨rod, pos, e.tb, true⟩] }
    else if action = 2 then
      let b1 := b.setPan pan { b.pan pan with slots := (b.pan pan).slots.eraseP (fun s => s.rod == rod && s.pos == pos) }
      match (b.pan pan).slots.find? (fun s => s.rod == rod && s.pos == pos) with
      | some s => b1.modTile rod pos (fun t => { t with
          awake := t.awake || e.after s.tb ((b.panReg 0x1412 pan + b.panReg 0x1414 pan) * 1000000) })
      | none => b1
    else (b.setPan pan x).modTile rod pos (fun t => { t with awake := false })
  else b

/-- OVERRIDE: effective from the active's sub-frame (R161); fault reports it answers are acknowledged (R308). -/
def takeOverride (e : Env) (lamp flags S : Nat) (b0 : Body) : Body :=
  if b0.follows then
    let b := b0.freeOverrides.addOverride e lamp flags S
    { b with cor := { b.cor with faults := b.cor.faults.filter (fun (f : PendFault) => f.lamp != lamp) } }.reviewFaults e
  else b0

/-! ## Comparison (R458, R459) -/

/-- SIGNATURE: the twin's signatures, each compared once this unit has its own. -/
def takeSignature (e : Env) (n first : Nat) (rods : List (Nat × Nat)) (b : Body) : Body :=
  if b.pairState = pairActive ∨ b.follows then
    let mine := ((upFrom first rods.length).zip rods).filter (fun p => b.rodsInUse.contains p.1)
    let b1 := b.modPair (fun p => { p with
      sigTwin := mine.foldl (fun m q => minsert (sigKey n q.1) q.2 m) (recentSigs n p.sigTwin)
      sigOwn := recentSigs n p.sigOwn })
    mine.foldl (fun x p => x.compareRod e n p.1) b1
  else b

/-- ATTRIB: the twin's result. -/
def takeAttrib (e : Env) (n rod result : Nat) (b : Body) : Body :=
  (b.modAttrib n rod (fun a => { a with twin := some result })).decideAttrib e n rod

/-- No ATTRIB within 250 us of the later SIGNATURE (R459). -/
def attribTimeout (e : Env) (n rod : Nat) (b : Body) : Body :=
  match b.pair.attribs.find? (fun a => a.n == n && a.rod == rod) with
  | none => b
  | some a =>
    if a.own = some 0 ∧ a.twin = none ∧ e.after a.tb 250000 then
      if b.pairState = pairActive then b.endAttrib e n rod else ((b.endAttrib e n rod).outOfStep e 0).settleOffice e
    else b

/-! ## Joining (R448, R449) -/

/-- Fit: WARM or LIVE without doubt. -/
def Body.mayPair (b : Body) : Bool := (b.devState == devWarm || b.devState == devLive) && b.regN 0x1A10 0 == 0

/-- The twin is ACTIVE: a fit unit that seeks, or one out of step, begins to join. A unit out of step does so once it has told its twin in a
STATUS that it is, so that the twin sends a new snapshot (log entry 103). -/
def Body.beginJoin (b : Body) : Body :=
  if (b.pairState = pairSeeking ∧ b.mayPair) ∨ (b.pairState = pairOut ∧ b.pair.toldOut = true) then
    (b.setReg 0x1A02 0 (pairJoining : Nat)).modPair (fun p => { p with
      good := 0, joinBad := none, joined := false, applied := false, snap := [], snapOv := [], snapPan := [], latches := [], decs := [],
      shadow := [], shadowB := [], commits := [], part := [], offBad := none, handover := none })
  else b

/-- The first sub-frame whose I lies at or after t (R449). -/
def Body.firstLatch (b : Body) (t : Int) : Nat :=
  match ((upFrom 0 256).filterMap b.latchAt).find? (fun p => decide (t ≤ p.2.instI p.1)) with
  | some p => p.1
  | none => (if b.live then b.seq.mode else b.entryMode).firstFrom t

/-- No part of the snapshot sent waits for its ACK. -/
def Body.snapAcked (b : Body) : Bool :=
  (b.pair.unacked.map (fun m => m.msg) ++ b.pair.backlog).all (fun m => match m with
    | .snapshot .. => false
    | _ => true)

/-- The active unit names the join sub-frame once the snapshot has been taken, by a twin that joins still. -/
def Body.nameJoin (b : Body) (e : Env) : Body :=
  if b.pairState = pairActive ∧ b.pair.snapOut = 1 ∧ b.snapAcked ∧ b.regN 0x1A04 0 = pairJoining then
    let n := b.firstLatch ((e.wt : Int) + 2000000)
    ((b.setReg 0x1A0D 0 (n : Nat)).modPair (fun p => { p with snapOut := 2 })).pairSend e (.join n)
  else b

/-- JOIN: this unit, which has applied the snapshot, follows from I(N_j). -/
def takeJoin (n : Nat) (b : Body) : Body :=
  if b.pairState = pairJoining ∧ b.pair.applied = true then (b.setReg 0x1A0D 0 (n : Nat)).modPair (fun p => { p with joined := true, good := 0, joinBad := none })
  else b

/-! ## STATUS, DEMOTE, ACK (R452, R453, R460) -/

/-- Messages up to a sequence number are acknowledged; those that wait for room leave. -/
def Body.ackTo (b : Body) (e : Env) (highest : Nat) : Body :=
  (pairDrain e b.pair.backlog.length (b.modPair (fun p => { p with unacked := p.unacked.filter (fun (m : PairSent) =>
    decide (0 < Int.bmod ((m.seq : Int) - highest) (2 ^ 32))) }))).nameJoin e

/-- STATUS of the twin. Where its state has changed to one in which it sends no signature to compare, no comparison is awaited (R77). -/
def takeStatus (e : Env) (ps dev doubt epoch latched highest : Nat) (b : Body) : Body :=
  let bad := (doubt ≠ 0 ∧ b.pair.twinDoubt = 0) ∨ (ps = pairDemoted ∧ b.regN 0x1A04 0 ≠ pairDemoted ∧ b.pair.twinDoubt = 0)
  let b1 := (b.setReg 0x1A04 0 (ps : Nat)).modPair (fun p => { p with
    twinDev := dev, twinDoubt := doubt, twinEpoch := epoch, twinLatched := latched
    released := if ps = pairActive then none else p.released })
  let b1a := if ps ≠ b.regN 0x1A04 0 ∧ ps ≠ pairStandby ∧ ps ≠ pairActive then b1.endCompares e else b1
  let b2 := (if bad then b1a.raise e 900 0 else b1a).ackTo e highest
  if ps = pairActive then b2.beginJoin
  else if b2.pairState = pairActive then
    if ps = pairJoining ∧ b2.pair.snapOut = 0 then b2.sendSnapshot e
    else if ps ≠ pairJoining ∧ ps ≠ pairStandby then b2.modPair (fun p => { p with snapOut := 0 })
    else b2
  else b2

/-- Every pan's queue is served: the unit has just become active (R305). -/
def Body.pumpAll (b : Body) (e : Env) : Body := (b.pans.map (fun p => p.1)).foldl (fun x p => x.pump e p) b

/-- A promotion trigger of the link or of ACTIVE_N (R460). -/
def Body.promoted (b : Body) (e : Env) : Body :=
  let b1 := (b.promote e).settleOffice e
  if b1.pairState = pairActive ∧ b.pairState ≠ pairActive then b1.pumpAll e else b1

/-- DEMOTE: the twin is in doubt, and compares nothing more (R77); from the active unit it promotes this one. -/
def takeDemote (e : Env) (fromActive : Bool) (cause : Nat) (b : Body) : Body :=
  let b1 := ((if b.pair.twinDoubt = 0 then b.raise e 900 0 else b).modPair (fun p => { p with twinDoubt := cause })).endCompares e
  if fromActive then b1.promoted e else b1

/-- HANDOVER: the promotion comes at C(N_h - 1) (R463). -/
def takeHandover (n : Nat) (b : Body) : Body :=
  if b.pairState = pairStandby then b.modPair (fun p => { p with handover := some n }) else b

/-! ## The clock exchange (R457) -/

/-- How far the servo of a following unit steps for an offset in quarters of a ns: past 4 ns so far that less than 4 ns is left, within it
anything up to the offset. `f` and `g` are free values (R457; log entry 65). -/
def servoStep (off : Int) (f g : Nat) : Int :=
  if 16 < off.natAbs then off.tdiv 4 + ((f % 7 : Nat) : Int) - 3
  else if g % 2 = 1 then
    let k : Int := (f % (off.natAbs / 4 + 1) : Nat)
    if off < 0 then -k else k
  else 0

/-- The servo of a following unit: the spec states the range of the increment and the offset it holds, not its law, so whether and how
far it changes the rate, and how far it steps within the bound, is free (log entry 65). -/
def Body.steer (b : Body) (e : Env) (off : Int) : Body :=
  let f0 := Config.freeNum b.free
  let f1 := Config.freeNum (b.free + 1)
  let f2 := Config.freeNum (b.free + 2)
  let b1 := b.tookFree 3
  let b2 := if f0 % 2 = 1 then
      let v := 2198583450901 + f1 % 879609303
      (b1.setReg 0x0801 0 (v : Nat)).change (.incr v)
    else b1
  let v := servoStep off f2 (f0 / 2)
  if v = 0 ∨ b2.wallSoon e + v < 0 then b2
  else
    let b3 := if b2.regN 0x0806 0 = 0 then (b2.setReg 0x0806 0 1).raise e 69 0 else b2
    (b3.setReg 0x1A07 0 (clampI (-2147483648) 2147483647 (off - 4 * v))).change (.step v)

/-- TIME: t1 left this unit and came to the twin at t2; this message left it at t3 and comes now. The offset is in quarters of a ns. -/
def takeTime (e : Env) (t1 t2 t3 : Nat) (b : Body) : Body :=
  let b0 := b.modPair (fun p => { p with timeRx := some (t3, e.pairTime) })
  if t1 = 0 ∧ t2 = 0 then b0
  else
    let off := 2 * (tdiff t2 t1 + tdiff t3 (e.pairTime : Nat))
    let b1 := b0.setReg 0x1A07 0 (clampI (-2147483648) 2147483647 off)
    if b1.follows then
      (b1.modPair (fun p => { p with offBad := if 80 < off.natAbs then some (p.offBad.getD e.tb) else none })).steer e off
    else b1

/-- An offset beyond 20 ns for 10 ms (R457). -/
def clockTimeout (e : Env) (b : Body) : Body :=
  match b.pair.offBad with
  | some t =>
    if b.follows ∧ e.after t 10000000 then (((b.modPair (fun p => { p with offBad := none })).raise e 907 0).outOfStep e 0).settleOffice e else b
  | none => b

/-! ## Reception in order (R451, R453) -/

/-- Only the active unit sends it. -/
def PairMsg.ofActive : PairMsg → Bool
  | .write .. => true
  | .commit .. => true
  | .latch .. => true
  | .decision .. => true
  | .seal .. => true
  | .operation .. => true
  | .result .. => true
  | .pan .. => true
  | .override .. => true
  | .snapshot .. => true
  | .join .. => true
  | .handover .. => true
  | _ => false

/-- What a message does once it is accepted. -/
def Body.pairDo (b : Body) (e : Env) (h : PairHdr) : PairMsg → Body
  | .status ps dev doubt epoch latched highest => takeStatus e ps dev doubt epoch latched highest b
  | .demote cause => takeDemote e h.fromActive cause b
  | .ack highest => b.ackTo e highest
  | .time t1 t2 t3 _ => takeTime e t1 t2 t3 b
  | .write order idx sub _ v => takeWrite e order idx sub v b
  | .commit order _ => takeCommit e order b
  | .latch n order crc => takeLatch n order crc b
  | .decision d => takeDecision e d b
  | .seal n count => takeSeal e n count b
  | .operation idx cmd args => takeOperation e h.t64 idx cmd args b
  | .result first lamps final => takeResults e first lamps final b
  | .pan pan rod pos action => takePan e pan rod pos action b
  | .override lamp flags n => takeOverride e lamp flags n b
  | .signature n first rods => takeSignature e n first rods b
  | .attrib n rod result => takeAttrib e n rod result b
  | .snapshot off es os ps last => b.takeSnapshot e off (es, os, ps) last
  | .join n => takeJoin n b
  | .handover n => takeHandover n b

/-- A message of STATUS, ACK or TIME takes no sequence number. -/
def PairMsg.unsequenced : PairMsg → Bool
  | .status .. => true
  | .ack .. => true
  | .time .. => true
  | _ => false

/-- Highest sequence received in order. -/
def Body.rxHighest (b : Body) : Nat := (b.pair.rxNext + (2 ^ 32 - 1)) % 2 ^ 32

/-- Accept the message due: its ACK, and its effect where it comes from whom it may. -/
def Body.pairAccept (b : Body) (e : Env) (h : PairHdr) (m : PairMsg) : Body :=
  let b1 := b.modPair (fun p => { p with rxNext := nextSeq p.rxNext, gap := none })
  let b2 := b1.pairTell e (.ack b1.rxHighest)
  if m.ofActive ∧ (h.fromActive = false ∨ b2.pairState = pairActive) then b2 else b2.pairDo e h m

/-- Accept the messages that came early and are due now. -/
def drainEarly (e : Env) : Nat → Body → Body
  | 0, b => b
  | k + 1, b =>
    match b.pair.early.find? (fun q => q.1.seq == b.pair.rxNext) with
    | none => if b.pair.early.isEmpty then b else b.modPair (fun p => { p with gap := some (p.gap.getD e.tb) })
    | some q => drainEarly e k ((b.modPair (fun p => { p with early := p.early.filter (fun r => r.1.seq != q.1.seq) })).pairAccept e q.1 q.2)

/-- The pairing unit hears its twin. -/
def Body.pairHears (b : Body) : Bool := b.pairState != pairSingle && b.regN 0x0120 54 != 3

/-- A valid frame: the link is up, and a sequenced message waits for its turn. -/
def Body.pairHear (b : Body) (e : Env) (h : PairHdr) (m : PairMsg) : Body :=
  let b1 := (b.setReg 0x1A05 0 1).modPair (fun p => { p with lastRx := e.tb })
  if m.unsequenced then b1.pairDo e h m
  else if h.seq = 0 then b1
  else
    let d := Int.bmod ((h.seq : Int) - b1.pair.rxNext) (2 ^ 32)
    if d < 0 then b1.pairTell e (.ack b1.rxHighest)
    else if d = 0 then drainEarly e (b1.pair.early.length + 1) (b1.pairAccept e h m)
    else if b1.pair.early.any (fun q => q.1.seq == h.seq) then b1
    else b1.modPair (fun p => { p with early := p.early ++ [(h, m)], gap := some (p.gap.getD e.tb) })

/-- A valid frame of the pairing link. -/
def pairReceive (e : Env) (h : PairHdr) (m : PairMsg) (b : Body) : Body :=
  if !b.pairHears then b
  else if b.follows then (b.pairHear e h m).settleOffice e
  else b.pairHear e h m

/-! ## Timers of the link (R452, R453, R455) -/

/-- STATUS, every 50 us. -/
def statusSend (e : Env) (b : Body) : Body :=
  if b.pairHears then
    (b.modPair (fun p => { p with toldOut := b.pairState == pairOut })).pairTell e (.status b.pairState b.devState (b.regN 0x1A10 0) (b.regN 0x1A03 0) (b.regN 0x0981 0) b.rxHighest)
  else b

/-- TIME, every 1 ms: the twin's last TIME as it left the twin and came here, and the present time; the fourth stamp of the exchange is that
of the reception, which the receiver takes (log entry 65). -/
def timeSend (e : Env) (b : Body) : Body :=
  if b.pairHears then
    match b.pair.timeRx with
    | some (t, r) => b.pairTell e (.time t r e.pairTime 0)
    | none => b.pairTell e (.time 0 0 e.pairTime 0)
  else b

/-- A message not acknowledged 20 us after its last transmission leaves again. -/
def pairRetransmit (e : Env) (seq : Nat) (b : Body) : Body :=
  match b.pair.unacked.find? (fun m => m.seq == seq) with
  | none => b
  | some m =>
    if e.after m.tb 20000 then
      (b.modPair (fun p => { p with unacked := p.unacked.map (fun (x : PairSent) => if x.seq = seq then { x with tb := e.tb } else x) })).emit
        (.pair (pairFrame seq b.isActive e.pairTime m.msg))
    else b

/-- No valid frame for 150 us. -/
def pairLinkDown (e : Env) (b : Body) : Body := if e.after b.pair.lastRx 150000 then (b.pairLinkLost e).settleOffice e else b

/-- A gap not filled within 100 us. -/
def pairGap (e : Env) (b : Body) : Body :=
  match b.pair.gap with
  | some t => if e.after t 100000 then (b.outOfStep e 0).settleOffice e else b
  | none => b

/-- The LATCH of a sub-frame due has not come within 100 us (R455). -/
def latchMissing (e : Env) (b : Body) : Body :=
  match b.pair.latchWait with
  | some (n, t) => if e.after t 100000 ∧ (b.latchRec n).isNone then (b.outOfStep e 0).settleOffice e else b
  | none => b

/-! ## ACTIVE_N (R446, R448, R460, R464) -/

/-- ACTIVE_N has read high for 2 us, on a unit that does not drive it. That it comes to do so once more says that the line was low between
(R446; log entry 102). -/
def activeReleased (e : Env) (b : Body) : Body :=
  if b.activeLow ∨ b.pairState = pairSingle then b
  else (b.modPair (fun p => { p with released := some e.tb })).promoted e

/-- ACTIVE_N reads high while this unit drives it low. -/
def splitBrain (e : Env) (b : Body) : Body := if b.activeLow then b.raise e 905 0 else b

/-- A seeking unit takes the wall: unit A as soon as ACTIVE_N is released, unit B after 1 s (R448). Tiles asleep are woken, as the
start-up of a unit that was not active has asked for none (R302, R509). -/
def seekActive (e : Env) (b : Body) : Body :=
  match b.pair.released with
  | none => b
  | some t =>
    if b.pairState = pairSeeking ∧ b.mayPair ∧ (b.dev.role = 0 ∨ e.after t 1000000000) then
      let b1 := ((b.becomeActive e).settleOffice e).pumpAll e
      (b1.allTiles.filter (fun p => !(b1.tile p.1 p.2).awake)).foldl (fun x p => x.wakeReq e p.1 p.2) b1
    else b

/-! ## Meanings -/

/-- ACTIVE_N_RELEASED (R446, R460). -/
def execActiveNReleased (s : State) : Host.Outcome State Fault Refusal := s.act (activeReleased s.env)

/-- SPLIT_BRAIN_SENSED (R464). -/
def execSplitBrainSensed (s : State) : Host.Outcome State Fault Refusal := s.act (splitBrain s.env)

/-- SEEKING_ACTIVE (R448). -/
def execSeekingActive (s : State) : Host.Outcome State Fault Refusal := s.act (seekActive s.env)

/-- PAIR_STATUS_SEND (R452). -/
def execPairStatusSend (s : State) : Host.Outcome State Fault Refusal := s.act (statusSend s.env)

/-- PAIR_TIME_SEND (R452). -/
def execPairTimeSend (s : State) : Host.Outcome State Fault Refusal := s.act (timeSend s.env)

/-- STATUS (R452). -/
def execStatus (h : PairHdr) (ps dev doubt epoch latched highest : Nat) (s : State) : Host.Outcome State Fault Refusal :=
  s.act (pairReceive s.env h (.status ps dev doubt epoch latched highest))

/-- DEMOTE (R452, R460). -/
def execDemote (h : PairHdr) (cause : Nat) (s : State) : Host.Outcome State Fault Refusal :=
  s.act (pairReceive s.env h (.demote cause))

/-- ACK (R453). -/
def execAck (h : PairHdr) (highest : Nat) (s : State) : Host.Outcome State Fault Refusal :=
  s.act (pairReceive s.env h (.ack highest))

/-- TIME (R457). -/
def execTime (h : PairHdr) (t1 t2 t3 t4 : Nat) (s : State) : Host.Outcome State Fault Refusal :=
  s.act (pairReceive s.env h (.time t1 t2 t3 t4))

/-- WRITE of the pairing link (R454). -/
def execPairWrite (h : PairHdr) (order idx sub : Nat) (ty : Ty) (v : WireVal) (s : State) : Host.Outcome State Fault Refusal :=
  s.act (pairReceive s.env h (.write order idx sub ty (match v with
    | .b x => .b x
    | x => .n x.num)))

/-- COMMIT (R454). -/
def execCommit (h : PairHdr) (order n : Nat) (s : State) : Host.Outcome State Fault Refusal :=
  s.act (pairReceive s.env h (.commit order n))

/-- LATCH (R455). -/
def execLatch (h : PairHdr) (n order crc : Nat) (s : State) : Host.Outcome State Fault Refusal :=
  s.act (pairReceive s.env h (.latch n order crc))

/-- DECISION (R456). -/
def execDecision (h : PairHdr) (d : DecisionMsg) (s : State) : Host.Outcome State Fault Refusal :=
  s.act (pairReceive s.env h (.decision d))

/-- SEAL (R456). -/
def execSeal (h : PairHdr) (n count : Nat) (s : State) : Host.Outcome State Fault Refusal :=
  s.act (pairReceive s.env h (.seal n count))

/-- OPERATION (R454). -/
def execOperation (h : PairHdr) (idx cmd : Nat) (args : List (Nat × Int)) (s : State) : Host.Outcome State Fault Refusal :=
  s.act (pairReceive s.env h (.operation idx cmd args))

/-- RESULT (R322). -/
def execResult (h : PairHdr) (first : Nat) (lamps : List (Nat × Nat × Nat × Nat)) (final : Option (Nat × Nat)) (s : State) :
    Host.Outcome State Fault Refusal := s.act (pairReceive s.env h (.result first lamps final))

/-- PAN (R305). -/
def execPan (h : PairHdr) (pan rod pos action : Nat) (s : State) : Host.Outcome State Fault Refusal :=
  s.act (pairReceive s.env h (.pan pan rod pos action))

/-- OVERRIDE (R161). -/
def execOverride (h : PairHdr) (lamp flags n : Nat) (s : State) : Host.Outcome State Fault Refusal :=
  s.act (pairReceive s.env h (.override lamp flags n))

/-- SIGNATURE (R458). -/
def execSignature (h : PairHdr) (n first : Nat) (rods : List (Nat × Nat)) (s : State) : Host.Outcome State Fault Refusal :=
  s.act (pairReceive s.env h (.signature n first rods))

/-- ATTRIB (R459). -/
def execAttrib (h : PairHdr) (n rod result : Nat) (s : State) : Host.Outcome State Fault Refusal :=
  s.act (pairReceive s.env h (.attrib n rod result))

/-- ATTRIB_TIMEOUT (R459). -/
def execAttribTimeout (n rod : Nat) (s : State) : Host.Outcome State Fault Refusal := s.act (attribTimeout s.env n rod)

/-- SNAPSHOT (R449). -/
def execSnapshot (h : PairHdr) (off : Nat) (entries : List (Nat × Val)) (overrides : List (Nat × Nat × Nat × Nat))
    (pans : List (Nat × Nat × Nat)) (last : Bool) (s : State) : Host.Outcome State Fault Refusal :=
  s.act (pairReceive s.env h (.snapshot off entries overrides pans last))

/-- JOIN (R449). -/
def execJoin (h : PairHdr) (n : Nat) (s : State) : Host.Outcome State Fault Refusal := s.act (pairReceive s.env h (.join n))

/-- HANDOVER (R463). -/
def execHandover (h : PairHdr) (n : Nat) (s : State) : Host.Outcome State Fault Refusal := s.act (pairReceive s.env h (.handover n))

/-- PAIR_RETRANSMIT (R453). -/
def execPairRetransmit (seq : Nat) (s : State) : Host.Outcome State Fault Refusal := s.act (pairRetransmit s.env seq)

/-- PAIR_LINK_DOWN (R453). -/
def execPairLinkDown (s : State) : Host.Outcome State Fault Refusal := s.act (pairLinkDown s.env)

/-- PAIR_GAP_TIMEOUT (R453). -/
def execPairGapTimeout (s : State) : Host.Outcome State Fault Refusal := s.act (pairGap s.env)

/-- LATCH_MISSING_TIMEOUT (R455). -/
def execLatchMissingTimeout (s : State) : Host.Outcome State Fault Refusal := s.act (latchMissing s.env)

/-- CLOCK_OFFSET_TIMEOUT (R457). -/
def execClockOffsetTimeout (s : State) : Host.Outcome State Fault Refusal := s.act (clockTimeout s.env)

end Sys2Proof.Machine
end

