-- ==== Sys2Proof/Machine/Scheduler.lean ====
section
/-! DEFINITION. The meanings of the bead scheduler's commands (R80 to R101). -/

namespace Sys2Proof.Machine

/-- The record an engine reports for a job: what R147 to R161 give, or what an engine in error reports in its place. -/
def Body.result (b : Body) (s : Sub) (j : Job) (engine : Nat) (wrong : Option BeadFault) : Option Rec :=
  match s.group? j.epoch, b.beadOf s j.bead, b.subMap s with
  | some g, some d, some m =>
    let r := b.compute s d g.decs m engine
    some (match wrong with
      | none => r
      | some w => { r with codes := w.codes, guard := w.guard })
  | _, _, _ => none

/-- A bead completes: its tag frees, and its record is used as its kind says (R83, R85, R98, R99, R459). -/
def beadComplete (e : Env) (tag : Nat) (wrong : Option BeadFault) (b : Body) : Body :=
  match b.beads.out.find? (fun o => o.tag == tag) with
  | none => b
  | some o =>
    let b1 := (b.modBeads (fun x => { x with out := x.out.filter (fun y => y.tag != tag) })).freeTags e
    let j := o.job
    match b1.sub? j.n with
    | none => b1
    | some s =>
      match b1.result s j o.engine wrong with
      | none => b1
      | some r =>
        match j.kind with
        | .normal =>
          match s.group? j.epoch with
          | some g => if g.live && !s.retired then b1.takeRecord e s g j.bead r else b1
          | none => b1
        | .shadow _ =>
          match b1.checkOf j.n j.epoch j.bead with
          | some c => let d := { c with copy := some r }
                      (b1.setCheck c d).compare e d
          | none => b1
        | .vote _ _ =>
          match b1.checkOf j.n j.epoch j.bead with
          | some c => b1.vote e c r
          | none => b1
        | .attrib => b1.attribBead e j.n j.bead r

/-- BEAD_ISSUE (R80 to R82). -/
def execBeadIssue (s : State) : Host.Outcome State Fault Refusal := s.act (beadIssue s.env)

/-- BEAD_COMPLETE (R83). -/
def execBeadComplete (tag : Nat) (wrong : Option BeadFault) (s : State) : Host.Outcome State Fault Refusal :=
  s.act (beadComplete s.env tag wrong)

/-- HUNG_BEAD_TIMEOUT (R83). -/
def execHungBeadTimeout (tag : Nat) (s : State) : Host.Outcome State Fault Refusal := s.act (hungBead s.env tag)

/-- STAGING_RECORD_GRANT (R90). -/
def execStagingRecordGrant (s : State) : Host.Outcome State Fault Refusal := s.act recordGrant

end Sys2Proof.Machine
end

