-- ==== Sys2Proof/Machine/Dispatch.lean ====
section
/-! DEFINITION. The dispatch: one arm for each command, one call of its meaning. -/

namespace Sys2Proof.Machine

/-- The effect of a command on everything but the queue. -/
def exec (i : Instr) (s : State) : Host.Outcome State Fault Refusal :=
  match i with
  | .pllLossOfLock domain => Sys2Proof.Machine.execPllLossOfLock domain s
  | .pllRelock domain imageOk => Sys2Proof.Machine.execPllRelock domain imageOk s
  | .refclkSupervisionWindow hz0 hz1 => Sys2Proof.Machine.execRefclkSupervisionWindow hz0 hz1 s
  | .wallClockTick ticks => Sys2Proof.Machine.execWallClockTick ticks s
  | .timeIncrWrite r v => Sys2Proof.Machine.execTimeIncrWrite r v s
  | .timeStepWrite r v => Sys2Proof.Machine.execTimeStepWrite r v s
  | .stepHoldExpiry => Sys2Proof.Machine.execStepHoldExpiry s
  | .timeForce r => Sys2Proof.Machine.execTimeForce r s
  | .ttArm r t => Sys2Proof.Machine.execTtArm r t s
  | .ttDisarm r t => Sys2Proof.Machine.execTtDisarm r t s
  | .ttLeadingEdge t => Sys2Proof.Machine.execTtLeadingEdge t s
  | .ttTrailingEdge t => Sys2Proof.Machine.execTtTrailingEdge t s
  | .tcLevelChange c level => Sys2Proof.Machine.execTcLevelChange c level s
  | .tcEdgeQualified c => Sys2Proof.Machine.execTcEdgeQualified c s
  | .ptpMessageReceived port m => Sys2Proof.Machine.execPtpMessageReceived port m s
  | .ptpMessageTransmit port m => Sys2Proof.Machine.execPtpMessageTransmit port m s
  | .transparentClockForward port => Sys2Proof.Machine.execTransparentClockForward port s
  | .forwardDrop port => Sys2Proof.Machine.execForwardDrop port s
  | .tsPairModeWrite r pair v => Sys2Proof.Machine.execTsPairModeWrite r pair v s
  | .subframeLatch => Sys2Proof.Machine.execSubframeLatch s
  | .beadIssue => Sys2Proof.Machine.execBeadIssue s
  | .beadComplete tag wrong => Sys2Proof.Machine.execBeadComplete tag wrong s
  | .hungBeadTimeout tag => Sys2Proof.Machine.execHungBeadTimeout tag s
  | .stagingRecordGrant => Sys2Proof.Machine.execStagingRecordGrant s
  | .subframeRetire miswoven => Sys2Proof.Machine.execSubframeRetire miswoven s
  | .shadowWrite r idx sub v => Sys2Proof.Machine.execShadowWrite r idx sub v s
  | .cfgCommit r => Sys2Proof.Machine.execCfgCommit r s
  | .cfgDiscard r => Sys2Proof.Machine.execCfgDiscard r s
  | .guardSignatureComputed => Sys2Proof.Machine.execGuardSignatureComputed s
  | .stillLoad r still data => Sys2Proof.Machine.execStillLoad r still data s
  | .stillFree r still => Sys2Proof.Machine.execStillFree r still s
  | .bufferDeferredRelease buf => Sys2Proof.Machine.execBufferDeferredRelease buf s
  | .lampStateWrite r v => Sys2Proof.Machine.execLampStateWrite r v s
  | .corrProbeRead r => Sys2Proof.Machine.execCorrProbeRead r s
  | .corrLoadStart r => Sys2Proof.Machine.execCorrLoadStart r s
  | .corrLoadComplete => Sys2Proof.Machine.execCorrLoadComplete s
  | .mapLoadStart r => Sys2Proof.Machine.execMapLoadStart r s
  | .mapLoadComplete => Sys2Proof.Machine.execMapLoadComplete s
  | .modeEntryWrite r idx sub v => Sys2Proof.Machine.execModeEntryWrite r idx sub v s
  | .modeSwitchStart r => Sys2Proof.Machine.execModeSwitchStart r s
  | .darkPathDark => Sys2Proof.Machine.execDarkPathDark s
  | .darkPathResume => Sys2Proof.Machine.execDarkPathResume s
  | .freezeClear r layer => Sys2Proof.Machine.execFreezeClear r layer s
  | .linkFrameSend rod idle => Sys2Proof.Machine.execLinkFrameSend rod idle s
  | .tokenDue rod => Sys2Proof.Machine.execTokenDue rod s
  | .telemetryReceive rod f => Sys2Proof.Machine.execTelemetryReceive rod f s
  | .enumRspReceive rod f => Sys2Proof.Machine.execEnumRspReceive rod f s
  | .cmdRspReceive rod f => Sys2Proof.Machine.execCmdRspReceive rod f s
  | .commandRetryTimeout rod pos => Sys2Proof.Machine.execCommandRetryTimeout rod pos s
  | .enumStart r => Sys2Proof.Machine.execEnumStart r s
  | .enumCollectTimeout rod => Sys2Proof.Machine.execEnumCollectTimeout rod s
  | .enumComplete => Sys2Proof.Machine.execEnumComplete s
  | .echoRspReceive rod f rtt => Sys2Proof.Machine.execEchoRspReceive rod f rtt s
  | .echoTimeout rod pos => Sys2Proof.Machine.execEchoTimeout rod pos s
  | .echoPeriodTimer => Sys2Proof.Machine.execEchoPeriodTimer s
  | .tileSilent rod pos => Sys2Proof.Machine.execTileSilent rod pos s
  | .upWordLockLost x => Sys2Proof.Machine.execUpWordLockLost x s
  | .bringupStart rod => Sys2Proof.Machine.execBringupStart rod s
  | .laneRestart r rod => Sys2Proof.Machine.execLaneRestart r rod s
  | .bringupRetryTimer rod => Sys2Proof.Machine.execBringupRetryTimer rod s
  | .trainTimeExpiry rod last => Sys2Proof.Machine.execTrainTimeExpiry rod last s
  | .laneStep rod => Sys2Proof.Machine.execLaneStep rod s
  | .laneReportReceive rod f => Sys2Proof.Machine.execLaneReportReceive rod f s
  | .laneCheckTimeout rod size seen => Sys2Proof.Machine.execLaneCheckTimeout rod size seen s
  | .fclkAlignTimer rod => Sys2Proof.Machine.execFclkAlignTimer rod s
  | .recoveryStart rod => Sys2Proof.Machine.execRecoveryStart rod s
  | .dnSleep rod => Sys2Proof.Machine.execDnSleep rod s
  | .dnWake rod => Sys2Proof.Machine.execDnWake rod s
  | .upsleepGrant rod start duration => Sys2Proof.Machine.execUpsleepGrant rod start duration s
  | .calStep rod m => Sys2Proof.Machine.execCalStep rod m s
  | .quadTempRead temps => Sys2Proof.Machine.execQuadTempRead temps s
  | .laneCalStart r => Sys2Proof.Machine.execLaneCalStart r s
  | .laneCalComplete => Sys2Proof.Machine.execLaneCalComplete s
  | .setpointInstant => Sys2Proof.Machine.execSetpointInstant s
  | .panCommandWake r pan => Sys2Proof.Machine.execPanCommandWake r pan s
  | .panCommandSleep r pan => Sys2Proof.Machine.execPanCommandSleep r pan s
  | .tilePowerWake r => Sys2Proof.Machine.execTilePowerWake r s
  | .tilePowerSleep r => Sys2Proof.Machine.execTilePowerSleep r s
  | .wakeSlotRelease rod pos => Sys2Proof.Machine.execWakeSlotRelease rod pos s
  | .faultReportReceive rod f => Sys2Proof.Machine.execFaultReportReceive rod f s
  | .healthChannelWrite r v => Sys2Proof.Machine.execHealthChannelWrite r v s
  | .doseTileReset r v => Sys2Proof.Machine.execDoseTileReset r v s
  | .doseExportStart r => Sys2Proof.Machine.execDoseExportStart r s
  | .doseExportComplete => Sys2Proof.Machine.execDoseExportComplete s
  | .doseImportStart r => Sys2Proof.Machine.execDoseImportStart r s
  | .doseImportComplete => Sys2Proof.Machine.execDoseImportComplete s
  | .retentionLoad r data => Sys2Proof.Machine.execRetentionLoad r data s
  | .reckonStart r => Sys2Proof.Machine.execReckonStart r s
  | .reckonComplete => Sys2Proof.Machine.execReckonComplete s
  | .autoReckonTimer => Sys2Proof.Machine.execAutoReckonTimer s
  | .portLinkDown port => Sys2Proof.Machine.execPortLinkDown port s
  | .portLinkUp port => Sys2Proof.Machine.execPortLinkUp port s
  | .modulePoll port pages => Sys2Proof.Machine.execModulePoll port pages s
  | .mediaFrameReceive port f => Sys2Proof.Machine.execMediaFrameReceive port f s
  | .incompleteFrameDiscard flow => Sys2Proof.Machine.execIncompleteFrameDiscard flow s
  | .legTimeout flow leg => Sys2Proof.Machine.execLegTimeout flow leg s
  | .flowAdmit r flow => Sys2Proof.Machine.execFlowAdmit r flow s
  | .joinReportRepeat flow => Sys2Proof.Machine.execJoinReportRepeat flow s
  | .flowDelete r flow => Sys2Proof.Machine.execFlowDelete r flow s
  | .streamStart r stream => Sys2Proof.Machine.execStreamStart r stream s
  | .streamStop r stream => Sys2Proof.Machine.execStreamStop r stream s
  | .decodePictureComplete engine pic => Sys2Proof.Machine.execDecodePictureComplete engine pic s
  | .auWaitTimeout stream => Sys2Proof.Machine.execAuWaitTimeout stream s
  | .confEnable r enc => Sys2Proof.Machine.execConfEnable r enc s
  | .confDisable r enc => Sys2Proof.Machine.execConfDisable r enc s
  | .confPictureComplete enc rowBits nals => Sys2Proof.Machine.execConfPictureComplete enc rowBits nals s
  | .hbmRequest q => Sys2Proof.Machine.execHbmRequest q s
  | .hbmCommandPick pc ready found => Sys2Proof.Machine.execHbmCommandPick pc ready found s
  | .refreshDue pc => Sys2Proof.Machine.execRefreshDue pc s
  | .rakeRead found => Sys2Proof.Machine.execRakeRead found s
  | .repairEntryAged unit => Sys2Proof.Machine.execRepairEntryAged unit s
  | .thawStart r => Sys2Proof.Machine.execThawStart r s
  | .thawComplete res => Sys2Proof.Machine.execThawComplete res s
  | .hbmTrainingComplete ok failedPc imageOk => Sys2Proof.Machine.execHbmTrainingComplete ok failedPc imageOk s
  | .dmaStart ch prog => Sys2Proof.Machine.execDmaStart ch prog s
  | .dmaStop ch => Sys2Proof.Machine.execDmaStop ch s
  | .move ch => Sys2Proof.Machine.execMove ch s
  | .movex ch => Sys2Proof.Machine.execMovex ch s
  | .loop ch => Sys2Proof.Machine.execLoop ch s
  | .wait ch => Sys2Proof.Machine.execWait ch s
  | .dmaWaitMet ch => Sys2Proof.Machine.execDmaWaitMet ch s
  | .signal ch => Sys2Proof.Machine.execSignal ch s
  | .endProg ch => Sys2Proof.Machine.execEndProg ch s
  | .dmaResponse ch id a => Sys2Proof.Machine.execDmaResponse ch id a s
  | .dmaResponseTimeout ch => Sys2Proof.Machine.execDmaResponseTimeout ch s
  | .hello via peer version cred idle nc nd => Sys2Proof.Machine.execHello via peer version cred idle nc nd s
  | .prove via peer version sid proof => Sys2Proof.Machine.execProve via peer version sid proof s
  | .read r idx sub count => Sys2Proof.Machine.execRead r idx sub count s
  | .write r idx sub ty v => Sys2Proof.Machine.execWrite r idx sub ty v s
  | .describe r idx sub => Sys2Proof.Machine.execDescribe r idx sub s
  | .blobOpen r idx sub dir len => Sys2Proof.Machine.execBlobOpen r idx sub dir len s
  | .blobData r tid off data => Sys2Proof.Machine.execBlobData r tid off data s
  | .blobClose r tid crc => Sys2Proof.Machine.execBlobClose r tid crc s
  | .blobAck r tid status off => Sys2Proof.Machine.execBlobAck r tid status off s
  | .blobReadRetransmit slot => Sys2Proof.Machine.execBlobReadRetransmit slot s
  | .blobTransferTimeout slot dir => Sys2Proof.Machine.execBlobTransferTimeout slot dir s
  | .notifyAck r nseq => Sys2Proof.Machine.execNotifyAck r nseq s
  | .notifyGatherExpiry slot => Sys2Proof.Machine.execNotifyGatherExpiry slot s
  | .notifyRetransmit slot nseq => Sys2Proof.Machine.execNotifyRetransmit slot nseq s
  | .keepalive r body => Sys2Proof.Machine.execKeepalive r body s
  | .close r body => Sys2Proof.Machine.execClose r body s
  | .handshakeExpiry sid => Sys2Proof.Machine.execHandshakeExpiry sid s
  | .sessionIdleTimeout slot => Sys2Proof.Machine.execSessionIdleTimeout slot s
  | .sessEndWrite r slot => Sys2Proof.Machine.execSessEndWrite r slot s
  | .lockoutExpiry cred => Sys2Proof.Machine.execLockoutExpiry cred s
  | .lockLevelReset cred => Sys2Proof.Machine.execLockLevelReset cred s
  | .credKeyWrite r cred wrapped => Sys2Proof.Machine.execCredKeyWrite r cred wrapped s
  | .credWrite r idx cred v => Sys2Proof.Machine.execCredWrite r idx cred v s
  | .mailboxDoorbell posted => Sys2Proof.Machine.execMailboxDoorbell posted s
  | .mailboxFdRead v => Sys2Proof.Machine.execMailboxFdRead v s
  | .opSuspend r idx => Sys2Proof.Machine.execOpSuspend r idx s
  | .opResume r idx => Sys2Proof.Machine.execOpResume r idx s
  | .opCancel r idx => Sys2Proof.Machine.execOpCancel r idx s
  | .evtConfigWrite r src v => Sys2Proof.Machine.execEvtConfigWrite r src v s
  | .evtStatusWrite r src v => Sys2Proof.Machine.execEvtStatusWrite r src v s
  | .linePendingWrite v => Sys2Proof.Machine.execLinePendingWrite v s
  | .lockstepMismatch pair => Sys2Proof.Machine.execLockstepMismatch pair s
  | .supplySample mv => Sys2Proof.Machine.execSupplySample mv s
  | .tempSample temps => Sys2Proof.Machine.execTempSample temps s
  | .faultEnterSafe r => Sys2Proof.Machine.execFaultEnterSafe r s
  | .recoverStart r => Sys2Proof.Machine.execRecoverStart r s
  | .recoverComplete => Sys2Proof.Machine.execRecoverComplete s
  | .activeNReleased => Sys2Proof.Machine.execActiveNReleased s
  | .splitBrainSensed => Sys2Proof.Machine.execSplitBrainSensed s
  | .seekingActive => Sys2Proof.Machine.execSeekingActive s
  | .pairStatusSend => Sys2Proof.Machine.execPairStatusSend s
  | .pairTimeSend => Sys2Proof.Machine.execPairTimeSend s
  | .status h pairState devState doubt epoch latched highest => Sys2Proof.Machine.execStatus h pairState devState doubt epoch latched highest s
  | .demote h cause => Sys2Proof.Machine.execDemote h cause s
  | .ack h highest => Sys2Proof.Machine.execAck h highest s
  | .time h t1 t2 t3 t4 => Sys2Proof.Machine.execTime h t1 t2 t3 t4 s
  | .pairWrite h order idx sub ty v => Sys2Proof.Machine.execPairWrite h order idx sub ty v s
  | .commit h order n => Sys2Proof.Machine.execCommit h order n s
  | .latch h n order crc => Sys2Proof.Machine.execLatch h n order crc s
  | .decision h d => Sys2Proof.Machine.execDecision h d s
  | .seal h n count => Sys2Proof.Machine.execSeal h n count s
  | .operation h idx cmd args => Sys2Proof.Machine.execOperation h idx cmd args s
  | .result h first lamps final => Sys2Proof.Machine.execResult h first lamps final s
  | .pan h pan rod pos action => Sys2Proof.Machine.execPan h pan rod pos action s
  | .override h lamp flags n => Sys2Proof.Machine.execOverride h lamp flags n s
  | .signature h n first rods => Sys2Proof.Machine.execSignature h n first rods s
  | .attrib h n rod result => Sys2Proof.Machine.execAttrib h n rod result s
  | .attribTimeout n rod => Sys2Proof.Machine.execAttribTimeout n rod s
  | .snapshot h off entries overrides pans last => Sys2Proof.Machine.execSnapshot h off entries overrides pans last s
  | .join h n => Sys2Proof.Machine.execJoin h n s
  | .handover h n => Sys2Proof.Machine.execHandover h n s
  | .pairSwitch r => Sys2Proof.Machine.execPairSwitch r s
  | .pairRetransmit seq => Sys2Proof.Machine.execPairRetransmit seq s
  | .pairLinkDown => Sys2Proof.Machine.execPairLinkDown s
  | .pairGapTimeout => Sys2Proof.Machine.execPairGapTimeout s
  | .latchMissingTimeout => Sys2Proof.Machine.execLatchMissingTimeout s
  | .clockOffsetTimeout => Sys2Proof.Machine.execClockOffsetTimeout s
  | .tallySecond temps mv => Sys2Proof.Machine.execTallySecond temps mv s
  | .attestNonceWrite r nonce => Sys2Proof.Machine.execAttestNonceWrite r nonce s
  | .attestReportReady slot => Sys2Proof.Machine.execAttestReportReady slot s
  | .harvestStart r => Sys2Proof.Machine.execHarvestStart r s
  | .harvestComplete => Sys2Proof.Machine.execHarvestComplete s
  | .slackSample ps => Sys2Proof.Machine.execSlackSample ps s
  | .siReckonStart r => Sys2Proof.Machine.execSiReckonStart r s
  | .siReckonPeriod => Sys2Proof.Machine.execSiReckonPeriod s
  | .avsSettleCheck rail mv => Sys2Proof.Machine.execAvsSettleCheck rail mv s
  | .siReckonComplete => Sys2Proof.Machine.execSiReckonComplete s
  | .resetAssert cause => Sys2Proof.Machine.execResetAssert cause s
  | .devResetWrite r => Sys2Proof.Machine.execDevResetWrite r s
  | .resetEnd bootSel role fuseOk temps damaged levels => Sys2Proof.Machine.execResetEnd bootSel role fuseOk temps damaged levels s
  | .bootSourceTry img => Sys2Proof.Machine.execBootSourceTry img s
  | .netbootTimeout => Sys2Proof.Machine.execNetbootTimeout s
  | .bootRetryTimer => Sys2Proof.Machine.execBootRetryTimer s
  | .devTargetWrite r v => Sys2Proof.Machine.execDevTargetWrite r v s
  | .linkTimeout => Sys2Proof.Machine.execLinkTimeout s
  | .liveExitDark => Sys2Proof.Machine.execLiveExitDark s
  | .jtagBoundaryScan => Sys2Proof.Machine.execJtagBoundaryScan s
  | .upWordLockGained x => Sys2Proof.Machine.execUpWordLockGained x s
  | .bufferPanic port buffer level => Sys2Proof.Machine.execBufferPanic port buffer level s
  | .queryResponseTimer port v6 group => Sys2Proof.Machine.execQueryResponseTimer port v6 group s

end Sys2Proof.Machine
end

