-- ==== Sys2Proof/Safety.lean ====
section
/-! DEFINITION. What counts as a safe run: commands that each answer a next state. The terms in which statements speak of requests,
of their answers, and of what a command leaves as it was. -/

namespace Sys2Proof

open Machine

/-- The outcome is a next state. -/
def Answers (o : Host.Outcome State Fault Refusal) : Prop := ∃ t, o = .next t

/-- A run of k steps that neither faults nor is refused. -/
def RunsFor (k : Nat) (s : State) : Prop := Answers (core.run k s)

/-- The device accepts request r, of message type ty with this body, on its open session x (R408 to R412). -/
def Takes (s : State) (r : Req) (ty : Nat) (body : Bytes) (x : Session) : Prop := s.b.arrive r ty body = .accepted x

/-- Request r is a WRITE of v to (idx, sub), accepted on session x, and the checks of R418 find nothing against it. -/
def Grants (s : State) (r : Req) (idx sub : Nat) (v : WireVal) (x : Session) : Prop :=
  Takes s r 0x12 (writeBody idx sub (tyOf idx sub) v) x ∧ s.b.checkWrite x.role idx sub (tyOf idx sub) v = 0

/-- Request r has been answered with rsp: the response has left, and its session keeps it for a repeat of r (R410). -/
def Answered (t : State) (r : Req) (rsp : Rsp) : Prop :=
  ∃ x k, t.b.sess? (r.sid % 8) = some x ∧ k ∈ x.kept ∧ k.seq = r.seq ∧ k.rsp = some rsp ∧
    Out.rsp x.sid x.via x.peer k.tx r.seq rsp ∈ t.b.out

/-- Every number entry but those of the indices `changed`, and of the event statuses, reads as before. -/
def KeepsRegs (b c : Body) (changed : List Nat) : Prop :=
  ∀ i j, i ∉ changed → (i < 0x0308 ∨ 0x0310 ≤ i) → j < 256 → c.reg i j = b.reg i j

/-- What a command leaves: number entries but those named and the event statuses, every byte of memory, the clock, the queue. -/
def Frame (s t : State) (changed : List Nat) : Prop :=
  KeepsRegs s.b t.b changed ∧ (∀ a, t.b.byte a = s.b.byte a) ∧ t.clk = s.clk ∧ t.pending = s.pending

/-- What a command leaves that may change many entries: every byte of memory, the clock, the queue. -/
def KeepsMemory (s t : State) : Prop := (∀ a, t.b.byte a = s.b.byte a) ∧ t.clk = s.clk ∧ t.pending = s.pending

/-- No transition of the device state follows: the device is LIVE with the target LIVE (R509). -/
def Stays (s : State) : Prop := s.b.devState = devLive ∧ s.b.regN 0x010B 0 = 6

/-- The clock's fields lie in their ranges (R11, R33). -/
def Clock.InRange (c : Clock) : Prop := c.sec < 2 ^ 48 ∧ c.ns < 1000000000 ∧ c.frac < 2 ^ 40

/-- The tick of R33 done n times. -/
def tickTimes : Nat → Clock → Clock
  | 0, c => c
  | n + 1, c => tickTimes n c.tick1

/-- Source n, where its configuration enables it, has been raised once more (R429, R431). -/
def Raised (s t : State) (n : Nat) : Prop :=
  bit (s.b.evCfg n) 31 = true →
    t.b.regN (0x0308 + n / 128) (n % 128 + 1) = 2 ^ 31 + Nat.min (s.b.regN (0x0308 + n / 128) (n % 128 + 1) % 65536 + 1) 65535

/-- No sub-frame's confirm point has come unretired, no latch is due, and a unit that does not follow holds no forwarded commit (R51, R52, R454, R461). -/
def NothingDue (s : State) : Prop :=
  (∀ y, y ∈ s.b.beads.subs → y.retired = true ∨ s.env.reached y.c = false) ∧
  (∀ n m, s.b.nextLatch = some (n, m) → s.env.reached (m.instI n) = false) ∧
  (s.b.follows = false → s.b.pair.commits = [])

/-- Channel c runs, and stands at an instruction of opcode op, n words long, that no check of R386, R395 or R396 faults, and that no earlier write of
its own holds back (R367). -/
def AtInstr (b : Body) (c op n : Nat) : Prop :=
  b.chState c = chRunning ∧ (b.ch c).work = none ∧ (b.ch c).executed < (b.ch c).budget ∧ b.accessBad c (b.ch c).pc 8 false = 0 ∧
  b.accessBad c (b.ch c).pc (8 * n) false = 0 ∧ field (b.word c 0) 63 56 = op ∧ wordsOk ((upFrom 0 n).map (b.word c)) = true ∧
  (b.ch c).fetchWaits (b.ch c).pc 8 = false ∧ (b.ch c).fetchWaits (b.ch c).pc (8 * n) = false

/-- A message with header h is the one the pairing unit waits for, from an active twin, with none held that came early (R451, R453). -/
def InTurn (s : State) (h : PairHdr) : Prop :=
  s.b.pairHears = true ∧ h.fromActive = true ∧ h.seq = s.b.pair.rxNext ∧ h.seq ≠ 0 ∧ s.b.pair.early = []

/-- The device state is one that a doubt leaves (R442, R443). -/
def MayDoubt (s : State) : Prop := s.b.devState ≠ devOff ∧ s.b.devState ≠ devSafe ∧ s.b.devState ≠ devFrozen

/-- The WRITE that a row of its own name stands for: its request, entry and value. None for rows that are no write, and for operands
the row does not take. -/
def Instr.asWrite : Instr → Option (Req × Nat × Nat × WireVal)
  | .timeIncrWrite r v => some (r, 0x0801, 0, .n v)
  | .timeStepWrite r v => some (r, 0x0802, 0, .n v)
  | .timeForce r => some (r, 0x0805, 0, .n 1)
  | .ttArm r t => some (r, 0x0818, t + 1, .n 1)
  | .ttDisarm r t => some (r, 0x0818, t + 1, .n 0)
  | .tsPairModeWrite r p v => some (r, 0x0830, p + 1, .n v)
  | .shadowWrite r idx sub v => some (r, idx, sub, v)
  | .modeEntryWrite r idx sub v =>
    if (0x0900 ≤ idx ∧ idx < 0x0A00 ∨ idx = 0x1400) ∧ isRws (key idx sub) = false then some (r, idx, sub, .n v) else none
  | .cfgCommit r => some (r, 0x0C28, 0, .n 1)
  | .cfgDiscard r => some (r, 0x0C29, 0, .n 1)
  | .stillLoad r n d => some (r, 0x0C50, n + 1, .b d)
  | .stillFree r n => some (r, 0x0C51, n + 1, .n 1)
  | .lampStateWrite r v => some (r, 0x1018, 0, .n v)
  | .corrLoadStart r => some (r, 0x0410, 1, .n 1)
  | .mapLoadStart r => some (r, 0x0411, 1, .n 1)
  | .modeSwitchStart r => some (r, 0x0412, 1, .n 1)
  | .freezeClear r l => some (r, 0x1124, l + 1, .n 1)
  | .enumStart r => some (r, 0x0413, 1, .n 1)
  | .laneRestart r n => some (r, 0x1302, n + 1, .n 1)
  | .laneCalStart r => some (r, 0x0414, 1, .n 1)
  | .panCommandWake r p => if p < 256 then some (r, (panKey 0x1418 p).1, (panKey 0x1418 p).2, .n 1) else none
  | .panCommandSleep r p => if p < 256 then some (r, (panKey 0x1418 p).1, (panKey 0x1418 p).2, .n 2) else none
  | .tilePowerWake r => some (r, 0x1428, 0, .n 1)
  | .tilePowerSleep r => some (r, 0x1428, 0, .n 2)
  | .healthChannelWrite r v => some (r, 0x1433, 0, .n v)
  | .doseTileReset r v => some (r, 0x1504, 0, .n v)
  | .doseExportStart r => some (r, 0x0416, 1, .n 1)
  | .doseImportStart r => some (r, 0x0417, 1, .n 1)
  | .retentionLoad r d => some (r, 0x1508, 0, .b d)
  | .reckonStart r => some (r, 0x0415, 1, .n 1)
  | .flowAdmit r f => some (r, 0x0A1E, f + 1, .n 1)
  | .flowDelete r f => some (r, 0x0A1E, f + 1, .n 0)
  | .streamStart r n => some (r, 0x0B04, n + 1, .n 1)
  | .streamStop r n => some (r, 0x0B04, n + 1, .n 0)
  | .confEnable r n => some (r, 0x0B40, n + 1, .n 1)
  | .confDisable r n => some (r, 0x0B40, n + 1, .n 0)
  | .thawStart r => some (r, 0x0418, 1, .n 1)
  | .sessEndWrite r n => some (r, 0x0206, n + 1, .n 1)
  | .credKeyWrite r c w => some (r, 0x0223, c + 1, .b w)
  | .credWrite r idx c v => if idx = 0x0220 ∨ idx = 0x0221 then some (r, idx, c + 1, .n v) else none
  | .opSuspend r idx => if 0x0410 ≤ idx ∧ idx ≤ 0x041B then some (r, idx, 1, .n 2) else none
  | .opResume r idx => if 0x0410 ≤ idx ∧ idx ≤ 0x041B then some (r, idx, 1, .n 3) else none
  | .opCancel r idx => if 0x0410 ≤ idx ∧ idx ≤ 0x041B then some (r, idx, 1, .n 4) else none
  | .evtConfigWrite r n v => if n < 1024 then some (r, 0x0300 + n / 128, n % 128 + 1, .n v) else none
  | .evtStatusWrite r n v => if n < 1024 then some (r, 0x0308 + n / 128, n % 128 + 1, .n v) else none
  | .faultEnterSafe r => some (r, 0x1A13, 0, .n 1)
  | .recoverStart r => some (r, 0x0419, 1, .n 1)
  | .pairSwitch r => some (r, 0x1A06, 0, .n 1)
  | .attestNonceWrite r n => some (r, 0x0108, 0, .b n)
  | .harvestStart r => some (r, 0x041A, 1, .n 1)
  | .siReckonStart r => some (r, 0x041B, 1, .n 1)
  | .devResetWrite r => some (r, 0x010D, 0, .n 1)
  | .devTargetWrite r v => some (r, 0x010B, 0, .n v)
  | .write r idx sub ty v => if ty = tyOf idx sub then some (r, idx, sub, v) else none
  | _ => none

/-- The request a command carries. -/
def Instr.request : Instr → Option Req
  | .modeEntryWrite r _ _ _ => some r
  | .panCommandWake r _ => some r
  | .panCommandSleep r _ => some r
  | .credWrite r _ _ _ => some r
  | .opSuspend r _ => some r
  | .opResume r _ => some r
  | .opCancel r _ => some r
  | .evtConfigWrite r _ _ => some r
  | .evtStatusWrite r _ _ => some r
  | .shadowWrite r _ _ _ => some r
  | .corrProbeRead r => some r
  | .read r _ _ _ => some r
  | .write r _ _ _ _ => some r
  | .describe r _ _ => some r
  | .blobOpen r _ _ _ _ => some r
  | .blobData r _ _ _ => some r
  | .blobClose r _ _ => some r
  | .blobAck r _ _ _ => some r
  | .notifyAck r _ => some r
  | .keepalive r _ => some r
  | .close r _ => some r
  | c => c.asWrite.map (fun w => w.1)

end Sys2Proof
end

