-- ==== Sys2Proof/Certificates/Slice0/Obligations.lean ====
section
/-! DEFINITION. The statements. Each says what a command or the machine does, from the rules of spec/. -/

open Sys2Proof Sys2Proof.Machine

/-! ## The machine as a whole -/

/-- Every step takes the command at the front of the queue and runs it with the rest of the queue; on an empty queue the block
idles (the model's choice, log entry 20). -/
def Obligations.StepRunsTheFrontCommand : Prop :=
  (∀ (s : State) (c : Instr) (cs : List Instr), s.pending = c :: cs → step s = exec c { s with pending := cs }) ∧
  (∀ s : State, s.pending = [] → step s = .next s)

/-- What reset leaves (R34, R429, R443, R500, R501): the device OFF, the clock at zero with the nominal increment and UNSET, memory without a
byte written, triggers low, no doubt, no command waiting. -/
def Obligations.ResetLeavesOff : Prop :=
  State.reset.clk.sec = 0 ∧ State.reset.clk.ns = 0 ∧ State.reset.clk.frac = 0 ∧ State.reset.clk.incr = 2 * 2 ^ 40 ∧
  State.reset.b.regN 0x0806 0 = 0 ∧ State.reset.b.reg 0x0801 0 = 2 * 2 ^ 40 ∧
  State.reset.b.devState = devOff ∧ State.reset.b.safeLow = true ∧ State.reset.b.alertLow = false ∧ State.reset.b.activeLow = false ∧
  (∀ t, (State.reset.b.trig t).level = false) ∧ (∀ a, State.reset.b.byte a = 0) ∧ State.reset.b.regN 0x1A10 0 = 0 ∧
  (∀ n, State.reset.b.sess? n = none) ∧ State.reset.pending = []

/-- No command stops the machine or touches the queue, and only WALL_CLOCK_TICK and a reset move the clock (R33, R34). -/
def Obligations.EveryCommandAnswers : Prop :=
  ∀ (c : Instr) (s : State), ∃ t, exec c s = .next t ∧ t.pending = s.pending ∧
    ((∀ n, c ≠ .wallClockTick n) → t.clk = s.clk ∨ t.clk = { Clock.reset with tb := s.clk.tb })

/-- The fields of the wall clock stay in their ranges at every step (R11, R33). -/
def Obligations.ClockStaysInRange : Prop :=
  ∀ s t : State, Clock.InRange s.clk → step s = .next t → Clock.InRange t.clk

/-- They are in range at reset. -/
def Obligations.ClockInRangeAtReset : Prop := Clock.InRange State.reset.clk

/-- A request whose session is not open, or that comes from elsewhere than its session's client, changes nothing, whatever it asks for
(R408, R413). -/
def Obligations.StrangersChangeNothing : Prop :=
  ∀ (c : Instr) (s : State) (r : Req), c.request = some r →
    (s.b.sess? (r.sid % 8) = none ∨
      ∃ x, s.b.sess? (r.sid % 8) = some x ∧ (x.sid ≠ r.sid ∨ x.via ≠ r.via ∨ x.peer ≠ r.peer)) →
    exec c s = .next s

/-- Every row that is a write of one entry under a name of its own does what WRITE does with that entry (R404, R427); the two are said to
agree where the command asserts no reset, and for `dev.reset` in any case. -/
def Obligations.NamedWritesAreWrites : Prop :=
  ∀ (c : Instr) (s t : State) (r : Req) (idx sub : Nat) (v : WireVal), c.asWrite = some (r, idx, sub, v) → exec c s = .next t →
    t.b.dev.cause = s.b.dev.cause ∨ c = .devResetWrite r → exec (.write r idx sub (tyOf idx sub) v) s = .next t

/-- A write refused by the checks every write meets is answered with their code; one that finds the dictionary pair's queue full adds 1 to `dict.queue_drop`,
one whose tag fails adds 1 to its session's count, and one that repeats an accepted request is answered with the response kept: none of them is executed
(R402, R404, R406, R409, R410, R412, R531). -/
def Obligations.UnservedWritesAreNotExecuted : Prop :=
  ∀ (c : Instr) (s : State) (r : Req) (idx sub : Nat) (v : WireVal), c.asWrite = some (r, idx, sub, v) →
    (∀ x, Takes s r 0x12 (writeBody idx sub (tyOf idx sub) v) x → s.b.checkWrite x.role idx sub (tyOf idx sub) v ≠ 0 →
      ∃ t, exec c s = .next t ∧ Answered t r (.write (s.b.checkWrite x.role idx sub (tyOf idx sub) v) 0 0) ∧ Frame s t []) ∧
    (s.b.arrive r 0x12 (writeBody idx sub (tyOf idx sub) v) = .queueFull →
      ∃ t, exec c s = .next t ∧ t.b.regN 0x0230 0 = (s.b.regN 0x0230 0 + 1) % 2 ^ 32 ∧ Frame s t [0x0230]) ∧
    (s.b.arrive r 0x12 (writeBody idx sub (tyOf idx sub) v) = .badTag → ∀ x, s.b.sess? (r.sid % 8) = some x →
      ∃ t y, exec c s = .next t ∧ t.b.sess? (r.sid % 8) = some y ∧ y.tagFail = (x.tagFail + 1) % 2 ^ 32 ∧ y.kept = x.kept ∧ y.hi = x.hi ∧
        Frame s t []) ∧
    (∀ k rsp, s.b.arrive r 0x12 (writeBody idx sub (tyOf idx sub) v) = .again k → k.rsp = some rsp → ∀ x, s.b.sess? (r.sid % 8) = some x →
      ∃ t, exec c s = .next t ∧ Out.rsp x.sid x.via x.peer k.tx k.seq rsp ∈ t.b.out ∧ Frame s t [])

/-! ## Clock domains and wall time -/

/-- A PLL that loses lock is recorded and counted, and one that locks again is locked (R27, R28). -/
def Obligations.DomainsLoseAndRegainLock : Prop :=
  ∀ (s : State) (d : Nat) (ok : Bool), d < 60 →
    (s.b.reg 0x0120 (d + 1) = 2 → ∃ t, exec (.pllLossOfLock d) s = .next t ∧ t.b.reg 0x0120 (d + 1) = 3 ∧
      t.b.regN 0x0122 (d + 1) = (s.b.regN 0x0122 (d + 1) + 1) % 2 ^ 32 ∧ t.clk = s.clk) ∧
    (s.b.reg 0x0120 (d + 1) = 3 → ∃ t, exec (.pllRelock d ok) s = .next t ∧ t.b.reg 0x0120 (d + 1) = 2 ∧ t.clk = s.clk) ∧
    (s.b.reg 0x0120 (d + 1) ≠ 2 → exec (.pllLossOfLock d) s = .next s) ∧
    (s.b.reg 0x0120 (d + 1) ≠ 3 → exec (.pllRelock d ok) s = .next s)

/-- A reference within 1,000 ppm is verified; one that is bad in a third window in a row is lost, which is doubt 3 (R25, R442). -/
def Obligations.ReferencesAreSupervised : Prop :=
  ∀ (s : State) (hz0 hz1 : Nat), s.b.devState ≠ devOff →
    (refGood hz0 = true → refGood hz1 = true → ∃ t, exec (.refclkSupervisionWindow hz0 hz1) s = .next t ∧
      bit (t.b.regN 0x0123 0) 0 = true ∧ bit (t.b.regN 0x0123 0) 1 = true ∧
      mgetD 0 0 t.b.flt.refBad = 0 ∧ mgetD 0 1 t.b.flt.refBad = 0 ∧ t.clk = s.clk) ∧
    (refGood hz0 = false → refGood hz1 = true → mgetD 0 0 s.b.flt.refBad = 2 → s.b.devState ≠ devSafe → s.b.devState ≠ devFrozen →
      ∃ t, exec (.refclkSupervisionWindow hz0 hz1) s = .next t ∧ t.b.devState = devSafe ∧ t.b.regN 0x1A10 0 = 3 ∧
        t.b.regN 0x1A12 0 = 1 ∧ bit (t.b.regN 0x0123 0) 0 = false ∧ t.clk = s.clk)

/-- n ticks with no change of the clock waiting do n times what R33 states, and nothing else; the nominal increment is 2^41 units, and no increment that a write
may set exceeds 3 ns (R33). -/
def Obligations.TicksFollowThePseudocode : Prop :=
  (∀ (s : State) (n : Nat), Clock.InRange s.clk → s.clk.incr < 3 * 2 ^ 40 → s.b.tu.changes = [] →
    (∀ w, s.b.seq.sw = some w → w.step = none) → s.b.seq.force = none →
    exec (.wallClockTick n) s = .next { s with clk := tickTimes n s.clk }) ∧
  State.reset.clk.incr = 2 ^ 41 ∧ State.reset.b.reg 0x0801 0 = 2 ^ 41 ∧
  (∀ (s t : State) (r : Req) (v : Nat), exec (.timeIncrWrite r v) s = .next t → 3 * 2 ^ 40 < v →
    t.b.reg 0x0801 0 = s.b.reg 0x0801 0 ∧ t.b.tu.changes = s.b.tu.changes ∧ t.clk = s.clk)

/-- A change of the clock takes effect at the first tick after it is accepted, one change a tick; a step moves seconds and nanoseconds and leaves
the fraction as the tick left it (R36). -/
def Obligations.ChangesTakeEffectAtOneTick : Prop :=
  ∀ (s : State) (rest : List ClockChange), Clock.InRange s.clk → s.clk.incr < 3 * 2 ^ 40 → (∀ w, s.b.seq.sw = some w → w.step = none) → s.b.seq.force = none →
    (∀ v, v < 3 * 2 ^ 40 → s.b.tu.changes = .incr v :: rest → ∃ t, exec (.wallClockTick 1) s = .next t ∧
      t.clk = ({ s.clk with incr := v }).tick1 ∧ t.b.tu.changes = rest) ∧
    (∀ v : Int, s.b.tu.changes = .step v :: rest ∨ s.b.tu.changes = .force v :: rest →
      0 ≤ (s.clk.tick1.time : Int) + v → (s.clk.tick1.time : Int) + v < 2 ^ 48 * 1000000000 → ∃ t, exec (.wallClockTick 1) s = .next t ∧
      (t.clk.time : Int) = s.clk.tick1.time + v ∧ t.clk.frac = s.clk.tick1.frac ∧ t.clk.incr = s.clk.incr ∧ t.clk.ns < 1000000000 ∧
      t.b.tu.changes = rest) ∧
    (∀ (r : Req) (x : Session) (v : Nat), Grants s r 0x0801 0 (.n (v : Nat)) x → (s.b.follows && s.b.regN 0x1A05 0 == 1) = false →
      2198583450901 ≤ v → v ≤ 2199463060203 → s.b.tu.changes = [] →
      ∃ t u, exec (.timeIncrWrite r v) s = .next t ∧ exec (.wallClockTick 1) t = .next u ∧ u.clk = ({ s.clk with incr := v }).tick1) ∧
    (∀ (r : Req) (x : Session) (v : Int), Grants s r 0x0802 0 (.n v) x → (s.b.follows && s.b.regN 0x1A05 0 == 1) = false →
      s.b.regN 0x0806 0 = 0 ∨ v.natAbs ≤ s.b.regN 0x0803 0 → s.b.tu.changes = [] → 0 ≤ (s.clk.time : Int) + v →
      0 ≤ (s.clk.tick1.time : Int) + v → (s.clk.tick1.time : Int) + v < 2 ^ 48 * 1000000000 →
      ∃ t u, exec (.timeStepWrite r v) s = .next t ∧ t.clk = s.clk ∧ exec (.wallClockTick 1) t = .next u ∧
        (u.clk.time : Int) = s.clk.tick1.time + v ∧ u.clk.frac = s.clk.tick1.frac)

/-- A write to `time.incr` within nominal ± 200 ppm is in force from the next tick. Outside that range it is refused with RANGE, the increment stays,
event 65 is raised and `time.refused` records the value (R36, R38). -/
def Obligations.IncrementsAreBounded : Prop :=
  ∀ (s : State) (r : Req) (v : Nat) (x : Session), Grants s r 0x0801 0 (.n v) x → (s.b.follows && s.b.regN 0x1A05 0 == 1) = false →
    (2198583450901 ≤ v → v ≤ 2199463060203 → ∃ t, exec (.timeIncrWrite r v) s = .next t ∧ Answered t r (wrote stOK) ∧
      t.b.regN 0x0801 0 = v ∧ t.b.tu.changes = s.b.tu.changes ++ [.incr v] ∧ Frame s t [0x0801]) ∧
    (v < 2198583450901 ∨ 2199463060203 < v → ∃ t, exec (.timeIncrWrite r v) s = .next t ∧ Answered t r (wrote stRange) ∧
      t.b.regN 0x0804 1 = 2 ∧ t.b.regN 0x0804 2 = v ∧ t.b.regN 0x0804 3 = s.clk.time ∧ t.b.tu.changes = s.b.tu.changes ∧
      Raised s t 65 ∧ Frame s t [0x0804])

/-- A step that would make the clock earlier than 0 is refused with RANGE, raises event 64 and is not held; one over the jump threshold is refused with
RANGE and held, once the clock is set; the first step after reset is taken and sets the clock (R34, R39, R40). A force applies the step held, and a
hold ends after 10 s (R42). The clock is the one of the tick the step takes effect with (R36). -/
def Obligations.StepsAreGuarded : Prop :=
  ∀ (s : State) (r : Req) (v : Int) (x : Session) (w : Nat), s.b.tu.changes = [] →
    w = (s.clk.time * 2 ^ 40 + s.clk.frac + s.clk.incr) / 2 ^ 40 →
    (Grants s r 0x0802 0 (.n v) x → (s.b.follows && s.b.regN 0x1A05 0 == 1) = false → (w : Int) + v < 0 →
      ∃ t, exec (.timeStepWrite r v) s = .next t ∧ Answered t r (wrote stRange) ∧ t.b.tu.held = none ∧ t.b.tu.changes = [] ∧
        Raised s t 64 ∧ Frame s t [0x0804]) ∧
    (Grants s r 0x0802 0 (.n v) x → (s.b.follows && s.b.regN 0x1A05 0 == 1) = false → 0 ≤ (w : Int) + v → s.b.reg 0x0806 0 = 1 →
      s.b.regN 0x0803 0 < v.natAbs → ∃ t, exec (.timeStepWrite r v) s = .next t ∧ Answered t r (wrote stRange) ∧
        t.b.tu.held = some (v, s.clk.tb) ∧ t.b.tu.changes = [] ∧ t.b.reg 0x0804 1 = 1 ∧ t.b.reg 0x0804 2 = v ∧
        t.b.reg 0x0804 4 = 1 ∧ t.clk = s.clk) ∧
    (Grants s r 0x0802 0 (.n v) x → (s.b.follows && s.b.regN 0x1A05 0 == 1) = false → 0 ≤ (w : Int) + v → s.b.reg 0x0806 0 = 0 →
      ∃ t, exec (.timeStepWrite r v) s = .next t ∧ Answered t r (wrote stOK) ∧ t.b.tu.changes = [.step v] ∧ t.b.reg 0x0806 0 = 1 ∧
        t.clk = s.clk) ∧
    (∀ tb, Grants s r 0x0805 0 (.n 1) x → (s.b.follows && s.b.regN 0x1A05 0 == 1) = false → s.b.tu.held = some (v, tb) →
      s.env.after tb 10000000000 = false → 0 ≤ (w : Int) + v → s.b.live = false → s.b.seq.sw = none →
      ∃ t, exec (.timeForce r) s = .next t ∧ Answered t r (wrote stOK) ∧ t.b.tu.changes = [.force v] ∧ t.b.tu.held = none ∧
        t.b.reg 0x0804 4 = 0 ∧ t.clk = s.clk) ∧
    (∀ tb, s.b.tu.held = some (v, tb) → tb + 5000000000 ≤ s.clk.tb →
      ∃ t, exec .stepHoldExpiry s = .next t ∧ t.b.tu.held = none ∧ t.b.reg 0x0804 4 = 0 ∧ Frame s t [0x0804]) ∧
    (∀ tb, s.b.tu.held = some (v, tb) → s.clk.tb < tb + 5000000000 → exec .stepHoldExpiry s = .next s)

/-! ## Triggers, captures, PTP -/

/-- Arming a trigger whose configuration passes drives it inactive and leaves it ARMED; disarming it leaves it IDLE. At the wall time of a leading edge
the trigger is ACTIVE and drives its active level; at the trailing edge it drives the other, and a single pulse is DONE; while a pulse started before a step
lasts longer the output stays as it is (R55 to R61). An arm is refused with BUSY while armed, with CONFIG where the configuration fails, and with STATE in SAFE and
FROZEN (R57, R58, R60). -/
def Obligations.TriggersPulse : Prop :=
  ∀ (s : State) (r : Req) (i : Nat) (x : Session), i < 16 →
    (Grants s r 0x0818 (i + 1) (.n 1) x → s.b.devState ≠ devSafe → s.b.devState ≠ devFrozen →
      (s.b.reg 0x0819 (i + 1) = 0 ∨ s.b.reg 0x0819 (i + 1) = 3) → s.b.ttBad s.env i = false →
      ∃ t, exec (.ttArm r i) s = .next t ∧ Answered t r (wrote stOK) ∧ t.b.reg 0x0819 (i + 1) = 1 ∧
        (t.b.trig i).level = s.b.ttIdle i ∧ (t.b.trig i).trail = none ∧ Frame s t [0x0819]) ∧
    (Grants s r 0x0818 (i + 1) (.n 0) x → (s.b.reg 0x0819 (i + 1) = 1 ∨ s.b.reg 0x0819 (i + 1) = 2) →
      ∃ t, exec (.ttDisarm r i) s = .next t ∧ Answered t r (wrote stOK) ∧ t.b.reg 0x0819 (i + 1) = 0 ∧
        (t.b.trig i).level = s.b.ttIdle i ∧ (t.b.trig i).lead = none ∧ (t.b.trig i).trail = none ∧ Frame s t [0x0819]) ∧
    (∀ w, (s.b.trig i).lead = some w → s.env.reached w = true →
      ∃ t, exec (.ttLeadingEdge i) s = .next t ∧ t.b.reg 0x0819 (i + 1) = 2 ∧ (t.b.trig i).trail = some (w + s.b.reg 0x0814 (i + 1)) ∧
        (s.b.reg 0x081A (i + 1) = 0 → (t.b.trig i).level = !(s.b.ttIdle i)) ∧ Frame s t [0x0819]) ∧
    (Grants s r 0x0818 (i + 1) (.n 1) x →
      (s.b.devState = devSafe ∨ s.b.devState = devFrozen → ∃ t, exec (.ttArm r i) s = .next t ∧ Answered t r (wrote stState) ∧ Frame s t []) ∧
      (s.b.devState ≠ devSafe → s.b.devState ≠ devFrozen →
        (s.b.reg 0x0819 (i + 1) = 1 ∨ s.b.reg 0x0819 (i + 1) = 2 → ∃ t, exec (.ttArm r i) s = .next t ∧ Answered t r (wrote stBusy) ∧ Frame s t []) ∧
        (s.b.reg 0x0819 (i + 1) = 0 ∨ s.b.reg 0x0819 (i + 1) = 3 → s.b.ttBad s.env i = true →
          ∃ t, exec (.ttArm r i) s = .next t ∧ Answered t r (wrote stConfig) ∧ Frame s t []))) ∧
    (∀ w, (s.b.trig i).trail = some w → s.env.reached w = true → (∀ k ∈ (s.b.trig i).kept, s.env.reached k = true) →
      ∃ t, exec (.ttTrailingEdge i) s = .next t ∧ (t.b.trig i).trail = none ∧ (t.b.trig i).level = s.b.ttIdle i ∧
        (s.b.reg 0x0810 (i + 1) = 1 → t.b.reg 0x0819 (i + 1) = 3 ∧ Raised s t (72 + i)) ∧ Frame s t [0x0819]) ∧
    (∀ w k, (s.b.trig i).trail = some w → s.env.reached w = true → k ∈ (s.b.trig i).kept → s.env.reached k = false →
      ∃ t, exec (.ttTrailingEdge i) s = .next t ∧ (t.b.trig i).trail.isSome = true ∧ (t.b.trig i).level = (s.b.trig i).level ∧ Frame s t [])

/-- A level change of a capture input begins qualification with its wall time, and a return ends it; a level held for `tc.min_pulse` on an enabled edge is
stamped with the time of its change and counted (R62, R63). -/
def Obligations.CapturesStampQualifiedEdges : Prop :=
  ∀ (s : State) (c : Nat) (l : Bool), c < 8 → s.b.devState ≠ devOff →
    (l ≠ (s.b.capt c).qual → l ≠ (s.b.capt c).raw → ∃ t, exec (.tcLevelChange c l) s = .next t ∧
      (t.b.capt c).change = some (s.clk.time, s.clk.tb) ∧ (t.b.capt c).raw = l ∧ Frame s t []) ∧
    (l = (s.b.capt c).qual → ∃ t, exec (.tcLevelChange c l) s = .next t ∧ (t.b.capt c).change = none ∧ (t.b.capt c).raw = l ∧ Frame s t []) ∧
    (∀ w tb, (s.b.capt c).change = some (w, tb) → s.env.after tb (s.b.regN 0x0821 (c + 1)) = true → (s.b.capt c).asked ≤ tb →
      s.b.reg 0x0820 (c + 1) = 3 → ∃ t, exec (.tcEdgeQualified c) s = .next t ∧ t.b.regN 0x0822 (c + 1) = w ∧
        t.b.regN 0x0827 (c + 1) = (s.b.regN 0x0827 (c + 1) + 1) % 2 ^ 32 ∧ t.b.reg 0x0825 (c + 1) = (if (s.b.capt c).raw then 1 else 2) ∧
        (t.b.capt c).change = none ∧ (t.b.capt c).qual = (s.b.capt c).raw ∧ Raised s t (88 + c) ∧
        Frame s t [0x0822, 0x0823, 0x0824, 0x0825, 0x0826, 0x0827, 0x0828, 0x0912, 0x0913, 0x0914]) ∧
    ((s.b.capt c).change = none → exec (.tcEdgeQualified c) s = .next s)

/-- A PTP message of the unit's domain that reaches a port in service goes to the cores with its ingress stamp, and in native mode waits to be forwarded; one of the
cores leaves with its egress stamp, which W48 mode puts into a Sync over IPv4; one of another domain leaves as it is, without a stamp. A forward that can leave within
1 ms leaves while its pair is in native mode, any other is dropped and counted. `ts.pair_mode` is stored (R64 to R71). -/
def Obligations.PtpMessagesAreStamped : Prop :=
  ∀ (s : State) (p : Nat) (m : PtpMsg), p < 4 → s.b.portUp p = true →
    (s.b.ptpMine m = true → ∃ t, exec (.ptpMessageReceived p m) s = .next t ∧
      s.b.out ++ [.ptpCores p m (s.b.stampIn s.env p)] <+: t.b.out ∧
      (s.b.ptpMode p = 1 → m.ty.forwards = true → s.b.portUp (otherPort p) = true →
        t.b.tu.fwd = s.b.tu.fwd ++ [⟨p, s.b.stampIn s.env p, s.clk.tb, m⟩]) ∧
      (s.b.ptpMode p = 1 → m.ty.forwards = true → s.b.portUp (otherPort p) = false →
        t.b.regN 0x0834 (p + 1) = (s.b.regN 0x0834 (p + 1) + 1) % 2 ^ 32 ∧ Raised s t 96) ∧ Frame s t [0x0834]) ∧
    (s.b.ptpMine m = false → exec (.ptpMessageReceived p m) s = .next s) ∧
    (s.b.ptpKnown m = false → ∃ t, exec (.ptpMessageTransmit p m) s = .next t ∧ t.b.out = s.b.out ++ [.ptpSent p m none] ∧ Frame s t []) ∧
    (s.b.ptpKnown m = true → s.b.ptpMode p ≠ 2 → ∃ t, exec (.ptpMessageTransmit p m) s = .next t ∧
      t.b.out = s.b.out ++ [.ptpSent p m (if m.ty.event && decide (m.tags ≤ 1) then some (s.b.stampOut s.env p) else none)] ∧ Frame s t []) ∧
    (s.b.ptpKnown m = true → s.b.ptpMode p = 2 → m.ty.event = true → m.encap ≠ .ipv4 ∨ 1 < m.tags → ∃ t, exec (.ptpMessageTransmit p m) s = .next t ∧
      t.b.out = s.b.out ++ [.ptpSent p m (some (s.b.stampOut s.env p))] ∧ Raised s t 97 ∧ Frame s t []) ∧
    (s.b.ptpKnown m = true → s.b.ptpMode p = 2 → m.ty = .sync → m.encap = .ipv4 → m.tags ≤ 1 → ∃ t m', exec (.ptpMessageTransmit p m) s = .next t ∧
      t.b.out = s.b.out ++ [.ptpSent p m' (some (s.b.stampOut s.env p))] ∧
      m'.originSec * 1000000000 + m'.originNs = s.b.stampOut s.env p ∧ m'.originNs < 1000000000 ∧ m'.twoStep = false ∧ m'.checksum = 0 ∧
      Frame s t []) ∧
    (∀ f rest, s.b.tu.fwd = f :: rest → f.ingress < 4 → p = otherPort f.ingress → s.b.ptpMode p = 1 → (s.clk.tb - f.tb) * 2 ≤ 1000000 →
      ∃ t, exec (.transparentClockForward p) s = .next t ∧ t.b.tu.fwd = rest ∧
        t.b.out = s.b.out ++ [.ptpForward p (forwarded' f (s.b.stampOut s.env p))] ∧ Frame s t []) ∧
    (∀ f rest, s.b.tu.fwd = f :: rest → f.ingress = p → f.tb * 2 + 1000000 ≤ s.clk.tb * 2 →
      ∃ t, exec (.forwardDrop p) s = .next t ∧ t.b.tu.fwd = rest ∧
        t.b.regN 0x0834 (p + 1) = (s.b.regN 0x0834 (p + 1) + 1) % 2 ^ 32 ∧ Raised s t 96 ∧ Frame s t [0x0834]) ∧
    (∀ r pr v x, Grants s r 0x0830 (pr + 1) (.n (v : Nat)) x → ∃ t, exec (.tsPairModeWrite r pr v) s = .next t ∧ Answered t r (wrote stOK) ∧
      t.b.regN 0x0830 (pr + 1) = v ∧ Frame s t [0x0830])

/-! ## The bead scheduler -/

/-- The bead that comes first is issued under the least free tag to the in-service engine with the fewest beads outstanding, and `bead.tags` counts it (R80
to R82, R103). -/
def Obligations.FirstBeadIsIssued : Prop :=
  ∀ (s : State) (j : Job) (tag en : Nat), s.b.beads.stopped = false → s.b.firstJob = some j → s.b.freeTag = some tag → s.b.engineFor j = some en →
    ∃ t, exec .beadIssue s = .next t ∧ t.b.beads.out = s.b.beads.out ++ [⟨tag, j, en, s.clk.tb⟩] ∧
      (∀ o ∈ s.b.beads.out, o.tag ≠ tag) ∧ t.b.reg 0x0E03 0 = (s.b.beads.out.length + 1 : Nat) ∧ t.b.beads.stall = none ∧
      (j.kind = .normal → ∀ y g, t.b.sub? j.n = some y → g ∈ y.groups → g.epoch = j.epoch → ∀ p ∈ g.beads, p.1 = j.bead → p.2 = en) ∧
      Frame s t [0x0E03, 0x0E04]

/-- A bead that completes frees its tag; the record of a first-pass bead of a sub-frame not retired is in use unless a later group replaced it (R83, R85). A
bead outstanding for more than `bead.tag_timeout` fences its engine with cause 2 and event 308, and the beads of that engine no longer hold a tag (R83, R101). -/
def Obligations.BeadsEnd : Prop :=
  ∀ (s : State) (o : Out1), s.b.beads.out.find? (fun x => x.tag == o.tag) = some o →
    (∀ w, ∃ t, exec (.beadComplete o.tag w) s = .next t ∧ (∀ x ∈ t.b.beads.out, x.tag ≠ o.tag ∧ x ∈ s.b.beads.out) ∧
      (∀ y g d m, s.b.sub? o.job.n = some y → y.group? o.job.epoch = some g → s.b.beadOf y o.job.bead = some d → s.b.subMap y = some m →
        o.job.kind = .normal → g.live = true → g.layer = none → y.retired = false → mfind o.job.bead y.epochs = none →
        s.b.checkOf o.job.n o.job.epoch o.job.bead = none →
        ∃ z r, t.b.sub? o.job.n = some z ∧ mfind o.job.bead z.use = some r ∧ mfind o.job.bead z.epochs = some o.job.epoch ∧
          (∀ f, w = some f → r.codes = f.codes ∧ r.guard = f.guard))) ∧
    (s.b.regN 0x0E05 0 < 2 * (s.clk.tb - o.tb) → s.b.reg 0x0E0C (o.engine + 1) = 0 → o.engine < 192 →
      ∃ t, exec (.hungBeadTimeout o.tag) s = .next t ∧ t.b.reg 0x0E0C (o.engine + 1) = 2 ∧ (∀ x ∈ t.b.beads.out, x.engine ≠ o.engine) ∧
        t.b.reg 0x0E03 0 = (t.b.beads.out.length : Nat) ∧ Raised s t 308 ∧ Frame s t [0x0E0C, 0x0E03, 0x0E04]) ∧
    (2 * (s.clk.tb - o.tb) ≤ s.b.regN 0x0E05 0 → exec (.hungBeadTimeout o.tag) s = .next s)

/-- A free staging record goes to the recompute bead that has waited longest without one (R90). -/
def Obligations.FreeRecordsAreGranted : Prop :=
  ∀ s : State,
    (∀ j, 0 < s.b.reg 0x0E0A 0 → s.b.beads.waiting.find? (fun k => !k.record) = some j →
      ∃ t, exec .stagingRecordGrant s = .next t ∧ t.b.reg 0x0E0A 0 = s.b.reg 0x0E0A 0 - 1 ∧ { j with record := true } ∈ t.b.beads.waiting ∧
        t.b.beads.waiting.length = s.b.beads.waiting.length ∧ t.b.beads.out = s.b.beads.out ∧ Frame s t [0x0E0A]) ∧
    (s.b.reg 0x0E0A 0 = 0 → exec .stagingRecordGrant s = .next s) ∧
    ((∀ j ∈ s.b.beads.waiting, j.record = true) → exec .stagingRecordGrant s = .next s)

/-! ## The sequencer -/

/-- At I(N) the sub-frame is latched: it is issued with its instants under the mode in force, the armed set goes whole into force and into its snapshot and is
empty, `sched.subframe` is N, the next latch is that of N + 1, and the first latch makes the device LIVE (R51, R143, R511). A unit that follows its active latches
N once it holds N's LATCH, has executed every order that names and holds the first-pass DECISION of every layer; with no LATCH it notes when its wait began (R455).
Before I(N) nothing is latched. -/
def Obligations.LatchesIssueSubframes : Prop :=
  ∀ (s : State) (n : Nat) (m : Mode), (∀ y ∈ s.b.beads.subs, y.retired = true ∨ s.env.reached y.c = false) →
    (s.b.live = true ∨ s.b.seq.entering = true) → s.b.nextLatch = some (n, m) →
    (s.env.reached (m.instI n) = true → s.b.mustFollow n = false → (s.b.follows = false → s.b.pair.commits = []) → mrising 0 s.b.lay.armed.num = true →
      (∀ p ∈ s.b.lay.armed.num, isRws p.1 = true) →
      ∃ t y, exec .subframeLatch s = .next t ∧ t.b.regN 0x0981 0 = n ∧ t.b.seq.next = some (n + 1) ∧ t.b.seq.entering = false ∧
        y ∈ t.b.beads.subs ∧ y.n = n ∧ y.mode = m ∧ y.e = m.instE n ∧ y.c = m.instC n ∧ y.i = m.instI n ∧ y.retired = false ∧
        t.b.lay.armed = ⟨[], []⟩ ∧ y.cfg = t.b.cfgNow ∧
        (∀ k v, mfind k s.b.lay.armed.num = some v → 0x0C00 ≤ k / 256 → k / 256 ≤ 0x0C15 → t.b.reg (k / 256) (k % 256) = v) ∧
        (s.b.seq.entering = true → t.b.devState = devLive) ∧ t.clk = s.clk) ∧
    (∀ l, s.env.reached (m.instI n) = true → s.b.mustFollow n = true → s.b.latchRec n = some l → l.order ≤ s.b.pair.done →
      (∀ k ∈ s.b.cfgNext.shownIn (n % m.phases), s.b.pair.decs.any (fun d => d.n == n && d.layer == k && d.kind == 0) = true) →
      (∀ d ∈ s.b.pair.decs, d.n = n → d.kind = 0) → s.b.pair.commits = [] →
      ∃ t y, exec .subframeLatch s = .next t ∧ t.b.regN 0x0981 0 = n ∧ t.b.seq.next = some (n + 1) ∧ y ∈ t.b.beads.subs ∧ y.n = n ∧ y.mode = m ∧
        y.e = m.instE n ∧ y.c = m.instC n ∧ y.i = m.instI n ∧ t.b.lay.armed = ⟨[], []⟩ ∧ t.clk = s.clk) ∧
    (s.env.reached (m.instI n) = true → s.b.mustFollow n = true → s.b.latchRec n = none → s.b.pair.latchWait = none →
      ∃ t, exec .subframeLatch s = .next t ∧ t.b.pair.latchWait = some (n, s.clk.tb) ∧ t.b.beads = s.b.beads ∧ t.b.lay = s.b.lay ∧ Frame s t []) ∧
    (s.env.reached (m.instI n) = false → exec .subframeLatch s = .next s)

/-- At C(N) the oldest sub-frame not retired retires; before it, nothing happens (R51, R52, R95). -/
def Obligations.SubframesRetireAtC : Prop :=
  ∀ (s : State) (y : Sub) (bad : List Nat), s.b.beads.subs.find? (fun z => !z.retired) = some y → s.b.pair.commits = [] →
    (s.env.reached y.c = true → ∃ t, exec (.subframeRetire bad) s = .next t ∧ (∀ z ∈ t.b.beads.subs, z.n = y.n → z.retired = true) ∧ t.clk = s.clk) ∧
    (s.env.reached y.c = false → exec (.subframeRetire bad) s = .next s)

/-- Outside LIVE `op.mode_switch` is DONE at once and its arguments are the mode entries; in LIVE a mode that passes R200 leaves it RUNNING, with
`mode.state` seamless or dark (R198 to R203). A Mode-class entry outside LIVE is stored. -/
def Obligations.ModesSwitch : Prop :=
  ∀ (s : State) (r : Req) (x : Session),
    (Grants s r 0x0412 1 (.n 1) x → s.b.follows = false → s.b.opBusy 0x0412 = false → s.b.live = false →
      ∃ t, exec (.modeSwitchStart r) s = .next t ∧ Answered t r (wrote stOK) ∧ t.b.opState 0x0412 = 4 ∧ t.b.reg 0x0412 0x27 = 1 ∧
        t.b.reg 0x0900 0 = s.b.regN 0x0412 0x10 ∧ t.b.reg 0x0901 0 = s.b.regN 0x0412 0x11 ∧ t.b.reg 0x0904 0 = s.b.regN 0x0412 0x22 ∧
        t.b.reg 0x0980 0 = s.b.regN 0x0412 0x25 ∧ (∀ p, p < 8 → t.b.reg 0x0902 (p + 1) = s.b.reg 0x0412 (0x12 + p)) ∧
        Frame s t [0x0412, 0x0900, 0x0901, 0x0902, 0x0903, 0x0904, 0x0905, 0x0906, 0x0980]) ∧
    (Grants s r 0x0412 1 (.n 1) x → s.b.follows = false → s.b.opBusy 0x0412 = false → s.b.live = true → s.b.regN 0x0909 0 = 0 →
      s.b.seq.sw = none → s.b.mapPending = false → s.b.modeBad s.b.argMode (Nat.max s.b.argMode.ra s.b.seq.mode.ra) = stOK →
      ∃ t w, exec (.modeSwitchStart r) s = .next t ∧ Answered t r (wrote stOK) ∧ t.b.opState 0x0412 = 1 ∧ t.b.seq.sw = some w ∧
        w.mode = s.b.argMode ∧ w.latched = false ∧ t.b.reg 0x0909 0 = (if w.seamless then 1 else 2) ∧ t.b.seq.mode = s.b.seq.mode ∧
        Frame s t [0x0412, 0x0909]) ∧
    (∀ idx sub v, Grants s r idx sub (.n v) x → (0x0900 ≤ idx ∧ idx < 0x0A00 ∨ idx = 0x1400) →
      ∃ t, exec (.modeEntryWrite r idx sub v) s = .next t ∧ Answered t r (wrote stOK) ∧ t.b.reg idx sub = v ∧ Frame s t [idx])

/-- A dark path goes dark at C(N_L + 1) with event 353; emission resumes at E' of the first new sub-frame with event 354, and a mode switch records the interval
dark; a leave of LIVE ends in WARM at E_d (R203, R206, R512). -/
def Obligations.DarkPathsRun : Prop :=
  ∀ (s : State) (w : Switch), NothingDue s → s.b.seq.sw = some w →
    (w.seamless = false → w.dark = false → s.env.reached w.cd = true →
      ∃ t, exec .darkPathDark s = .next t ∧ t.b.seq.sw = some { w with dark := true } ∧ Raised s t 353 ∧
        (w.leave = false → t.b.reg 0x0909 0 = 3) ∧ (w.leave = true → t.b.reg 0x0909 0 = s.b.reg 0x0909 0) ∧ t.clk = s.clk) ∧
    (w.seamless = true ∨ w.dark = true ∨ s.env.reached w.cd = false → exec .darkPathDark s = .next s) ∧
    (w.dark = true → w.latched = true → s.env.reached w.newE = true →
      ∃ t, exec .darkPathResume s = .next t ∧ t.b.seq.sw = none ∧ t.b.reg 0x0909 0 = 0 ∧ Raised s t 354 ∧
        (s.b.opState 0x0412 = 1 → t.b.reg 0x0412 0x2A = w.newE - w.ed ∧ t.b.opState 0x0412 = 4) ∧
        (s.b.opBusy 0x0412 = false → t.b.reg 0x0412 0x2A = s.b.reg 0x0412 0x2A) ∧ Frame s t [0x0909, 0x0412]) ∧
    (w.leave = true → w.dark = true → s.env.reached w.ed = true → s.b.lay.armed = ⟨[], []⟩ →
      ∃ t, exec .liveExitDark s = .next t ∧ t.b.seq.sw = none ∧ t.b.seq.next = none ∧ t.b.devState = devWarm ∧ Raised s t 0 ∧ t.clk = s.clk)

/-! ## Shadow, commit, layers, stills -/

/-- A write to a shadowed entry enters its session's shadow set, where it replaces an earlier one, and changes no value in force; one beyond 4,096 sub-entries is
refused with SHADOWFULL; a still's table entry that cannot be read is refused with FORMAT; a discard empties the set (R115, R140). -/
def Obligations.ShadowWritesWait : Prop :=
  ∀ (s : State) (r : Req) (x : Session),
    (∀ idx sub v, Grants s r idx sub (.n v) x → isRws (key idx sub) = true → idx ≠ 0x0C50 →
      x.set.size < 4096 ∨ (mfind (key idx sub) x.shadow).isSome = true →
      ∃ t y, exec (.shadowWrite r idx sub (.n v)) s = .next t ∧ Answered t r (wrote stOK) ∧ t.b.sess? (r.sid % 8) = some y ∧
        y.shadow = minsert (key idx sub) v x.shadow ∧ y.shadowB = x.shadowB ∧ Frame s t []) ∧
    (∀ idx sub bs, Grants s r idx sub (.b bs) x → isRws (key idx sub) = true → idx ≠ 0x0C50 →
      x.set.size < 4096 ∨ (mfind (key idx sub) x.shadowB).isSome = true →
      ∃ t y, exec (.shadowWrite r idx sub (.b bs)) s = .next t ∧ Answered t r (wrote stOK) ∧ t.b.sess? (r.sid % 8) = some y ∧
        y.shadowB = minsert (key idx sub) bs x.shadowB ∧ y.shadow = x.shadow ∧ Frame s t []) ∧
    (∀ idx sub v, Grants s r idx sub v x → isRws (key idx sub) = true → idx ≠ 0x0C50 → mfind (key idx sub) x.shadow = none →
      mfind (key idx sub) x.shadowB = none → 4096 ≤ x.set.size →
      ∃ t y, exec (.shadowWrite r idx sub v) s = .next t ∧ Answered t r (wrote stShadowFull) ∧ t.b.sess? (r.sid % 8) = some y ∧
        y.shadow = x.shadow ∧ y.shadowB = x.shadowB ∧ Frame s t []) ∧
    (∀ n bs, Grants s r 0x0C50 (n + 1) (.b bs) x → s.b.devState ≠ devFrozen → s.b.guardStill n = false → stillOf n bs = none →
      ∃ t, exec (.shadowWrite r 0x0C50 (n + 1) (.b bs)) s = .next t ∧ Answered t r (wrote stFormat) ∧ t.b.lay = s.b.lay ∧ Frame s t []) ∧
    (Grants s r 0x0C29 0 (.n 1) x →
      ∃ t y, exec (.cfgDiscard r) s = .next t ∧ Answered t r (wrote stOK) ∧ t.b.sess? (r.sid % 8) = some y ∧ y.shadow = [] ∧ y.shadowB = [] ∧
        Frame s t [])

/-- A commit whose checks pass and that names no guard takes the session's shadow set: while LIVE it joins the armed set and is answered with the number of
the next latch; outside LIVE the layer entries it names have their values at once, and it is answered with 0. One whose check fails is answered with the reason
and its set stays with the session (R141, R142, R144). -/
def Obligations.CommitsTakeTheShadow : Prop :=
  ∀ (s : State) (r : Req) (x : Session), Grants s r 0x0C28 0 (.n 1) x → NothingDue s → s.b.lay.waits = [] →
    (s.b.commitBad x.set = stOK → s.b.guardCommit x.set = false → s.b.live = true →
      ∃ t y, exec (.cfgCommit r) s = .next t ∧ Answered t r (.write stOK 1 s.b.takeAt) ∧ t.b.lay.armed = s.b.lay.armed.apply x.set ∧
        t.b.sess? (r.sid % 8) = some y ∧ y.shadow = [] ∧ y.shadowB = [] ∧ t.b.lay.waits = [] ∧ t.clk = s.clk) ∧
    (s.b.commitBad x.set = stOK → s.b.guardCommit x.set = false → s.b.live = false → mrising 0 x.shadow = true →
      ∃ t y, exec (.cfgCommit r) s = .next t ∧ Answered t r (.write stOK 1 0) ∧ t.b.sess? (r.sid % 8) = some y ∧ y.shadow = [] ∧
        y.shadowB = [] ∧ t.b.lay.armed = s.b.lay.armed ∧ t.clk = s.clk ∧
        ∀ k v, mfind k x.shadow = some v → 0x0C00 ≤ k / 256 → k / 256 ≤ 0x0C15 → t.b.reg (k / 256) (k % 256) = v) ∧
    (s.b.commitBad x.set ≠ stOK →
      ∃ t y, exec (.cfgCommit r) s = .next t ∧ Answered t r (wrote (s.b.commitBad x.set)) ∧ t.b.sess? (r.sid % 8) = some y ∧
        y.shadow = x.shadow ∧ y.shadowB = x.shadowB ∧ t.b.regN 0x0C2C 0 = (s.b.regN 0x0C2C 0 + 1) % 2 ^ 32 ∧ Frame s t [0x0C2C]) ∧
    (s.b.commitBad x.set = stOK → s.b.guardCommit x.set = true →
      ∃ t, exec (.cfgCommit r) s = .next t ∧ t.b.lay.waits = [⟨r.sid % 8, r.seq, x.set, true, none⟩] ∧ t.b.lay.armed = s.b.lay.armed ∧ Frame s t [])

/-- A commit that waits for its guard signature executes once the supervisor has computed it (R134, R175). -/
def Obligations.GuardCommitsFollowTheirSignature : Prop :=
  ∀ (s : State) (w : GuardWait), NothingDue s → s.b.lay.waits = [w] → w.guard = true → s.b.commitBad w.set = stOK → s.b.live = true →
    ∃ t, exec .guardSignatureComputed s = .next t ∧ t.b.lay.waits = [] ∧ t.b.lay.armed = s.b.lay.armed.apply w.set ∧ t.clk = s.clk

/-- A still loaded waits in the session's shadow in a buffer of its own; a still freed holds nothing, and one leased or held stays as it is, told as premature;
a buffer whose release was deferred goes once nothing needs or holds it (R115, R139). -/
def Obligations.StillsComeAndGo : Prop :=
  ∀ (s : State) (r : Req) (n : Nat) (x : Session),
    (∀ data f, Grants s r 0x0C50 (n + 1) (.b data) x → s.b.devState ≠ devFrozen → s.b.guardStill n = false → stillOf n data = some f →
      x.set.size < 4096 →
      ∃ t y, exec (.stillLoad r n data) s = .next t ∧ Answered t r (wrote stOK) ∧ t.b.sess? (r.sid % 8) = some y ∧
        mfind (key 0x0C50 (n + 1)) y.shadow = some ((s.b.lay.bufCtr + 1 : Nat) : Int) ∧ mfind (s.b.lay.bufCtr + 1) t.b.lay.bufs = some f ∧
        t.b.lay.bufCtr = s.b.lay.bufCtr + 1 ∧ Frame s t []) ∧
    (∀ data, Grants s r 0x0C50 (n + 1) (.b data) x → s.b.devState ≠ devFrozen → s.b.guardStill n = false → stillOf n data = none →
      ∃ t, exec (.stillLoad r n data) s = .next t ∧ Answered t r (wrote stFormat) ∧ t.b.lay = s.b.lay ∧ Frame s t []) ∧
    (∀ id, Grants s r 0x0C51 (n + 1) (.n 1) x → s.b.guardStill n = false → id = s.b.regN 0x0C50 (n + 1) → id ≠ 0 →
      (s.b.leased id = false → s.b.heldBuf id = false → ∃ t, exec (.stillFree r n) s = .next t ∧ Answered t r (wrote stOK) ∧
        t.b.reg 0x0C50 (n + 1) = 0 ∧ t.b.reg 0x0C52 (n + 1) = 0 ∧ (s.b.needs id = false → mfind id t.b.lay.bufs = none) ∧ Frame s t [0x0C50, 0x0C52]) ∧
      (s.b.leased id = true ∨ s.b.heldBuf id = true → ∃ t, exec (.stillFree r n) s = .next t ∧ Answered t r (wrote stOK) ∧
        t.b.reg 0x0C50 (n + 1) = s.b.reg 0x0C50 (n + 1) ∧ t.b.regN 0x0C5B 0 = (s.b.regN 0x0C5B 0 + 1) % 2 ^ 32 ∧
        (∀ f, mfind id s.b.lay.bufs = some f → mfind id t.b.lay.bufs = some { f with dying := true }) ∧ Frame s t [0x0C5B, 0x0C1B])) ∧
    (∀ id f, mfind id s.b.lay.bufs = some f → f.dying = true → s.b.needs id = false → s.b.heldBuf id = false →
      ∃ t, exec (.bufferDeferredRelease id) s = .next t ∧ mfind id t.b.lay.bufs = none ∧
        (∀ j, j ≠ id → mfind j t.b.lay.bufs = mfind j s.b.lay.bufs) ∧ (f.kind = 3 → s.b.regN 0x0C50 (f.num + 1) = id → t.b.reg 0x0C50 (f.num + 1) = 0) ∧
        Frame s t [0x0C50, 0x0C52]) ∧
    (∀ id, s.b.needs id = true ∨ s.b.heldBuf id = true → exec (.bufferDeferredRelease id) s = .next s)

/-- `freeze.clear` leaves the layer unfrozen. An override takes effect with the next latch and is answered with its number. `corr.probe` reads the probed lamp's entry
(R161, R177, R196). -/
def Obligations.LampsAndLayersAreTold : Prop :=
  ∀ (s : State) (r : Req) (x : Session),
    (∀ l, Grants s r 0x1124 (l + 1) (.n 1) x → l < 31 →
      ∃ t, exec (.freezeClear r l) s = .next t ∧ Answered t r (wrote stOK) ∧ t.b.regN 0x1123 (l + 1) = 0 ∧ mfind l t.b.lay.freezeRun = none ∧
        (s.b.regN 0x1123 (l + 1) ≠ 0 → Raised s t 358) ∧ t.clk = s.clk) ∧
    (∀ v m, Grants s r 0x1018 0 (.n (v : Nat)) x → NothingDue s → s.b.map? = some m → (m.lampAt (field v 63 32)).isSome = true →
      flagsOk (v % 256) = true → field v 31 8 = 0 → s.b.freeOverrides.cor.overrides.length < 4096 →
      ∃ t o, exec (.lampStateWrite r v) s = .next t ∧ Answered t r (.write stOK 1 s.b.takeAt) ∧ o ∈ t.b.cor.overrides ∧
        o.lamp = field v 63 32 ∧ o.flags = v % 256 ∧ o.from_ = s.b.takeAt ∧ o.til = none ∧
        (∀ p ∈ t.b.cor.overrides, p.lamp = o.lamp → p.til = none → p = o) ∧ Frame s t []) ∧
    (Takes s r 0x10 (readBody 0x101B 0 1) x → ∃ t, exec (.corrProbeRead r) s = .next t ∧ Frame s t [] ∧
      (∀ bs, s.b.probe = .inr bs → Answered t r (.read stOK [(.blob, false, .b bs)])) ∧
      (∀ st, s.b.probe = .inl st → Answered t r (.read st [])))

/-! ## Loads of correction tables and rod maps -/

/-- A load starts on the generation not in force and leaves it LOADING; it is BUSY while that generation may not be written (R170, R171, R427). -/
def Obligations.LoadsBegin : Prop :=
  ∀ (s : State) (r : Req) (x : Session), s.b.devState ≠ devFrozen →
    (Grants s r 0x0410 1 (.n 1) x → s.b.opBusy 0x0410 = false → s.b.genFree 0 = true →
      ∃ t, exec (.corrLoadStart r) s = .next t ∧ Answered t r (wrote stOK) ∧ t.b.opState 0x0410 = 1 ∧ t.b.gen 0 (s.b.nonActive 0) = 1 ∧
        t.b.regN 0x0410 8 = r.sid % 8 ∧ t.b.inForce 0 = s.b.inForce 0 ∧ Frame s t [0x0410, 0x1000]) ∧
    (Grants s r 0x0411 1 (.n 1) x → s.b.opBusy 0x0411 = false → s.b.genFree 1 = true →
      ∃ t, exec (.mapLoadStart r) s = .next t ∧ Answered t r (wrote stOK) ∧ t.b.opState 0x0411 = 1 ∧ t.b.gen 1 (s.b.nonActive 1) = 1 ∧
        mfind (s.b.nonActive 1) t.b.cor.maps = none ∧ t.b.inForce 1 = s.b.inForce 1 ∧ Frame s t [0x0411, 0x1012]) ∧
    (Grants s r 0x0410 1 (.n 1) x → s.b.opBusy 0x0410 = false → s.b.genFree 0 = false →
      ∃ t, exec (.corrLoadStart r) s = .next t ∧ Answered t r (wrote stBusy) ∧ t.b.opState 0x0410 = 5 ∧ t.b.regN 0x0410 4 = stBusy ∧
        Raised s t 42 ∧ Frame s t [0x0410])

/-- A load whose image passes leaves its generation IDLE with the image's tag, and the operation DONE where no swap was asked for; one whose image fails leaves it INVALID and the
operation FAILED with the result of the first check that fails (R167, R169, R170). -/
def Obligations.LoadsEnd : Prop :=
  ∀ s : State,
    (∀ m, s.b.opState 0x0410 = 1 → s.b.gen 0 (s.b.nonActive 0) = 1 → s.b.imageFault (s.b.loadData 0).1 = none → (s.b.loadData 0).2 = true →
      s.b.mapOfTag (leAt (s.b.loadData 0).1 16 4) = some m → bit (s.b.opArg 0x0410 0x13).toNat 0 = false →
      ∃ t, exec .corrLoadComplete s = .next t ∧ t.b.opState 0x0410 = 4 ∧ t.b.gen 0 (s.b.nonActive 0) = 2 ∧
        t.b.regN 0x1002 (s.b.nonActive 0 + 1) = leAt (s.b.loadData 0).1 16 4 ∧ Raised s t 41 ∧
        KeepsRegs s.b t.b [0x0410, 0x1000, 0x1001, 0x1002, 0x1003] ∧ t.clk = s.clk ∧
        (∀ a, (∀ i ∈ m.lampIds, a < s.b.entryAddr (s.b.nonActive 0) i ∨ s.b.entryAddr (s.b.nonActive 0) i + 32 ≤ a) → t.b.byte a = s.b.byte a)) ∧
    (∀ c d, s.b.opState 0x0410 = 1 → s.b.gen 0 (s.b.nonActive 0) = 1 → s.b.imageFault (s.b.loadData 0).1 = some (c, d) →
      (c ≠ stSource ∨ (s.b.loadData 0).2 = true) →
      ∃ t, exec .corrLoadComplete s = .next t ∧ t.b.opState 0x0410 = 5 ∧ t.b.gen 0 (s.b.nonActive 0) = 6 ∧ t.b.reg 0x0410 4 = (c : Nat) ∧
        t.b.reg 0x0410 5 = (d : Nat) ∧ Raised s t 336 ∧ Raised s t 42 ∧ Frame s t [0x0410, 0x1000]) ∧
    (∀ m, s.b.opState 0x0411 = 1 → s.b.gen 1 (s.b.nonActive 1) = 1 → (s.b.loadData 1).2 = true → (s.b.loadData 1).1 ≠ [] →
      parseMap (s.b.loadData 1).1 = .inr m → bit (s.b.opArg 0x0411 0x13).toNat 0 = false →
      ∃ t, exec .mapLoadComplete s = .next t ∧ t.b.opState 0x0411 = 4 ∧ t.b.gen 1 (s.b.nonActive 1) = 2 ∧
        mfind (s.b.nonActive 1) t.b.cor.maps = some m ∧ t.b.reg 0x1013 (s.b.nonActive 1 + 1) = (m.tag : Nat) ∧ Frame s t [0x0411, 0x1012, 0x1013]) ∧
    (∀ c, s.b.opState 0x0411 = 1 → s.b.gen 1 (s.b.nonActive 1) = 1 → (s.b.loadData 1).2 = true → (s.b.loadData 1).1 ≠ [] →
      parseMap (s.b.loadData 1).1 = .inl c →
      ∃ t, exec .mapLoadComplete s = .next t ∧ t.b.opState 0x0411 = 5 ∧ t.b.gen 1 (s.b.nonActive 1) = 6 ∧ t.b.reg 0x0411 4 = (c : Nat) ∧
        Raised s t 338 ∧ Raised s t 42 ∧ Frame s t [0x0411, 0x1012])

/-! ## The Kizen link -/

/-- At a frame boundary a rod sends IDLE words and then the frame of the highest place, and outside FC service 2 IDLE words behind it; the frame has the rod's
sequence, its quad's time, its token epoch and the token flag; all words go through the scrambler, and the 64 words of a frame read back undamaged as its type,
address, sequence, time and body; behind a STEP 16 IDLE words follow and the lane runs at its code (R216, R217, R219 to R222, R226, R270, R276). A lane that trains sends IDLE
words alone, one that is down nothing. A rod in service that has sent no token-bearing frame for 0.9 ms owes a TOKEN (R227). -/
def Obligations.FramesLeaveInOrder : Prop :=
  ∀ (s : State) (n idle : Nat), n < 192 →
    (s.b.laneState n = 0 → exec (.linkFrameSend n idle) s = .next s) ∧
    (∀ w, w = List.replicate idle idleWord → s.b.laneState n ≠ 0 →
      (s.b.carries n = false → ∃ t, exec (.linkFrameSend n idle) s = .next t ∧ t.b.out = s.b.out ++ [.tx n (scrambleAll (s.b.rod n).scr w).1] ∧
        (t.b.rod n).scr = (scrambleAll (s.b.rod n).scr w).2 ∧ (t.b.rod n).txq = (s.b.rod n).txq ∧ Frame s t []) ∧
      (s.b.carries n = true → (s.b.rod n).sleepTb = none → (s.b.rod n).waking = false → (∀ f ∈ (s.b.rod n).txq, -1000000000 ≤ f.ahead s.env) →
        (s.b.pick s.env n = none → ∃ t, exec (.linkFrameSend n idle) s = .next t ∧ t.b.out = s.b.out ++ [.tx n (scrambleAll (s.b.rod n).scr w).1] ∧
          (t.b.rod n).scr = (scrambleAll (s.b.rod n).scr w).2 ∧ Frame s t []) ∧
        (∀ f, s.b.pick s.env n = some f → (∀ c k d, f ≠ .lane 1 c k d) → ∃ t x, exec (.linkFrameSend n idle) s = .next t ∧ KeepsMemory s t ∧
          x = scrambleAll (scrambleAll (s.b.rod n).scr w).2 (s.b.frameWords s.env n f) ∧
          t.b.out = s.b.out ++ [.tx n (scrambleAll (s.b.rod n).scr w).1,
            .link n (s.b.rod n).seqDn (s.env.follow (n / 4) % 2 ^ 32) (s.b.regN 0x1207 (n + 1)) s.b.tokenFlag f, .tx n x.1] ++
            (if s.b.inService n then [] else [.tx n (scrambleAll x.2 [idleWord, idleWord]).1]) ∧
          (t.b.rod n).seqDn = ((s.b.rod n).seqDn + 1) % 65536 ∧ (f.bearing = true → (t.b.rod n).lastToken = s.clk.tb ∧ (t.b.rod n).tokenDue = false)) ∧
        (∀ c k d, s.b.pick s.env n = some (.lane 1 c k d) → ∃ t x, exec (.linkFrameSend n idle) s = .next t ∧ KeepsMemory s t ∧
          x = scrambleAll (scrambleAll (s.b.rod n).scr w).2 (s.b.frameWords s.env n (.lane 1 c k d)) ∧
          t.b.out = s.b.out ++ [.tx n (scrambleAll (s.b.rod n).scr w).1,
            .link n (s.b.rod n).seqDn (s.env.follow (n / 4) % 2 ^ 32) (s.b.regN 0x1207 (n + 1)) s.b.tokenFlag (.lane 1 c k d), .tx n x.1,
            .tx n (scrambleAll x.2 (List.replicate 16 idleWord)).1] ∧
          t.b.regN 0x1204 (n + 1) = c ∧ (t.b.rod n).phase = .stepTrain ∧ (t.b.rod n).tb = s.clk.tb))) ∧
    (∀ f, ∀ u : UpFrame, u = ⟨s.b.frameWords s.env n f⟩ → u.damaged = false ∧ u.ty = f.ty ∧ u.addr = f.addr % 64 ∧ u.seq = (s.b.rod n).seqDn % 65536 ∧
      u.time = s.env.follow (n / 4) % 2 ^ 32 ∧ u.body = fit 0 500 (f.body n (s.b.forceN 0x1203 (n + 1)) (s.b.regN 0x1207 (n + 1)) s.b.tokenFlag)) ∧
    (s.b.inService n = true → s.b.maySend .token = true → s.env.after (s.b.rod n).lastToken 900000 = true →
      ∃ t, exec (.tokenDue n) s = .next t ∧ (t.b.rod n).tokenDue = true ∧ (∀ k, k ≠ n → t.b.rod k = s.b.rod k) ∧ Frame s t []) ∧
    (s.b.inService n = false → exec (.tokenDue n) s = .next s)

/-- Upstream frames that a rod with word lock receives undamaged, descrambled, are taken: the last telemetry of a tile is kept, a capability block joins those
collected, a response ends the command outstanding, an echo enters its measurement, a REPORT is kept while a check waits for it, and a FAULT report is handled until it
is acknowledged (R216, R238, R243, R244, R247, R250, R253, R273, R308). -/
def Obligations.UpstreamFramesAreTaken : Prop :=
  ∀ (s : State) (n : Nat) (w f : UpFrame), n < 192 → (s.b.rod n).lock = true → (s.b.heard n w.words).lost = false → s.b.received n w = some f →
    f.damaged = false → (f.addr < 63 ∨ f.ty = 0x23) →
    (f.ty = 0x20 → (s.b.regN 0x1A02 0 ≠ 2 ∨ beAt f.body 5 1 = s.b.forceN 0x1203 (n + 1)) → ∃ t, exec (.telemetryReceive n w) s = .next t ∧ (t.b.tile n f.addr).tele = f.body ∧
      (t.b.tile n f.addr).lastUp = s.clk.tb ∧ (t.b.tile n f.addr).upSeq = some f.seq ∧ (t.b.tile n f.addr).silent = false ∧ KeepsMemory s t) ∧
    (∀ x, f.ty = 0x23 → (s.b.rod n).enumr = some x → x.measuring = false → ∃ t, exec (.enumRspReceive n w) s = .next t ∧
      (t.b.rod n).enumr = some { x with rsps := x.rsps ++ [f.body.take 64] } ∧ Frame s t [0x1206, 0x1209, 0x1C08, 0x1C10]) ∧
    (∀ c, f.ty = 0x24 → (s.b.tile n f.addr).cmd = some c → c.onAir = true → c.seq = beAt f.body 0 2 → c.why = .wake → beAt f.body 3 1 = 0 →
      (s.b.tile n f.addr).cmdq = [] → (s.b.rod n).enumr = none → ∃ t, exec (.cmdRspReceive n w) s = .next t ∧
      (t.b.tile n f.addr).cmd = none ∧ (t.b.tile n f.addr).awake = true ∧ Frame s t [0x1206, 0x1209, 0x1C08, 0x1C10]) ∧
    (∀ c, f.ty = 0x24 → (s.b.tile n f.addr).cmd = some c → c.seq ≠ beAt f.body 0 2 → ∃ t, exec (.cmdRspReceive n w) s = .next t ∧
      (t.b.tile n f.addr).cmd = some c ∧ Frame s t [0x1206, 0x1209, 0x1C08, 0x1C10]) ∧
    (∀ x rtt, f.ty = 0x22 → (s.b.tile n f.addr).echo = some x → x.id = beAt f.body 0 2 → 1 < x.left → ∃ t, exec (.echoRspReceive n w rtt) s = .next t ∧
      (t.b.tile n f.addr).echo = some ⟨(s.b.rod n).echoId, s.clk.tb, 0, x.left - 1, x.sum + rtt⟩ ∧
      .echoReq f.addr (s.b.rod n).echoId ∈ (t.b.rod n).txq ∧ Frame s t [0x1206, 0x1209, 0x1C08, 0x1C10]) ∧
    (∀ x rtt, f.ty = 0x22 → (s.b.tile n f.addr).echo = some x → x.id = beAt f.body 0 2 → x.left ≤ 1 → (s.b.rod n).enumr = none →
      ∃ t, exec (.echoRspReceive n w rtt) s = .next t ∧ (t.b.tile n f.addr).rtt = (x.sum + rtt + 8) / 16 ∧
      (t.b.tile n f.addr).measured = true ∧ (t.b.tile n f.addr).hold = false ∧ (t.b.tile n f.addr).echo = none ∧ Frame s t [0x1206, 0x1209, 0x1C08, 0x1C10]) ∧
    (f.ty = 0x25 → s.b.checking n = true → s.env.after (s.b.rod n).tb 1000001 = false → beAt f.body 0 1 = 2 →
      ∃ t, exec (.laneReportReceive n w) s = .next t ∧
      ⟨f.addr, beAt f.body 2 1, beAt f.body 8 2, beAt f.body 10 2⟩ ∈ (t.b.rod n).reports ∧ Frame s t [0x1206, 0x1209, 0x1C08, 0x1C10]) ∧
    (f.ty = 0x21 → (∀ g ∈ (s.b.tile n f.addr).faults, g.number ≠ beAt f.body 0 2) → ∃ t, exec (.faultReportReceive n w) s = .next t ∧
      ((∃ g ∈ (t.b.tile n f.addr).faults, g.number = beAt f.body 0 2) ∨
       (∃ c ∈ (t.b.tile n f.addr).cmd.toList ++ (t.b.tile n f.addr).cmdq, c.code = 0x05 ∧ c.args = be 2 (beAt f.body 0 2))) ∧ KeepsMemory s t)

/-- A damaged upstream frame is counted and not taken, whichever frame it would have been; without word lock nothing is received, and only the receiver sees the words
(R216, R218, R222, R225). -/
def Obligations.DamagedFramesAreCounted : Prop :=
  ∀ (s : State) (n rtt : Nat) (w : UpFrame) (c : Instr), n < 192 →
    c ∈ [.telemetryReceive n w, .enumRspReceive n w, .cmdRspReceive n w, .echoRspReceive n w rtt, .laneReportReceive n w, .faultReportReceive n w] →
    (∀ f, (s.b.rod n).lock = true → (s.b.heard n w.words).lost = false → s.b.received n w = some f → f.damaged = true →
      ∃ t, exec c s = .next t ∧ t.b.regN 0x1205 (n + 1) = (s.b.regN 0x1205 (n + 1) + 1) % 2 ^ 32 ∧ bit (t.b.regN 0x1209 (n + 1)) 4 = true ∧
        t.b.rod n = { s.b.rod n with up := (t.b.rod n).up } ∧ (∀ k, k ≠ n → t.b.rod k = s.b.rod k) ∧ t.b.tiles = s.b.tiles ∧
        Frame s t [0x1205, 0x1209, 0x1C08, 0x1C10]) ∧
    ((s.b.rod n).lock = false → (s.b.heard n w.words).lock = false →
      ∃ t, exec c s = .next t ∧ t.b.rod n = { s.b.rod n with up := (t.b.rod n).up } ∧ (∀ k, k ≠ n → t.b.rod k = s.b.rod k) ∧ t.b.tiles = s.b.tiles ∧
        Frame s t [])

/-- Commands and echoes not answered in time are sent again three times and then abandoned; a tile not heard for three telemetry periods is silent; words that come in lose
word lock, or gain it, as their sync headers say (R218, R239, R247, R253). -/
def Obligations.LinkTimeouts : Prop :=
  ∀ (s : State) (n p : Nat), n < 192 → p < 63 →
    (∀ c, (s.b.tile n p).cmd = some c → c.onAir = true → s.env.after c.tb 2000000 = true → c.tries < 3 → ∃ t d, exec (.commandRetryTimeout n p) s = .next t ∧
      (t.b.tile n p).cmd = some d ∧ d.tries = c.tries + 1 ∧ d.seq = c.seq ∧ d.code = c.code ∧ d.args = c.args ∧ d.tb = s.clk.tb ∧ Frame s t []) ∧
    (∀ c, (s.b.tile n p).cmd = some c → c.onAir = true → s.env.after c.tb 2000000 = true → c.tries = 3 → c.why = .ack → (s.b.tile n p).cmdq = [] →
      (s.b.rod n).enumr = none → Stays s → ∃ t, exec (.commandRetryTimeout n p) s = .next t ∧ (t.b.tile n p).cmd = none ∧
      bit (t.b.regN 0x1209 (n + 1)) 5 = true ∧ Frame s t [0x1209]) ∧
    ((s.b.tile n p).cmd = none → exec (.commandRetryTimeout n p) s = .next s) ∧
    (∀ x, (s.b.tile n p).echo = some x → s.env.after x.tb 1000000 = true → .echoReq p x.id ∉ (s.b.rod n).txq → x.tries < 3 →
      ∃ t, exec (.echoTimeout n p) s = .next t ∧ (t.b.tile n p).echo = some { x with id := (s.b.rod n).echoId, tb := s.clk.tb, tries := x.tries + 1 } ∧
      .echoReq p (s.b.rod n).echoId ∈ (t.b.rod n).txq ∧ Frame s t []) ∧
    (∀ x, (s.b.tile n p).echo = some x → s.env.after x.tb 1000000 = true → .echoReq p x.id ∉ (s.b.rod n).txq → x.tries = 3 → (s.b.rod n).enumr = none →
      ∃ t, exec (.echoTimeout n p) s = .next t ∧ (t.b.tile n p).echo = none ∧ bit (t.b.regN 0x1209 (n + 1)) 12 = true ∧ Frame s t [0x1209]) ∧
    (p ∈ s.b.held n → (s.b.tile n p).silent = false → s.env.after (s.b.tile n p).lastUp (3 * s.b.regN 0x1211 0 * 1000000) = true →
      ∃ t, exec (.tileSilent n p) s = .next t ∧ (t.b.tile n p).silent = true ∧ bit (t.b.regN 0x1209 (n + 1)) 1 = true ∧ Frame s t [0x1208, 0x1209]) ∧
    (∀ ws, s.b.laneState n ≠ 0 → (s.b.rod n).lock = true → (s.b.heard n ws).lost = true → (s.b.heard n ws).lock = false →
      ∃ t, exec (.upWordLockLost ⟨n, ws⟩) s = .next t ∧ (t.b.rod n).lock = false ∧ (t.b.rod n).lockLost = some s.clk.tb ∧
        bit (t.b.regN 0x1209 (n + 1)) 3 = true ∧ Frame s t [0x1208, 0x1209, 0x130B]) ∧
    (∀ ws, s.b.laneState n ≠ 0 → (s.b.rod n).lock = false → (s.b.heard n ws).lock = true →
      ∃ t, exec (.upWordLockGained ⟨n, ws⟩) s = .next t ∧ (t.b.rod n).lock = true ∧ (t.b.rod n).lockLost = none ∧
        (s.b.reg 0x1200 (n + 1) = 0 → t.b.reg 0x1200 (n + 1) = 1) ∧ Frame s t [0x1200]) ∧
    (∀ ws, s.b.laneState n = 0 → exec (.upWordLockLost ⟨n, ws⟩) s = .next s ∧ exec (.upWordLockGained ⟨n, ws⟩) s = .next s)

/-- `op.enum` runs an enumeration on each rod it names whose lane carries frames, behind one that runs there, and gives each other rod it names the result NONE; it is
BUSY while one runs, and is DONE once none runs, or FAILED where it was cancelled meanwhile. 5 ms after an ENUM its responses are judged: a result other than 0 ends it and is kept, 0 leads to CONFIG and measurement. Every echo period all tiles in
service are measured anew (R244, R249). -/
def Obligations.Enumerations : Prop :=
  ∀ (s : State) (r : Req) (x : Session) (n : Nat), n < 192 →
    (Grants s r 0x0413 1 (.n 1) x → s.b.opBusy 0x0413 = false → (s.b.regN 0x0413 0x10 = n ∧ n ≠ 0xFF ∨ s.b.regN 0x0413 0x10 = 0xFF ∧ n ∈ s.b.rodsInUse) →
      (∀ k ∈ s.b.rodsInUse, k < 192) →
      ∃ t, exec (.enumStart r) s = .next t ∧ Answered t r (wrote stOK) ∧ t.b.opState 0x0413 = 1 ∧
        (s.b.carries n = true → s.b.enumBusy n = false →
          ∃ y, (t.b.rod n).enumr = some y ∧ y.why = .op ∧ y.mode = s.b.regN 0x0413 0x11 ∧ y.phases = s.b.phasesNow) ∧
        (s.b.enumBusy n = true → (t.b.rod n).enumr = (s.b.rod n).enumr ∧
          ∃ y ∈ (t.b.rod n).enumq, y.why = .op ∧ y.mode = s.b.regN 0x0413 0x11 ∧ y.phases = s.b.phasesNow) ∧
        (s.b.carries n = false → s.b.enumBusy n = false → t.b.reg 0x1202 (n + 1) = 1 ∧ bit (t.b.regN 0x1209 (n + 1)) 0 = true) ∧
        Frame s t [0x0413, 0x1202, 0x1209]) ∧
    (Grants s r 0x0413 1 (.n 1) x → s.b.opBusy 0x0413 = true → ∃ t, exec (.enumStart r) s = .next t ∧ Answered t r (wrote stBusy) ∧ t.b.rods = s.b.rods ∧ Frame s t []) ∧
    (∀ o, mfind 0x0413 s.b.ops = some o → (∀ k ∈ o.rods, s.b.enumBusy k = false) → ∃ t, exec .enumComplete s = .next t ∧
      mfind 0x0413 t.b.ops = none ∧ (s.b.opState 0x0413 ≠ 3 → t.b.opState 0x0413 = 4 ∧ t.b.regN 0x0413 4 = 0 ∧ t.b.regN 0x0413 3 = 1000 ∧ Raised s t 41) ∧
      (s.b.opState 0x0413 = 3 → t.b.opState 0x0413 = 5 ∧ t.b.regN 0x0413 4 = 2 ∧ Raised s t 42) ∧ Frame s t [0x0413]) ∧
    (∀ o k, mfind 0x0413 s.b.ops = some o → k ∈ o.rods → s.b.enumBusy k = true → exec .enumComplete s = .next s) ∧
    (∀ y, (s.b.rod n).enumr = some y → y.why = .op ∨ y.why = .dark → y.measuring = false → s.env.after y.tb 5000000 = true →
      (∀ f ∈ (s.b.rod n).txq, f.place ≠ 7) ∨ s.b.carries n = false → Stays s → (s.b.rod n).enumq = [] → s.b.enumResult n y ≠ 0 →
      ∃ t, exec (.enumCollectTimeout n) s = .next t ∧ (t.b.rod n).enumr = none ∧ t.b.reg 0x1202 (n + 1) = (s.b.enumResult n y : Nat) ∧
        t.b.reg 0x1201 (n + 1) = (y.rsps.length : Nat) ∧ bit (t.b.regN 0x1209 (n + 1)) 0 = true ∧ Frame s t [0x1200, 0x1201, 0x1202, 0x1209]) ∧
    (∀ y, (s.b.rod n).enumr = some y → y.measuring = false → s.env.after y.tb 5000000 = true →
      (∀ f ∈ (s.b.rod n).txq, f.place ≠ 7) ∨ s.b.carries n = false → s.b.enumResult n y = 0 →
      ∃ t, exec (.enumCollectTimeout n) s = .next t ∧ (t.b.rod n).enumr = some { y with measuring := true, failed := false } ∧
      t.b.reg 0x1201 (n + 1) = (y.rsps.length : Nat) ∧ Frame s t [0x1200, 0x1201, 0x1209]) ∧
    (∀ y, (s.b.rod n).enumr = some y → y.measuring = true ∨ s.env.after y.tb 5000000 = false → exec (.enumCollectTimeout n) s = .next s) ∧
    (∃ t, exec .echoPeriodTimer s = .next t ∧ (∀ p, s.b.inService n = true → p ∈ s.b.held n → (t.b.tile n p).measured = false) ∧
      (s.b.inService n = true → (t.b.rod n).echoTb = s.clk.tb) ∧ Frame s t [])

/-! ## Rod lanes -/

/-- Bring-up of a rod whose quad is locked, as first begun, retried after 1 s or asked for outside LIVE, trains at code 1 (R275). A rod in FC service without word lock for
100 us, or none of whose tiles is heard, recovers: its IR waits for its place (R278, R279). -/
def Obligations.RodsTrain : Prop :=
  ∀ (s : State) (r : Req) (x : Session) (n : Nat), n < 192 → s.b.quadLocked n = true →
    (devMemory ≤ s.b.devState → s.b.devState ≤ devLive → 4 ≤ s.b.regN 0x010B 0 → n ∈ s.b.rodsInUse → s.b.laneState n = 0 → (s.b.rod n).used = false →
      ∃ t, exec (.bringupStart n) s = .next t ∧ t.b.reg 0x1300 (n + 1) = 1 ∧ t.b.reg 0x1204 (n + 1) = 1 ∧ t.b.reg 0x1200 (n + 1) = 0 ∧
        (t.b.rod n).phase = .train ∧ (t.b.rod n).used = true ∧ (t.b.rod n).tb = s.clk.tb ∧ (s.b.devState = devMemory → t.b.dev.linkTb = some (s.b.dev.linkTb.getD s.clk.tb)) ∧
        KeepsMemory s t) ∧
    (devMemory ≤ s.b.devState → s.b.devState ≤ devLive → (s.b.rod n).used = true → s.b.laneState n = 0 → s.env.after (s.b.rod n).tb 1000000000 = true →
      ∃ t, exec (.bringupRetryTimer n) s = .next t ∧ t.b.reg 0x1300 (n + 1) = 1 ∧ t.b.reg 0x1204 (n + 1) = 1 ∧ (t.b.rod n).phase = .train ∧
        (t.b.rod n).tb = s.clk.tb ∧ KeepsMemory s t) ∧
    (Grants s r 0x1302 (n + 1) (.n 1) x → s.b.live = false →
      ∃ t, exec (.laneRestart r n) s = .next t ∧ Answered t r (wrote stOK) ∧ t.b.reg 0x1300 (n + 1) = 1 ∧ t.b.reg 0x1204 (n + 1) = 1 ∧
        (t.b.rod n).phase = .train ∧ KeepsMemory s t) ∧
    (Grants s r 0x1302 (n + 1) (.n 1) x → s.b.live = true →
      ∃ t, exec (.laneRestart r n) s = .next t ∧ Answered t r (wrote stLive) ∧ t.b.rods = s.b.rods ∧ Frame s t []) ∧
    (s.b.inService n = true → (∃ k, (s.b.rod n).lock = false ∧ (s.b.rod n).lockLost = some k ∧ s.env.after k 100000 = true) ∨ s.b.allSilent n = true →
      ∃ t, exec (.recoveryStart n) s = .next t ∧ t.b.reg 0x1300 (n + 1) = 5 ∧ t.b.reg 0x1200 (n + 1) = 1 ∧ (t.b.rod n).phase = .recoverWait ∧
        .lane 4 (s.b.regN 0x1204 (n + 1)) 0 0 ∈ (t.b.rod n).txq ∧
        t.b.regN 0x130E (n + 1) = (s.b.regN 0x130E (n + 1) + 1) % 2 ^ 32 ∧ bit (t.b.regN 0x130F (n + 1)) 1 = true ∧ KeepsMemory s t) ∧
    (s.b.inService n = false → exec (.recoveryStart n) s = .next s)

/-- After the training time a rod with word lock enumerates, one without goes down; a rod that waits asks for one step of its climb; 100 us after FCLK the final CHECK is sent;
a check that passes after FCLK puts the rod in FC service, one that fails makes it recover; a recovering rod steps down, and goes down at code 1; and LINKED is entered at the
link timeout (R274 to R279, R509). -/
def Obligations.RodsClimbToService : Prop :=
  ∀ (s : State) (n : Nat), n < 192 →
    ((s.b.rod n).phase = .train → s.b.laneState n = 1 → s.env.after (s.b.rod n).tb (s.b.regN 0x1303 0 * 1000000) = true →
      (∀ m, (s.b.rod n).lock = true → ∃ t q, exec (.trainTimeExpiry n m) s = .next t ∧ t.b.reg 0x1300 (n + 1) = 2 ∧ (t.b.rod n).phase = .enumerate ∧
        (t.b.rod n).paths = [q, q] ∧ (m = none → q = ((s.b.rod n).rx.map (fun p => p.best)).getD (s.b.activePath n)) ∧
        ((t.b.rod n).enumr.map (fun y => y.why)) = some .bringup ∧ Frame s t [0x1300, 0x130A]) ∧
      (∀ m, (s.b.rod n).lock = false → ∃ t, exec (.trainTimeExpiry n m) s = .next t ∧ t.b.reg 0x1300 (n + 1) = 0 ∧ t.b.reg 0x1204 (n + 1) = 0 ∧
        (t.b.rod n).phase = .idle ∧ bit (t.b.regN 0x130F (n + 1)) 2 = true ∧ KeepsMemory s t)) ∧
    (∀ m, (s.b.rod n).phase = .recoverTrain → s.env.after (s.b.rod n).tb (s.b.regN 0x1303 0 * 1000000) = true →
      ∃ t, exec (.trainTimeExpiry n m) s = .next t ∧ (t.b.rod n).phase = .recoverCheck ∧
        .lane 2 (s.b.regN 0x1204 (n + 1)) 0 0 ∈ (t.b.rod n).txq ∧ Frame s t []) ∧
    (∀ m, (s.b.rod n).phase = .stepTrain → s.b.laneState n = 3 → s.env.after (s.b.rod n).tb (s.b.regN 0x1303 0 * 1000000) = true →
      ∃ t, exec (.trainTimeExpiry n m) s = .next t ∧ (t.b.rod n).phase = .check (decide ((s.b.rod n).from_ = s.b.regN 0x1204 (n + 1))) false ∧
        .lane 2 (s.b.regN 0x1204 (n + 1)) 0 0 ∈ (t.b.rod n).txq ∧ Frame s t []) ∧
    ((s.b.rod n).phase = .idle → s.b.laneState n = 2 ∨ s.b.laneState n = 3 → s.b.regN 0x1204 (n + 1) < (s.b.rod n).target →
      ∃ t, exec (.laneStep n) s = .next t ∧ (t.b.rod n).phase = .stepWait (s.b.regN 0x1204 (n + 1) + 1) ∧
        .lane 1 (s.b.regN 0x1204 (n + 1) + 1) 0 0 ∈ (t.b.rod n).txq ∧ t.b.reg 0x1300 (n + 1) = 3 ∧
        (t.b.rod n).from_ = s.b.regN 0x1204 (n + 1) ∧ Frame s t [0x1300]) ∧
    ((s.b.rod n).phase = .fclkWait → (∀ f ∈ (s.b.rod n).txq, f.place ≠ 8) → s.env.after (s.b.rod n).tb 100000 = true →
      ∃ t, exec (.fclkAlignTimer n) s = .next t ∧ (t.b.rod n).phase = .check false true ∧ Frame s t []) ∧
    (∀ z y, s.b.checking n = true → s.b.reported n = true →
      ((s.b.rod n).phase = .check false true → s.b.checkPass n z.1 z.2 = true → Stays s →
        ∃ t, exec (.laneCheckTimeout n z y) s = .next t ∧ t.b.reg 0x1300 (n + 1) = 4 ∧ t.b.reg 0x1200 (n + 1) = 4 ∧ (t.b.rod n).phase = .service ∧
          KeepsMemory s t) ∧
      ((s.b.rod n).phase = .check false true → s.b.checkPass n z.1 z.2 = false →
        ∃ t, exec (.laneCheckTimeout n z y) s = .next t ∧ t.b.reg 0x1300 (n + 1) = 5 ∧ (t.b.rod n).phase = .recoverWait ∧ KeepsMemory s t) ∧
      ((s.b.rod n).phase = .recoverCheck → s.b.checkPass n z.1 z.2 = true →
        ∃ t, exec (.laneCheckTimeout n z y) s = .next t ∧ (t.b.rod n).phase = .recoverEnum ∧
          ((t.b.rod n).enumr.map (fun y => y.why)) = some .lane ∧ Frame s t []) ∧
      ((s.b.rod n).phase = .recoverCheck → s.b.checkPass n z.1 z.2 = false → 1 < s.b.regN 0x1204 (n + 1) →
        ∃ t, exec (.laneCheckTimeout n z y) s = .next t ∧ (t.b.rod n).phase = .stepWait (s.b.regN 0x1204 (n + 1) - 1) ∧
          .lane 1 (s.b.regN 0x1204 (n + 1) - 1) 0 0 ∈ (t.b.rod n).txq ∧ t.b.reg 0x1300 (n + 1) = 5 ∧ Frame s t [0x1300, 0x130F]) ∧
      ((s.b.rod n).phase = .recoverCheck → s.b.checkPass n z.1 z.2 = false → s.b.regN 0x1204 (n + 1) ≤ 1 →
        ∃ t, exec (.laneCheckTimeout n z y) s = .next t ∧ t.b.reg 0x1300 (n + 1) = 0 ∧ bit (t.b.regN 0x130F (n + 1)) 2 = true ∧ KeepsMemory s t)) ∧
    (∀ k, s.b.dev.linkTb = some k → s.b.devState = devMemory → s.b.regN 0x010B 0 = 4 → s.env.after k (s.b.regN 0x010F 0 * 1000000) = true →
      ∃ t, exec .linkTimeout s = .next t ∧ t.b.devState = devLinked ∧ t.b.dev.linkTb = none ∧ Raised s t 0 ∧
        (s.b.notPassed ≠ [] → Raised s t 8) ∧ Frame s t [0x010A, 0x010C])

/-- A DN lane with nothing due sleeps after a SLEEP frame, and wakes where a frame waits or falls due within its wake lead; upstream sleep is granted where nothing is
awaited, 200 us after the last window (R281, R283). -/
def Obligations.LanesSleepAndWake : Prop :=
  ∀ (s : State) (n : Nat), n < 192 →
    (s.b.inService n = true → bit (s.b.regN 0x1307 (n + 1)) 0 = true → (s.b.rod n).txq = [] → (s.b.rod n).sleepTb = none → (s.b.rod n).tokenDue = false →
      (s.b.rod n).waking = false → s.b.maySend (.lane 5 (s.b.regN 0x1204 (n + 1)) 0 0) = true → s.b.dueWithin s.env n (50000 + s.b.wakeLead n) = false → (∀ p ∈ s.b.held n, (s.b.tile n p).echo = none) →
      ∃ t, exec (.dnSleep n) s = .next t ∧ (t.b.rod n).sleepTb = some s.clk.tb ∧
        t.b.out = s.b.out ++ [.link n (s.b.rod n).seqDn (s.env.follow (n / 4) % 2 ^ 32) (s.b.regN 0x1207 (n + 1)) s.b.tokenFlag (.lane 5 (s.b.regN 0x1204 (n + 1)) 0 0),
          .tx n (scrambleAll (s.b.rod n).scr (s.b.frameWords s.env n (.lane 5 (s.b.regN 0x1204 (n + 1)) 0 0))).1] ∧
        Frame s t []) ∧
    (bit (s.b.regN 0x1307 (n + 1)) 0 = false ∨ s.b.maySend (.lane 5 (s.b.regN 0x1204 (n + 1)) 0 0) = false → exec (.dnSleep n) s = .next s) ∧
    (∀ k, (s.b.rod n).sleepTb = some k → s.b.wakeDue s.env n = true → ∃ t, exec (.dnWake n) s = .next t ∧ (t.b.rod n).sleepTb = none ∧
      (t.b.rod n).waking = true ∧ (t.b.rod n).tb = s.clk.tb ∧
      (t.b.rod n).slept = (s.b.rod n).slept + (s.clk.tb - k) * 2 ∧ t.b.regN 0x1310 (n + 1) = (t.b.rod n).slept / 1000000 % 2 ^ 32 ∧ Frame s t [0x1310]) ∧
    (s.b.wakeDue s.env n = false → exec (.dnWake n) s = .next s) ∧
    (∀ st du, s.b.inService n = true → bit (s.b.regN 0x1307 (n + 1)) 1 = true → 1000 ≤ du → du ≤ 5000000 → s.b.awaits n = false →
      s.env.after (s.b.rod n).upEnd 200000 = true → (s.clk.time : Int) ≤ time32 s.env st → time32 s.env st ≤ s.clk.time + 1000000000 →
      ∃ t, exec (.upsleepGrant n st du) s = .next t ∧
        (t.b.rod n).upWall = time32 s.env st + du ∧ (t.b.rod n).upEnd = s.clk.tb + s.env.until (time32 s.env st + du) ∧
        .lane 6 (s.b.regN 0x1204 (n + 1)) st du ∈ (t.b.rod n).txq ∧ Frame s t []) ∧
    (∀ st du, du < 1000 ∨ 5000000 < du ∨ s.env.after (s.b.rod n).upEnd 200000 = false → exec (.upsleepGrant n st du) s = .next s)

/-- Calibration: one step of a receiver pass, or of the search of bring-up, moves it on; a pass that ends is counted, and the spare path takes over where it is as good and
agreed; below margin the active path's measurement starts a pass; temperatures are stored and a drift starts passes; `op.lane_cal` runs until its passes have ended,
and is FAILED then where it was cancelled (R275, R286 to R293). -/
def Obligations.LanesCalibrate : Prop :=
  ∀ (s : State) (r : Req) (x : Session) (n : Nat) (m : CalMeas), n < 192 →
    (∀ p q, (s.b.rod n).rx = some p → (s.b.rod n).phase ≠ .train → m.slept = false →
      p.took (nudgeSlicer (s.b.activePath n)) 7 16 (merit m.spare.h m.spare.w) = (q, false) →
      ∃ t, exec (.calStep n m) s = .next t ∧ (t.b.rod n).rx = some q ∧ Frame s t []) ∧
    (∀ p q, (s.b.rod n).rx = some p → (s.b.rod n).phase = .train → m.slept = false →
      p.took nudgeTrain 7 16 (merit m.active.h m.active.w) = (q, false) →
      ∃ t, exec (.calStep n m) s = .next t ∧ (t.b.rod n).rx = some q ∧ Frame s t [0x130A]) ∧
    (∀ p q, (s.b.rod n).rx = some p → (s.b.rod n).phase ≠ .train → m.slept = false →
      p.took (nudgeSlicer (s.b.activePath n)) 7 16 (merit m.spare.h m.spare.w) = (q, true) →
      ∃ t, exec (.calStep n m) s = .next t ∧ t.b.regN 0x130D (n + 1) = (s.b.regN 0x130D (n + 1) + 1) % 2 ^ 32 ∧
        (m.agreed = true → merit m.active.h m.active.w ≤ merit m.spare.h m.spare.w →
          t.b.reg 0x1308 (n + 1) = (1 - s.b.regN 0x1308 (n + 1) : Nat)) ∧
        (m.agreed = false ∨ merit m.spare.h m.spare.w < merit m.active.h m.active.w →
          t.b.reg 0x1308 (n + 1) = s.b.reg 0x1308 (n + 1) ∧ bit (t.b.regN 0x130F (n + 1)) 3 = true) ∧
        Frame s t [0x1308, 0x130A, 0x130C, 0x130D, 0x130F]) ∧
    ((s.b.rod n).rx = none → m.slept = false → s.b.inService n = true → s.b.meets m.active.h m.active.w = false →
      ∃ t, exec (.calStep n m) s = .next t ∧ (t.b.rod n).rx.isSome = true ∧ bit (t.b.regN 0x130F (n + 1)) 6 = true ∧ Frame s t [0x130F]) ∧
    (m.slept = true → exec (.calStep n m) s = .next s) ∧
    (∀ temps : List Int, temps.length = 48 → ∃ t, exec (.quadTempRead temps) s = .next t ∧ (∀ q, q < 48 → t.b.reg 0x1311 (q + 1) = temps.getD q 0) ∧
      (s.b.inService n = true → 16 * s.b.reg 0x1306 0 < ((temps.getD (n / 4) 0 - s.b.reg 0x130C (n + 1)).natAbs : Int) →
        (t.b.rod n).rx.isSome = true ∧ (t.b.rod n).tx.isSome = true) ∧ Frame s t [0x1311]) ∧
    (Grants s r 0x0414 1 (.n 1) x → s.b.opBusy 0x0414 = false → ∃ t, exec (.laneCalStart r) s = .next t ∧ Answered t r (wrote stOK) ∧
      t.b.opState 0x0414 = 1 ∧
      (s.b.regN 0x0414 0x10 = n → s.b.inService n = true → bit (s.b.regN 0x0414 0x11) 0 = true → (t.b.rod n).rx.isSome = true) ∧
      (s.b.regN 0x0414 0x10 = n → s.b.inService n = true → bit (s.b.regN 0x0414 0x11) 1 = true → (t.b.rod n).tx.isSome = true) ∧
      Frame s t [0x0414]) ∧
    (∀ o, mfind 0x0414 s.b.ops = some o → (∀ k ∈ o.rods, s.b.calBusy k = false) → ∃ t, exec .laneCalComplete s = .next t ∧ mfind 0x0414 t.b.ops = none ∧
      (s.b.opState 0x0414 ≠ 3 → t.b.opState 0x0414 = 4 ∧ t.b.reg 0x0414 4 = (o.step : Nat) ∧ Raised s t 41) ∧
      (s.b.opState 0x0414 = 3 → t.b.opState 0x0414 = 5 ∧ t.b.regN 0x0414 4 = 2 ∧ Raised s t 42) ∧ Frame s t [0x0414]) ∧
    (∀ o k, mfind 0x0414 s.b.ops = some o → k ∈ o.rods → s.b.calBusy k = true → exec .laneCalComplete s = .next s)

/-! ## Pans and tiles -/

/-- The active unit queues a wake for every tile of a pan, or of the one selected, that is not awake or queued; SLEEP puts a tile to sleep at once; a slot goes once the
tile has answered and its ramp and settle time have passed (R302 to R305). -/
def Obligations.TilesWakeAndSleep : Prop :=
  ∀ (s : State) (r : Req) (x : Session), s.b.isActive = true →
    (∀ p n q, Grants s r (panKey 0x1418 p).1 (panKey 0x1418 p).2 (.n 1) x → p < 256 → (n, q) ∈ s.b.panTiles p → (s.b.tile n q).awake = false →
      ∃ t, exec (.panCommandWake r p) s = .next t ∧ Answered t r (wrote stOK) ∧ KeepsMemory s t ∧
        ((∃ w ∈ (t.b.pan (s.b.panOf n q)).queue, w.rod = n ∧ w.pos = q) ∨ (∃ w ∈ (t.b.pan (s.b.panOf n q)).slots, w.rod = n ∧ w.pos = q))) ∧
    (∀ p n q, Grants s r (panKey 0x1418 p).1 (panKey 0x1418 p).2 (.n 2) x → p < 256 → (n, q) ∈ s.b.panTiles p →
      ∃ t, exec (.panCommandSleep r p) s = .next t ∧ Answered t r (wrote stOK) ∧ KeepsMemory s t ∧ (t.b.tile n q).awake = false ∧
        (∀ w ∈ (t.b.pan (s.b.panOf n q)).queue, ¬(w.rod = n ∧ w.pos = q))) ∧
    (∀ n q, Grants s r 0x1428 0 (.n 1) x → s.b.selected (r.sid % 8) = (n, q) → n < 192 → q < 63 → (s.b.tile n q).awake = false →
      ∃ t, exec (.tilePowerWake r) s = .next t ∧ Answered t r (wrote stOK) ∧ KeepsMemory s t ∧
        ((∃ w ∈ (t.b.pan (s.b.panOf n q)).queue, w.rod = n ∧ w.pos = q) ∨ (∃ w ∈ (t.b.pan (s.b.panOf n q)).slots, w.rod = n ∧ w.pos = q))) ∧
    (∀ n q, Grants s r 0x1428 0 (.n 2) x → s.b.selected (r.sid % 8) = (n, q) → n < 192 → q < 63 →
      ∃ t, exec (.tilePowerSleep r) s = .next t ∧ Answered t r (wrote stOK) ∧ KeepsMemory s t ∧ (t.b.tile n q).awake = false ∧
        (∃ c ∈ (t.b.tile n q).cmd.toList ++ (t.b.tile n q).cmdq, c.why = .sleep ∧ c.code = 0x02)) ∧
    (∀ n q k, (s.b.pan (s.b.panOf n q)).slots.find? (fun w => w.rod == n && w.pos == q) = some k → k.answered = true → Stays s →
      s.env.after k.tb ((s.b.panReg 0x1412 (s.b.panOf n q) + s.b.panReg 0x1414 (s.b.panOf n q)) * 1000000) = true →
      (s.b.pan (s.b.panOf n q)).queue = [] →
      ∃ t, exec (.wakeSlotRelease n q) s = .next t ∧ (t.b.pan (s.b.panOf n q)).slots = (s.b.pan (s.b.panOf n q)).slots.erase k ∧ KeepsMemory s t) ∧
    (∀ n q, (s.b.pan (s.b.panOf n q)).slots.find? (fun w => w.rod == n && w.pos == q) = none → Stays s → exec (.wakeSlotRelease n q) s = .next s)

/-- `health.channel` sends CHANNEL_ON with its scan index and emitters to its tile, from the active unit alone; `dose.tile_reset` marks its tile for the reset that the next
sampled sub-frame makes, and is refused in FROZEN; both refuse a tile that no chain can hold (R305, R310, R315, R377). -/
def Obligations.TileWritesReachTheirTile : Prop :=
  ∀ (s : State) (r : Req) (x : Session) (v : Nat),
    (Grants s r 0x1433 0 (.n (v : Nat)) x → s.b.isActive = true → field v 31 24 < 192 → field v 23 16 < 63 →
      ∃ t, exec (.healthChannelWrite r v) s = .next t ∧ Answered t r (wrote stOK) ∧ Frame s t [] ∧
        (∃ c ∈ (t.b.tile (field v 31 24) (field v 23 16)).cmd.toList ++ (t.b.tile (field v 31 24) (field v 23 16)).cmdq,
          c.code = 0x04 ∧ c.args = be 2 (field v 15 0) ++ be 1 (field v 34 32))) ∧
    (Grants s r 0x1433 0 (.n (v : Nat)) x → s.b.isActive = false → field v 31 24 < 192 → field v 23 16 < 63 →
      ∃ t, exec (.healthChannelWrite r v) s = .next t ∧ Answered t r (wrote stOK) ∧ t.b.tiles = s.b.tiles ∧ t.b.rods = s.b.rods ∧ Frame s t []) ∧
    (Grants s r 0x1504 0 (.n (v : Nat)) x → s.b.devState ≠ devFrozen → field v 15 8 < 192 → field v 7 0 < 63 →
      ∃ t, exec (.doseTileReset r v) s = .next t ∧ Answered t r (wrote stOK) ∧ (t.b.tile (field v 15 8) (field v 7 0)).resetDose = true ∧
        (∀ k p, p < 64 → (k, p) ≠ (field v 15 8, field v 7 0) → t.b.tile k p = s.b.tile k p) ∧ Frame s t []) ∧
    (Grants s r 0x1504 0 (.n (v : Nat)) x → s.b.devState ≠ devFrozen → 192 ≤ field v 15 8 ∨ 63 ≤ field v 7 0 →
      ∃ t, exec (.doseTileReset r v) s = .next t ∧ Answered t r (wrote stRange) ∧ t.b.tiles = s.b.tiles ∧ Frame s t []) ∧
    (Grants s r 0x1433 0 (.n (v : Nat)) x → 192 ≤ field v 31 24 ∨ 63 ≤ field v 23 16 →
      ∃ t, exec (.healthChannelWrite r v) s = .next t ∧ Answered t r (wrote stRange) ∧ t.b.tiles = s.b.tiles ∧ Frame s t []) ∧
    (Grants s r 0x1504 0 (.n (v : Nat)) x → s.b.devState = devFrozen →
      ∃ t, exec (.doseTileReset r v) s = .next t ∧ Answered t r (wrote stFrozen) ∧ t.b.tiles = s.b.tiles ∧ Frame s t [])

/-! ## Setpoints, dose, retention, reckoning -/

/-- At its setpoint instant a sub-frame queues HEADROOM, with the setpoint of every zone, for every tile of every rod in FC service that it sends data to, be it latched
or not, and those setpoints are the tile's commitment; before that nothing happens (R94, R298 to R300). -/
def Obligations.SetpointsAreCommitted : Prop :=
  ∀ (s : State) (y : Sub),
    (s.b.beads.subs.find? (fun z => !z.setSent && s.env.reached (s.b.instH z.e)) = some y →
      ∃ t, exec .setpointInstant s = .next t ∧ Frame s t [] ∧ (∀ z ∈ t.b.beads.subs, z.n = y.n → z.setSent = true) ∧
        ∀ n p q, n ∈ s.b.subRods y → s.b.inService n = true → s.b.sendsData y.n = true →
          (((s.b.subMap y).map (fun m => m.tilesOf n)).getD [])[p]? = some q → ∃ zs, .headroom p y.n zs ∈ (t.b.rod n).txq ∧ zs.length = q.zones ∧
            ((s.b.subRods y).Nodup → (∀ k ∈ s.b.subRods y, (((s.b.subMap y).map (fun m => m.tilesOf k)).getD []).length ≤ 63) →
              zs = (upFrom 0 q.zones).map (fun z => s.b.zoneSetpoint n p q (s.b.rodBeadsOf y n) y.use y.n y.gen y.mode.phases z) ∧
              (t.b.tile n p).committed y.n y.gen = some zs)) ∧
    (∀ k m g, s.b.beads.subs.find? (fun z => !z.setSent && s.env.reached (s.b.instH z.e)) = none → s.b.earlyH s.env = some (k, m, g) →
      ∃ t, exec .setpointInstant s = .next t ∧ Frame s t [] ∧ t.b.seq.early = s.b.seq.early ++ [k] ∧ t.b.beads = s.b.beads ∧
        ∀ n p q, n ∈ s.b.rodsInUse → s.b.inService n = true → s.b.sendsData k = true → ((s.b.map?.map (fun x => x.tilesOf n)).getD [])[p]? = some q →
          ∃ zs, .headroom p k zs ∈ (t.b.rod n).txq ∧ zs.length = q.zones) ∧
    (s.b.beads.subs.find? (fun z => !z.setSent && s.env.reached (s.b.instH z.e)) = none → s.b.earlyH s.env = none → exec .setpointInstant s = .next s)

/-- `op.dose_export` starts outside FROZEN; it writes its image, with the serial after the last, at its destination and nowhere else, keeps the serial, and is DONE; one that was
cancelled meanwhile is FAILED with the serial as it was (R316, R377, R427, R428). The refusal of a destination outside the region or too short is the model's (log entry 50), and no part of this. -/
def Obligations.DoseIsExported : Prop :=
  ∀ (s : State) (r : Req) (x : Session),
    (Grants s r 0x0416 1 (.n 1) x → s.b.opBusy 0x0416 = false → s.b.devState ≠ devFrozen →
      ∃ t, exec (.doseExportStart r) s = .next t ∧ Answered t r (wrote stOK) ∧ t.b.opState 0x0416 = 1 ∧ Frame s t [0x0416]) ∧
    (Grants s r 0x0416 1 (.n 1) x → s.b.opBusy 0x0416 = true →
      ∃ t, exec (.doseExportStart r) s = .next t ∧ Answered t r (wrote stBusy) ∧ Frame s t []) ∧
    (Grants s r 0x0416 1 (.n 1) x → s.b.opBusy 0x0416 = false → s.b.devState = devFrozen →
      ∃ t, exec (.doseExportStart r) s = .next t ∧ Answered t r (wrote stFrozen) ∧ t.b.opState 0x0416 = 5 ∧ Raised s t 42 ∧ Frame s t [0x0416]) ∧
    (∀ a img, s.b.opState 0x0416 = 1 → a = (s.b.opArg 0x0416 0x10).toNat →
      img = s.b.doseImage s.env ((s.b.regN 0x1503 0 + 1) % 2 ^ 32) → (s.b.appBytes a (s.b.opArg 0x0416 0x11).toNat).isSome = true →
      img.length ≤ (s.b.opArg 0x0416 0x11).toNat →
      ∃ t, exec .doseExportComplete s = .next t ∧ t.b.bytes a img.length = img ∧ (∀ k, k < a ∨ a + img.length ≤ k → t.b.byte k = s.b.byte k) ∧
        t.b.regN 0x1503 0 = (s.b.regN 0x1503 0 + 1) % 2 ^ 32 ∧ t.b.opState 0x0416 = 4 ∧ Raised s t 966 ∧ Raised s t 41 ∧
        KeepsRegs s.b t.b [0x0416, 0x1503] ∧ t.clk = s.clk ∧ t.pending = s.pending) ∧
    (s.b.opState 0x0416 = 3 → ∃ t, exec .doseExportComplete s = .next t ∧ t.b.opState 0x0416 = 5 ∧ t.b.regN 0x0416 4 = 2 ∧ Raised s t 42 ∧
      KeepsRegs s.b t.b [0x0416] ∧ t.clk = s.clk ∧ t.pending = s.pending) ∧
    (s.b.opState 0x0416 ≠ 1 → s.b.opState 0x0416 ≠ 3 → exec .doseExportComplete s = .next s)

/-- `op.dose_import` starts outside LIVE and FROZEN where its image passes every check, and is refused with the first it fails otherwise; it replaces the accumulators of
every lamp of the rod map in force by those of the image; one that faults then writes nothing, or leaves the dose unloaded, and says so by event 964; one that was
cancelled meanwhile is FAILED (R316, R411, R427, R428). -/
def Obligations.DoseIsImported : Prop :=
  ∀ (s : State) (r : Req) (x : Session),
    (∀ img, Grants s r 0x0417 1 (.n 1) x → s.b.opBusy 0x0417 = false → s.b.devState ≠ devFrozen → s.b.live = false →
      s.b.doseFault (s.b.regN 0x0417 0x10) (s.b.regN 0x0417 0x11 == 1) = .inr img →
      ∃ t, exec (.doseImportStart r) s = .next t ∧ Answered t r (wrote stOK) ∧ t.b.opState 0x0417 = 1 ∧ Frame s t [0x0417]) ∧
    (∀ c j, Grants s r 0x0417 1 (.n 1) x → s.b.opBusy 0x0417 = false → s.b.devState ≠ devFrozen → s.b.live = false →
      s.b.doseFault (s.b.regN 0x0417 0x10) (s.b.regN 0x0417 0x11 == 1) = .inl (c, j) →
      ∃ t, exec (.doseImportStart r) s = .next t ∧ Answered t r (if c = stChunk then .write c 2 j else wrote c) ∧ t.b.opState 0x0417 = 5 ∧
        t.b.regN 0x0417 4 = c ∧ t.b.regN 0x0417 5 = j ∧ Raised s t 964 ∧ Raised s t 42 ∧ Frame s t [0x0417]) ∧
    (Grants s r 0x0417 1 (.n 1) x → s.b.opBusy 0x0417 = false → s.b.live = true →
      ∃ t, exec (.doseImportStart r) s = .next t ∧ Answered t r (wrote stLive) ∧ t.b.opState 0x0417 = 5 ∧ Raised s t 964 ∧ Frame s t [0x0417]) ∧
    (∀ img, s.b.opState 0x0417 = 1 → s.b.doseFault (s.b.opArg 0x0417 0x10).toNat (s.b.opArg 0x0417 0x11 == 1) = .inr img →
      ∃ t, exec .doseImportComplete s = .next t ∧ t.b.opState 0x0417 = 4 ∧ t.b.reg 0x1500 0 = 1 ∧ Raised s t 41 ∧
        KeepsRegs s.b t.b [0x0417, 0x1500] ∧ t.clk = s.clk ∧ t.pending = s.pending ∧
        (s.b.lampIdsNow.Nodup → ∀ (k i : Nat), k < leAt img 8 4 → s.b.lampIdsNow[k]? = some i →
          t.b.bytes (s.b.doseAddr i 0) 12 = slice (img.drop 64) (12 * k) 12)) ∧
    (∀ c j, s.b.opState 0x0417 = 1 → s.b.doseFault (s.b.opArg 0x0417 0x10).toNat (s.b.opArg 0x0417 0x11 == 1) = .inl (c, j) →
      ∃ t, exec .doseImportComplete s = .next t ∧ t.b.opState 0x0417 = 5 ∧ t.b.regN 0x0417 4 = c ∧ t.b.regN 0x0417 5 = j ∧ Raised s t 964 ∧
        Raised s t 42 ∧ (j = 0 → Frame s t [0x0417]) ∧ (j ≠ 0 → t.b.reg 0x1500 0 = 0)) ∧
    (s.b.opState 0x0417 = 3 → ∃ t, exec .doseImportComplete s = .next t ∧ t.b.opState 0x0417 = 5 ∧ t.b.regN 0x0417 4 = 2 ∧ Raised s t 42 ∧
      KeepsRegs s.b t.b [0x0417, 0x1500] ∧ t.clk = s.clk ∧ t.pending = s.pending) ∧
    (s.b.opState 0x0417 ≠ 1 → s.b.opState 0x0417 ≠ 3 → exec .doseImportComplete s = .next s)

/-- A write of `age.retention` whose tables are whole, of one bin each, monotone and cover every bin a generation names replaces every table; one whose header or
length is bad is refused with FORMAT, one whose CRC is wrong with CRC, and keeps the tables (R317). -/
def Obligations.RetentionTablesAreReplaced : Prop :=
  ∀ (s : State) (r : Req) (x : Session) (bs : Bytes) (n : Nat), Grants s r 0x1508 0 (.b bs) x → n = leAt bs 6 2 →
    (bs.take 4 = ascii "CWRT" → leAt bs 4 2 = 1 → 1 ≤ n → n ≤ 1024 → bs.length = 16 + 392 * n → crc32c (bs.drop 16) = leAt bs 12 4 →
      ((upFrom 0 n).map (fun i => leAt (retRecord bs i) 0 2)).eraseDups.length = n →
      (∀ i, i < n → 0x100 ≤ leAt (retRecord bs i) 4 2 ∧ leAt (retRecord bs i) 4 2 ≤ 0x800 ∧
        ∀ em, em < 3 → retPoint (retRecord bs i) em 0 = (0, 0x8000) ∧ ∀ k, 1 ≤ k → k ≤ 15 →
          (retPoint (retRecord bs i) em (k - 1)).1 < (retPoint (retRecord bs i) em k).1 ∧
          (retPoint (retRecord bs i) em k).2 ≤ (retPoint (retRecord bs i) em (k - 1)).2 ∧ 0x800 ≤ (retPoint (retRecord bs i) em k).2) →
      (∀ k ∈ s.b.binsNamed, k ∈ (upFrom 0 n).map (fun i => leAt (retRecord bs i) 0 2)) →
      ∃ t, exec (.retentionLoad r bs) s = .next t ∧ Answered t r (wrote stOK) ∧ t.b.str 0x1508 0 = bs ∧ Frame s t []) ∧
    (bs.take 4 ≠ ascii "CWRT" ∨ leAt bs 4 2 ≠ 1 ∨ n = 0 ∨ 1024 < n ∨ bs.length ≠ 16 + 392 * n →
      ∃ t, exec (.retentionLoad r bs) s = .next t ∧ Answered t r (wrote stFormat) ∧ t.b.blob = s.b.blob ∧ Frame s t []) ∧
    (bs.take 4 = ascii "CWRT" → leAt bs 4 2 = 1 → 1 ≤ n → n ≤ 1024 → bs.length = 16 + 392 * n → crc32c (bs.drop 16) ≠ leAt bs 12 4 →
      ∃ t, exec (.retentionLoad r bs) s = .next t ∧ Answered t r (wrote stCrc) ∧ t.b.blob = s.b.blob ∧ Frame s t [])

/-- `op.reckon` starts where the non-active generation may be written and dose is loaded; it fills that generation under the image's tag and its map's, or fails and
voids it. The timer starts it by itself (R170, R318, R320, R321). -/
def Obligations.LampsAreReckoned : Prop :=
  ∀ (s : State) (r : Req) (x : Session) (g : Nat), g = s.b.nonActive 0 →
    (Grants s r 0x0415 1 (.n 1) x → s.b.follows = false → s.b.opBusy 0x0415 = false → s.b.devState ≠ devFrozen → s.b.genFree 0 = true →
      s.b.regN 0x1500 0 ≠ 0 →
      ∃ t, exec (.reckonStart r) s = .next t ∧ Answered t r (wrote stOK) ∧ t.b.opState 0x0415 = 1 ∧ t.b.gen 0 g = 1 ∧ Frame s t [0x0415, 0x1000]) ∧
    (Grants s r 0x0415 1 (.n 1) x → s.b.follows = false → s.b.opBusy 0x0415 = false → s.b.devState ≠ devFrozen → s.b.genFree 0 = true →
      s.b.regN 0x1500 0 = 0 → s.b.reg 0x0415 0x13 = 0 →
      ∃ t, exec (.reckonStart r) s = .next t ∧ Answered t r (wrote stNoDose) ∧ t.b.opState 0x0415 = 5 ∧ Raised s t 42 ∧ Frame s t [0x0415]) ∧
    (∀ bs, s.b.opState 0x0415 = 1 → s.b.gen 0 g = 1 → s.b.follows = false → s.b.reckonImage = .inr bs →
      bit (s.b.opArg 0x0415 0x12).toNat 0 = false →
      ∃ t, exec .reckonComplete s = .next t ∧ t.b.opState 0x0415 = 4 ∧ t.b.gen 0 g = 2 ∧ t.b.regN 0x1001 (g + 1) = leAt bs 12 4 ∧
        t.b.regN 0x1002 (g + 1) = leAt bs 16 4 ∧ t.b.regN 0x1003 (g + 1) ≤ s.b.regN 0x150B 0 ∧ t.b.regN 0x150D 0 = s.env.wt ∧
        Raised s t 960 ∧ Raised s t 41 ∧ t.clk = s.clk ∧ t.pending = s.pending) ∧
    (∀ c d, s.b.opState 0x0415 = 1 → s.b.gen 0 g = 1 → s.b.follows = false → s.b.reckonImage = .inl (c, d) →
      ∃ t, exec .reckonComplete s = .next t ∧ t.b.opState 0x0415 = 5 ∧ t.b.regN 0x0415 4 = c ∧ t.b.gen 0 g = 6 ∧ Raised s t 961 ∧
        Raised s t 336 ∧ Raised s t 42 ∧ Frame s t [0x0415, 0x1000]) ∧
    (s.b.regN 0x150E 0 ≠ 0 → s.b.regN 0x150F 0 ≠ 0 → s.b.follows = false → devVerified ≤ s.b.devState → s.b.devState ≠ devFrozen →
      s.b.opBusy 0x0415 = false → s.b.genFree 0 = true → s.b.regN 0x1500 0 ≠ 0 →
      ∃ t o, exec .autoReckonTimer s = .next t ∧ t.b.opState 0x0415 = 1 ∧ t.b.gen 0 g = 1 ∧ mfind 0x0415 t.b.ops = some o ∧
        mfind (key 0x0415 0x12) o.args = some 1 ∧ mfind (key 0x0415 0x11) o.args = some ((s.b.regN 0x150F 0 % 2 ^ 24 * 65536 : Nat) : Int) ∧
        Frame s t [0x0415, 0x1000]) ∧
    (s.b.regN 0x150E 0 = 0 ∨ s.b.regN 0x150F 0 = 0 → exec .autoReckonTimer s = .next s)

/-! ## Media -/

/-- A media port follows its link and its module; a frame received is dropped and counted where it has not the port's tag or is of no kind the port takes; ARP requests, neighbour
solicitations and echo requests for its own address are answered; traffic for it goes to the host within the rate; the flow whose leg a packet matches keeps it
(R325 to R328, R332). The answers' layouts, and how far the host's traffic may run ahead, are the model's (log entries 91 and 92). -/
def Obligations.PortsTakeFrames : Prop :=
  ∀ (s : State) (p : Nat) (ck : PathCheck), p < 4 →
    (∃ t, exec (.portLinkDown p) s = .next t ∧ t.b.reg 0x0A00 (p + 1) = 0 ∧ bit (t.b.regN 0x0A09 (p + 1)) 0 = true ∧ Frame s t [0x0A00, 0x0A09]) ∧
    (s.b.regN 0x0120 (p + 49) ≠ 3 → ∃ t, exec (.portLinkUp p) s = .next t ∧ t.b.reg 0x0A00 (p + 1) = 1 ∧ Frame s t [0x0A00]) ∧
    (s.b.regN 0x0120 (p + 49) = 3 → exec (.portLinkUp p) s = .next s) ∧
    (s.b.str 0x0A08 (p + 1) ≠ [] →
      ∃ t, exec (.modulePoll p none) s = .next t ∧ t.b.str 0x0A08 (p + 1) = [] ∧ bit (t.b.regN 0x0A09 (p + 1)) 4 = true ∧ Frame s t [0x0A09]) ∧
    (∀ bs : Bytes, bs.length = 256 → ∃ t, exec (.modulePoll p (some bs)) s = .next t ∧ t.b.str 0x0A08 (p + 1) = bs ∧
      (∀ old, mfind p s.b.media.mods = some old → old ≠ bs.drop 128 → bit (t.b.regN 0x0A09 (p + 1)) 4 = true) ∧ Frame s t [0x0A09]) ∧
    (∀ f, s.b.portUp p = false → exec (.mediaFrameReceive p f) s = .next s) ∧
    (∀ n tag, s.b.portUp p = true → ∃ t, exec (.mediaFrameReceive p ⟨tag, .other n, ck⟩) s = .next t ∧
      t.b.regN 0x0A06 (p + 1) = (s.b.regN 0x0A06 (p + 1) + 1) % 2 ^ 32 ∧ Frame s t [0x0A06]) ∧
    (∀ f tag, s.b.portUp p = true → tag ≠ s.b.vlanTag p → (∀ m mine n, f ≠ .ptp m mine n) →
      ∃ t, exec (.mediaFrameReceive p ⟨tag, f, ck⟩) s = .next t ∧
      t.b.regN 0x0A06 (p + 1) = (s.b.regN 0x0A06 (p + 1) + 1) % 2 ^ 32 ∧ t.b.media = s.b.media ∧ Frame s t [0x0A06]) ∧
    (∀ k n f, s.b.portUp p = true → n ≤ 9216 → f = .host n ∨ f = .udp k n ∧ s.b.legFor p k = none ∧ s.b.ownAddr p k.dst = true →
      (mgetD 0 p s.b.media.host ≤ 2 * s.clk.tb → ∃ t, exec (.mediaFrameReceive p ⟨s.b.vlanTag p, f, ck⟩) s = .next t ∧
        t.b.out = s.b.out ++ [.hostFrame p n] ∧ Frame s t []) ∧
      (2 * s.clk.tb + Config.hostBurst < mgetD 0 p s.b.media.host → ∃ t, exec (.mediaFrameReceive p ⟨s.b.vlanTag p, f, ck⟩) s = .next t ∧
        bit (t.b.regN 0x0A09 (p + 1)) 2 = true ∧ t.b.media = s.b.media ∧ Frame s t [0x0A09])) ∧
    (∀ mac ip tgt, s.b.portUp p = true → s.b.ownAddr p tgt = true → mac.length = 6 → ip.length = 4 → tgt.length = 4 →
      ∃ t, exec (.mediaFrameReceive p ⟨s.b.vlanTag p, .arp true mac ip tgt, ck⟩) s = .next t ∧
        .frame p (s.b.ethernet p mac 0x0806 (arpPacket p 2 tgt mac ip)) ∈ t.b.out ∧ Frame s t []) ∧
    (∀ mac src tgt, s.b.portUp p = true → s.b.ownAddr p tgt = true → mac.length = 6 → src.length = 16 → tgt.length = 16 → src.any (· != 0) = true →
      ∃ t, exec (.mediaFrameReceive p ⟨s.b.vlanTag p, .nd true mac src tgt, ck⟩) s = .next t ∧
        t.b.out = s.b.out ++ [.frame p (s.b.ethernet p mac 0x86DD (ipPacket tgt src 255
          (icmp tgt src 136 (be 4 0x60000000 ++ tgt ++ be 2 0x0201 ++ portMac p))))] ∧ Frame s t []) ∧
    (∀ mac src dst data f, s.b.portUp p = true → s.b.ownAddr p dst = true → data.length ≤ 1400 →
      f = s.b.ethernet p mac (ipType dst) (ipPacket dst src 64 (icmp dst src (if dst.length = 16 then 129 else 0) data)) → f.length ≤ 1518 →
      ∃ t, exec (.mediaFrameReceive p ⟨s.b.vlanTag p, .echo mac src dst data, ck⟩) s = .next t ∧ t.b.out = s.b.out ++ [.frame p f] ∧ Frame s t []) ∧
    (∀ k n f l v seq, s.b.portUp p = true → n ≤ 9216 → s.b.legFor p k = some (f, l) → s.b.rx? f = some v → k.pt = s.b.regN 0x0A17 (f + 1) →
      s.b.regN 0x0A10 (f + 1) = 1 ∨ s.b.regN 0x0A10 (f + 1) = 2 ∧ k.paci = false →
      seq = extend v.kept (if s.b.regN 0x0A10 (f + 1) = 1 then 2 ^ 32 else 65536) k.seq → v.floor < seq → (∀ q ∈ v.kept, q.seq ≠ seq) →
      ∃ t y, exec (.mediaFrameReceive p ⟨s.b.vlanTag p, .udp k n, ck⟩) s = .next t ∧ t.b.rx? f = some y ∧ (∃ q ∈ y.kept, q.seq = seq ∧ q.ts = k.ts) ∧ KeepsMemory s t)

/-- A flow whose checks pass is admitted with its rate and its receiver, one whose check fails keeps the result; a deleted flow has no receiver. A silent leg is
told, and frames past their limits are discarded (R332, R333, R336 to R339). The reports are in the version of the membership protocol that the port speaks; a change
of it, as `noteMode` finds one, cancels what was owed before (log entry 54). -/
def Obligations.FlowsAreAdmittedAndWatched : Prop :=
  ∀ (s : State) (r : Req) (x : Session) (f res : Nat), f < 16 → res = (s.b.setReg 0x0A20 (f + 1) (s.b.wireRate f : Nat)).admitResult f →
    (Grants s r 0x0A1E (f + 1) (.n 1) x → s.b.regN 0x0A1E (f + 1) ≠ 1 → res = 0 →
      ∃ t, exec (.flowAdmit r f) s = .next t ∧ Answered t r (wrote stOK) ∧ t.b.reg 0x0A1E (f + 1) = 1 ∧ t.b.reg 0x0A1F (f + 1) = 0 ∧
        t.b.regN 0x0A20 (f + 1) = s.b.wireRate f ∧ (∃ y, t.b.rx? f = some y ∧ y.kept = [] ∧ y.frames = [] ∧ y.joinTb = some s.clk.tb) ∧
        Frame s t [0x0A07, 0x0A1E, 0x0A1F, 0x0A20, 0x0A32]) ∧
    (Grants s r 0x0A1E (f + 1) (.n 1) x → s.b.regN 0x0A1E (f + 1) ≠ 1 → res ≠ 0 →
      ∃ t, exec (.flowAdmit r f) s = .next t ∧ Answered t r (wrote stOK) ∧ t.b.regN 0x0A1F (f + 1) = res ∧
        bit (t.b.regN 0x0A24 (f + 1)) 0 = true ∧ t.b.media = s.b.media ∧ Frame s t [0x0A1F, 0x0A20, 0x0A24]) ∧
    (Grants s r 0x0A1E (f + 1) (.n 0) x → (s.b.rx? f).isSome = true →
      ∃ t, exec (.flowDelete r f) s = .next t ∧ Answered t r (wrote stOK) ∧ t.b.reg 0x0A1E (f + 1) = 0 ∧ t.b.rx? f = none ∧
        (∀ l ∈ s.b.legs f, isMulticast l.dst = true → s.b.portUp l.port = true → l.dst.length = 16 ∨ s.b.version s.env l.port (l.dst.length == 16) ≠ 1 →
          Out.report l.port (l.dst.length == 16) (s.b.version s.env l.port (l.dst.length == 16)) 3 l.dst [] ∈ t.b.out) ∧ KeepsMemory s t) ∧
    (∀ y k, s.b.rx? f = some y → y.joinTb = some k → s.env.after k 1000000000 = true →
      ∃ t z, exec (.joinReportRepeat f) s = .next t ∧ t.b.rx? f = some z ∧ z.joinTb = none ∧
        ((∀ l ∈ s.b.legs f, s.b.noteMode s.env l.port (l.dst.length == 16) = s.b) → (∀ k, (f, k) ∉ s.b.media.unjoin) →
          ∀ l ∈ s.b.legs f, isMulticast l.dst = true → s.b.portUp l.port = true →
          ∃ srcs, Out.report l.port (l.dst.length == 16) (s.b.version s.env l.port (l.dst.length == 16)) (if l.src = [] then 2 else 1) l.dst srcs ∈ t.b.out) ∧ Frame s t []) ∧
    (∀ p v6 g q, s.b.query? p v6 g = some q → q.due ≤ s.clk.tb →
      ∃ t, exec (.queryResponseTimer p v6 g) s = .next t ∧ q ∉ t.b.media.queries ∧
        (s.b.noteMode s.env p v6 = s.b → g ≠ [] → q.sources = [] → s.b.groupSources p g = none → s.b.portUp p = true →
          Out.report p (g.length == 16) (s.b.version s.env p (g.length == 16)) 2 g [] ∈ t.b.out) ∧ Frame s t []) ∧
    (∀ p v6 g q, s.b.noteMode s.env p v6 = s.b → s.b.query? p v6 g = some q → s.clk.tb < q.due → exec (.queryResponseTimer p v6 g) s = .next s) ∧
    (∀ y l k, s.b.rx? f = some y → y.legTb[l]? = some k → y.silent[l]? = some false → s.env.after k s.b.silenceNs = true →
      ∃ t z, exec (.legTimeout f l) s = .next t ∧ t.b.rx? f = some z ∧ z.silent[l]? = some true ∧ bit (t.b.regN 0x0A24 (f + 1)) 1 = true ∧
        Frame s t [0x0A24]) ∧
    ((s.b.rx? f).isSome = true → ∃ t z, exec (.incompleteFrameDiscard f) s = .next t ∧ t.b.rx? f = some z ∧
      (∀ q ∈ z.frames, s.b.overdue s.env q = false) ∧ Frame s t [0x0A22, 0x0A23, 0x0A24])

/-- A stream starts where its flow, size, engine and buffers allow, and stops; a decode engine ends the picture of its oldest access unit, which becomes the newest
of its pool. Confidence encoders start and stop, and end their pictures in order (R341 to R346, R352 to R357). -/
def Obligations.StreamsAndEncodersRun : Prop :=
  ∀ (s : State) (r : Req) (x : Session) (n : Nat),
    (∀ w h d, n < 32 → Grants s r 0x0B04 (n + 1) (.n 1) x → s.b.stream? n = none → s.b.regN 0x0B00 (n + 1) < 16 →
      s.b.regN 0x0A1E (s.b.regN 0x0B00 (n + 1) + 1) = 1 → s.b.regN 0x0A10 (s.b.regN 0x0B00 (n + 1) + 1) = 2 → s.b.streamOf (s.b.regN 0x0B00 (n + 1)) = none →
      w = field (s.b.regN 0x0B02 (n + 1)) 31 16 → h = field (s.b.regN 0x0B02 (n + 1)) 15 0 → 1 ≤ w → w ≤ 4096 → 1 ≤ h → h ≤ 2176 →
      s.b.pickDecoder (s.b.regN 0x0B01 (n + 1)) (s.b.streamLoad (s.b.regN 0x0B00 (n + 1)) w h, s.b.streamTurn (s.b.regN 0x0B00 (n + 1))) = some d →
      s.b.codecUsed + (s.b.regN 0x0B03 (n + 1) + 1) * w * h * 4 + 8388608 ≤ s.b.forceN 0x1802 0 * 2 ^ 20 →
      s.b.forceN 0x0C58 0 * bufBytes 0 w h ≤ s.b.layerFree →
      ∃ t y, exec (.streamStart r n) s = .next t ∧ Answered t r (wrote stOK) ∧ t.b.reg 0x0B04 (n + 1) = 1 ∧ t.b.reg 0x0B05 (n + 1) = 0 ∧
        t.b.regN 0x0B06 (n + 1) = d ∧ t.b.stream? n = some y ∧ y.engine = d ∧ y.w = w ∧ y.h = h ∧ Frame s t [0x0B04, 0x0B05, 0x0B06, 0x0B20]) ∧
    (n < 32 → Grants s r 0x0B04 (n + 1) (.n 0) x → (s.b.stream? n).isSome = true →
      ∃ t, exec (.streamStop r n) s = .next t ∧ Answered t r (wrote stOK) ∧ t.b.reg 0x0B04 (n + 1) = 0 ∧ t.b.reg 0x0B06 (n + 1) = 255 ∧
        t.b.stream? n = none ∧ KeepsMemory s t) ∧
    (∀ d p y a rest, s.b.nextStream d = some p.stream → p.stream < 32 → s.b.stream? p.stream = some y → s.b.nextAu p.stream y = a :: rest →
      p.syntaxError = false → p.check ≠ .source → s.b.streamState p.stream = 2 → y.fits p = true → ¬(p.rasl = true ∧ y.skipRasl = true) →
      ∃ t z q, exec (.decodePictureComplete d p) s = .next t ∧ t.b.stream? p.stream = some z ∧ z.aus = rest ∧ z.last = some q ∧ q.poc = p.poc ∧
        (p.missing = [] → q.planes = p.planes) ∧ t.b.regN 0x0B07 (p.stream + 1) = p.profile ∧ KeepsMemory s t) ∧
    (∀ d p, s.b.nextStream d ≠ some p.stream → exec (.decodePictureComplete d p) s = .next s) ∧
    (∀ y a l k m, n < 32 → s.b.stream? n = some y → y.aus = a :: l → rateOf (s.b.regN 0x0A19 (y.flow + 1)) = some (k, m) →
      2 * k * 1000000000 < (s.clk.tb - a.tb) * 2 * m →
      ∃ t, exec (.auWaitTimeout n) s = .next t ∧ bit (t.b.regN 0x0B0A (n + 1)) 5 = true ∧ t.b.media = s.b.media ∧ Frame s t [0x0B0A]) ∧
    (∀ z, n < 2 → Grants s r 0x0B40 (n + 1) (.n 1) x → s.b.encOn n = false →
      z = codedSize (field (s.b.regN 0x0C23 0) 31 16) (field (s.b.regN 0x0C23 0) 15 0) (s.b.cfgNow.regN 0x0B3F 0) →
      confTooBig z.1 z.2 (s.b.fPic (if s.b.live then s.b.seq.mode.rate else s.b.regN 0x0900 0) n) = false →
      ∃ t, exec (.confEnable r n) s = .next t ∧ Answered t r (wrote stOK) ∧ t.b.reg 0x0B40 (n + 1) = 1 ∧ (t.b.enc n).jobs = [] ∧
        (t.b.enc n).rtp = (s.b.enc n).rtp ∧ Frame s t [0x0B40, 0x0B4E]) ∧
    (n < 2 → Grants s r 0x0B40 (n + 1) (.n 0) x →
      ∃ t, exec (.confDisable r n) s = .next t ∧ Answered t r (wrote stOK) ∧ t.b.reg 0x0B40 (n + 1) = 0 ∧ (t.b.enc n).jobs = [] ∧ Frame s t [0x0B40]) ∧
    (∀ j js bits nals idr, n < 2 → (s.b.enc n).jobs = j :: js →
      idr = (((s.b.enc n).idr || decide (s.b.regN 0x0B46 (n + 1) ≤ (s.b.enc n).count) || (s.b.enc n).w != j.w || (s.b.enc n).h != j.h) &&
        !(j.skip && (s.b.enc n).hasRef j)) →
      ∃ t, exec (.confPictureComplete n bits nals) s = .next t ∧ (t.b.enc n).jobs = js ∧ (t.b.enc n).idr = false ∧
        t.b.regN 0x0B4F (n + 1) = (s.b.regN 0x0B4F (n + 1) + 1) % 2 ^ 32 ∧ Frame s t [0x0B4F, 0x0B50, 0x0B51] ∧
        (s.b.isActive = true → s.b.regN 0x0A00 (s.b.regN 0x0B48 (n + 1) + 1) = 1 →
          (t.b.enc n).rtp = ((s.b.enc n).rtp + (((if idr then j.seq.sets else []) ++ nals).map nalPayloads).flatten.length) % 65536))

/-! ## Memory controllers and DMA -/

/-- A request the firewall grants waits in its bank queue, or in the fabric behind a full one, a longer one unit by unit; another is answered with an error. A pick activates the head of a queue
of the highest priority, and its second column command ends the access: a write is in memory, a read is answered with the bytes, and a rake read that was corrected
is followed by its rewrite. Refreshes, at most eight owed, the rake, the repair list and panic follow R365 to R375. The application cores reach their region of HBM through their physical map; an access outside it is a bus error, and their caches
serve what they keep (R381, R382). -/
def Obligations.MemoryIsServed : Prop :=
  ∀ (s : State),
    (∀ q c k, (q.agent ≠ .cores ∨ q.port ≠ corePort) → s.b.regN 0x1805 0 = 2 → s.b.allowed q.agent q.addr q.len q.write = true → 0 < q.len →
      q.addr % 64 + q.len ≤ 64 →
      c = (placeOf s.b.hbm.order (q.addr / 64)).pc → k = (placeOf s.b.hbm.order (q.addr / 64)).bank →
      ∃ t w, exec (.hbmRequest q) s = .next t ∧ Frame s t [] ∧ w.port = q.port ∧ w.unit = q.addr / 64 ∧ w.off = q.addr % 64 ∧ w.write = q.write ∧
        w.data = q.data.take q.len ∧ w.len = q.len ∧ w.tb = s.clk.tb ∧
        (((s.b.pch c).queue k).length < 8 → mgetD [] k (s.b.pch c).fabric = [] →
          (t.b.pch c).queue k = (s.b.pch c).queue k ++ [w] ∧ mgetD [] k (t.b.pch c).fabric = []) ∧
        (8 ≤ ((s.b.pch c).queue k).length ∨ mgetD [] k (s.b.pch c).fabric ≠ [] → (t.b.pch c).queue k = (s.b.pch c).queue k ∧
          mgetD [] k (t.b.pch c).fabric = mgetD [] k (s.b.pch c).fabric ++ [w])) ∧
    (∀ q u, (q.agent ≠ .cores ∨ q.port ≠ corePort) → s.b.regN 0x1805 0 = 2 → s.b.allowed q.agent q.addr q.len q.write = true → q.addr / 64 ≤ u →
      64 * u < q.addr + q.len → ∃ t w, exec (.hbmRequest q) s = .next t ∧ w.port = q.port ∧ w.unit = u ∧ w.off = q.addr - 64 * u ∧ w.write = q.write ∧
        w.len = Nat.min (q.addr + q.len) (64 * u + 64) - Nat.max q.addr (64 * u) ∧ w.data = (q.data.drop (64 * u - q.addr)).take w.len ∧
        (w ∈ (t.b.pch (placeOf s.b.hbm.order u).pc).queue (placeOf s.b.hbm.order u).bank ∨
          w ∈ mgetD [] (placeOf s.b.hbm.order u).bank (t.b.pch (placeOf s.b.hbm.order u).pc).fabric) ∧ Frame s t []) ∧
    (∀ q, (q.agent ≠ .cores ∨ q.port ≠ corePort) → s.b.regN 0x1805 0 = 2 → s.b.allowed q.agent q.addr q.len q.write = false →
      ∃ t, exec (.hbmRequest q) s = .next t ∧ Raised s t 832 ∧ t.b.hbm = s.b.hbm ∧ Frame s t [] ∧ (q.port ≠ 12 → .memRsp q.port false [] ∈ t.b.out)) ∧
    (∀ q, (q.agent ≠ .cores ∨ q.port ≠ corePort) → s.b.regN 0x1805 0 ≠ 2 → q.port ≠ 12 →
      exec (.hbmRequest q) s = .next { s with b := s.b.emit (.memRsp q.port false []) }) ∧
    (∀ q, q.agent = .cores → q.port = corePort → s.b.coreSpot q.addr q.len = .nothing →
      exec (.hbmRequest q) s = .next { s with b := s.b.emit (.busError q.addr) }) ∧
    (∀ q d, q.agent = .cores → q.port = corePort → s.b.coreSpot q.addr q.len = .region d →
      (q.cached = true → q.write = true → ∃ t, exec (.hbmRequest q) s = .next t ∧ t.b.mem = s.b.mem ∧ t.b.hbm.pcs = s.b.hbm.pcs ∧
        .memRsp q.port true [] ∈ t.b.out ∧ (∀ i, i < (q.data.take q.len).length → t.b.snoop (d + i) = (q.data.take q.len).getD i 0)) ∧
      (q.cached = true → q.write = false → s.b.holdsCopies d q.len = true →
        exec (.hbmRequest q) s = .next { s with b := s.b.emit (.memRsp q.port true ((upFrom d q.len).map s.b.snoop)) }) ∧
      (q.cached = false → exec (.hbmRequest q) s = .next { s with b := hbmRequest s.env { q with addr := d } s.b })) ∧
    (∀ p sl found k pr q l, p < 64 → s.b.regN 0x1805 0 = 2 → sl.due.bind (fun j => mfind j (s.b.pch p).act) = none →
      s.b.refreshFirst (s.b.pch p) = none → pickBank (s.b.pch p).ptr (s.b.openBanks s.env (s.b.pch p) sl.ready) = some (k, pr) →
      (s.b.pch p).queue k = q :: l → found ≠ .command →
      ∃ t, exec (.hbmCommandPick p sl found) s = .next t ∧ mfind k (t.b.pch p).act = some (q, 0, false) ∧ (t.b.pch p).ptr = (k + 1) % 48 ∧
        Frame s t []) ∧
    (∀ p sl found k q fx, p < 64 → s.b.regN 0x1805 0 = 2 → sl.due = some k → mfind k (s.b.pch p).act = some (q, 0, fx) →
      found = .clean ∨ found = .corrected →
      ∃ t, exec (.hbmCommandPick p sl found) s = .next t ∧ mfind k (t.b.pch p).act = some (q, 1, fx || (found == .corrected && !q.write)) ∧ Frame s t []) ∧
    (∀ p sl found k q, p < 64 → s.b.regN 0x1805 0 = 2 → sl.due = some k → mfind k (s.b.pch p).act = some (q, 1, false) → q.port ≠ 12 → q.dma = none →
      q.write = true → found ≠ .command →
      ∃ t, exec (.hbmCommandPick p sl found) s = .next t ∧ mfind k (t.b.pch p).act = none ∧
        t.b.bytes (q.unit * 64 + q.off) (q.data.take q.len).length = q.data.take q.len ∧
        (∀ a, a < q.unit * 64 + q.off ∨ q.unit * 64 + q.off + (q.data.take q.len).length ≤ a → t.b.byte a = s.b.byte a) ∧
        .memRsp q.port true [] ∈ t.b.out ∧ KeepsRegs s.b t.b [0x180C] ∧ t.clk = s.clk ∧ t.pending = s.pending) ∧
    (∀ p sl found k q fx, p < 64 → s.b.regN 0x1805 0 = 2 → sl.due = some k → mfind k (s.b.pch p).act = some (q, 1, fx) → q.port ≠ 12 → q.dma = none →
      q.write = false → found = .clean ∨ found = .corrected →
      ∃ t, exec (.hbmCommandPick p sl found) s = .next t ∧ mfind k (t.b.pch p).act = none ∧
        ((q.agent ≠ .cores ∨ q.port ≠ corePort ∨ q.cached = false) →
          .memRsp q.port true (s.b.heldBytes (q.unit * 64 + q.off) q.len) ∈ t.b.out) ∧
        (q.agent = .cores → q.port = corePort → q.cached = true →
          .memRsp q.port true ((upFrom (q.unit * 64 + q.off) q.len).map s.b.snoop) ∈ t.b.out) ∧
        (fx = true ∨ found = .corrected → t.b.regN 0x1810 (p + 1) = (s.b.regN 0x1810 (p + 1) + 1) % 2 ^ 32 ∧ t.b.regN 0x1812 0 = q.unit * 64) ∧
        Frame s t [0x180C, 0x1810, 0x1812]) ∧
    (∀ p sl k q, p < 64 → s.b.regN 0x1805 0 = 2 → sl.due = some k → mfind k (s.b.pch p).act = some (q, 1, false) → q.port = 12 →
      (∃ t, exec (.hbmCommandPick p sl .clean) s = .next t ∧ mfind k (t.b.pch p).act = none ∧
        (q.buffer = 1 → ∀ r ∈ t.b.hbm.repair, r.1 ≠ q.unit) ∧ Frame s t []) ∧
      (q.write = false → ∃ t, exec (.hbmCommandPick p sl .corrected) s = .next t ∧ mfind k (t.b.pch p).act = some (q, 2, true) ∧
        t.b.regN 0x1810 (p + 1) = (s.b.regN 0x1810 (p + 1) + 1) % 2 ^ 32 ∧ Frame s t [0x1810, 0x1812])) ∧
    (∀ p sl found k q n fx, p < 64 → s.b.regN 0x1805 0 = 2 → sl.due = some k → mfind k (s.b.pch p).act = some (q, n, fx) → 4 ≤ n → found ≠ .command →
      ∃ t, exec (.hbmCommandPick p sl found) s = .next t ∧ mfind k (t.b.pch p).act = none ∧
        t.b.regN 0x181A 0 = (s.b.regN 0x181A 0 + 1) % 2 ^ 32 ∧ Frame s t [0x181A]) ∧
    (∀ p, p < 64 → s.b.regN 0x1805 0 = 2 → (s.b.pch p).quiet = true ∨ 8 ≤ mgetD 0 (s.b.pch p).refPtr (s.b.pch p).owed →
      ∃ t, exec (.refreshDue p) s = .next t ∧ (t.b.pch p).refPtr = ((s.b.pch p).refPtr + 1) % 48 ∧ (t.b.pch p).owed = (s.b.pch p).owed ∧ Frame s t []) ∧
    (∀ p, p < 64 → s.b.regN 0x1805 0 = 2 → (s.b.pch p).quiet = false → mgetD 0 (s.b.pch p).refPtr (s.b.pch p).owed < 8 →
      ∃ t, exec (.refreshDue p) s = .next t ∧ (t.b.pch p).refPtr = ((s.b.pch p).refPtr + 1) % 48 ∧
        mgetD 0 (s.b.pch p).refPtr (t.b.pch p).owed = mgetD 0 (s.b.pch p).refPtr (s.b.pch p).owed + 1 ∧
        (s.b.readPanic = true → (s.b.pch p).refPtr ∈ (t.b.pch p).held) ∧ Frame s t []) ∧
    (∀ n, s.b.regN 0x1805 0 = 2 → n = Nat.max 1 s.b.assignedUnits →
      ∃ t, exec (.rakeRead .clean) s = .next t ∧ t.b.hbm.rake = (s.b.hbm.rake + 1) % n ∧
        t.b.regN 0x1819 0 = (s.b.hbm.rake + 1) % n * 1000 / n ∧ Frame s t [0x1819]) ∧
    (∀ u k a, (u, k, a) ∈ s.b.hbm.repair → s.env.after k 1000000 = true →
      ∃ t, exec (.repairEntryAged u) s = .next t ∧ (u, k, true) ∈ t.b.hbm.repair ∧ Frame s t []) ∧
    (∀ p k l, p < 3 → k < [48, 12, 4].getD p 0 → l < s.b.regN 0x1809 (p + 1) → (p, k) ∉ s.b.hbm.panic →
      ∃ t, exec (.bufferPanic p k l) s = .next t ∧ (p, k) ∈ t.b.hbm.panic ∧
        t.b.regN 0x180B (p + 1) = (s.b.regN 0x180B (p + 1) + 1) % 2 ^ 32 ∧ Frame s t [0x180B]) ∧
    (∀ p k l, p < 3 → k < [48, 12, 4].getD p 0 → s.b.regN 0x1809 (p + 1) + 10 ≤ l →
      ∃ t, exec (.bufferPanic p k l) s = .next t ∧ (p, k) ∉ t.b.hbm.panic ∧ Frame s t [])

/-- A channel starts, stops, and runs the instruction it stands at: moves read and then write, loops nest, waits wait, signals signal, END drains; the controllers serve its
requests and answer them, a response returns in the order of issue and no other changes anything, and a fault stops the channel with its code (R385 to R397). -/
def Obligations.ChannelsRun : Prop :=
  ∀ (s : State) (c : Nat), c < 32 →
    (∀ prog, s.b.chState c = chIdle ∨ s.b.chState c = chDone ∨ s.b.chState c = chFault →
      ∃ t, exec (.dmaStart c prog) s = .next t ∧ t.b.chState c = chRunning ∧ (t.b.ch c).pc = prog - prog % 8 ∧ (t.b.ch c).executed = 0 ∧
        (t.b.ch c).reqs = [] ∧ (t.b.ch c).lastWr = (s.b.ch c).lastWr ∧ t.b.reg 0x1903 (c + 1) = 0 ∧ Frame s t [0x1902, 0x1903, 0x1906]) ∧
    (∀ prog, s.b.chState c = chRunning ∨ s.b.chState c = chWaiting ∨ s.b.chState c = chDraining ∨ s.b.chState c = chStopping →
      ∃ t, exec (.dmaStart c prog) s = .next t ∧ (t.b.ch c).refused = true ∧ (t.b.ch c).pc = (s.b.ch c).pc ∧ Frame s t []) ∧
    (s.b.chState c = chRunning ∨ s.b.chState c = chWaiting ∨ s.b.chState c = chDraining →
      ∃ t, exec (.dmaStop c) s = .next t ∧ ((s.b.ch c).reqs ≠ [] → t.b.chState c = chStopping) ∧
        ((s.b.ch c).reqs = [] → t.b.chState c = chIdle ∧ t.b.reg 0x1903 (c + 1) = 1) ∧ Frame s t [0x1902, 0x1903]) ∧
    (∀ src dst n, AtInstr s.b c 1 3 → src = (s.b.ch c).addr (s.b.word c 1) → dst = (s.b.ch c).addr (s.b.word c 2) → n = field (s.b.word c 0) 31 0 →
      (meet src n dst n = false → ∃ t w, exec (.move c) s = .next t ∧ (t.b.ch c).work = some w ∧ w.src = src ∧ w.dst = dst ∧
        t.b.regN 0x1906 (c + 1) = ((s.b.ch c).executed + 1) % 2 ^ 32 ∧ Frame s t [0x1906] ∧
        ((s.b.ch c).reqs.length < 64 → ∃ q ∈ (t.b.ch c).reqs, q.addr = src ∧ q.len = Nat.min (64 - src % 64) n ∧ q.write = false)) ∧
      (meet src n dst n = true → ∃ t, exec (.move c) s = .next t ∧ t.b.chState c = chFault ∧ t.b.reg 0x1903 (c + 1) = 8 ∧ Raised s t 848)) ∧
    (AtInstr s.b c 2 4 → (moveXOf ((upFrom 0 4).map (s.b.word c))).ok = true →
      (∀ a ∈ srcRanges ((upFrom 0 4).map (s.b.word c)), ∀ d ∈ dstRanges ((upFrom 0 4).map (s.b.word c)),
        meet ((s.b.ch c).addr (s.b.word c 1) + a.1) a.2 ((s.b.ch c).addr (s.b.word c 2) + d.1) d.2 = false) →
      ∃ t w, exec (.movex c) s = .next t ∧ (t.b.ch c).work = some w ∧ w.src = (s.b.ch c).addr (s.b.word c 1) ∧ w.dst = (s.b.ch c).addr (s.b.word c 2) ∧
        t.b.regN 0x1906 (c + 1) = ((s.b.ch c).executed + 1) % 2 ^ 32 ∧ Frame s t [0x1906]) ∧
    (AtInstr s.b c 2 4 → (moveXOf ((upFrom 0 4).map (s.b.word c))).ok = false →
      ∃ t, exec (.movex c) s = .next t ∧ t.b.chState c = chFault ∧ t.b.reg 0x1903 (c + 1) = 9 ∧ Raised s t 848) ∧
    (∀ stop, AtInstr s.b c 3 1 → stop = (s.b.ch c).pc + 8 + 8 * field (s.b.word c 0) 15 0 →
      ((s.b.ch c).loops.length < 4 → (∀ f l, (s.b.ch c).loops = f :: l → stop ≤ f.stop) →
        ∃ t, exec (.loop c) s = .next t ∧ (t.b.ch c).pc = (s.b.ch c).pc + 8 ∧
          (t.b.ch c).loops = ⟨(s.b.ch c).pc + 8, stop, field (s.b.word c 0) 47 32, 0⟩ :: (s.b.ch c).loops ∧ Frame s t [0x1906]) ∧
      (4 ≤ (s.b.ch c).loops.length → ∃ t, exec (.loop c) s = .next t ∧ t.b.chState c = chFault ∧ t.b.reg 0x1903 (c + 1) = 7 ∧ Raised s t 848)) ∧
    (∀ w, AtInstr s.b c 4 2 → w = ⟨field (s.b.word c 0) 55 48, s.b.word c 1, field (s.b.word c 0) 9 0, s.env.follow 57, s.clk.tb, false⟩ →
      (s.b.waitMet s.env w = false → ∃ t, exec (.wait c) s = .next t ∧ t.b.chState c = chWaiting ∧ (t.b.ch c).wait = some w ∧ Frame s t [0x1902, 0x1906]) ∧
      (s.b.waitMet s.env w = true → ∃ t, exec (.wait c) s = .next t ∧ t.b.chState c = chRunning ∧
        (t.b.ch c).pc = (loopBack ((s.b.ch c).pc + 16) (s.b.ch c).loops).1 ∧ Frame s t [0x1902, 0x1906])) ∧
    (∀ w, (s.b.ch c).wait = some w → s.b.chState c = chWaiting → s.b.waitMet s.env w = true →
      ∃ t, exec (.dmaWaitMet c) s = .next t ∧ t.b.chState c = chRunning ∧ (t.b.ch c).pc = (loopBack ((s.b.ch c).pc + 16) (s.b.ch c).loops).1 ∧
        Frame s t [0x1902]) ∧
    (AtInstr s.b c 5 1 → (∀ q ∈ (s.b.ch c).reqs, q.write = false) →
      (field (s.b.word c 0) 55 48 = 0 → ∃ t, exec (.signal c) s = .next t ∧ t.b.regN 0x1905 (c + 1) = field (s.b.word c 0) 31 0 ∧ Raised s t (864 + c) ∧
        Frame s t [0x1905, 0x1906]) ∧
      (∀ k, field (s.b.word c 0) 55 48 ≠ 0 → k = field (s.b.word c 0) 37 32 → ∃ t, exec (.signal c) s = .next t ∧
        t.b.regN 0x1908 (k + 1) = (s.b.regN 0x1908 (k + 1) + field (s.b.word c 0) 31 0) % 2 ^ 32 ∧ Frame s t [0x1906, 0x1908])) ∧
    (∀ q, AtInstr s.b c 5 1 → q ∈ (s.b.ch c).reqs → q.write = true → exec (.signal c) s = .next s) ∧
    (AtInstr s.b c 6 1 → ∃ t, exec (.endProg c) s = .next t ∧ Frame s t [0x1902, 0x1903, 0x1906] ∧
      ((s.b.ch c).reqs ≠ [] → t.b.chState c = chDraining) ∧
      ((s.b.ch c).reqs = [] → t.b.chState c = chDone ∧ t.b.reg 0x1903 (c + 1) = 0 ∧ (bit (s.b.word c 0) 0 = true → Raised s t (864 + c)))) ∧
    (∀ p sl k q r id, p < 64 → s.b.regN 0x1805 0 = 2 → sl.due = some k → mfind k (s.b.pch p).act = some (q, 1, false) → q.port ≠ 12 → q.dma = some (c, id) →
      r ∈ (s.b.ch c).reqs → r.id = id →
      ∃ t y, exec (.hbmCommandPick p sl .clean) s = .next t ∧ mfind k (t.b.pch p).act = none ∧ y ∈ (t.b.ch c).reqs ∧ y.id = id ∧ y.ans = some .ok ∧
        (q.write = false → y.data = s.b.dmaRead c (q.unit * 64 + q.off) q.len ∧ (∀ a, t.b.byte a = s.b.byte a)) ∧
        (q.write = true → q.unit * 64 + q.off < sramBase → t.b.bytes (q.unit * 64 + q.off) (q.data.take q.len).length = q.data.take q.len ∧
          (∀ a, a < q.unit * 64 + q.off ∨ q.unit * 64 + q.off + (q.data.take q.len).length ≤ a → t.b.byte a = s.b.byte a)) ∧
        KeepsRegs s.b t.b [0x180C]) ∧
    (∀ id q, (s.b.ch c).reqs.find? (fun r => r.id == id) = some q → (s.b.ch c).behind q = false →
      (q.ans = some .ok → q.write = true → ∃ t, exec (.dmaResponse c id .ok) s = .next t ∧ (t.b.ch c).lastWr = q.addr ∧ Frame s t [0x1902, 0x1903]) ∧
      (q.ans = some .ok → (s.b.ch c).reqs = [q] → (s.b.ch c).work = none → s.b.chState c = chStopping →
        ∃ t, exec (.dmaResponse c id .ok) s = .next t ∧ t.b.chState c = chIdle ∧ t.b.reg 0x1903 (c + 1) = 1 ∧ Frame s t [0x1902, 0x1903]) ∧
      (q.ans = some .memerr → ∃ t, exec (.dmaResponse c id .memerr) s = .next t ∧ t.b.chState c = chFault ∧ t.b.reg 0x1903 (c + 1) = 5 ∧ Raised s t 848) ∧
      (q.ans = some .firewall → ∃ t, exec (.dmaResponse c id .firewall) s = .next t ∧ t.b.chState c = chFault ∧ t.b.reg 0x1903 (c + 1) = 4 ∧
        Raised s t 848)) ∧
    (∀ id q a, (s.b.ch c).reqs.find? (fun r => r.id == id) = some q → (s.b.ch c).behind q = true ∨ q.ans ≠ some a → exec (.dmaResponse c id a) s = .next s) ∧
    (∀ q, q ∈ (s.b.ch c).reqs → (s.b.ch c).wait = none → s.env.after q.tb (s.b.ch c).timeout = true →
      ∃ t, exec (.dmaResponseTimeout c) s = .next t ∧ t.b.chState c = chFault ∧ t.b.reg 0x1903 (c + 1) = 3 ∧ Raised s t 848 ∧
        KeepsRegs s.b t.b [0x1902, 0x1903])

/-! ## The dictionary -/

/-- HELLO reserves a slot and is challenged; a right PROVE within 5 s opens the session with keys of its own, a wrong one is counted against its credential, which the
fifth locks, and one of another version is rejected;
sessions end when they close, are ended or fall silent (R413 to R417). -/
def Obligations.SessionsOpenAndEnd : Prop :=
  ∀ (s : State) (via : Transport) (peer : Bytes),
    (∀ cred idle nc nd slot, s.b.serves via = true → s.b.helloBad s.env via 1 cred = none → s.b.freeSlot = some slot →
      ∃ t h, exec (.hello via peer 1 cred idle nc nd) s = .next t ∧ t.b.dict.hand = s.b.dict.hand ++ [h] ∧ h.slot = slot ∧ h.sid % 8 = slot ∧
        h.cred = cred ∧ h.nc = nc ∧ h.nd = nd ∧ h.idle = (if idle = 0 then 30 else Nat.max 5 (Nat.min 3600 idle)) ∧ h.tb = s.clk.tb ∧
        .rsp h.sid via peer 0 0 (.challenge nd (paramBlock h.sid cred h.idle)) ∈ t.b.out ∧ Frame s t []) ∧
    (∀ v cred idle nc nd code k, s.b.serves via = true → s.b.helloBad s.env via v cred = some (code, k) →
      ∃ t, exec (.hello via peer v cred idle nc nd) s = .next t ∧ .rsp 0 via peer 0 0 (.reject code k) ∈ t.b.out ∧
        t.b.dict.hand = s.b.dict.hand ∧ Frame s t []) ∧
    (∀ sid proof h, s.b.serves via = true → s.b.dict.hand.find? (fun h => h.sid == sid && h.via == via && h.peer == peer) = some h →
      s.env.beyond h.tb 5000000000 = false →
      (hmac (s.b.credOf h.cred).1 (ascii "IDP prove" ++ h.nc ++ h.nd ++ paramBlock sid h.cred h.idle) = proof →
        ∃ t x, exec (.prove via peer 1 sid proof) s = .next t ∧ t.b.sess? h.slot = some x ∧ x.sid = sid ∧ x.cred = h.cred ∧
          x.role = (s.b.credOf h.cred).2 ∧ x.via = via ∧ x.hi = 0 ∧
          x.kc2d = (hkdf (h.nc ++ h.nd) (s.b.credOf h.cred).1 (ascii "IDP keys" ++ paramBlock sid h.cred h.idle) 64).take 32 ∧
          (∀ y ∈ t.b.dict.hand, y.sid ≠ sid) ∧ (h.cred < 32 → t.b.reg 0x0224 (h.cred + 1) = 0 ∧ t.b.reg 0x0226 (h.cred + 1) = 0) ∧
          Raised s t 32 ∧ (h.cred < 32 ∨ h.cred = 255 → Frame s t [0x0224, 0x0226])) ∧
      (hmac (s.b.credOf h.cred).1 (ascii "IDP prove" ++ h.nc ++ h.nd ++ paramBlock sid h.cred h.idle) ≠ proof → h.cred < 32 →
        ∃ t, exec (.prove via peer 1 sid proof) s = .next t ∧ t.b.regN 0x0224 (h.cred + 1) = s.b.regN 0x0224 (h.cred + 1) + 1 ∧ Raised s t 34 ∧
          .rsp sid via peer 0 0 (.reject 4 0) ∈ t.b.out ∧ Frame s t [0x0224] ∧
          (s.b.regN 0x0224 (h.cred + 1) = 4 → Raised s t 35 ∧
            mfind h.cred t.b.dict.lockEnd = some (s.clk.tb + 60 * 2 ^ s.b.regN 0x0226 (h.cred + 1) * 500000000)))) ∧
    (∀ v sid proof h, v ≠ 1 → s.b.serves via = true → s.b.dict.hand.find? (fun h => h.sid == sid && h.via == via && h.peer == peer) = some h →
      ∃ t, exec (.prove via peer v sid proof) s = .next t ∧ .rsp sid via peer 0 0 (.reject 6 0) ∈ t.b.out ∧ (∀ y ∈ t.b.dict.hand, y.sid ≠ sid) ∧
        Frame s t []) ∧
    (∀ h, h ∈ s.b.dict.hand → s.env.beyond h.tb 5000000000 = true →
      ∃ t, exec (.handshakeExpiry h.sid) s = .next t ∧ h ∉ t.b.dict.hand ∧ Frame s t []) ∧
    (∀ c k, c < 32 → mfind c s.b.dict.lockEnd = some k → k ≤ s.clk.tb →
      ∃ t, exec (.lockoutExpiry c) s = .next t ∧ mfind c t.b.dict.lockEnd = none ∧ t.b.reg 0x0224 (c + 1) = 0 ∧
        t.b.regN 0x0226 (c + 1) = Nat.min 6 (s.b.regN 0x0226 (c + 1) + 1) ∧ Frame s t [0x0224, 0x0226]) ∧
    (∀ c k, c < 32 → mfind c s.b.dict.lastFail = some k → s.env.after k 86400000000000 = true →
      ∃ t, exec (.lockLevelReset c) s = .next t ∧ t.b.reg 0x0226 (c + 1) = 0 ∧ Frame s t [0x0226]) ∧
    (∀ n x, s.b.sess? n = some x → s.env.after x.last (x.idle * 1000000000) = true →
      ∃ t, exec (.sessionIdleTimeout n) s = .next t ∧ t.b.sess? n = none ∧ Raised s t 33 ∧ KeepsMemory s t) ∧
    (∀ r x n, Grants s r 0x0206 (n + 1) (.n 1) x → (s.b.sess? n).isSome = true →
      ∃ t k, exec (.sessEndWrite r n) s = .next t ∧ .rsp x.sid x.via x.peer k r.seq (wrote stOK) ∈ t.b.out ∧ t.b.sess? n = none ∧ Raised s t 33 ∧
        KeepsMemory s t) ∧
    (∀ r x body, Takes s r 0x3F body x →
      ∃ t k, exec (.close r body) s = .next t ∧ .rsp x.sid x.via x.peer k r.seq (.echo true body) ∈ t.b.out ∧ t.b.sess? (r.sid % 8) = none ∧
        Raised s t 33 ∧ KeepsMemory s t) ∧
    (∀ r x body, Takes s r 0x3E body x → ∃ t, exec (.keepalive r body) s = .next t ∧ Answered t r (.echo false body) ∧ Frame s t [])

/-- Entries are read, described and written by their own rules; event sources are configured and their status cleared; credentials change;
operations are suspended, resumed and cancelled, and a cancel ends with the step that runs (R403, R404, R411, R417 to R419, R427, R428, R431 to R433). -/
def Obligations.EntriesAreReadAndWritten : Prop :=
  ∀ (s : State) (r : Req) (x : Session) (idx sub : Nat),
    (∀ count, Takes s r 0x10 (readBody idx sub count) x → lookup idx sub = none → 1 ≤ count → count ≤ 64 →
      ∃ t, exec (.read r idx sub count) s = .next t ∧ Answered t r (.read stNoEntry []) ∧ Frame s t []) ∧
    (Takes s r 0x10 (readBody idx sub 1) x → (lookup idx sub).isSome = true → 1 ≤ sub ∨ lookup idx 1 = none →
      idx ∈ [0x010F, 0x0110, 0x0803, 0x0807, 0x0831, 0x0A05, 0x0A30, 0x0A31, 0x0E05, 0x101A, 0x1210, 0x1211, 0x1301, 0x1303, 0x1304, 0x1305,
        0x1306, 0x1307, 0x1410, 0x1412, 0x1414, 0x1430, 0x1509, 0x150A, 0x150B, 0x150E, 0x150F, 0x1809, 0x180A, 0x1813, 0x1818, 0x1900, 0x1901,
        0x1D05, 0x1D06, 0x1D07] →
      ∃ t, exec (.read r idx sub 1) s = .next t ∧ Answered t r (.read stOK [(tyOf idx sub, false, .n (s.b.reg idx sub))]) ∧ Frame s t []) ∧
    (∀ v, Grants s r 0x1410 sub (.n v) x →
      ∃ t, exec (.write r 0x1410 sub (tyOf 0x1410 sub) (.n v)) s = .next t ∧ Answered t r (wrote stOK) ∧ t.b.reg 0x1410 sub = v ∧
        ((s.b.pan (sub - 1)).queue = [] → Frame s t [0x1410]) ∧ KeepsMemory s t) ∧
    (∀ v, Grants s r idx sub (.n v) x →
      idx ∈ [0x010F, 0x0110, 0x0803, 0x0807, 0x0831, 0x0A05, 0x0A30, 0x0A31, 0x0E05, 0x101A, 0x1210, 0x1211, 0x1301, 0x1303, 0x1304, 0x1305,
        0x1306, 0x1307, 0x1412, 0x1414, 0x1430, 0x1509, 0x150A, 0x150B, 0x150E, 0x150F, 0x1809, 0x180A, 0x1813, 0x1818, 0x1900, 0x1901,
        0x1D05, 0x1D06, 0x1D07] →
      ∃ t, exec (.write r idx sub (tyOf idx sub) (.n v)) s = .next t ∧ Answered t r (wrote stOK) ∧ t.b.reg idx sub = v ∧ Frame s t [idx]) ∧
    (∀ v, Grants s r idx sub (.n v) x → idx ∈ [0x0C58, 0x1203, 0x1800, 0x1A00] →
      ∃ t, exec (.write r idx sub (tyOf idx sub) (.n v)) s = .next t ∧ Answered t r (wrote stOK) ∧ t.b.reg idx sub = v ∧
        t.b.force idx sub = s.b.force idx sub ∧ Frame s t [idx]) ∧
    (Takes s r 0x14 (describeBody idx sub) x → ∃ t, exec (.describe r idx sub) s = .next t ∧ Answered t r (s.b.describeRsp idx sub) ∧ Frame s t []) ∧
    (∀ n v : Nat, n < 1024 → Grants s r (0x0300 + n / 128) (n % 128 + 1) (.n (v : Nat)) x → field (evtConfigDefault n) 27 26 ≠ 3 →
      field v 27 26 ≠ 3 → field v 25 20 = field (s.b.evCfg n) 25 20 ∨ x.role = 3 →
      ∃ t, exec (.evtConfigWrite r n v) s = .next t ∧ Answered t r (wrote stOK) ∧ t.b.evCfg n = v ∧ Frame s t [0x0300 + n / 128]) ∧
    (∀ n v st : Nat, n < 1024 → Grants s r (0x0308 + n / 128) (n % 128 + 1) (.n (v : Nat)) x → st = s.b.regN (0x0308 + n / 128) (n % 128 + 1) →
      (r.via = .mailbox → n ∉ [38, 39, 40]) →
      ∃ t, exec (.evtStatusWrite r n v) s = .next t ∧ Answered t r (wrote stOK) ∧ Frame s t [] ∧
        t.b.regN (0x0308 + n / 128) (n % 128 + 1) = (if bit v 31 then 0 else st / 2 ^ 31 * 2 ^ 31) + (if bit v 0 then 0 else st % 65536)) ∧
    (∀ v, ∃ t, exec (.linePendingWrite v) s = .next t ∧ t.b.ev.linePending = s.b.ev.linePending - Nat.land s.b.ev.linePending v ∧ Frame s t []) ∧
    (∀ c w k, c < 32 → Grants s r 0x0223 (c + 1) (.b w) x → w.length = 32 → x.cred ≠ c →
      k = (w.zip (hkdf [] x.kc2d (ascii "IDP wrap" ++ be 1 c ++ be 4 r.seq) 32)).map (fun p => p.1 ^^^ p.2) → k ≠ List.replicate 32 0 →
      ∃ t, exec (.credKeyWrite r c w) s = .next t ∧ Answered t r (wrote stOK) ∧ mfind c t.b.dict.keys = some k ∧
        t.b.regN 0x0227 (c + 1) = s.env.wt ∧ Raised s t 37 ∧ KeepsMemory s t) ∧
    (∀ c v, c < 32 → idx = 0x0220 ∨ idx = 0x0221 → Grants s r idx (c + 1) (.n (v : Nat)) x → x.cred ≠ c →
      (s.b.custodians = [] ∨ (s.b.setReg idx (c + 1) (v : Nat)).custodians ≠ [] →
        ∃ t, exec (.credWrite r idx c v) s = .next t ∧ Answered t r (wrote stOK) ∧ t.b.regN idx (c + 1) = v ∧ Raised s t 37 ∧ KeepsMemory s t) ∧
      (s.b.custodians ≠ [] → (s.b.setReg idx (c + 1) (v : Nat)).custodians = [] →
        ∃ t, exec (.credWrite r idx c v) s = .next t ∧ Answered t r (wrote stLastCustodian) ∧ Frame s t [])) ∧
    (idx ∈ [0x0410, 0x0411, 0x0415, 0x0416] → Grants s r idx 1 (.n 2) x → s.b.opState idx = 1 →
      ∃ t, exec (.opSuspend r idx) s = .next t ∧ Answered t r (wrote stOK) ∧ t.b.opState idx = 2 ∧ Frame s t [idx]) ∧
    (idx ∈ [0x0412, 0x0413, 0x0414, 0x0417, 0x0418, 0x0419, 0x041A, 0x041B] → Grants s r idx 1 (.n 2) x → s.b.opState idx = 1 →
      ∃ t, exec (.opSuspend r idx) s = .next t ∧ Answered t r (wrote stNoSuspend) ∧ Frame s t []) ∧
    (0x0410 ≤ idx → idx ≤ 0x041B → Grants s r idx 1 (.n 3) x → s.b.opState idx = 2 →
      ∃ t, exec (.opResume r idx) s = .next t ∧ Answered t r (wrote stOK) ∧ t.b.opState idx = 1 ∧ Frame s t [idx]) ∧
    (idx ∈ [0x0410, 0x0411, 0x0415, 0x0416, 0x0417] → Grants s r idx 1 (.n 4) x → s.b.opState idx = 1 →
      ∃ t, exec (.opCancel r idx) s = .next t ∧ Answered t r (wrote stOK) ∧ t.b.opState idx = 3 ∧ Frame s t [idx]) ∧
    (idx ∈ [0x0410, 0x0411, 0x0415, 0x0416] → Grants s r idx 1 (.n 4) x → s.b.opState idx = 2 →
      ∃ t, exec (.opCancel r idx) s = .next t ∧ Answered t r (wrote stOK) ∧ t.b.opState idx = 5 ∧ t.b.regN idx 4 = stCancelled ∧ Raised s t 42 ∧
        KeepsRegs s.b t.b [idx, 0x1000, 0x1012]) ∧
    (idx ∈ [0x0413, 0x0414] → Grants s r idx 1 (.n 4) x → s.b.opState idx = 1 →
      ∃ t, exec (.opCancel r idx) s = .next t ∧ Answered t r (wrote stOK) ∧
        (t.b.opState idx = 3 ∨ t.b.opState idx = 5 ∧ t.b.regN idx 4 = stCancelled) ∧ KeepsRegs s.b t.b [idx, 0x130B]) ∧
    (∀ c, (idx, c) ∈ [(0x0410, Instr.corrLoadComplete), (0x0411, .mapLoadComplete), (0x0415, .reckonComplete), (0x0416, .doseExportComplete),
        (0x0417, .doseImportComplete), (0x041B, .siReckonComplete)] → s.b.opState idx = 3 →
      ∃ t, exec c s = .next t ∧ t.b.opState idx = 5 ∧ t.b.regN idx 4 = stCancelled ∧ Raised s t 42 ∧
        KeepsRegs s.b t.b [idx, 0x1000, 0x1012, 0x1500]) ∧
    (∀ y, Grants s r 0x041B 1 (.n 4) x → s.b.opState 0x041B = 1 → s.b.si.run = some y →
      (y.wrote = false → ∃ t, exec (.opCancel r 0x041B) s = .next t ∧ Answered t r (wrote stOK) ∧ t.b.opState 0x041B = 3 ∧ Frame s t [0x041B]) ∧
      (y.wrote = true → ∃ t, exec (.opCancel r 0x041B) s = .next t ∧ Answered t r (wrote stTooLate) ∧ Frame s t [])) ∧
    (idx ∈ [0x0418, 0x0419, 0x041A] → Grants s r idx 1 (.n 4) x → s.b.opState idx = 1 ∨ s.b.opState idx = 2 →
      ∃ t, exec (.opCancel r idx) s = .next t ∧ Answered t r (wrote stTooLate) ∧ Frame s t [])

/-- A transfer opens, moves its segments in a window, is acknowledged, retransmitted, closed or timed out; records gathered leave as a NOTIFY, repeated until acknowledged;
the mailbox rings carry the same messages (R420, R422 to R425, R435). -/
def Obligations.TransfersAndNotificationsFlow : Prop :=
  ∀ (s : State) (r : Req) (x : Session) (a : Body), a = s.b.setSess (r.sid % 8) (x.accept r.seq s.clk.tb) →
    (∀ idx sub len, Takes s r 0x20 (blobOpenBody idx sub 0 len) x → a.openWriteBad (r.sid % 8) idx sub = stOK →
      ∃ t y, exec (.blobOpen r idx sub 0 len) s = .next t ∧ Answered t r (.blobOpen stOK s.b.nextTid len) ∧ t.b.sess? (r.sid % 8) = some y ∧
        y.wr = some ⟨s.b.nextTid, idx, sub, len, [], [], 0, 0, s.clk.tb, []⟩ ∧ Frame s t []) ∧
    (∀ idx sub len v, Takes s r 0x20 (blobOpenBody idx sub 1 len) x → a.snapshot (r.sid % 8) idx sub = .inr v →
      ∃ t, exec (.blobOpen r idx sub 1 len) s = .next t ∧ Answered t r (.blobOpen stOK s.b.nextTid v.length) ∧ Frame s t [] ∧
        (v ≠ [] → .blobData x.sid s.b.nextTid 0 (v.take 1024) ∈ t.b.out)) ∧
    (∀ w tid d, Takes s r 0x22 (be 2 tid ++ be 8 w.done ++ be 2 d.length ++ d) x → x.wr = some w → w.tid = tid → w.done % 1024 = 0 →
      1 ≤ d.length → d.length ≤ 1024 → isStreamed w.idx = false → w.segs = [] →
      ∃ t y z, exec (.blobData r tid w.done d) s = .next t ∧ t.b.sess? (r.sid % 8) = some y ∧ y.wr = some z ∧ z.data = w.data ++ d ∧
        z.done = w.done + d.length ∧ .blobAck x.sid tid stOK (w.done + d.length) ∈ t.b.out ∧ Frame s t []) ∧
    (∀ w tid crc, Takes s r 0x24 (be 2 tid ++ be 4 crc) x → x.wr = some w → w.tid = tid → isStreamed w.idx = false →
      w.data.length ≠ w.len ∨ crc32c w.data ≠ crc →
      ∃ t y, exec (.blobClose r tid crc) s = .next t ∧ Answered t r (.blobClose stBlob) ∧ t.b.sess? (r.sid % 8) = some y ∧ y.wr = none ∧ Frame s t []) ∧
    (∀ w tid crc k, Takes s r 0x24 (be 2 tid ++ be 4 crc) x → x.wr = some w → w.tid = tid → k < 2 → w.idx = 0x1010 + k →
      s.b.devState ≠ devFrozen → (s.b.brought w).length = w.len → crc32c (s.b.brought w) = crc → s.b.opState (loadOp k) = 1 →
      ∃ t y, exec (.blobClose r tid crc) s = .next t ∧ Answered t r (.blobClose stOK) ∧ t.b.sess? (r.sid % 8) = some y ∧ y.wr = none ∧
        t.b.load k = ⟨s.b.brought w, true⟩ ∧ Frame s t []) ∧
    (∀ w tid, Takes s r 0x23 (be 2 tid ++ be 2 0 ++ be 8 w.len) x → x.rd = some w → w.tid = tid → w.done < w.len → w.len ≤ w.sent →
      ∃ t y, exec (.blobAck r tid 0 w.len) s = .next t ∧ t.b.sess? (r.sid % 8) = some y ∧ y.rd = none ∧ Frame s t []) ∧
    (∀ n y w off k, s.b.sess? n = some y → y.rd = some w → mfind off w.air = some k → s.env.after k 100000000 = true →
      ∃ t, exec (.blobReadRetransmit n) s = .next t ∧ .blobData y.sid w.tid off (w.segAt off) ∈ t.b.out ∧ Frame s t []) ∧
    (∀ n y w, s.b.sess? n = some y → y.rd = some w → s.env.after w.tb 10000000000 = true →
      ∃ t z, exec (.blobTransferTimeout n 1) s = .next t ∧ t.b.sess? n = some z ∧ z.rd = none ∧ Frame s t []) ∧
    (∀ n y w, s.b.sess? n = some y → y.wr = some w → isStreamed w.idx = false → s.env.after w.tb 10000000000 = true →
      ∃ t z, exec (.blobTransferTimeout n 0) s = .next t ∧ t.b.sess? n = some z ∧ z.wr = none ∧ .blobAck y.sid w.tid stBlob w.done ∈ t.b.out ∧
        Frame s t []) ∧
    (∀ n y k, s.b.sess? n = some y → y.gatherTb = some k → s.env.after k 1000000 = true → y.gather ≠ [] →
      ∃ t z, exec (.notifyGatherExpiry n) s = .next t ∧ .notify y.sid (y.tx + 1) y.lost (y.gather.take 32) ∈ t.b.out ∧ t.b.sess? n = some z ∧
        z.sent = y.sent ++ [⟨y.tx + 1, y.lost, y.gather.take 32, 0, s.clk.tb⟩] ∧ Frame s t []) ∧
    (∀ n, Takes s r 0x31 (be 4 n) x → ∃ t y, exec (.notifyAck r n) s = .next t ∧ t.b.sess? (r.sid % 8) = some y ∧ (∀ k ∈ y.sent, k.nseq ≠ n) ∧ Frame s t []) ∧
    (∀ n y k m, s.b.sess? n = some y → y.sent.find? (fun v => v.nseq == k) = some m → s.env.after m.tb 100000000 = true →
      (m.tries < 3 → ∃ t, exec (.notifyRetransmit n k) s = .next t ∧ .notify y.sid k m.lost m.recs ∈ t.b.out ∧ Frame s t []) ∧
      (3 ≤ m.tries → ∃ t z, exec (.notifyRetransmit n k) s = .next t ∧ t.b.sess? n = some z ∧ (∀ v ∈ z.sent, v.nseq ≠ k) ∧ Raised s t 38 ∧ Frame s t [])) ∧
    (∀ p, s.b.serves .mailbox = false → ∃ t, exec (.mailboxDoorbell p) s = .next t ∧
      (∀ m ms, p.msgs = m :: ms → s.b.mbox.waiting < 16 → m.length < 1535 → t.b.mbox.message s.b.mbox.tdWrite = m) ∧
      (s.b.mbox.waiting ≤ 16 → t.b.mbox.waiting = Nat.min 16 (s.b.mbox.waiting + p.msgs.length)) ∧ t.b.mbox.tdRead = s.b.mbox.tdRead ∧ Frame s t []) ∧
    (∀ p, s.b.serves .mailbox = true → s.b.mbox.waiting ≤ 16 → ∃ t, exec (.mailboxDoorbell p) s = .next t ∧ t.b.mbox.waiting = 0) ∧
    (∀ v n, s.b.mbox.held = [] → n = Nat.min ((v + 2 ^ 32 - s.b.mbox.fdRead % 2 ^ 32) % 2 ^ 32) (s.b.mbox.fdWrite - s.b.mbox.fdRead) →
      ∃ t, exec (.mailboxFdRead v) s = .next t ∧ t.b.mbox.fdRead = s.b.mbox.fdRead + n ∧ t.b.mbox.fdRing = s.b.mbox.fdRing.drop n ∧ Frame s t [])

/-! ## The pairing link -/

/-- STATUS and TIME leave as they are due, and are taken as they come; what is not acknowledged leaves again; a gap, a missing LATCH or an offset held too long
ends following, and silence takes the link down (R452, R453, R455, R457). The offset's unit and formula rest on the reading of log entry 65. -/
def Obligations.PairLinkIsSupervised : Prop :=
  ∀ (s : State) (h : PairHdr),
    (s.b.pairHears = true →
      ∃ t, exec .pairStatusSend s = .next t ∧ Frame s t [] ∧ t.b.out = s.b.out ++ [.pair (pairFrame 0 s.b.isActive s.env.pairTime
        (.status s.b.pairState s.b.devState (s.b.regN 0x1A10 0) (s.b.regN 0x1A03 0) (s.b.regN 0x0981 0) s.b.rxHighest))]) ∧
    (∀ p : Nat × Nat, s.b.pairHears = true → s.b.pair.timeRx.getD (0, 0) = p →
      ∃ t, exec .pairTimeSend s = .next t ∧ Frame s t [] ∧
        t.b.out = s.b.out ++ [.pair (pairFrame 0 s.b.isActive s.env.pairTime (.time p.1 p.2 s.env.pairTime 0))]) ∧
    (s.b.pairHears = false → exec .pairStatusSend s = .next s ∧ exec .pairTimeSend s = .next s ∧
      (∀ ps dev dbt ep la hi : Nat, exec (.status h ps dev dbt ep la hi) s = .next s) ∧ (∀ hi, exec (.ack h hi) s = .next s) ∧
      ∀ t1 t2 t3 t4, exec (.time h t1 t2 t3 t4) s = .next s) ∧
    (∀ ps dev dbt ep la hi : Nat, s.b.pairHears = true →
      ∃ t, exec (.status h ps dev dbt ep la hi) s = .next t ∧ t.b.regN 0x1A04 0 = ps ∧ t.b.reg 0x1A05 0 = 1 ∧ t.b.pair.twinDev = dev ∧
        t.b.pair.twinDoubt = dbt ∧ t.b.pair.twinEpoch = ep ∧ t.b.pair.twinLatched = la ∧ Frame s t [0x1A02, 0x1A04, 0x1A05, 0x1A0D, 0x0E0A] ∧
        (ps = pairActive → s.b.pairState = pairSeeking → s.b.mayPair = true → t.b.pairState = pairJoining) ∧
        (dbt ≠ 0 → s.b.pair.twinDoubt = 0 → Raised s t 900)) ∧
    (∀ hi, s.b.pairHears = true → s.b.pair.backlog = [] →
      (s.b.pairState ≠ pairActive ∨ s.b.pair.snapOut ≠ 1 →
        ∃ t, exec (.ack h hi) s = .next t ∧ t.b.reg 0x1A05 0 = 1 ∧ Frame s t [0x1A05] ∧
          ∀ m, m ∈ t.b.pair.unacked ↔ m ∈ s.b.pair.unacked ∧ 0 < Int.bmod ((m.seq : Int) - hi) (2 ^ 32)) ∧
      (s.b.pairState = pairActive → s.b.pair.snapOut = 1 → s.b.regN 0x1A04 0 = pairJoining → (∀ m ∈ s.b.pair.unacked, Int.bmod ((m.seq : Int) - hi) (2 ^ 32) ≤ 0) →
        ∃ t n, exec (.ack h hi) s = .next t ∧ t.b.regN 0x1A0D 0 = n ∧
          .pair (pairFrame s.b.pair.txSeq true s.env.pairTime (.join n)) ∈ t.b.out ∧
          Frame s t [0x1A05, 0x1A0D])) ∧
    (∀ (t1 t2 t3 t4 : Nat) (off : Int), s.b.pairHears = true → t1 ≠ 0 ∨ t2 ≠ 0 → off = 2 * (tdiff t2 t1 + tdiff t3 (s.env.pairTime : Nat)) →
      ∃ t, exec (.time h t1 t2 t3 t4) s = .next t ∧ t.b.pair.timeRx = some (t3, s.env.pairTime) ∧ KeepsMemory s t ∧
        (s.b.follows = false → t.b.reg 0x1A07 0 = clampI (-2147483648) 2147483647 off ∧ Frame s t [0x1A05, 0x1A07]) ∧
        (s.b.follows = true → s.b.tu.changes = [] → (off.natAbs : Int) ≤ s.env.wt → (t.b.reg 0x1A07 0).natAbs ≤ 16) ∧ (s.b.follows = true → 80 < off.natAbs → t.b.pair.offBad.isSome = true) ∧
        (s.b.follows = true → off.natAbs ≤ 80 → t.b.pair.offBad = none)) ∧
    (∀ t3 t4 : Nat, s.b.pairHears = true →
      ∃ t, exec (.time h 0 0 t3 t4) s = .next t ∧ t.b.pair.timeRx = some (t3, s.env.pairTime) ∧ Frame s t [0x1A05]) ∧
    (∀ cause, InTurn s h → s.b.pairState ≠ pairStandby → s.b.pairState ≠ pairOut → s.b.pair.commits = [] →
      ∃ t, exec (.demote h cause) s = .next t ∧ t.b.pair.twinDoubt = cause ∧ Frame s t [0x1A05, 0x0E0A] ∧ (s.b.pair.twinDoubt = 0 → Raised s t 900)) ∧
    (∀ q m, s.b.pair.unacked.find? (fun x => x.seq == q) = some m → s.env.after m.tb 20000 = true →
      ∃ t, exec (.pairRetransmit q) s = .next t ∧ t.b.out = s.b.out ++ [.pair (pairFrame q s.b.isActive s.env.pairTime m.msg)] ∧ Frame s t []) ∧
    (∀ q m, s.b.pair.unacked.find? (fun x => x.seq == q) = some m → s.env.after m.tb 20000 = false → exec (.pairRetransmit q) s = .next s) ∧
    (s.env.after s.b.pair.lastRx 150000 = false → exec .pairLinkDown s = .next s) ∧
    (s.env.after s.b.pair.lastRx 150000 = true → s.b.regN 0x1A05 0 ≠ 0 → s.b.pair.commits = [] →
      ∃ t, exec .pairLinkDown s = .next t ∧ t.b.reg 0x1A05 0 = 0 ∧ Raised s t 899 ∧ KeepsMemory s t) ∧
    (∀ k, s.b.pair.gap = some k → s.env.after k 100000 = true → s.b.follows = true → s.b.pair.commits = [] →
      ∃ t, exec .pairGapTimeout s = .next t ∧ t.b.pairState = pairOut ∧ Raised s t 902 ∧ KeepsMemory s t) ∧
    (∀ n k, s.b.pair.latchWait = some (n, k) → s.env.after k 100000 = true → s.b.latchRec n = none → s.b.follows = true → s.b.pair.commits = [] →
      ∃ t, exec .latchMissingTimeout s = .next t ∧ t.b.pairState = pairOut ∧ Raised s t 902 ∧ KeepsMemory s t) ∧
    (∀ k, s.b.pair.offBad = some k → s.env.after k 10000000 = true → s.b.follows = true → s.b.pair.commits = [] →
      ∃ t, exec .clockOffsetTimeout s = .next t ∧ t.b.pairState = pairOut ∧ Raised s t 907 ∧ KeepsMemory s t)

/-- ACTIVE_N released, a DEMOTE of the active unit or, for a unit that seeks, ACTIVE_N free for long enough make a fit unit active; ACTIVE_N high while it is
driven low is told; `pair.switch` names the sub-frame of a hand-over (R446, R448, R460, R461, R463, R464). -/
def Obligations.UnitsArePromoted : Prop :=
  ∀ (s : State) (h : PairHdr),
    (s.b.activeLow = false → s.b.pairState = pairSeeking ∨ s.b.pairState = pairJoining →
      ∃ t, exec .activeNReleased s = .next t ∧ t.b.pair.released = some s.clk.tb ∧ Frame s t []) ∧
    (s.b.activeLow = false → s.b.pairState = pairStandby ∨ s.b.pairState = pairOut → s.b.devState ≠ devSafe → s.b.devState ≠ devFrozen →
      s.b.regN 0x1A10 0 = 0 → s.b.pair.commits = [] →
      ∃ t, exec .activeNReleased s = .next t ∧ t.b.pairState = pairActive ∧ t.b.pair.drive = true ∧ Raised s t 897) ∧
    (∀ cause, InTurn s h → s.b.pairState = pairStandby ∨ s.b.pairState = pairOut → s.b.devState ≠ devSafe → s.b.devState ≠ devFrozen →
      s.b.regN 0x1A10 0 = 0 → s.b.pair.commits = [] →
      ∃ t, exec (.demote h cause) s = .next t ∧ t.b.pairState = pairActive ∧ t.b.pair.twinDoubt = cause) ∧
    (∀ k, s.b.pair.released = some k → s.b.pairState = pairSeeking → s.b.mayPair = true → s.b.dev.role = 0 ∨ s.env.after k 1000000000 = true →
      s.b.pair.commits = [] →
      ∃ t, exec .seekingActive s = .next t ∧ t.b.pairState = pairActive ∧ t.b.pair.drive = true ∧ Raised s t 897) ∧
    (s.b.pair.released = none ∨ s.b.pairState ≠ pairSeeking ∨ s.b.mayPair = false → exec .seekingActive s = .next s) ∧
    (s.b.activeLow = true → ∃ t, exec .splitBrainSensed s = .next t ∧ Raised s t 905 ∧ Frame s t []) ∧
    (∀ r x n, Grants s r 0x1A06 0 (.n 1) x → s.b.pairState = pairActive → s.b.regN 0x1A04 0 = pairStandby →
      s.b.firstConfirm ((s.env.wt : Int) + 1000000) = some n →
      ∃ t, exec (.pairSwitch r) s = .next t ∧ Answered t r (wrote stOK) ∧ t.b.pair.handover = some n ∧ Frame s t []) ∧
    (∀ r x, Grants s r 0x1A06 0 (.n 1) x → s.b.pairState = pairActive → s.b.regN 0x1A04 0 = pairStandby →
      s.b.firstConfirm ((s.env.wt : Int) + 1000000) = none →
      ∃ t, exec (.pairSwitch r) s = .next t ∧ Answered t r (wrote stState) ∧ t.b.pair.handover = s.b.pair.handover ∧ Frame s t []) ∧
    (∀ r x, Grants s r 0x1A06 0 (.n 1) x → s.b.pairState = pairActive → s.b.regN 0x1A04 0 ≠ pairStandby →
      ∃ t, exec (.pairSwitch r) s = .next t ∧ Answered t r (wrote stTwin) ∧ Frame s t []) ∧
    (∀ r x, Grants s r 0x1A06 0 (.n 1) x → s.b.pairState ≠ pairActive →
      ∃ t, exec (.pairSwitch r) s = .next t ∧ Answered t r (wrote stState) ∧ Frame s t [])

/-- A following unit executes what the active one forwards, in its turn: writes, commits, latches, decisions, operations, results, pans, overrides, the snapshot and
the join, and a hand-over; each unit compares the twin's signatures with its own and attributes a difference. A message out of turn waits, and one in turn is
acknowledged (R161, R211, R305, R322, R449, R453 to R456, R458, R459, R463). -/
def Obligations.OrdersAreFollowed : Prop :=
  ∀ (s : State) (h : PairHdr),
    (∀ (o idx sub : Nat) (ty : Ty) (v : Int), InTurn s h → s.b.follows = true → sub < 256 →
      idx ∈ [0x0803, 0x0807, 0x0831, 0x0A05, 0x0A30, 0x0A31, 0x0E05, 0x101A, 0x1210, 0x1211, 0x1301, 0x1303, 0x1304, 0x1305, 0x1306, 0x1307, 0x1410,
        0x1412, 0x1414, 0x1430, 0x1509, 0x150A, 0x150B, 0x150E, 0x150F] →
      ∃ t, exec (.pairWrite h o idx sub ty (.n v)) s = .next t ∧ t.b.reg idx sub = v ∧ t.b.pair.done = o ∧ Frame s t [0x1A05, idx]) ∧
    (∀ (o idx sub : Nat) (ty : Ty) (v : Int), InTurn s h → s.b.follows = true → isRws (key idx sub) = true →
      ∃ t, exec (.pairWrite h o idx sub ty (.n v)) s = .next t ∧ t.b.pair.shadow = minsert (key idx sub) v s.b.pair.shadow ∧ t.b.pair.done = o ∧
        Frame s t [0x1A05]) ∧
    (∀ (o idx sub : Nat) (ty : Ty) (bs : Bytes), InTurn s h → s.b.follows = true →
      (bs.length = writePiece → ∃ t, exec (.pairWrite h o idx sub ty (.b bs)) s = .next t ∧ t.b.pair.part = s.b.pair.part ++ bs ∧
        t.b.pair.shadowB = s.b.pair.shadowB ∧ t.b.pair.done = s.b.pair.done ∧ Frame s t [0x1A05]) ∧
      (bs.length ≠ writePiece → isRws (key idx sub) = true → idx ≠ 0x0C50 →
        ∃ t, exec (.pairWrite h o idx sub ty (.b bs)) s = .next t ∧ t.b.pair.shadowB = minsert (key idx sub) (s.b.pair.part ++ bs) s.b.pair.shadowB ∧
          t.b.pair.part = [] ∧ t.b.pair.done = o ∧ Frame s t [0x1A05])) ∧
    (∀ o n, InTurn s h → s.b.follows = true → s.b.pair.commits = [] → NothingDue s →
      ((∀ l ∈ s.b.pair.latches, o ≤ l.order) → s.b.live = true →
        ∃ t, exec (.commit h o n) s = .next t ∧ t.b.lay.armed = s.b.lay.armed.apply ⟨s.b.pair.shadow, s.b.pair.shadowB⟩ ∧
          t.b.pair.commits = [] ∧ t.b.pair.shadow = [] ∧ t.b.pair.shadowB = [] ∧ t.b.pair.done = o ∧ Frame s t [0x1A05, 0x1000, 0x1012]) ∧
      ((∀ l ∈ s.b.pair.latches, o ≤ l.order) → s.b.live = false → mrising 0 s.b.pair.shadow = true → (∀ p ∈ s.b.pair.shadow, isRws p.1 = true) →
        ∃ t, exec (.commit h o n) s = .next t ∧ t.b.pair.commits = [] ∧ t.b.pair.shadow = [] ∧ t.b.pair.shadowB = [] ∧ t.b.pair.done = o ∧
          (∀ k v, mfind k s.b.pair.shadow = some v → 0x0C00 ≤ k / 256 → k / 256 ≤ 0x0C15 → t.b.reg (k / 256) (k % 256) = v) ∧ t.clk = s.clk) ∧
      (∀ l, l ∈ s.b.pair.latches → l.order < o →
        ∃ t, exec (.commit h o n) s = .next t ∧ t.b.pair.commits = [(o, ⟨s.b.pair.shadow, s.b.pair.shadowB⟩)] ∧ t.b.lay.armed = s.b.lay.armed ∧
          t.b.pair.done = o ∧ Frame s t [0x1A05])) ∧
    (∀ n o c, InTurn s h → s.b.mustFollow n = true →
      ∃ t, exec (.latch h n o c) s = .next t ∧ t.b.pair.latches = s.b.pair.latches ++ [⟨n, o, c⟩] ∧ Frame s t [0x1A05]) ∧
    (∀ d, InTurn s h → s.b.mustFollow d.n = true → s.b.sub? d.n = none →
      ∃ t, exec (.decision h d) s = .next t ∧ t.b.pair.decs = s.b.pair.decs ++ [d] ∧ Frame s t [0x1A05]) ∧
    (∀ d y, InTurn s h → s.b.mustFollow d.n = true → s.b.sub? d.n = some y → y.retired = false →
      ∃ t z, exec (.decision h d) s = .next t ∧ t.b.sub? d.n = some z ∧ z.decCount = y.decCount + 1 ∧ t.b.pair.decs = s.b.pair.decs ∧ KeepsMemory s t) ∧
    (∀ d y, InTurn s h → s.b.mustFollow d.n = true → s.b.sub? d.n = some y → y.retired = true →
      ∃ t z, exec (.decision h d) s = .next t ∧ t.b.sub? d.n = some z ∧ z.decCount = y.decCount + 1 ∧ z.groups = y.groups ∧ Frame s t [0x1A05]) ∧
    (∀ n c, InTurn s h → s.b.sub? n = none →
      ∃ t, exec (.seal h n c) s = .next t ∧ t.b.pairState = s.b.pairState ∧ t.b.beads = s.b.beads ∧ Frame s t [0x1A05]) ∧
    (∀ n c y, InTurn s h → s.b.mustFollow n = true → s.b.sub? n = some y →
      (y.decCount = c → ∃ t, exec (.seal h n c) s = .next t ∧ t.b.pairState = s.b.pairState ∧ Frame s t [0x1A05]) ∧
      (y.decCount ≠ c → s.b.pair.commits = [] →
        ∃ t, exec (.seal h n c) s = .next t ∧ t.b.pairState = pairOut ∧ Raised s t 902 ∧ KeepsMemory s t)) ∧
    (∀ as, InTurn s h → s.b.follows = true → s.b.opState 0x0415 = 1 →
      ∃ t, exec (.operation h 0x0415 2 as) s = .next t ∧ t.b.opState 0x0415 = 2 ∧ Frame s t [0x0415, 0x1A05]) ∧
    (∀ as, InTurn s h → s.b.follows = true → s.b.opState 0x0415 = 2 →
      ∃ t, exec (.operation h 0x0415 3 as) s = .next t ∧ t.b.opState 0x0415 = 1 ∧ Frame s t [0x0415, 0x1A05]) ∧
    (∀ as, InTurn s h → s.b.follows = true → s.b.opBusy 0x0415 = false → s.b.devState ≠ devFrozen → s.b.genFree 0 = true →
      ∃ t o, exec (.operation h 0x0415 1 as) s = .next t ∧ t.b.opState 0x0415 = 1 ∧ t.b.gen 0 (s.b.nonActive 0) = 1 ∧ mfind 0x0415 t.b.ops = some o ∧
        o.args = as.foldl (fun m p => minsert (key 0x0415 p.1) p.2 m) [] ∧ Frame s t [0x0415, 0x1000, 0x1A05]) ∧
    (∀ as, InTurn s h → s.b.follows = true → s.b.opState 0x0415 = 1 →
      ∃ t, exec (.operation h 0x0415 4 as) s = .next t ∧ t.b.opState 0x0415 = 3 ∧ Frame s t [0x0415, 0x1A05]) ∧
    (∀ as, InTurn s h → s.b.follows = true → s.b.opState 0x0415 = 2 →
      ∃ t, exec (.operation h 0x0415 4 as) s = .next t ∧ t.b.opState 0x0415 = 5 ∧ t.b.regN 0x0415 4 = stCancelled ∧ Raised s t 42 ∧
        (s.b.gen 0 (s.b.nonActive 0) = 1 → t.b.gen 0 (s.b.nonActive 0) = 6) ∧ Frame s t [0x0415, 0x1000, 0x1A05]) ∧
    (∀ as, InTurn s h → s.b.follows = true → s.b.opBusy 0x0412 = false → s.b.live = false → (∀ p ∈ as, 0x10 ≤ p.1 ∧ p.1 ≤ 0x26) →
      ∃ t, exec (.operation h 0x0412 1 as) s = .next t ∧ t.b.opState 0x0412 = 4 ∧ t.b.reg 0x0412 0x27 = 1 ∧
        t.b.reg 0x0900 0 = t.b.regN 0x0412 0x10 ∧ t.b.reg 0x0901 0 = t.b.regN 0x0412 0x11 ∧
        Frame s t [0x0412, 0x0900, 0x0901, 0x0902, 0x0903, 0x0904, 0x0905, 0x0906, 0x0980, 0x1A05]) ∧
    (∀ w, InTurn s h → s.b.follows = true → s.b.seq.sw = some w → w.latched = false → w.dark = false → w.leave = false → w.step = none →
      w.seamless = true →
      ∃ t, exec (.operation h 0x0412 4 []) s = .next t ∧ t.b.seq.sw = none ∧ t.b.reg 0x0909 0 = 0 ∧ t.b.opState 0x0412 = 5 ∧ Raised s t 42 ∧
        Frame s t [0x0412, 0x0909, 0x1A05]) ∧
    (∀ cmd as, InTurn s h → s.b.follows = true → s.b.live = true → s.b.seq.sw = none →
      ∃ t w, exec (.operation h 0x010B cmd as) s = .next t ∧ t.b.regN 0x010B 0 = 5 ∧ t.b.seq.sw = some w ∧ w.leave = true ∧ w.seamless = false ∧
        Frame s t [0x010B, 0x1A05]) ∧
    (∀ i ls bs, InTurn s h → s.b.follows = true → s.b.opState 0x0415 = 1 → s.b.gen 0 (s.b.nonActive 0) = 1 → s.b.reckonImage = .inr bs →
      (∃ t, exec (.result h i ls none) s = .next t ∧
        (∀ j r g b f, ls[j]? = some (r, g, b, f) →
          t.b.bytes (s.b.entryAddr (s.b.nonActive 0) (i + j) + 18) 6 = le 2 r ++ le 2 g ++ le 2 b ∧
          t.b.bytes (s.b.entryAddr (s.b.nonActive 0) (i + j) + 27) 1 = [BitVec.ofNat 8 f]) ∧
        (∀ k, k < s.b.entryAddr (s.b.nonActive 0) i ∨ s.b.entryAddr (s.b.nonActive 0) (i + ls.length) ≤ k → t.b.byte k = s.b.byte k) ∧
        KeepsRegs s.b t.b [0x1A05] ∧ t.clk = s.clk ∧ t.pending = s.pending) ∧
      (∀ K n, ∃ t, exec (.result h i ls (some (K, n))) s = .next t ∧ t.b.gen 0 (s.b.nonActive 0) = 2 ∧
        t.b.reg 0x1003 (s.b.nonActive 0 + 1) = K ∧ t.b.opState 0x0415 = 4 ∧ Raised s t 960 ∧ Raised s t 41 ∧ t.clk = s.clk)) ∧
    (∀ p n k, InTurn s h → s.b.follows = true →
      (∃ t, exec (.pan h p n k 0) s = .next t ∧ (∃ w ∈ (t.b.pan p).queue, w.rod = n ∧ w.pos = k) ∧ Frame s t [0x1A05]) ∧
      (∃ t, exec (.pan h p n k 1) s = .next t ∧ (∃ w ∈ (t.b.pan p).slots, w.rod = n ∧ w.pos = k) ∧
        (∀ w ∈ (t.b.pan p).queue, ¬ (w.rod = n ∧ w.pos = k)) ∧ t.b.tile n k = s.b.tile n k ∧ Frame s t [0x1A05]) ∧
      (∃ t, exec (.pan h p n k 3) s = .next t ∧ (∀ w ∈ (t.b.pan p).queue, ¬ (w.rod = n ∧ w.pos = k)) ∧ (t.b.pan p).slots = (s.b.pan p).slots ∧
        (t.b.tile n k).awake = false ∧ Frame s t [0x1A05]) ∧
      (∃ t, exec (.pan h p n k 2) s = .next t ∧ (t.b.pan p).slots = (s.b.pan p).slots.eraseP (fun w => w.rod == n && w.pos == k) ∧
        (t.b.pan p).queue = (s.b.pan p).queue ∧
        ((t.b.tile n k).awake = true ↔ (s.b.tile n k).awake = true ∨
          ∃ w, (s.b.pan p).slots.find? (fun w => w.rod == n && w.pos == k) = some w ∧
            s.env.after w.tb ((s.b.panReg 0x1412 p + s.b.panReg 0x1414 p) * 1000000) = true) ∧ Frame s t [0x1A05])) ∧
    (∀ i f n, InTurn s h → s.b.follows = true →
      ∃ t, exec (.override h i f n) s = .next t ∧ ⟨i, f, n, none⟩ ∈ t.b.cor.overrides ∧
        (∀ o ∈ t.b.cor.overrides, o.lamp = i → o.til = none → o = ⟨i, f, n, none⟩) ∧ Frame s t [0x1A05]) ∧
    (∀ n r sg fl, InTurn s h → s.b.pairState = pairActive ∨ s.b.follows = true → r ∈ s.b.rodsInUse → mfind (sigKey n r) s.b.pair.sigOwn = none →
      ∃ t, exec (.signature h n r [(sg, fl)]) s = .next t ∧ mfind (sigKey n r) t.b.pair.sigTwin = some (sg, fl) ∧ Frame s t [0x1A05]) ∧
    (∀ n r sg sg', InTurn s h → s.b.pairState = pairStandby → r ∈ s.b.rodsInUse → r < 192 → mfind (sigKey n r) s.b.pair.sigOwn = some (sg', 0) → sg ≠ sg' →
      s.b.pair.attribs = [] →
      ∃ t, exec (.signature h n r [(sg, 0)]) s = .next t ∧ t.b.regN 0x1A08 (r + 1) = (s.b.regN 0x1A08 (r + 1) + 1) % 2 ^ 32 ∧ Raised s t 901 ∧
        Frame s t [0x1A05, 0x1A08] ∧ ((s.b.sub? n).isSome = true → ∃ a ∈ t.b.pair.attribs, a.n = n ∧ a.rod = r ∧ a.twin = none)) ∧
    (∀ n r sg, InTurn s h → s.b.pairState = pairStandby → r ∈ s.b.rodsInUse → mfind (sigKey n r) s.b.pair.sigOwn = some (sg, 0) →
      ∃ t, exec (.signature h n r [(sg, 0)]) s = .next t ∧ (∀ y, t.b.sub? n = some y → r ∉ y.await) ∧ mfind (sigKey n r) t.b.pair.sigOwn = none ∧
        t.b.pair.attribs = s.b.pair.attribs ∧ Frame s t [0x1A05, 0x0E0A]) ∧
    (∀ n r sg fl own, InTurn s h → s.b.pairState = pairStandby → r ∈ s.b.rodsInUse → r < 192 → mfind (sigKey n r) s.b.pair.sigOwn = some own → fl ≠ 0 →
      ∃ t, exec (.signature h n r [(sg, fl)]) s = .next t ∧ t.b.pair.attribs = s.b.pair.attribs ∧
        (bit fl 1 = true → t.b.regN 0x1A09 (r + 1) = (s.b.regN 0x1A09 (r + 1) + 1) % 2 ^ 32) ∧ Frame s t [0x1A05, 0x1A09, 0x0E0A]) ∧
    (∀ n r v, InTurn s h → s.b.pair.commits = [] → (∀ a ∈ s.b.pair.attribs, a.n = n → a.rod = r → a.own = none) →
      ∃ t, exec (.attrib h n r v) s = .next t ∧ Frame s t [0x1A05] ∧
        t.b.pair.attribs = s.b.pair.attribs.map (fun a => if a.n = n ∧ a.rod = r then { a with twin := some v } else a)) ∧
    (∀ n r a, InTurn s h → s.b.pair.attribs = [a] → a.n = n → a.rod = r → a.own = some 0 → s.b.pair.commits = [] →
      (s.b.pairState = pairActive →
        ∃ t, exec (.attrib h n r 1) s = .next t ∧ t.b.pair.attribs = [] ∧ t.b.pairState = pairActive ∧ Frame s t [0x1A05, 0x0E0A]) ∧
      (s.b.pairState = pairStandby → s.b.devState ≠ devSafe → s.b.devState ≠ devFrozen → s.b.regN 0x1A10 0 = 0 →
        ∃ t, exec (.attrib h n r 1) s = .next t ∧ t.b.pair.attribs = [] ∧ t.b.pairState = pairActive ∧ t.b.pair.drive = true ∧ Raised s t 897)) ∧
    (∀ n r a, InTurn s h → s.b.pair.attribs = [a] → a.n = n → a.rod = r → a.own = some 0 → MayDoubt s →
      ∃ t, exec (.attrib h n r 0) s = .next t ∧ t.b.devState = devSafe ∧ t.b.reg 0x1A10 0 = 10 ∧ t.b.regN 0x1A12 0 = r % 2 ^ 32 ∧ Raised s t 896) ∧
    (∀ n r a, s.b.pair.attribs.find? (fun x => x.n == n && x.rod == r) = some a → a.own = some 0 → a.twin = none →
      (s.env.after a.tb 250000 = true → s.b.pairState = pairActive →
        ∃ t, exec (.attribTimeout n r) s = .next t ∧ (∀ x ∈ t.b.pair.attribs, ¬ (x.n = n ∧ x.rod = r)) ∧ Frame s t [0x0E0A]) ∧
      (s.env.after a.tb 250000 = true → s.b.pairState = pairStandby → s.b.pair.commits = [] →
        ∃ t, exec (.attribTimeout n r) s = .next t ∧ t.b.pairState = pairOut ∧ t.b.pair.attribs = [] ∧ Raised s t 902 ∧ KeepsMemory s t) ∧
      (s.env.after a.tb 250000 = false → exec (.attribTimeout n r) s = .next s)) ∧
    (∀ off es os ps, InTurn s h → s.b.pairState = pairJoining → off ≠ 0 →
      ∃ t, exec (.snapshot h off es os ps false) s = .next t ∧ t.b.pair.snap = es.foldl snapTake s.b.pair.snap ∧
        t.b.pair.snapOv = s.b.pair.snapOv ++ os ∧ t.b.pair.snapPan = s.b.pair.snapPan ++ ps ∧ Frame s t [0x1A05]) ∧
    (∀ es os ps, InTurn s h → s.b.pairState = pairJoining →
      ∃ t, exec (.snapshot h 0 es os ps false) s = .next t ∧ t.b.pair.snap = es.foldl snapTake [] ∧
        t.b.pair.snapOv = os ∧ t.b.pair.snapPan = ps ∧ Frame s t [0x1A05]) ∧
    (∀ off es os ps m, InTurn s h → s.b.pairState = pairJoining → off ≠ 0 → m = es.foldl snapTake s.b.pair.snap →
      (s.b.snapAgrees m = true →
        ∃ t, exec (.snapshot h off es os ps true) s = .next t ∧ t.b.pairState = pairJoining ∧ t.b.pair.snap = [] ∧ t.b.pair.snapOv = [] ∧
          t.b.pair.snapPan = [] ∧ t.b.pair.shadow = [] ∧ t.b.pair.applied = true ∧ t.clk = s.clk) ∧
      (s.b.snapAgrees m = false → s.b.pair.commits = [] →
        ∃ t, exec (.snapshot h off es os ps true) s = .next t ∧ t.b.pairState = pairOut ∧ Raised s t 902 ∧ KeepsMemory s t)) ∧
    (∀ n, InTurn s h → s.b.pairState = pairJoining → s.b.pair.applied = false → ∃ t, exec (.join h n) s = .next t ∧ Frame s t [0x1A05]) ∧
    (∀ n, InTurn s h → s.b.pairState = pairJoining → s.b.pair.applied = true →
      ∃ t, exec (.join h n) s = .next t ∧ t.b.regN 0x1A0D 0 = n ∧ t.b.pair.joined = true ∧ Frame s t [0x1A05, 0x1A0D]) ∧
    (∀ n, InTurn s h → s.b.pairState = pairStandby → h.seq + 1 < 2 ^ 32 →
      ∃ t, exec (.handover h n) s = .next t ∧ t.b.pair.handover = some n ∧ t.b.pair.rxNext = h.seq + 1 ∧
        .pair (pairFrame 0 false s.env.pairTime (.ack h.seq)) ∈ t.b.out ∧ Frame s t [0x1A05]) ∧
    (∀ n, s.b.pairHears = true → h.seq ≠ 0 → 0 < Int.bmod ((h.seq : Int) - s.b.pair.rxNext) (2 ^ 32) →
      s.b.pair.early.any (fun q => q.1.seq == h.seq) = false →
      ∃ t, exec (.handover h n) s = .next t ∧ t.b.pair.early = s.b.pair.early ++ [(h, .handover n)] ∧ t.b.pair.handover = s.b.pair.handover ∧
        t.b.pair.gap = some (s.b.pair.gap.getD s.clk.tb) ∧ Frame s t [0x1A05])

/-! ## Lifetime -/

/-- A nonce forms a report, which is ready later; outside OFF every second enters the tally's seconds, temperatures and rails, and the monitors' samples their entries; the
harvest takes the tally when it starts and hands it over when it completes; silicon reckoning starts at a write or at its period, a rail written is checked after 1 ms, and
the reckoning completes once no rail is left, or is FAILED where it was cancelled (R427, R472, R474, R476, R477, R481, R484, R486 to R489). The refusal of a harvest's
destination outside the region is the model's (log entry 50), and so are that no period starts a reckoning before VERIFIED and that a rail nobody has sampled since the
write is judged by the read-back alone (log entry 116). -/
def Obligations.LifetimeIsKept : Prop :=
  ∀ (s : State) (r : Req) (x : Session),
    (∀ nonce, Grants s r 0x0108 0 (.b nonce) x → nonce.length = 32 →
      ∃ t y, exec (.attestNonceWrite r nonce) s = .next t ∧ Answered t r (wrote stOK) ∧ t.b.sess? (r.sid % 8) = some y ∧
        y.attest.nonce = some nonce ∧ y.attest.forming = some (s.b.attestReport s.env nonce) ∧ y.attest.report = none ∧ Frame s t []) ∧
    (∀ n y rep, s.b.sess? n = some y → y.attest.forming = some rep →
      ∃ t z, exec (.attestReportReady n) s = .next t ∧ t.b.sess? n = some z ∧ z.attest.report = some rep ∧ z.attest.forming = none ∧ Frame s t []) ∧
    (∀ ts mv, s.b.devState ≠ devOff →
      ∃ t, exec (.tallySecond ts mv) s = .next t ∧ t.b.regN 0x1C00 0 = Nat.min (s.b.regN 0x1C00 0 + 1) (2 ^ 64 - 1) ∧
        (∀ k v, k < 12 → ts[k]? = some v → t.b.reg 0x1D0B (k + 1) = v ∧
          t.b.regN 0x1C02 (16 * k + tempBin v + 1) = Nat.min (s.b.regN 0x1C02 (16 * k + tempBin v + 1) + 1) (2 ^ 32 - 1) ∧
          t.b.reg 0x1C03 (k + 1) = (if s.b.si.seen.contains (2000 + k) then max (s.b.reg 0x1C03 (k + 1)) v else v) ∧
          (s.b.reg 0x1C04 (k + 1) + v < 2 ^ 63 → t.b.reg 0x1C04 (k + 1) = s.b.reg 0x1C04 (k + 1) + v)) ∧
        (∀ k v, k < 8 → mv[k]? = some v → t.b.regN 0x0112 (k + 1) = v ∧
          t.b.regN 0x1C05 (16 * k + supplyBin v (s.b.setpointOf k) + 1) =
            Nat.min (s.b.regN 0x1C05 (16 * k + supplyBin v (s.b.setpointOf k) + 1) + 1) (2 ^ 32 - 1) ∧
          t.b.reg 0x1C06 (k + 1) = (if s.b.si.seen.contains (1000 + k) then min (s.b.reg 0x1C06 (k + 1)) v else v) ∧
          t.b.reg 0x1C07 (k + 1) = (if s.b.si.seen.contains (1100 + k) then max (s.b.reg 0x1C07 (k + 1)) v else v)) ∧
        Frame s t [0x0112, 0x1C00, 0x1C02, 0x1C03, 0x1C04, 0x1C05, 0x1C06, 0x1C07, 0x1C10, 0x1C11, 0x1D0B]) ∧
    (Grants s r 0x041A 1 (.n 1) x → s.b.opBusy 0x041A = false →
      s.b.reg 0x041A 0x10 ≠ 1 ∨ s.b.devState ≠ devFrozen ∧ (s.b.appBytes (s.b.regN 0x041A 0x11) 5256).isSome = true →
      ∃ t, exec (.harvestStart r) s = .next t ∧ Answered t r (wrote stOK) ∧ t.b.opState 0x041A = 1 ∧
        t.b.si.harvest = s.b.harvestImage s.env ((s.b.regN 0x1C14 0 + 1) % 2 ^ 32) ∧ Frame s t [0x041A]) ∧
    (Grants s r 0x041A 1 (.n 1) x → s.b.opBusy 0x041A = false → s.b.reg 0x041A 0x10 = 1 → s.b.devState = devFrozen →
      ∃ t, exec (.harvestStart r) s = .next t ∧ Answered t r (wrote stFrozen) ∧ t.b.opState 0x041A = 5 ∧ Raised s t 42 ∧ Frame s t [0x041A]) ∧
    (Grants s r 0x041A 1 (.n 1) x → s.b.opBusy 0x041A = false → s.b.reg 0x041A 0x10 = 1 → s.b.devState ≠ devFrozen →
      (s.b.appBytes (s.b.regN 0x041A 0x11) 5256).isNone = true →
      ∃ t, exec (.harvestStart r) s = .next t ∧ Answered t r (wrote stRange) ∧ t.b.opState 0x041A = 5 ∧ Raised s t 42 ∧ Frame s t [0x041A]) ∧
    (Grants s r 0x041A 1 (.n 1) x → s.b.opBusy 0x041A = true →
      ∃ t, exec (.harvestStart r) s = .next t ∧ Answered t r (wrote stBusy) ∧ Frame s t []) ∧
    (s.b.opState 0x041A = 1 → s.b.opArg 0x041A 0x10 ≠ 1 ∨ s.b.memUp = false →
      ∃ t, exec .harvestComplete s = .next t ∧ t.b.str 0x1C13 0 = s.b.si.harvest ∧ t.b.regN 0x1C14 0 = (s.b.regN 0x1C14 0 + 1) % 2 ^ 32 ∧
        t.b.opState 0x041A = 4 ∧ Raised s t 979 ∧ Raised s t 41 ∧ Frame s t [0x041A, 0x1C14]) ∧
    (∀ a n, s.b.opState 0x041A = 1 → s.b.opArg 0x041A 0x10 = 1 → s.b.memUp = true → a = (s.b.opArg 0x041A 0x11).toNat → n = s.b.si.harvest.length →
      ∃ t, exec .harvestComplete s = .next t ∧ t.b.bytes a n = s.b.si.harvest ∧ (∀ k, k < a ∨ a + n ≤ k → t.b.byte k = s.b.byte k) ∧
        t.b.str 0x1C13 0 = s.b.si.harvest ∧ t.b.regN 0x1C14 0 = (s.b.regN 0x1C14 0 + 1) % 2 ^ 32 ∧ t.b.opState 0x041A = 4 ∧ Raised s t 979 ∧
        Raised s t 41 ∧ KeepsRegs s.b t.b [0x041A, 0x1C14] ∧ t.clk = s.clk ∧ t.pending = s.pending) ∧
    (s.b.opState 0x041A ≠ 1 → exec .harvestComplete s = .next s) ∧
    (∀ ts mv, s.b.devState = devOff → exec (.tallySecond ts mv) s = .next s) ∧
    (∀ ps m v, s.b.devState ≠ devOff → m < 96 → ps[m]? = some v →
      ∃ t, exec (.slackSample ps) s = .next t ∧ t.b.reg 0x1D00 (m + 1) = v ∧
        t.b.reg 0x1D0D (m + 1) = (if s.b.si.seen.contains m then min (s.b.reg 0x1D0D (m + 1)) v else v) ∧ KeepsMemory s t) ∧
    (∀ ps, s.b.devState = devOff → exec (.slackSample ps) s = .next s) ∧
    (Grants s r 0x041B 1 (.n 1) x → s.b.opBusy 0x041B = false →
      ∃ t, exec (.siReckonStart r) s = .next t ∧ Answered t r (wrote stOK) ∧ t.b.opState 0x041B = 1 ∧ t.b.si.run.isSome = true ∧
        KeepsMemory s t) ∧
    (Grants s r 0x041B 1 (.n 1) x → s.b.opBusy 0x041B = true →
      ∃ t, exec (.siReckonStart r) s = .next t ∧ Answered t r (wrote stBusy) ∧ Frame s t []) ∧
    (s.b.regN 0x1D07 0 ≠ 0 → devVerified ≤ s.b.devState → s.b.opBusy 0x041B = false →
      ∃ t, exec .siReckonPeriod s = .next t ∧ t.b.opState 0x041B = 1 ∧ t.b.regN 0x041B 8 = 0xFF ∧ KeepsMemory s t) ∧
    (s.b.regN 0x1D07 0 = 0 ∨ s.b.devState < devVerified ∨ s.b.opBusy 0x041B = true → exec .siReckonPeriod s = .next s) ∧
    (∀ (k mv : Nat) c, k < 2 → s.b.si.busy = some c → c.rail = k → s.env.after c.tb 1000000 = true →
      (((mv : Int) - c.new).natAbs ≤ 5 → (∀ v, c.sample = some v → ((v : Int) - c.new).natAbs ≤ 5) →
        ∃ t, exec (.avsSettleCheck k mv) s = .next t ∧ t.b.regN 0x1D0A (k + 1) = mv ∧ KeepsMemory s t ∧
          (s.b.si.queue = [] → s.b.si.run = none → t.b.si.busy = none ∧ Frame s t [0x1D0A])) ∧
      (5 < ((mv : Int) - c.new).natAbs ∨ (∃ v, c.sample = some v ∧ 5 < ((v : Int) - c.new).natAbs) → c.tries = 0 →
        ∃ t, exec (.avsSettleCheck k mv) s = .next t ∧ t.b.regN 0x1D0A (k + 1) = mv ∧ .avs k c.new ∈ t.b.out ∧
          t.b.si.busy = some { c with tb := s.clk.tb, tries := 1, sample := none } ∧ Frame s t [0x1D0A]) ∧
      (5 < ((mv : Int) - c.new).natAbs ∨ (∃ v, c.sample = some v ∧ 5 < ((v : Int) - c.new).natAbs) → c.tries ≠ 0 →
        ∃ t, exec (.avsSettleCheck k mv) s = .next t ∧ Raised s t 996 ∧ t.b.regN 0x1D0A (k + 1) = mv ∧ KeepsMemory s t)) ∧
    (∀ (k mv : Nat), s.b.si.busy = none → exec (.avsSettleCheck k mv) s = .next s) ∧
    (∀ (k mv : Nat) c, s.b.si.busy = some c → c.rail ≠ k ∨ s.env.after c.tb 1000000 = false → exec (.avsSettleCheck k mv) s = .next s) ∧
    (s.b.opState 0x041B = 3 → ∃ t, exec .siReckonComplete s = .next t ∧ t.b.si.run = none ∧ t.b.opState 0x041B = 5 ∧ t.b.regN 0x041B 4 = 2 ∧
      Raised s t 42 ∧ Frame s t [0x041B]) ∧
    (∀ y, s.b.si.run = some y → s.b.opState 0x041B ≠ 3 → y.todo ≠ [] ∨ s.b.si.busy.isSome = true → exec .siReckonComplete s = .next s) ∧
    (∀ y, s.b.si.run = some y → y.todo = [] → s.b.si.busy = none → s.b.opState 0x041B = 1 →
      ∃ t, exec .siReckonComplete s = .next t ∧ t.b.opState 0x041B = 4 ∧ t.b.si.run = none ∧ t.b.regN 0x1D0C 0 = s.env.wt ∧
        t.b.regN 0x041B 4 = (if y.skipped = 0 ∧ y.held = false then stOK else stPartial) ∧ Raised s t 998 ∧ Raised s t 41 ∧
        Frame s t [0x041B, 0x1C0E, 0x1C10, 0x1D0C])

/-! ## Doubt, reset and boot -/

/-- A lockstep mismatch, a rail or a sensor bad twice in a row, a write and a boundary scan are doubt, which enters SAFE and records its cause; recovery leaves SAFE
where the cause allows it; a freeze is thawed, or stays; resets lose all but what MRAM keeps, and end in BOOT; boot tries its sources, and goes SAFE without one; training
ends in MEMORY, SAFE or FROZEN; and a write of the target is kept (R376, R379, R380, R442, R443, R445, R495, R500 to R511, R518). -/
def Obligations.DoubtResetAndBoot : Prop :=
  ∀ (s : State) (r : Req) (x : Session),
    (∀ p, MayDoubt s → ∃ t, exec (.lockstepMismatch p) s = .next t ∧ t.b.devState = devSafe ∧ t.b.reg 0x1A10 0 = 1 ∧ t.b.regN 0x1A11 0 = s.env.wt ∧
      t.b.beads.stopped = true ∧ (∀ n, (t.b.trig n).level = true → 16 ≤ n) ∧ Raised s t 896 ∧ KeepsMemory s t) ∧
    (s.b.devState = devSafe → s.b.dev.cause = none →
      ∃ t, exec (.lockstepMismatch 0) s = .next t ∧ t.b.dev.cause = some 4 ∧ t.b.dev.resetDue = some (s.clk.tb + 500000) ∧ t.b.devState = devOff) ∧
    (∀ mv, s.b.devState ≠ devOff → (∀ k v, k < 8 → mv[k]? = some v → s.b.railOk s.env k v = true ∨ mgetD 0 k s.b.flt.railBad ≠ 1) →
      ∃ t, exec (.supplySample mv) s = .next t ∧
        (∀ c v, s.b.si.busy = some c → c.rail < 8 → mv[c.rail]? = some v → t.b.si.busy = some { c with sample := some v }) ∧ Frame s t []) ∧
    (∀ mv k v, MayDoubt s → k < 8 → mv[k]? = some v → s.b.railOk s.env k v = false → mgetD 0 k s.b.flt.railBad = 1 →
      ∃ t, exec (.supplySample mv) s = .next t ∧ t.b.devState = devSafe ∧ t.b.reg 0x1A10 0 = 4 ∧ KeepsMemory s t) ∧
    (∀ ts mv, s.b.devState = devOff → exec (.supplySample mv) s = .next s ∧ exec (.tempSample ts) s = .next s) ∧
    (∀ ts, s.b.devState ≠ devOff → (∀ k v, k < 12 → ts[k]? = some v → v ≤ 1760 ∨ mgetD 0 k s.b.flt.tempBad ≠ 1) →
      ∃ t, exec (.tempSample ts) s = .next t ∧ (∀ k v, k < 12 → ts[k]? = some v → t.b.reg 0x1D0B (k + 1) = v) ∧ Frame s t [0x1D0B]) ∧
    (∀ ts k v, MayDoubt s → k < 12 → ts[k]? = some v → 1760 < v → mgetD 0 k s.b.flt.tempBad = 1 →
      ∃ t, exec (.tempSample ts) s = .next t ∧ t.b.devState = devSafe ∧ t.b.reg 0x1A10 0 = 5 ∧ KeepsMemory s t) ∧
    (Grants s r 0x1A13 0 (.n 1) x → MayDoubt s →
      ∃ t, exec (.faultEnterSafe r) s = .next t ∧ Answered t r (wrote stOK) ∧ t.b.devState = devSafe ∧ t.b.reg 0x1A10 0 = 11 ∧
        t.b.regN 0x1A12 0 = r.sid % 8 ∧ KeepsMemory s t) ∧
    (MayDoubt s → ∃ t, exec .jtagBoundaryScan s = .next t ∧ t.b.devState = devSafe ∧ t.b.reg 0x1A10 0 = 11 ∧ t.b.regN 0x1A12 0 = 0xFF ∧
      KeepsMemory s t) ∧
    (¬ MayDoubt s → exec .jtagBoundaryScan s = .next s) ∧
    (Grants s r 0x0419 1 (.n 1) x → s.b.opBusy 0x0419 = false → s.b.devState = devSafe → s.b.regN 0x1A10 0 ≠ 1 → s.b.regN 0x1A10 0 ≠ 7 →
      (3 ≤ s.b.regN 0x1A10 0 → s.b.regN 0x1A10 0 ≤ 5 → s.b.faultGone s.env (s.b.regN 0x1A10 0) = true) →
      ∃ t, exec (.recoverStart r) s = .next t ∧ Answered t r (wrote stOK) ∧ t.b.opState 0x0419 = 1 ∧ KeepsMemory s t ∧
        t.b.dev.recoverRods = s.b.recoverable ∧ ∀ n ∈ s.b.recoverable, ∃ z, (t.b.rod n).enumr = some z ∧ z.why = .recover) ∧
    (Grants s r 0x0419 1 (.n 1) x → s.b.opBusy 0x0419 = true → ∃ t, exec (.recoverStart r) s = .next t ∧ Answered t r (wrote stBusy) ∧ Frame s t []) ∧
    (Grants s r 0x0419 1 (.n 1) x → s.b.opBusy 0x0419 = false → s.b.devState ≠ devSafe ∨ s.b.regN 0x1A10 0 = 1 ∨ s.b.regN 0x1A10 0 = 7 ∨
        3 ≤ s.b.regN 0x1A10 0 ∧ s.b.regN 0x1A10 0 ≤ 5 ∧ s.b.faultGone s.env (s.b.regN 0x1A10 0) = false →
      ∃ t, exec (.recoverStart r) s = .next t ∧ Answered t r (wrote stState) ∧ t.b.opState 0x0419 = 5 ∧ Raised s t 42 ∧ Frame s t [0x0419]) ∧
    (s.b.opState 0x0419 = 1 → s.b.dev.recoverRods = [] → s.b.devState = devSafe →
      ∃ t, exec .recoverComplete s = .next t ∧ (s.b.regN 0x010B 0 = 4 → t.b.devState = devLinked) ∧ t.b.reg 0x1A10 0 = 0 ∧ t.b.beads.stopped = false ∧ t.b.opState 0x0419 = 4 ∧
        (s.b.pairState = pairDemoted → t.b.pairState = pairSeeking) ∧ Raised s t 41 ∧ KeepsMemory s t) ∧
    (s.b.opState 0x0419 ≠ 1 ∨ s.b.dev.recoverRods ≠ [] ∨ s.b.devState ≠ devSafe → exec .recoverComplete s = .next s) ∧
    (∀ c, c ≠ 1 → c ≠ 2 → c ≠ 4 ∨ s.b.devState ≠ devSafe → exec (.resetAssert c) s = .next s) ∧
    (s.b.devState = devSafe → ∃ t, exec (.resetAssert 4) s = .next t ∧ t.b.dev.cause = some 4 ∧ t.b.dev.resetDue = some (s.clk.tb + 500000) ∧
      t.b.devState = devOff ∧ (∀ a, t.b.byte a = 0) ∧ (∀ n, t.b.sess? n = none) ∧ t.clk.sec = 0 ∧ t.clk.ns = 0) ∧
    (∀ c, c = 1 ∨ c = 2 → ∃ t, exec (.resetAssert c) s = .next t ∧ t.b.dev.cause = some c ∧ t.b.devState = devOff ∧ (∀ a, t.b.byte a = 0) ∧
      (∀ n, t.b.sess? n = none) ∧ t.clk.sec = 0 ∧ t.clk.ns = 0 ∧ t.pending = s.pending ∧
      ∀ i j, j < 256 → t.b.reg i j = if keptKey (key i j) then s.b.reg i j else dflt i j) ∧
    (Grants s r 0x010D 0 (.n 1) x → s.b.dev.cause = none →
      ∃ t k, exec (.devResetWrite r) s = .next t ∧ .rsp x.sid x.via x.peer k r.seq (wrote stOK) ∈ t.b.out ∧ t.b.dev.cause = some 3 ∧
        t.b.dev.resetDue = some (s.clk.tb + 5000000) ∧ t.b.devState = devOff ∧ t.clk.sec = 0 ∧ t.clk.ns = 0) ∧
    (∀ sel role ok ts dmg lv c, s.b.dev.cause = some c → (∀ k, s.b.dev.resetDue = some k → k ≤ s.clk.tb) →
      ∃ t, exec (.resetEnd sel role ok ts dmg lv) s = .next t ∧ t.b.dev.cause = none ∧ t.b.regN 0x010E 0 = c ∧ t.b.regN 0x0114 0 = sel ∧
        t.b.regN 0x1A01 0 = role ∧ Raised s t 1 ∧ KeepsMemory s t ∧
        (ok = true → t.b.devState = devBoot ∧ (s.b.regN 0x1A00 0 = 1 → t.b.pairState = pairSeeking)) ∧
        (ok = false → t.b.devState = devSafe ∧ t.b.reg 0x1A10 0 = 7)) ∧
    (∀ sel role ok ts dmg lv k, s.b.dev.resetDue = some k → s.clk.tb < k → exec (.resetEnd sel role ok ts dmg lv) s = .next s) ∧
    (∀ sel role ok ts dmg lv, s.b.dev.cause = none → exec (.resetEnd sel role ok ts dmg lv) s = .next s) ∧
    (∀ img, s.b.dev.sources = [] ∨ s.b.booting = false → exec (.bootSourceTry img) s = .next s) ∧
    (∀ img src rest, s.b.dev.sources = src :: rest → s.b.booting = true →
      (s.b.containerBad src img = [] → bit (s.b.regN 0x0123 0) 0 = true →
        ∃ t, exec (.bootSourceTry img) s = .next t ∧ t.b.devState = devVerified ∧ t.b.regN 0x0115 0 = src ∧ t.b.reg 0x1805 0 = 1 ∧
          t.b.str 0x0117 1 = partDigest img.vendor 0 ∧ t.b.str 0x0117 2 = partDigest img.vendor 1 ∧ t.b.str 0x0117 3 = partDigest img.owner 2 ∧
          KeepsMemory s t) ∧
      (∀ i is, s.b.containerBad src img = i :: is →
        (rest ≠ [] → ∃ t, exec (.bootSourceTry img) s = .next t ∧ t.b.dev.sources = rest ∧ Raised s t 3 ∧ Frame s t []) ∧
        (rest = [] → s.b.devState = devBoot →
          ∃ t, exec (.bootSourceTry img) s = .next t ∧ t.b.devState = devSafe ∧ t.b.reg 0x1A10 0 = 7 ∧ Raised s t 3 ∧ KeepsMemory s t) ∧
        (rest = [] → s.b.devState = devSafe →
          ∃ t, exec (.bootSourceTry img) s = .next t ∧ t.b.dev.sources = [] ∧ t.b.dev.bootTb = s.clk.tb ∧ Raised s t 3 ∧ Frame s t []))) ∧
    (∀ img src rest, s.b.dev.sources = src :: rest → s.b.booting = true → s.b.containerBad src img = [] → bit (s.b.regN 0x0123 0) 0 = false →
      ∃ t, exec (.bootSourceTry img) s = .next t ∧ t.b.dev.found = true ∧ t.b.regN 0x0115 0 = src ∧ t.b.devState = s.b.devState ∧
        KeepsMemory s t) ∧
    (∀ rest, s.b.dev.sources = 3 :: rest → s.b.booting = true → s.env.after s.b.dev.bootTb 60000000000 = true →
      (s.b.dev.bootSel = 1 → ∃ t, exec .netbootTimeout s = .next t ∧ t.b.dev.bootTb = s.clk.tb ∧ t.b.dev.sources = 3 :: rest ∧ Frame s t []) ∧
      (s.b.dev.bootSel ≠ 1 → rest = [] → s.b.devState = devBoot →
        ∃ t, exec .netbootTimeout s = .next t ∧ t.b.devState = devSafe ∧ t.b.reg 0x1A10 0 = 7 ∧ KeepsMemory s t) ∧
      (s.b.dev.bootSel ≠ 1 → rest ≠ [] ∨ s.b.devState = devSafe →
        ∃ t, exec .netbootTimeout s = .next t ∧ t.b.dev.sources = rest ∧ Raised s t 3 ∧ Frame s t [])) ∧
    (s.env.after s.b.dev.bootTb 60000000000 = false → exec .netbootTimeout s = .next s) ∧
    (s.env.after s.b.dev.bootTb 10000000000 = false → exec .bootRetryTimer s = .next s) ∧
    (s.b.booting = true → s.b.devState = devSafe → s.b.dev.sources = [] → s.b.dev.failed.isSome = true → s.b.dev.bootSel = 1 ∨ s.b.dev.bootSel = 2 →
      s.env.after s.b.dev.bootTb 10000000000 = true →
      ∃ t, exec .bootRetryTimer s = .next t ∧ t.b.dev.sources = bootSources s.b.dev.bootSel ∧ Frame s t []) ∧
    (∀ v : Nat, Grants s r 0x010B 0 (.n (v : Nat)) x → NothingDue s → ¬ (v < 6 ∧ s.b.regN 0x010B 0 = 6 ∧ s.b.regN 0x0909 0 ≠ 0) →
      ∃ t, exec (.devTargetWrite r v) s = .next t ∧ Answered t r (wrote stOK) ∧
        (v < 6 ∨ s.b.devState < devMemory ∨ devWarm < s.b.devState → t.b.regN 0x010B 0 = v) ∧
        (t.b.regN 0x010B 0 = v ∨ t.b.devState = devWarm ∧ t.b.regN 0x010B 0 = 5)) ∧
    (∀ v : Nat, Grants s r 0x010B 0 (.n (v : Nat)) x → NothingDue s → v < 6 → s.b.regN 0x010B 0 = 6 → s.b.regN 0x0909 0 ≠ 0 →
      ∃ t, exec (.devTargetWrite r v) s = .next t ∧ Answered t r (wrote stBusy) ∧ Frame s t []) ∧
    (Grants s r 0x0418 1 (.n 1) x → s.b.opBusy 0x0418 = true → ∃ t, exec (.thawStart r) s = .next t ∧ Answered t r (wrote stBusy) ∧ Frame s t []) ∧
    (Grants s r 0x0418 1 (.n 1) x → s.b.opBusy 0x0418 = false →
      (s.b.devState = devFrozen → ∃ t, exec (.thawStart r) s = .next t ∧ Answered t r (wrote stOK) ∧ t.b.opState 0x0418 = 1 ∧ t.b.reg 0x1805 0 = 4 ∧
        Frame s t [0x0418, 0x1805]) ∧
      (s.b.devState ≠ devFrozen → ∃ t, exec (.thawStart r) s = .next t ∧ Answered t r (wrote stNotFrozen) ∧ t.b.opState 0x0418 = 5 ∧ Raised s t 42 ∧
        Frame s t [0x0418])) ∧
    (∀ res, s.b.regN 0x1805 0 ≠ 4 → exec (.thawComplete res) s = .next s) ∧
    (∀ res, s.b.regN 0x1805 0 = 4 → s.b.opState 0x0418 = 1 → s.b.clkLost 54 = true ∨ s.b.clkLost 55 = true ∨ res = .train → ∃ t, exec (.thawComplete res) s = .next t ∧ t.b.reg 0x1805 0 = 3 ∧ t.b.opState 0x0418 = 5 ∧
      t.b.regN 0x0418 4 = stTrain ∧ Raised s t 836 ∧ Frame s t [0x0418, 0x1805]) ∧
    (∀ n, s.b.regN 0x1805 0 = 4 → s.b.opState 0x0418 = 1 → s.b.clkLost 54 = false → s.b.clkLost 55 = false →
      ∃ t, exec (.thawComplete (.image n)) s = .next t ∧ t.b.devState = devSafe ∧ t.b.reg 0x1A10 0 = 7 ∧ t.b.reg 0x1805 0 = 2 ∧ t.b.opState 0x0418 = 5 ∧
        t.b.regN 0x0418 4 = stCrc ∧ Raised s t 3 ∧ (∀ a, t.b.byte a = 0)) ∧
    (s.b.regN 0x1805 0 = 4 → s.b.opState 0x0418 = 1 → s.b.clkLost 54 = false → s.b.clkLost 55 = false → ∃ t, exec (.thawComplete .ok) s = .next t ∧ t.b.devState = devMemory ∧ t.b.reg 0x1805 0 = 2 ∧ t.b.reg 0x1A10 0 = 0 ∧
      t.b.opState 0x0418 = 4 ∧ (∀ a, t.b.byte a = 0) ∧ Raised s t 835) ∧
    (∀ ok p im, s.b.regN 0x1805 0 ≠ 1 ∨ s.b.devState ≠ devVerified → exec (.hbmTrainingComplete ok p im) s = .next s) ∧
    (∀ p im, s.b.regN 0x1805 0 = 1 → s.b.devState = devVerified →
      ((∀ v ∈ im, v = true) → ∃ t, exec (.hbmTrainingComplete true p im) s = .next t ∧ t.b.devState = devMemory ∧ t.b.reg 0x1805 0 = 2 ∧
        (∀ a, t.b.byte a = 0) ∧ t.b.beads.stopped = false) ∧
      (∀ n, ((im.zip [1, 2]).find? (fun q => !q.1)).map (fun q => q.2) = some n →
        ∃ t, exec (.hbmTrainingComplete true p im) s = .next t ∧ t.b.devState = devSafe ∧ t.b.reg 0x1A10 0 = 7 ∧ t.b.regN 0x1A12 0 = n ∧
          t.b.reg 0x1805 0 = 2 ∧ (∀ a, t.b.byte a = 0) ∧ Raised s t 3) ∧
      (∃ t, exec (.hbmTrainingComplete false p im) s = .next t ∧ t.b.devState = devFrozen ∧ t.b.reg 0x1805 0 = 3 ∧ t.b.reg 0x1A10 0 = 2 ∧
        Raised s t 834 ∧ KeepsMemory s t))
end

