-- ==== Sys2Proof/Laws/Bits.lean ====
section
/-! SUPPORT. Laws of the CRC folds and of the words of a link frame (R190, R219 to R221). -/

namespace Sys2Proof.Machine

@[simp] theorem strictly_eq (f : Nat → Nat) (n : Nat) : strictly f n = f n := by cases n <;> rfl

theorem crcFold_eq (poly c : Nat) (bs : Bytes) : crcFold poly bs c = bs.foldl (crcByte poly) c := by
  induction bs generalizing c with
  | nil => rfl
  | cons b bs ih => rw [crcFold, strictly_eq, ih, List.foldl_cons]

theorem crcFold_append (poly c : Nat) (xs ys : Bytes) : crcFold poly (xs ++ ys) c = crcFold poly ys (crcFold poly xs c) := by
  simp only [crcFold_eq, List.foldl_append]

@[simp] theorem length_fit {α : Type} (d : α) (n : Nat) (l : List α) : (fit d n l).length = n := by
  induction n generalizing l with
  | zero => rfl
  | succ n ih => cases l <;> simp [fit, ih]

@[simp] theorem length_be (n v : Nat) : (be n v).length = n := by
  induction n with
  | zero => rfl
  | succ n ih => simp [be, ih]

/-- What sending words changes: the scrambler of the rod, and the words that have left. -/
theorem sendWords_out (b : Body) (n : Nat) (ws : List (Nat × Nat)) :
    (b.sendWords n ws).out = b.out ++ [.tx n (scrambleAll (b.rod n).scr ws).1] := by
  simp [Body.sendWords, Body.emit, Body.modRod, Body.setRod]

end Sys2Proof.Machine
end

