-- ==== Sys2Proof/Laws/Maps.lean ====
section
/-! SUPPORT. Laws of sparse maps and of memory: reading after a write, and the canonical form (R10, R30). -/

namespace Sys2Proof.Machine

set_option Elab.async false

variable {α : Type}

@[simp] theorem mfind_minsert_same (k : Nat) (v : α) (m : Map α) : mfind k (minsert k v m) = some v := by
  induction m with
  | nil => simp [minsert, mfind]
  | cons p m ih =>
    obtain ⟨j, w⟩ := p
    simp only [minsert]
    split
    · simp [mfind]
    · split
      · simp [mfind]
      · simp_all [mfind]

theorem mfind_minsert_ne {k j : Nat} (h : k ≠ j) (v : α) (m : Map α) : mfind k (minsert j v m) = mfind k m := by
  induction m with
  | nil => simp [minsert, mfind, h]
  | cons p m ih =>
    obtain ⟨i, w⟩ := p
    simp only [minsert]
    split
    · subst_vars; simp [mfind, h]
    · split
      · simp [mfind, h]
      · simp [mfind, ih]

@[simp] theorem mfind_merase_same (k : Nat) (m : Map α) : mfind k (merase k m) = none := by
  induction m with
  | nil => rfl
  | cons p m ih =>
    obtain ⟨j, w⟩ := p
    simp only [merase]
    split
    · exact ih
    · simp_all [mfind]

theorem mfind_merase_ne {k j : Nat} (h : k ≠ j) (m : Map α) : mfind k (merase j m) = mfind k m := by
  induction m with
  | nil => rfl
  | cons p m ih =>
    obtain ⟨i, w⟩ := p
    simp only [merase]
    split
    · subst_vars; simp [mfind, h, ih]
    · simp [mfind, ih]

@[simp] theorem mgetD_mputD_same [DecidableEq α] (d : α) (k : Nat) (v : α) (m : Map α) : mgetD d k (mputD d k v m) = v := by
  unfold mgetD mputD
  split <;> simp_all

theorem mgetD_mputD_ne [DecidableEq α] {k j : Nat} (h : k ≠ j) (d d' v : α) (m : Map α) :
    mgetD d k (mputD d' j v m) = mgetD d k m := by
  unfold mgetD mputD
  split
  · rw [mfind_merase_ne h]
  · rw [mfind_minsert_ne h]

/-! ## The canonical form -/

theorem mrising_weaken {k k' : Nat} (h : k ≤ k') (m : Map α) (hm : mrising k' m = true) : mrising k m = true := by
  cases m with
  | nil => rfl
  | cons p m =>
    obtain ⟨j, w⟩ := p
    simp [mrising] at hm ⊢
    exact ⟨by omega, hm.2⟩

theorem mrising_merase {k j : Nat} (m : Map α) (hm : mrising k m = true) : mrising k (merase j m) = true := by
  induction m generalizing k with
  | nil => rfl
  | cons p m ih =>
    obtain ⟨i, w⟩ := p
    simp [mrising] at hm
    simp only [merase]
    split
    · exact mrising_weaken (by omega) _ (ih hm.2)
    · simp [mrising]; exact ⟨hm.1, ih hm.2⟩

theorem mrising_minsert {k j : Nat} (hj : k ≤ j) (v : α) (m : Map α) (hm : mrising k m = true) :
    mrising k (minsert j v m) = true := by
  induction m generalizing k with
  | nil => simp [minsert, mrising, hj]
  | cons p m ih =>
    obtain ⟨i, w⟩ := p
    simp [mrising] at hm
    simp only [minsert]
    split
    · subst_vars; simp [mrising]; exact ⟨hj, hm.2⟩
    · split
      · simp [mrising]; exact ⟨hj, by omega, hm.2⟩
      · simp [mrising]; exact ⟨hm.1, ih (by omega) hm.2⟩

theorem mrising_filter {k : Nat} (f : Nat × α → Bool) (m : Map α) (hm : mrising k m = true) : mrising k (m.filter f) = true := by
  induction m generalizing k with
  | nil => rfl
  | cons p m ih =>
    obtain ⟨i, w⟩ := p
    simp [mrising] at hm
    simp only [List.filter_cons]
    split
    · simp [mrising]; exact ⟨hm.1, ih hm.2⟩
    · exact mrising_weaken (by omega) _ (ih hm.2)

theorem all_merase (f : Nat × α → Bool) (j : Nat) (m : Map α) (h : m.all f = true) : (merase j m).all f = true := by
  induction m with
  | nil => rfl
  | cons p m ih =>
    obtain ⟨i, w⟩ := p
    simp only [List.all_cons, Bool.and_eq_true] at h
    simp only [merase]
    split
    · exact ih h.2
    · simp only [List.all_cons, Bool.and_eq_true]; exact ⟨h.1, ih h.2⟩

theorem all_minsert (f : Nat × α → Bool) (j : Nat) (v : α) (m : Map α) (hv : f (j, v) = true) (h : m.all f = true) :
    (minsert j v m).all f = true := by
  induction m with
  | nil => simp [minsert, hv]
  | cons p m ih =>
    obtain ⟨i, w⟩ := p
    simp only [List.all_cons, Bool.and_eq_true] at h
    simp only [minsert]
    split
    · simp only [List.all_cons, Bool.and_eq_true]; exact ⟨hv, h.2⟩
    · split
      · simp only [List.all_cons, Bool.and_eq_true]; exact ⟨hv, h.1, h.2⟩
      · simp only [List.all_cons, Bool.and_eq_true]; exact ⟨h.1, ih h.2⟩

/-- Writing one entry keeps the canonical form. -/
theorem mwf_mputD [DecidableEq α] (d : α) (k : Nat) (v : α) (m : Map α) (h : mwf d m = true) : mwf d (mputD d k v m) = true := by
  simp only [mwf, Bool.and_eq_true] at h ⊢
  unfold mputD
  split
  · exact ⟨mrising_merase _ h.1, all_merase _ _ _ h.2⟩
  · exact ⟨mrising_minsert (by omega) _ _ h.1, all_minsert _ _ _ _ (by simp [*]) h.2⟩

/-- Dropping entries keeps the canonical form. -/
theorem mwf_filter [DecidableEq α] (d : α) (f : Nat × α → Bool) (m : Map α) (h : mwf d m = true) : mwf d (m.filter f) = true := by
  simp only [mwf, Bool.and_eq_true] at h ⊢
  refine ⟨mrising_filter _ _ h.1, ?_⟩
  rw [List.all_eq_true] at h ⊢
  intro x hx
  exact h.2 x (List.mem_filter.mp hx).1

/-! ## Memory -/

/-- Storing bytes keeps the canonical form. -/
theorem mwf_memStore (m : List Host.Cell) (a : Nat) (bs : Bytes) (h : mwf 0 m = true) : mwf 0 (memStore m a bs) = true := by
  induction bs generalizing m a with
  | nil => exact h
  | cons v vs ih => exact ih _ _ (mwf_mputD _ _ _ _ h)

/-- A store leaves every byte outside it as it was. -/
theorem byte_memStore_out (m : List Host.Cell) (a x : Nat) (bs : Bytes) (h : x < a ∨ a + bs.length ≤ x) :
    mgetD 0 x (memStore m a bs) = mgetD 0 x m := by
  induction bs generalizing m a with
  | nil => rfl
  | cons v vs ih =>
    simp only [memStore]
    rw [ih _ _ (by simp at h; omega), mgetD_mputD_ne (by simp at h; omega)]

/-- A store writes the bytes given. -/
theorem byte_memStore_in (m : List Host.Cell) (a i : Nat) (bs : Bytes) (h : i < bs.length) :
    mgetD 0 (a + i) (memStore m a bs) = bs[i] := by
  induction bs generalizing m a i with
  | nil => simp at h
  | cons v vs ih =>
    cases i with
    | zero =>
      simp only [memStore]
      rw [byte_memStore_out _ _ _ _ (by omega)]; simp
    | succ j =>
      simp only [memStore]
      have := ih (mputD 0 a v m) (a + 1) j (by simpa using h)
      simpa [Nat.add_assoc, Nat.add_comm 1 j] using this

/-- A store of bytes read back. -/
theorem Body.byte_store_out (b : Body) (a x : Nat) (bs : Bytes) (h : x < a ∨ a + bs.length ≤ x) : (b.store a bs).byte x = b.byte x :=
  byte_memStore_out _ _ _ _ h

/-- A store of bytes leaves the others. -/
theorem Body.byte_store_in (b : Body) (a i : Nat) (bs : Bytes) (h : i < bs.length) : (b.store a bs).byte (a + i) = bs[i] :=
  byte_memStore_in _ _ _ _ h

theorem mfind_filter_none (f : Nat × α → Bool) (k : Nat) (m : Map α) (h : ∀ v, f (k, v) = false) : mfind k (m.filter f) = none := by
  induction m with
  | nil => rfl
  | cons p m ih =>
    obtain ⟨i, w⟩ := p
    simp only [List.filter_cons]
    split
    · have : k ≠ i := by rintro rfl; simp_all
      simp [mfind, this, ih]
    · exact ih

theorem mfind_filter_keep (f : Nat × α → Bool) (k : Nat) (m : Map α) (h : ∀ v, f (k, v) = true) : mfind k (m.filter f) = mfind k m := by
  induction m with
  | nil => rfl
  | cons p m ih =>
    obtain ⟨i, w⟩ := p
    simp only [List.filter_cons]
    split
    · simp [mfind, ih]
    · have : k ≠ i := by rintro rfl; simp_all
      simp [mfind, this, ih]

/-- Zeroed bytes read 0. -/
theorem Body.byte_zeroMem_in (b : Body) (a n x : Nat) (h1 : a ≤ x) (h2 : x < a + n) : (b.zeroMem a n).byte x = 0 := by
  simp [Body.byte, Body.zeroMem, mgetD, mfind_filter_none, h1, h2]

/-- Bytes outside the range zeroed are as they were. -/
theorem Body.byte_zeroMem_out (b : Body) (a n x : Nat) (h : x < a ∨ a + n ≤ x) : (b.zeroMem a n).byte x = b.byte x := by
  simp only [Body.byte, Body.zeroMem, mgetD]
  rw [mfind_filter_keep _ _ _ (by intro v; simp; omega)]

/-- Storing keeps the canonical form. -/
theorem Memory.wf_store (b : Body) (a : Nat) (bs : Bytes) (h : Memory.wf b.mem = true) : Memory.wf (b.store a bs).mem = true :=
  mwf_memStore _ _ _ h

/-- Zeroing keeps the canonical form. -/
theorem Memory.wf_zeroMem (b : Body) (a n : Nat) (h : Memory.wf b.mem = true) : Memory.wf (b.zeroMem a n).mem = true :=
  mwf_filter _ _ _ h

/-- The memory after reset has it. -/
theorem Memory.wf_reset : Memory.wf State.reset.b.mem = true := rfl

end Sys2Proof.Machine
end

