-- ==== Sys2Proof/Laws/State.lean ====
section
/-! SUPPORT. Laws of the state: what each basic update leaves unchanged, field by field, and what a register reads after a write. -/

namespace Sys2Proof.Machine

set_option Elab.async false

variable (b : Body)

/-! ## Frames of the basic updates -/

@[simp] theorem Body.setReg_blob (i j : Nat) (v : Int) : (b.setReg i j v).blob = b.blob := rfl
@[simp] theorem Body.setReg_mem (i j : Nat) (v : Int) : (b.setReg i j v).mem = b.mem := rfl
@[simp] theorem Body.setReg_tu (i j : Nat) (v : Int) : (b.setReg i j v).tu = b.tu := rfl
@[simp] theorem Body.setReg_ev (i j : Nat) (v : Int) : (b.setReg i j v).ev = b.ev := rfl
@[simp] theorem Body.setReg_dict (i j : Nat) (v : Int) : (b.setReg i j v).dict = b.dict := rfl
@[simp] theorem Body.setReg_mbox (i j : Nat) (v : Int) : (b.setReg i j v).mbox = b.mbox := rfl
@[simp] theorem Body.setReg_ops (i j : Nat) (v : Int) : (b.setReg i j v).ops = b.ops := rfl
@[simp] theorem Body.setReg_seq (i j : Nat) (v : Int) : (b.setReg i j v).seq = b.seq := rfl
@[simp] theorem Body.setReg_beads (i j : Nat) (v : Int) : (b.setReg i j v).beads = b.beads := rfl
@[simp] theorem Body.setReg_lay (i j : Nat) (v : Int) : (b.setReg i j v).lay = b.lay := rfl
@[simp] theorem Body.setReg_cor (i j : Nat) (v : Int) : (b.setReg i j v).cor = b.cor := rfl
@[simp] theorem Body.setReg_rods (i j : Nat) (v : Int) : (b.setReg i j v).rods = b.rods := rfl
@[simp] theorem Body.setReg_tiles (i j : Nat) (v : Int) : (b.setReg i j v).tiles = b.tiles := rfl
@[simp] theorem Body.setReg_pans (i j : Nat) (v : Int) : (b.setReg i j v).pans = b.pans := rfl
@[simp] theorem Body.setReg_media (i j : Nat) (v : Int) : (b.setReg i j v).media = b.media := rfl
@[simp] theorem Body.setReg_hbm (i j : Nat) (v : Int) : (b.setReg i j v).hbm = b.hbm := rfl
@[simp] theorem Body.setReg_dma (i j : Nat) (v : Int) : (b.setReg i j v).dma = b.dma := rfl
@[simp] theorem Body.setReg_pair (i j : Nat) (v : Int) : (b.setReg i j v).pair = b.pair := rfl
@[simp] theorem Body.setReg_flt (i j : Nat) (v : Int) : (b.setReg i j v).flt = b.flt := rfl
@[simp] theorem Body.setReg_si (i j : Nat) (v : Int) : (b.setReg i j v).si = b.si := rfl
@[simp] theorem Body.setReg_dev (i j : Nat) (v : Int) : (b.setReg i j v).dev = b.dev := rfl
@[simp] theorem Body.setReg_out (i j : Nat) (v : Int) : (b.setReg i j v).out = b.out := rfl
@[simp] theorem Body.setReg_free (i j : Nat) (v : Int) : (b.setReg i j v).free = b.free := rfl

@[simp] theorem Body.setStr_num (i j : Nat) (v : Bytes) : (b.setStr i j v).num = b.num := rfl
@[simp] theorem Body.setStr_mem (i j : Nat) (v : Bytes) : (b.setStr i j v).mem = b.mem := rfl
@[simp] theorem Body.setStr_tu (i j : Nat) (v : Bytes) : (b.setStr i j v).tu = b.tu := rfl
@[simp] theorem Body.setStr_ev (i j : Nat) (v : Bytes) : (b.setStr i j v).ev = b.ev := rfl
@[simp] theorem Body.setStr_dict (i j : Nat) (v : Bytes) : (b.setStr i j v).dict = b.dict := rfl
@[simp] theorem Body.setStr_mbox (i j : Nat) (v : Bytes) : (b.setStr i j v).mbox = b.mbox := rfl
@[simp] theorem Body.setStr_ops (i j : Nat) (v : Bytes) : (b.setStr i j v).ops = b.ops := rfl
@[simp] theorem Body.setStr_seq (i j : Nat) (v : Bytes) : (b.setStr i j v).seq = b.seq := rfl
@[simp] theorem Body.setStr_beads (i j : Nat) (v : Bytes) : (b.setStr i j v).beads = b.beads := rfl
@[simp] theorem Body.setStr_lay (i j : Nat) (v : Bytes) : (b.setStr i j v).lay = b.lay := rfl
@[simp] theorem Body.setStr_cor (i j : Nat) (v : Bytes) : (b.setStr i j v).cor = b.cor := rfl
@[simp] theorem Body.setStr_rods (i j : Nat) (v : Bytes) : (b.setStr i j v).rods = b.rods := rfl
@[simp] theorem Body.setStr_tiles (i j : Nat) (v : Bytes) : (b.setStr i j v).tiles = b.tiles := rfl
@[simp] theorem Body.setStr_pans (i j : Nat) (v : Bytes) : (b.setStr i j v).pans = b.pans := rfl
@[simp] theorem Body.setStr_media (i j : Nat) (v : Bytes) : (b.setStr i j v).media = b.media := rfl
@[simp] theorem Body.setStr_hbm (i j : Nat) (v : Bytes) : (b.setStr i j v).hbm = b.hbm := rfl
@[simp] theorem Body.setStr_dma (i j : Nat) (v : Bytes) : (b.setStr i j v).dma = b.dma := rfl
@[simp] theorem Body.setStr_pair (i j : Nat) (v : Bytes) : (b.setStr i j v).pair = b.pair := rfl
@[simp] theorem Body.setStr_flt (i j : Nat) (v : Bytes) : (b.setStr i j v).flt = b.flt := rfl
@[simp] theorem Body.setStr_si (i j : Nat) (v : Bytes) : (b.setStr i j v).si = b.si := rfl
@[simp] theorem Body.setStr_dev (i j : Nat) (v : Bytes) : (b.setStr i j v).dev = b.dev := rfl
@[simp] theorem Body.setStr_out (i j : Nat) (v : Bytes) : (b.setStr i j v).out = b.out := rfl
@[simp] theorem Body.setStr_free (i j : Nat) (v : Bytes) : (b.setStr i j v).free = b.free := rfl

@[simp] theorem Body.bump_blob (i j n : Nat) : (b.bump i j n).blob = b.blob := rfl
@[simp] theorem Body.bump_mem (i j n : Nat) : (b.bump i j n).mem = b.mem := rfl
@[simp] theorem Body.bump_tu (i j n : Nat) : (b.bump i j n).tu = b.tu := rfl
@[simp] theorem Body.bump_ev (i j n : Nat) : (b.bump i j n).ev = b.ev := rfl
@[simp] theorem Body.bump_dict (i j n : Nat) : (b.bump i j n).dict = b.dict := rfl
@[simp] theorem Body.bump_mbox (i j n : Nat) : (b.bump i j n).mbox = b.mbox := rfl
@[simp] theorem Body.bump_ops (i j n : Nat) : (b.bump i j n).ops = b.ops := rfl
@[simp] theorem Body.bump_seq (i j n : Nat) : (b.bump i j n).seq = b.seq := rfl
@[simp] theorem Body.bump_beads (i j n : Nat) : (b.bump i j n).beads = b.beads := rfl
@[simp] theorem Body.bump_lay (i j n : Nat) : (b.bump i j n).lay = b.lay := rfl
@[simp] theorem Body.bump_cor (i j n : Nat) : (b.bump i j n).cor = b.cor := rfl
@[simp] theorem Body.bump_rods (i j n : Nat) : (b.bump i j n).rods = b.rods := rfl
@[simp] theorem Body.bump_tiles (i j n : Nat) : (b.bump i j n).tiles = b.tiles := rfl
@[simp] theorem Body.bump_pans (i j n : Nat) : (b.bump i j n).pans = b.pans := rfl
@[simp] theorem Body.bump_media (i j n : Nat) : (b.bump i j n).media = b.media := rfl
@[simp] theorem Body.bump_hbm (i j n : Nat) : (b.bump i j n).hbm = b.hbm := rfl
@[simp] theorem Body.bump_dma (i j n : Nat) : (b.bump i j n).dma = b.dma := rfl
@[simp] theorem Body.bump_pair (i j n : Nat) : (b.bump i j n).pair = b.pair := rfl
@[simp] theorem Body.bump_flt (i j n : Nat) : (b.bump i j n).flt = b.flt := rfl
@[simp] theorem Body.bump_si (i j n : Nat) : (b.bump i j n).si = b.si := rfl
@[simp] theorem Body.bump_dev (i j n : Nat) : (b.bump i j n).dev = b.dev := rfl
@[simp] theorem Body.bump_out (i j n : Nat) : (b.bump i j n).out = b.out := rfl
@[simp] theorem Body.bump_free (i j n : Nat) : (b.bump i j n).free = b.free := rfl

@[simp] theorem Body.tookFree_num (n : Nat) : (b.tookFree n).num = b.num := rfl
@[simp] theorem Body.tookFree_blob (n : Nat) : (b.tookFree n).blob = b.blob := rfl
@[simp] theorem Body.tookFree_mem (n : Nat) : (b.tookFree n).mem = b.mem := rfl
@[simp] theorem Body.tookFree_tu (n : Nat) : (b.tookFree n).tu = b.tu := rfl
@[simp] theorem Body.tookFree_ev (n : Nat) : (b.tookFree n).ev = b.ev := rfl
@[simp] theorem Body.tookFree_dict (n : Nat) : (b.tookFree n).dict = b.dict := rfl
@[simp] theorem Body.tookFree_mbox (n : Nat) : (b.tookFree n).mbox = b.mbox := rfl
@[simp] theorem Body.tookFree_ops (n : Nat) : (b.tookFree n).ops = b.ops := rfl
@[simp] theorem Body.tookFree_seq (n : Nat) : (b.tookFree n).seq = b.seq := rfl
@[simp] theorem Body.tookFree_beads (n : Nat) : (b.tookFree n).beads = b.beads := rfl
@[simp] theorem Body.tookFree_lay (n : Nat) : (b.tookFree n).lay = b.lay := rfl
@[simp] theorem Body.tookFree_cor (n : Nat) : (b.tookFree n).cor = b.cor := rfl
@[simp] theorem Body.tookFree_rods (n : Nat) : (b.tookFree n).rods = b.rods := rfl
@[simp] theorem Body.tookFree_tiles (n : Nat) : (b.tookFree n).tiles = b.tiles := rfl
@[simp] theorem Body.tookFree_pans (n : Nat) : (b.tookFree n).pans = b.pans := rfl
@[simp] theorem Body.tookFree_media (n : Nat) : (b.tookFree n).media = b.media := rfl
@[simp] theorem Body.tookFree_hbm (n : Nat) : (b.tookFree n).hbm = b.hbm := rfl
@[simp] theorem Body.tookFree_dma (n : Nat) : (b.tookFree n).dma = b.dma := rfl
@[simp] theorem Body.tookFree_pair (n : Nat) : (b.tookFree n).pair = b.pair := rfl
@[simp] theorem Body.tookFree_flt (n : Nat) : (b.tookFree n).flt = b.flt := rfl
@[simp] theorem Body.tookFree_si (n : Nat) : (b.tookFree n).si = b.si := rfl
@[simp] theorem Body.tookFree_dev (n : Nat) : (b.tookFree n).dev = b.dev := rfl
@[simp] theorem Body.tookFree_out (n : Nat) : (b.tookFree n).out = b.out := rfl

@[simp] theorem Body.emit_num (o : Out) : (b.emit o).num = b.num := rfl
@[simp] theorem Body.emit_blob (o : Out) : (b.emit o).blob = b.blob := rfl
@[simp] theorem Body.emit_mem (o : Out) : (b.emit o).mem = b.mem := rfl
@[simp] theorem Body.emit_tu (o : Out) : (b.emit o).tu = b.tu := rfl
@[simp] theorem Body.emit_ev (o : Out) : (b.emit o).ev = b.ev := rfl
@[simp] theorem Body.emit_dict (o : Out) : (b.emit o).dict = b.dict := rfl
@[simp] theorem Body.emit_mbox (o : Out) : (b.emit o).mbox = b.mbox := rfl
@[simp] theorem Body.emit_ops (o : Out) : (b.emit o).ops = b.ops := rfl
@[simp] theorem Body.emit_seq (o : Out) : (b.emit o).seq = b.seq := rfl
@[simp] theorem Body.emit_beads (o : Out) : (b.emit o).beads = b.beads := rfl
@[simp] theorem Body.emit_lay (o : Out) : (b.emit o).lay = b.lay := rfl
@[simp] theorem Body.emit_cor (o : Out) : (b.emit o).cor = b.cor := rfl
@[simp] theorem Body.emit_rods (o : Out) : (b.emit o).rods = b.rods := rfl
@[simp] theorem Body.emit_tiles (o : Out) : (b.emit o).tiles = b.tiles := rfl
@[simp] theorem Body.emit_pans (o : Out) : (b.emit o).pans = b.pans := rfl
@[simp] theorem Body.emit_media (o : Out) : (b.emit o).media = b.media := rfl
@[simp] theorem Body.emit_hbm (o : Out) : (b.emit o).hbm = b.hbm := rfl
@[simp] theorem Body.emit_dma (o : Out) : (b.emit o).dma = b.dma := rfl
@[simp] theorem Body.emit_pair (o : Out) : (b.emit o).pair = b.pair := rfl
@[simp] theorem Body.emit_flt (o : Out) : (b.emit o).flt = b.flt := rfl
@[simp] theorem Body.emit_si (o : Out) : (b.emit o).si = b.si := rfl
@[simp] theorem Body.emit_dev (o : Out) : (b.emit o).dev = b.dev := rfl
@[simp] theorem Body.emit_free (o : Out) : (b.emit o).free = b.free := rfl

@[simp] theorem Body.mark_num (e : Env) (k : Nat) : (b.mark e k).num = b.num := rfl
@[simp] theorem Body.mark_blob (e : Env) (k : Nat) : (b.mark e k).blob = b.blob := rfl
@[simp] theorem Body.mark_mem (e : Env) (k : Nat) : (b.mark e k).mem = b.mem := rfl
@[simp] theorem Body.mark_tu (e : Env) (k : Nat) : (b.mark e k).tu = b.tu := rfl
@[simp] theorem Body.mark_dict (e : Env) (k : Nat) : (b.mark e k).dict = b.dict := rfl
@[simp] theorem Body.mark_mbox (e : Env) (k : Nat) : (b.mark e k).mbox = b.mbox := rfl
@[simp] theorem Body.mark_ops (e : Env) (k : Nat) : (b.mark e k).ops = b.ops := rfl
@[simp] theorem Body.mark_seq (e : Env) (k : Nat) : (b.mark e k).seq = b.seq := rfl
@[simp] theorem Body.mark_beads (e : Env) (k : Nat) : (b.mark e k).beads = b.beads := rfl
@[simp] theorem Body.mark_lay (e : Env) (k : Nat) : (b.mark e k).lay = b.lay := rfl
@[simp] theorem Body.mark_cor (e : Env) (k : Nat) : (b.mark e k).cor = b.cor := rfl
@[simp] theorem Body.mark_rods (e : Env) (k : Nat) : (b.mark e k).rods = b.rods := rfl
@[simp] theorem Body.mark_tiles (e : Env) (k : Nat) : (b.mark e k).tiles = b.tiles := rfl
@[simp] theorem Body.mark_pans (e : Env) (k : Nat) : (b.mark e k).pans = b.pans := rfl
@[simp] theorem Body.mark_media (e : Env) (k : Nat) : (b.mark e k).media = b.media := rfl
@[simp] theorem Body.mark_hbm (e : Env) (k : Nat) : (b.mark e k).hbm = b.hbm := rfl
@[simp] theorem Body.mark_dma (e : Env) (k : Nat) : (b.mark e k).dma = b.dma := rfl
@[simp] theorem Body.mark_pair (e : Env) (k : Nat) : (b.mark e k).pair = b.pair := rfl
@[simp] theorem Body.mark_flt (e : Env) (k : Nat) : (b.mark e k).flt = b.flt := rfl
@[simp] theorem Body.mark_si (e : Env) (k : Nat) : (b.mark e k).si = b.si := rfl
@[simp] theorem Body.mark_dev (e : Env) (k : Nat) : (b.mark e k).dev = b.dev := rfl
@[simp] theorem Body.mark_out (e : Env) (k : Nat) : (b.mark e k).out = b.out := rfl
@[simp] theorem Body.mark_free (e : Env) (k : Nat) : (b.mark e k).free = b.free := rfl

@[simp] theorem Body.waitSeen_num (n : Nat) : (b.waitSeen n).num = b.num := rfl
@[simp] theorem Body.waitSeen_blob (n : Nat) : (b.waitSeen n).blob = b.blob := rfl
@[simp] theorem Body.waitSeen_mem (n : Nat) : (b.waitSeen n).mem = b.mem := rfl
@[simp] theorem Body.waitSeen_tu (n : Nat) : (b.waitSeen n).tu = b.tu := rfl
@[simp] theorem Body.waitSeen_ev (n : Nat) : (b.waitSeen n).ev = b.ev := rfl
@[simp] theorem Body.waitSeen_dict (n : Nat) : (b.waitSeen n).dict = b.dict := rfl
@[simp] theorem Body.waitSeen_mbox (n : Nat) : (b.waitSeen n).mbox = b.mbox := rfl
@[simp] theorem Body.waitSeen_ops (n : Nat) : (b.waitSeen n).ops = b.ops := rfl
@[simp] theorem Body.waitSeen_seq (n : Nat) : (b.waitSeen n).seq = b.seq := rfl
@[simp] theorem Body.waitSeen_beads (n : Nat) : (b.waitSeen n).beads = b.beads := rfl
@[simp] theorem Body.waitSeen_lay (n : Nat) : (b.waitSeen n).lay = b.lay := rfl
@[simp] theorem Body.waitSeen_cor (n : Nat) : (b.waitSeen n).cor = b.cor := rfl
@[simp] theorem Body.waitSeen_rods (n : Nat) : (b.waitSeen n).rods = b.rods := rfl
@[simp] theorem Body.waitSeen_tiles (n : Nat) : (b.waitSeen n).tiles = b.tiles := rfl
@[simp] theorem Body.waitSeen_pans (n : Nat) : (b.waitSeen n).pans = b.pans := rfl
@[simp] theorem Body.waitSeen_media (n : Nat) : (b.waitSeen n).media = b.media := rfl
@[simp] theorem Body.waitSeen_hbm (n : Nat) : (b.waitSeen n).hbm = b.hbm := rfl
@[simp] theorem Body.waitSeen_pair (n : Nat) : (b.waitSeen n).pair = b.pair := rfl
@[simp] theorem Body.waitSeen_flt (n : Nat) : (b.waitSeen n).flt = b.flt := rfl
@[simp] theorem Body.waitSeen_si (n : Nat) : (b.waitSeen n).si = b.si := rfl
@[simp] theorem Body.waitSeen_dev (n : Nat) : (b.waitSeen n).dev = b.dev := rfl
@[simp] theorem Body.waitSeen_out (n : Nat) : (b.waitSeen n).out = b.out := rfl
@[simp] theorem Body.waitSeen_free (n : Nat) : (b.waitSeen n).free = b.free := rfl

@[simp] theorem Body.store_num (a : Nat) (v : Bytes) : (b.store a v).num = b.num := rfl
@[simp] theorem Body.store_blob (a : Nat) (v : Bytes) : (b.store a v).blob = b.blob := rfl
@[simp] theorem Body.store_tu (a : Nat) (v : Bytes) : (b.store a v).tu = b.tu := rfl
@[simp] theorem Body.store_ev (a : Nat) (v : Bytes) : (b.store a v).ev = b.ev := rfl
@[simp] theorem Body.store_dict (a : Nat) (v : Bytes) : (b.store a v).dict = b.dict := rfl
@[simp] theorem Body.store_mbox (a : Nat) (v : Bytes) : (b.store a v).mbox = b.mbox := rfl
@[simp] theorem Body.store_ops (a : Nat) (v : Bytes) : (b.store a v).ops = b.ops := rfl
@[simp] theorem Body.store_seq (a : Nat) (v : Bytes) : (b.store a v).seq = b.seq := rfl
@[simp] theorem Body.store_beads (a : Nat) (v : Bytes) : (b.store a v).beads = b.beads := rfl
@[simp] theorem Body.store_lay (a : Nat) (v : Bytes) : (b.store a v).lay = b.lay := rfl
@[simp] theorem Body.store_cor (a : Nat) (v : Bytes) : (b.store a v).cor = b.cor := rfl
@[simp] theorem Body.store_rods (a : Nat) (v : Bytes) : (b.store a v).rods = b.rods := rfl
@[simp] theorem Body.store_tiles (a : Nat) (v : Bytes) : (b.store a v).tiles = b.tiles := rfl
@[simp] theorem Body.store_pans (a : Nat) (v : Bytes) : (b.store a v).pans = b.pans := rfl
@[simp] theorem Body.store_media (a : Nat) (v : Bytes) : (b.store a v).media = b.media := rfl
@[simp] theorem Body.store_hbm (a : Nat) (v : Bytes) : (b.store a v).hbm = b.hbm := rfl
@[simp] theorem Body.store_dma (a : Nat) (v : Bytes) : (b.store a v).dma = b.dma := rfl
@[simp] theorem Body.store_pair (a : Nat) (v : Bytes) : (b.store a v).pair = b.pair := rfl
@[simp] theorem Body.store_flt (a : Nat) (v : Bytes) : (b.store a v).flt = b.flt := rfl
@[simp] theorem Body.store_si (a : Nat) (v : Bytes) : (b.store a v).si = b.si := rfl
@[simp] theorem Body.store_dev (a : Nat) (v : Bytes) : (b.store a v).dev = b.dev := rfl
@[simp] theorem Body.store_out (a : Nat) (v : Bytes) : (b.store a v).out = b.out := rfl
@[simp] theorem Body.store_free (a : Nat) (v : Bytes) : (b.store a v).free = b.free := rfl

@[simp] theorem Body.zeroMem_num (a n : Nat) : (b.zeroMem a n).num = b.num := rfl
@[simp] theorem Body.zeroMem_blob (a n : Nat) : (b.zeroMem a n).blob = b.blob := rfl
@[simp] theorem Body.zeroMem_tu (a n : Nat) : (b.zeroMem a n).tu = b.tu := rfl
@[simp] theorem Body.zeroMem_ev (a n : Nat) : (b.zeroMem a n).ev = b.ev := rfl
@[simp] theorem Body.zeroMem_dict (a n : Nat) : (b.zeroMem a n).dict = b.dict := rfl
@[simp] theorem Body.zeroMem_mbox (a n : Nat) : (b.zeroMem a n).mbox = b.mbox := rfl
@[simp] theorem Body.zeroMem_ops (a n : Nat) : (b.zeroMem a n).ops = b.ops := rfl
@[simp] theorem Body.zeroMem_seq (a n : Nat) : (b.zeroMem a n).seq = b.seq := rfl
@[simp] theorem Body.zeroMem_beads (a n : Nat) : (b.zeroMem a n).beads = b.beads := rfl
@[simp] theorem Body.zeroMem_lay (a n : Nat) : (b.zeroMem a n).lay = b.lay := rfl
@[simp] theorem Body.zeroMem_cor (a n : Nat) : (b.zeroMem a n).cor = b.cor := rfl
@[simp] theorem Body.zeroMem_rods (a n : Nat) : (b.zeroMem a n).rods = b.rods := rfl
@[simp] theorem Body.zeroMem_tiles (a n : Nat) : (b.zeroMem a n).tiles = b.tiles := rfl
@[simp] theorem Body.zeroMem_pans (a n : Nat) : (b.zeroMem a n).pans = b.pans := rfl
@[simp] theorem Body.zeroMem_media (a n : Nat) : (b.zeroMem a n).media = b.media := rfl
@[simp] theorem Body.zeroMem_hbm (a n : Nat) : (b.zeroMem a n).hbm = b.hbm := rfl
@[simp] theorem Body.zeroMem_dma (a n : Nat) : (b.zeroMem a n).dma = b.dma := rfl
@[simp] theorem Body.zeroMem_pair (a n : Nat) : (b.zeroMem a n).pair = b.pair := rfl
@[simp] theorem Body.zeroMem_flt (a n : Nat) : (b.zeroMem a n).flt = b.flt := rfl
@[simp] theorem Body.zeroMem_si (a n : Nat) : (b.zeroMem a n).si = b.si := rfl
@[simp] theorem Body.zeroMem_dev (a n : Nat) : (b.zeroMem a n).dev = b.dev := rfl
@[simp] theorem Body.zeroMem_out (a n : Nat) : (b.zeroMem a n).out = b.out := rfl
@[simp] theorem Body.zeroMem_free (a n : Nat) : (b.zeroMem a n).free = b.free := rfl

@[simp] theorem Body.setRod_num (n : Nat) (x : Rod) : (b.setRod n x).num = b.num := rfl
@[simp] theorem Body.setRod_blob (n : Nat) (x : Rod) : (b.setRod n x).blob = b.blob := rfl
@[simp] theorem Body.setRod_mem (n : Nat) (x : Rod) : (b.setRod n x).mem = b.mem := rfl
@[simp] theorem Body.setRod_tu (n : Nat) (x : Rod) : (b.setRod n x).tu = b.tu := rfl
@[simp] theorem Body.setRod_ev (n : Nat) (x : Rod) : (b.setRod n x).ev = b.ev := rfl
@[simp] theorem Body.setRod_dict (n : Nat) (x : Rod) : (b.setRod n x).dict = b.dict := rfl
@[simp] theorem Body.setRod_mbox (n : Nat) (x : Rod) : (b.setRod n x).mbox = b.mbox := rfl
@[simp] theorem Body.setRod_ops (n : Nat) (x : Rod) : (b.setRod n x).ops = b.ops := rfl
@[simp] theorem Body.setRod_seq (n : Nat) (x : Rod) : (b.setRod n x).seq = b.seq := rfl
@[simp] theorem Body.setRod_beads (n : Nat) (x : Rod) : (b.setRod n x).beads = b.beads := rfl
@[simp] theorem Body.setRod_lay (n : Nat) (x : Rod) : (b.setRod n x).lay = b.lay := rfl
@[simp] theorem Body.setRod_cor (n : Nat) (x : Rod) : (b.setRod n x).cor = b.cor := rfl
@[simp] theorem Body.setRod_tiles (n : Nat) (x : Rod) : (b.setRod n x).tiles = b.tiles := rfl
@[simp] theorem Body.setRod_pans (n : Nat) (x : Rod) : (b.setRod n x).pans = b.pans := rfl
@[simp] theorem Body.setRod_media (n : Nat) (x : Rod) : (b.setRod n x).media = b.media := rfl
@[simp] theorem Body.setRod_hbm (n : Nat) (x : Rod) : (b.setRod n x).hbm = b.hbm := rfl
@[simp] theorem Body.setRod_dma (n : Nat) (x : Rod) : (b.setRod n x).dma = b.dma := rfl
@[simp] theorem Body.setRod_pair (n : Nat) (x : Rod) : (b.setRod n x).pair = b.pair := rfl
@[simp] theorem Body.setRod_flt (n : Nat) (x : Rod) : (b.setRod n x).flt = b.flt := rfl
@[simp] theorem Body.setRod_si (n : Nat) (x : Rod) : (b.setRod n x).si = b.si := rfl
@[simp] theorem Body.setRod_dev (n : Nat) (x : Rod) : (b.setRod n x).dev = b.dev := rfl
@[simp] theorem Body.setRod_out (n : Nat) (x : Rod) : (b.setRod n x).out = b.out := rfl
@[simp] theorem Body.setRod_free (n : Nat) (x : Rod) : (b.setRod n x).free = b.free := rfl

@[simp] theorem Body.modRod_num (n : Nat) (f : Rod → Rod) : (b.modRod n f).num = b.num := rfl
@[simp] theorem Body.modRod_blob (n : Nat) (f : Rod → Rod) : (b.modRod n f).blob = b.blob := rfl
@[simp] theorem Body.modRod_mem (n : Nat) (f : Rod → Rod) : (b.modRod n f).mem = b.mem := rfl
@[simp] theorem Body.modRod_tu (n : Nat) (f : Rod → Rod) : (b.modRod n f).tu = b.tu := rfl
@[simp] theorem Body.modRod_ev (n : Nat) (f : Rod → Rod) : (b.modRod n f).ev = b.ev := rfl
@[simp] theorem Body.modRod_dict (n : Nat) (f : Rod → Rod) : (b.modRod n f).dict = b.dict := rfl
@[simp] theorem Body.modRod_mbox (n : Nat) (f : Rod → Rod) : (b.modRod n f).mbox = b.mbox := rfl
@[simp] theorem Body.modRod_ops (n : Nat) (f : Rod → Rod) : (b.modRod n f).ops = b.ops := rfl
@[simp] theorem Body.modRod_seq (n : Nat) (f : Rod → Rod) : (b.modRod n f).seq = b.seq := rfl
@[simp] theorem Body.modRod_beads (n : Nat) (f : Rod → Rod) : (b.modRod n f).beads = b.beads := rfl
@[simp] theorem Body.modRod_lay (n : Nat) (f : Rod → Rod) : (b.modRod n f).lay = b.lay := rfl
@[simp] theorem Body.modRod_cor (n : Nat) (f : Rod → Rod) : (b.modRod n f).cor = b.cor := rfl
@[simp] theorem Body.modRod_tiles (n : Nat) (f : Rod → Rod) : (b.modRod n f).tiles = b.tiles := rfl
@[simp] theorem Body.modRod_pans (n : Nat) (f : Rod → Rod) : (b.modRod n f).pans = b.pans := rfl
@[simp] theorem Body.modRod_media (n : Nat) (f : Rod → Rod) : (b.modRod n f).media = b.media := rfl
@[simp] theorem Body.modRod_hbm (n : Nat) (f : Rod → Rod) : (b.modRod n f).hbm = b.hbm := rfl
@[simp] theorem Body.modRod_dma (n : Nat) (f : Rod → Rod) : (b.modRod n f).dma = b.dma := rfl
@[simp] theorem Body.modRod_pair (n : Nat) (f : Rod → Rod) : (b.modRod n f).pair = b.pair := rfl
@[simp] theorem Body.modRod_flt (n : Nat) (f : Rod → Rod) : (b.modRod n f).flt = b.flt := rfl
@[simp] theorem Body.modRod_si (n : Nat) (f : Rod → Rod) : (b.modRod n f).si = b.si := rfl
@[simp] theorem Body.modRod_dev (n : Nat) (f : Rod → Rod) : (b.modRod n f).dev = b.dev := rfl
@[simp] theorem Body.modRod_out (n : Nat) (f : Rod → Rod) : (b.modRod n f).out = b.out := rfl
@[simp] theorem Body.modRod_free (n : Nat) (f : Rod → Rod) : (b.modRod n f).free = b.free := rfl

@[simp] theorem Body.send_num (n : Nat) (f : DnFrame) : (b.send n f).num = b.num := rfl
@[simp] theorem Body.send_blob (n : Nat) (f : DnFrame) : (b.send n f).blob = b.blob := rfl
@[simp] theorem Body.send_mem (n : Nat) (f : DnFrame) : (b.send n f).mem = b.mem := rfl
@[simp] theorem Body.send_tu (n : Nat) (f : DnFrame) : (b.send n f).tu = b.tu := rfl
@[simp] theorem Body.send_ev (n : Nat) (f : DnFrame) : (b.send n f).ev = b.ev := rfl
@[simp] theorem Body.send_dict (n : Nat) (f : DnFrame) : (b.send n f).dict = b.dict := rfl
@[simp] theorem Body.send_mbox (n : Nat) (f : DnFrame) : (b.send n f).mbox = b.mbox := rfl
@[simp] theorem Body.send_ops (n : Nat) (f : DnFrame) : (b.send n f).ops = b.ops := rfl
@[simp] theorem Body.send_seq (n : Nat) (f : DnFrame) : (b.send n f).seq = b.seq := rfl
@[simp] theorem Body.send_beads (n : Nat) (f : DnFrame) : (b.send n f).beads = b.beads := rfl
@[simp] theorem Body.send_lay (n : Nat) (f : DnFrame) : (b.send n f).lay = b.lay := rfl
@[simp] theorem Body.send_cor (n : Nat) (f : DnFrame) : (b.send n f).cor = b.cor := rfl
@[simp] theorem Body.send_tiles (n : Nat) (f : DnFrame) : (b.send n f).tiles = b.tiles := rfl
@[simp] theorem Body.send_pans (n : Nat) (f : DnFrame) : (b.send n f).pans = b.pans := rfl
@[simp] theorem Body.send_media (n : Nat) (f : DnFrame) : (b.send n f).media = b.media := rfl
@[simp] theorem Body.send_hbm (n : Nat) (f : DnFrame) : (b.send n f).hbm = b.hbm := rfl
@[simp] theorem Body.send_dma (n : Nat) (f : DnFrame) : (b.send n f).dma = b.dma := rfl
@[simp] theorem Body.send_pair (n : Nat) (f : DnFrame) : (b.send n f).pair = b.pair := rfl
@[simp] theorem Body.send_flt (n : Nat) (f : DnFrame) : (b.send n f).flt = b.flt := rfl
@[simp] theorem Body.send_si (n : Nat) (f : DnFrame) : (b.send n f).si = b.si := rfl
@[simp] theorem Body.send_dev (n : Nat) (f : DnFrame) : (b.send n f).dev = b.dev := rfl
@[simp] theorem Body.send_out (n : Nat) (f : DnFrame) : (b.send n f).out = b.out := rfl
@[simp] theorem Body.send_free (n : Nat) (f : DnFrame) : (b.send n f).free = b.free := rfl

@[simp] theorem Body.setTile_num (n p : Nat) (x : Tile) : (b.setTile n p x).num = b.num := rfl
@[simp] theorem Body.setTile_blob (n p : Nat) (x : Tile) : (b.setTile n p x).blob = b.blob := rfl
@[simp] theorem Body.setTile_mem (n p : Nat) (x : Tile) : (b.setTile n p x).mem = b.mem := rfl
@[simp] theorem Body.setTile_tu (n p : Nat) (x : Tile) : (b.setTile n p x).tu = b.tu := rfl
@[simp] theorem Body.setTile_ev (n p : Nat) (x : Tile) : (b.setTile n p x).ev = b.ev := rfl
@[simp] theorem Body.setTile_dict (n p : Nat) (x : Tile) : (b.setTile n p x).dict = b.dict := rfl
@[simp] theorem Body.setTile_mbox (n p : Nat) (x : Tile) : (b.setTile n p x).mbox = b.mbox := rfl
@[simp] theorem Body.setTile_ops (n p : Nat) (x : Tile) : (b.setTile n p x).ops = b.ops := rfl
@[simp] theorem Body.setTile_seq (n p : Nat) (x : Tile) : (b.setTile n p x).seq = b.seq := rfl
@[simp] theorem Body.setTile_beads (n p : Nat) (x : Tile) : (b.setTile n p x).beads = b.beads := rfl
@[simp] theorem Body.setTile_lay (n p : Nat) (x : Tile) : (b.setTile n p x).lay = b.lay := rfl
@[simp] theorem Body.setTile_cor (n p : Nat) (x : Tile) : (b.setTile n p x).cor = b.cor := rfl
@[simp] theorem Body.setTile_rods (n p : Nat) (x : Tile) : (b.setTile n p x).rods = b.rods := rfl
@[simp] theorem Body.setTile_pans (n p : Nat) (x : Tile) : (b.setTile n p x).pans = b.pans := rfl
@[simp] theorem Body.setTile_media (n p : Nat) (x : Tile) : (b.setTile n p x).media = b.media := rfl
@[simp] theorem Body.setTile_hbm (n p : Nat) (x : Tile) : (b.setTile n p x).hbm = b.hbm := rfl
@[simp] theorem Body.setTile_dma (n p : Nat) (x : Tile) : (b.setTile n p x).dma = b.dma := rfl
@[simp] theorem Body.setTile_pair (n p : Nat) (x : Tile) : (b.setTile n p x).pair = b.pair := rfl
@[simp] theorem Body.setTile_flt (n p : Nat) (x : Tile) : (b.setTile n p x).flt = b.flt := rfl
@[simp] theorem Body.setTile_si (n p : Nat) (x : Tile) : (b.setTile n p x).si = b.si := rfl
@[simp] theorem Body.setTile_dev (n p : Nat) (x : Tile) : (b.setTile n p x).dev = b.dev := rfl
@[simp] theorem Body.setTile_out (n p : Nat) (x : Tile) : (b.setTile n p x).out = b.out := rfl
@[simp] theorem Body.setTile_free (n p : Nat) (x : Tile) : (b.setTile n p x).free = b.free := rfl

@[simp] theorem Body.modTile_num (n p : Nat) (f : Tile → Tile) : (b.modTile n p f).num = b.num := rfl
@[simp] theorem Body.modTile_blob (n p : Nat) (f : Tile → Tile) : (b.modTile n p f).blob = b.blob := rfl
@[simp] theorem Body.modTile_mem (n p : Nat) (f : Tile → Tile) : (b.modTile n p f).mem = b.mem := rfl
@[simp] theorem Body.modTile_tu (n p : Nat) (f : Tile → Tile) : (b.modTile n p f).tu = b.tu := rfl
@[simp] theorem Body.modTile_ev (n p : Nat) (f : Tile → Tile) : (b.modTile n p f).ev = b.ev := rfl
@[simp] theorem Body.modTile_dict (n p : Nat) (f : Tile → Tile) : (b.modTile n p f).dict = b.dict := rfl
@[simp] theorem Body.modTile_mbox (n p : Nat) (f : Tile → Tile) : (b.modTile n p f).mbox = b.mbox := rfl
@[simp] theorem Body.modTile_ops (n p : Nat) (f : Tile → Tile) : (b.modTile n p f).ops = b.ops := rfl
@[simp] theorem Body.modTile_seq (n p : Nat) (f : Tile → Tile) : (b.modTile n p f).seq = b.seq := rfl
@[simp] theorem Body.modTile_beads (n p : Nat) (f : Tile → Tile) : (b.modTile n p f).beads = b.beads := rfl
@[simp] theorem Body.modTile_lay (n p : Nat) (f : Tile → Tile) : (b.modTile n p f).lay = b.lay := rfl
@[simp] theorem Body.modTile_cor (n p : Nat) (f : Tile → Tile) : (b.modTile n p f).cor = b.cor := rfl
@[simp] theorem Body.modTile_rods (n p : Nat) (f : Tile → Tile) : (b.modTile n p f).rods = b.rods := rfl
@[simp] theorem Body.modTile_pans (n p : Nat) (f : Tile → Tile) : (b.modTile n p f).pans = b.pans := rfl
@[simp] theorem Body.modTile_media (n p : Nat) (f : Tile → Tile) : (b.modTile n p f).media = b.media := rfl
@[simp] theorem Body.modTile_hbm (n p : Nat) (f : Tile → Tile) : (b.modTile n p f).hbm = b.hbm := rfl
@[simp] theorem Body.modTile_dma (n p : Nat) (f : Tile → Tile) : (b.modTile n p f).dma = b.dma := rfl
@[simp] theorem Body.modTile_pair (n p : Nat) (f : Tile → Tile) : (b.modTile n p f).pair = b.pair := rfl
@[simp] theorem Body.modTile_flt (n p : Nat) (f : Tile → Tile) : (b.modTile n p f).flt = b.flt := rfl
@[simp] theorem Body.modTile_si (n p : Nat) (f : Tile → Tile) : (b.modTile n p f).si = b.si := rfl
@[simp] theorem Body.modTile_dev (n p : Nat) (f : Tile → Tile) : (b.modTile n p f).dev = b.dev := rfl
@[simp] theorem Body.modTile_out (n p : Nat) (f : Tile → Tile) : (b.modTile n p f).out = b.out := rfl
@[simp] theorem Body.modTile_free (n p : Nat) (f : Tile → Tile) : (b.modTile n p f).free = b.free := rfl

@[simp] theorem Body.setPan_num (p : Nat) (x : Pan) : (b.setPan p x).num = b.num := rfl
@[simp] theorem Body.setPan_blob (p : Nat) (x : Pan) : (b.setPan p x).blob = b.blob := rfl
@[simp] theorem Body.setPan_mem (p : Nat) (x : Pan) : (b.setPan p x).mem = b.mem := rfl
@[simp] theorem Body.setPan_tu (p : Nat) (x : Pan) : (b.setPan p x).tu = b.tu := rfl
@[simp] theorem Body.setPan_ev (p : Nat) (x : Pan) : (b.setPan p x).ev = b.ev := rfl
@[simp] theorem Body.setPan_dict (p : Nat) (x : Pan) : (b.setPan p x).dict = b.dict := rfl
@[simp] theorem Body.setPan_mbox (p : Nat) (x : Pan) : (b.setPan p x).mbox = b.mbox := rfl
@[simp] theorem Body.setPan_ops (p : Nat) (x : Pan) : (b.setPan p x).ops = b.ops := rfl
@[simp] theorem Body.setPan_seq (p : Nat) (x : Pan) : (b.setPan p x).seq = b.seq := rfl
@[simp] theorem Body.setPan_beads (p : Nat) (x : Pan) : (b.setPan p x).beads = b.beads := rfl
@[simp] theorem Body.setPan_lay (p : Nat) (x : Pan) : (b.setPan p x).lay = b.lay := rfl
@[simp] theorem Body.setPan_cor (p : Nat) (x : Pan) : (b.setPan p x).cor = b.cor := rfl
@[simp] theorem Body.setPan_rods (p : Nat) (x : Pan) : (b.setPan p x).rods = b.rods := rfl
@[simp] theorem Body.setPan_tiles (p : Nat) (x : Pan) : (b.setPan p x).tiles = b.tiles := rfl
@[simp] theorem Body.setPan_media (p : Nat) (x : Pan) : (b.setPan p x).media = b.media := rfl
@[simp] theorem Body.setPan_hbm (p : Nat) (x : Pan) : (b.setPan p x).hbm = b.hbm := rfl
@[simp] theorem Body.setPan_dma (p : Nat) (x : Pan) : (b.setPan p x).dma = b.dma := rfl
@[simp] theorem Body.setPan_pair (p : Nat) (x : Pan) : (b.setPan p x).pair = b.pair := rfl
@[simp] theorem Body.setPan_flt (p : Nat) (x : Pan) : (b.setPan p x).flt = b.flt := rfl
@[simp] theorem Body.setPan_si (p : Nat) (x : Pan) : (b.setPan p x).si = b.si := rfl
@[simp] theorem Body.setPan_dev (p : Nat) (x : Pan) : (b.setPan p x).dev = b.dev := rfl
@[simp] theorem Body.setPan_out (p : Nat) (x : Pan) : (b.setPan p x).out = b.out := rfl
@[simp] theorem Body.setPan_free (p : Nat) (x : Pan) : (b.setPan p x).free = b.free := rfl

@[simp] theorem Body.setPanReg_blob (i p v : Nat) : (b.setPanReg i p v).blob = b.blob := rfl
@[simp] theorem Body.setPanReg_mem (i p v : Nat) : (b.setPanReg i p v).mem = b.mem := rfl
@[simp] theorem Body.setPanReg_tu (i p v : Nat) : (b.setPanReg i p v).tu = b.tu := rfl
@[simp] theorem Body.setPanReg_ev (i p v : Nat) : (b.setPanReg i p v).ev = b.ev := rfl
@[simp] theorem Body.setPanReg_dict (i p v : Nat) : (b.setPanReg i p v).dict = b.dict := rfl
@[simp] theorem Body.setPanReg_mbox (i p v : Nat) : (b.setPanReg i p v).mbox = b.mbox := rfl
@[simp] theorem Body.setPanReg_ops (i p v : Nat) : (b.setPanReg i p v).ops = b.ops := rfl
@[simp] theorem Body.setPanReg_seq (i p v : Nat) : (b.setPanReg i p v).seq = b.seq := rfl
@[simp] theorem Body.setPanReg_beads (i p v : Nat) : (b.setPanReg i p v).beads = b.beads := rfl
@[simp] theorem Body.setPanReg_lay (i p v : Nat) : (b.setPanReg i p v).lay = b.lay := rfl
@[simp] theorem Body.setPanReg_cor (i p v : Nat) : (b.setPanReg i p v).cor = b.cor := rfl
@[simp] theorem Body.setPanReg_rods (i p v : Nat) : (b.setPanReg i p v).rods = b.rods := rfl
@[simp] theorem Body.setPanReg_tiles (i p v : Nat) : (b.setPanReg i p v).tiles = b.tiles := rfl
@[simp] theorem Body.setPanReg_pans (i p v : Nat) : (b.setPanReg i p v).pans = b.pans := rfl
@[simp] theorem Body.setPanReg_media (i p v : Nat) : (b.setPanReg i p v).media = b.media := rfl
@[simp] theorem Body.setPanReg_hbm (i p v : Nat) : (b.setPanReg i p v).hbm = b.hbm := rfl
@[simp] theorem Body.setPanReg_dma (i p v : Nat) : (b.setPanReg i p v).dma = b.dma := rfl
@[simp] theorem Body.setPanReg_pair (i p v : Nat) : (b.setPanReg i p v).pair = b.pair := rfl
@[simp] theorem Body.setPanReg_flt (i p v : Nat) : (b.setPanReg i p v).flt = b.flt := rfl
@[simp] theorem Body.setPanReg_si (i p v : Nat) : (b.setPanReg i p v).si = b.si := rfl
@[simp] theorem Body.setPanReg_dev (i p v : Nat) : (b.setPanReg i p v).dev = b.dev := rfl
@[simp] theorem Body.setPanReg_out (i p v : Nat) : (b.setPanReg i p v).out = b.out := rfl
@[simp] theorem Body.setPanReg_free (i p v : Nat) : (b.setPanReg i p v).free = b.free := rfl

@[simp] theorem Body.setTrig_num (t : Nat) (x : Trig) : (b.setTrig t x).num = b.num := rfl
@[simp] theorem Body.setTrig_blob (t : Nat) (x : Trig) : (b.setTrig t x).blob = b.blob := rfl
@[simp] theorem Body.setTrig_mem (t : Nat) (x : Trig) : (b.setTrig t x).mem = b.mem := rfl
@[simp] theorem Body.setTrig_ev (t : Nat) (x : Trig) : (b.setTrig t x).ev = b.ev := rfl
@[simp] theorem Body.setTrig_dict (t : Nat) (x : Trig) : (b.setTrig t x).dict = b.dict := rfl
@[simp] theorem Body.setTrig_mbox (t : Nat) (x : Trig) : (b.setTrig t x).mbox = b.mbox := rfl
@[simp] theorem Body.setTrig_ops (t : Nat) (x : Trig) : (b.setTrig t x).ops = b.ops := rfl
@[simp] theorem Body.setTrig_seq (t : Nat) (x : Trig) : (b.setTrig t x).seq = b.seq := rfl
@[simp] theorem Body.setTrig_beads (t : Nat) (x : Trig) : (b.setTrig t x).beads = b.beads := rfl
@[simp] theorem Body.setTrig_lay (t : Nat) (x : Trig) : (b.setTrig t x).lay = b.lay := rfl
@[simp] theorem Body.setTrig_cor (t : Nat) (x : Trig) : (b.setTrig t x).cor = b.cor := rfl
@[simp] theorem Body.setTrig_rods (t : Nat) (x : Trig) : (b.setTrig t x).rods = b.rods := rfl
@[simp] theorem Body.setTrig_tiles (t : Nat) (x : Trig) : (b.setTrig t x).tiles = b.tiles := rfl
@[simp] theorem Body.setTrig_pans (t : Nat) (x : Trig) : (b.setTrig t x).pans = b.pans := rfl
@[simp] theorem Body.setTrig_media (t : Nat) (x : Trig) : (b.setTrig t x).media = b.media := rfl
@[simp] theorem Body.setTrig_hbm (t : Nat) (x : Trig) : (b.setTrig t x).hbm = b.hbm := rfl
@[simp] theorem Body.setTrig_dma (t : Nat) (x : Trig) : (b.setTrig t x).dma = b.dma := rfl
@[simp] theorem Body.setTrig_pair (t : Nat) (x : Trig) : (b.setTrig t x).pair = b.pair := rfl
@[simp] theorem Body.setTrig_flt (t : Nat) (x : Trig) : (b.setTrig t x).flt = b.flt := rfl
@[simp] theorem Body.setTrig_si (t : Nat) (x : Trig) : (b.setTrig t x).si = b.si := rfl
@[simp] theorem Body.setTrig_dev (t : Nat) (x : Trig) : (b.setTrig t x).dev = b.dev := rfl
@[simp] theorem Body.setTrig_out (t : Nat) (x : Trig) : (b.setTrig t x).out = b.out := rfl
@[simp] theorem Body.setTrig_free (t : Nat) (x : Trig) : (b.setTrig t x).free = b.free := rfl

@[simp] theorem Body.setCapt_num (c : Nat) (x : Capture) : (b.setCapt c x).num = b.num := rfl
@[simp] theorem Body.setCapt_blob (c : Nat) (x : Capture) : (b.setCapt c x).blob = b.blob := rfl
@[simp] theorem Body.setCapt_mem (c : Nat) (x : Capture) : (b.setCapt c x).mem = b.mem := rfl
@[simp] theorem Body.setCapt_ev (c : Nat) (x : Capture) : (b.setCapt c x).ev = b.ev := rfl
@[simp] theorem Body.setCapt_dict (c : Nat) (x : Capture) : (b.setCapt c x).dict = b.dict := rfl
@[simp] theorem Body.setCapt_mbox (c : Nat) (x : Capture) : (b.setCapt c x).mbox = b.mbox := rfl
@[simp] theorem Body.setCapt_ops (c : Nat) (x : Capture) : (b.setCapt c x).ops = b.ops := rfl
@[simp] theorem Body.setCapt_seq (c : Nat) (x : Capture) : (b.setCapt c x).seq = b.seq := rfl
@[simp] theorem Body.setCapt_beads (c : Nat) (x : Capture) : (b.setCapt c x).beads = b.beads := rfl
@[simp] theorem Body.setCapt_lay (c : Nat) (x : Capture) : (b.setCapt c x).lay = b.lay := rfl
@[simp] theorem Body.setCapt_cor (c : Nat) (x : Capture) : (b.setCapt c x).cor = b.cor := rfl
@[simp] theorem Body.setCapt_rods (c : Nat) (x : Capture) : (b.setCapt c x).rods = b.rods := rfl
@[simp] theorem Body.setCapt_tiles (c : Nat) (x : Capture) : (b.setCapt c x).tiles = b.tiles := rfl
@[simp] theorem Body.setCapt_pans (c : Nat) (x : Capture) : (b.setCapt c x).pans = b.pans := rfl
@[simp] theorem Body.setCapt_media (c : Nat) (x : Capture) : (b.setCapt c x).media = b.media := rfl
@[simp] theorem Body.setCapt_hbm (c : Nat) (x : Capture) : (b.setCapt c x).hbm = b.hbm := rfl
@[simp] theorem Body.setCapt_dma (c : Nat) (x : Capture) : (b.setCapt c x).dma = b.dma := rfl
@[simp] theorem Body.setCapt_pair (c : Nat) (x : Capture) : (b.setCapt c x).pair = b.pair := rfl
@[simp] theorem Body.setCapt_flt (c : Nat) (x : Capture) : (b.setCapt c x).flt = b.flt := rfl
@[simp] theorem Body.setCapt_si (c : Nat) (x : Capture) : (b.setCapt c x).si = b.si := rfl
@[simp] theorem Body.setCapt_dev (c : Nat) (x : Capture) : (b.setCapt c x).dev = b.dev := rfl
@[simp] theorem Body.setCapt_out (c : Nat) (x : Capture) : (b.setCapt c x).out = b.out := rfl
@[simp] theorem Body.setCapt_free (c : Nat) (x : Capture) : (b.setCapt c x).free = b.free := rfl

@[simp] theorem Body.change_num (c : ClockChange) : (b.change c).num = b.num := rfl
@[simp] theorem Body.change_blob (c : ClockChange) : (b.change c).blob = b.blob := rfl
@[simp] theorem Body.change_mem (c : ClockChange) : (b.change c).mem = b.mem := rfl
@[simp] theorem Body.change_ev (c : ClockChange) : (b.change c).ev = b.ev := rfl
@[simp] theorem Body.change_dict (c : ClockChange) : (b.change c).dict = b.dict := rfl
@[simp] theorem Body.change_mbox (c : ClockChange) : (b.change c).mbox = b.mbox := rfl
@[simp] theorem Body.change_ops (c : ClockChange) : (b.change c).ops = b.ops := rfl
@[simp] theorem Body.change_seq (c : ClockChange) : (b.change c).seq = b.seq := rfl
@[simp] theorem Body.change_beads (c : ClockChange) : (b.change c).beads = b.beads := rfl
@[simp] theorem Body.change_lay (c : ClockChange) : (b.change c).lay = b.lay := rfl
@[simp] theorem Body.change_cor (c : ClockChange) : (b.change c).cor = b.cor := rfl
@[simp] theorem Body.change_rods (c : ClockChange) : (b.change c).rods = b.rods := rfl
@[simp] theorem Body.change_tiles (c : ClockChange) : (b.change c).tiles = b.tiles := rfl
@[simp] theorem Body.change_pans (c : ClockChange) : (b.change c).pans = b.pans := rfl
@[simp] theorem Body.change_media (c : ClockChange) : (b.change c).media = b.media := rfl
@[simp] theorem Body.change_hbm (c : ClockChange) : (b.change c).hbm = b.hbm := rfl
@[simp] theorem Body.change_dma (c : ClockChange) : (b.change c).dma = b.dma := rfl
@[simp] theorem Body.change_pair (c : ClockChange) : (b.change c).pair = b.pair := rfl
@[simp] theorem Body.change_flt (c : ClockChange) : (b.change c).flt = b.flt := rfl
@[simp] theorem Body.change_si (c : ClockChange) : (b.change c).si = b.si := rfl
@[simp] theorem Body.change_dev (c : ClockChange) : (b.change c).dev = b.dev := rfl
@[simp] theorem Body.change_out (c : ClockChange) : (b.change c).out = b.out := rfl
@[simp] theorem Body.change_free (c : ClockChange) : (b.change c).free = b.free := rfl

@[simp] theorem Body.pairTell_num (e : Env) (m : PairMsg) : (b.pairTell e m).num = b.num := rfl
@[simp] theorem Body.pairTell_blob (e : Env) (m : PairMsg) : (b.pairTell e m).blob = b.blob := rfl
@[simp] theorem Body.pairTell_mem (e : Env) (m : PairMsg) : (b.pairTell e m).mem = b.mem := rfl
@[simp] theorem Body.pairTell_tu (e : Env) (m : PairMsg) : (b.pairTell e m).tu = b.tu := rfl
@[simp] theorem Body.pairTell_ev (e : Env) (m : PairMsg) : (b.pairTell e m).ev = b.ev := rfl
@[simp] theorem Body.pairTell_dict (e : Env) (m : PairMsg) : (b.pairTell e m).dict = b.dict := rfl
@[simp] theorem Body.pairTell_mbox (e : Env) (m : PairMsg) : (b.pairTell e m).mbox = b.mbox := rfl
@[simp] theorem Body.pairTell_ops (e : Env) (m : PairMsg) : (b.pairTell e m).ops = b.ops := rfl
@[simp] theorem Body.pairTell_seq (e : Env) (m : PairMsg) : (b.pairTell e m).seq = b.seq := rfl
@[simp] theorem Body.pairTell_beads (e : Env) (m : PairMsg) : (b.pairTell e m).beads = b.beads := rfl
@[simp] theorem Body.pairTell_lay (e : Env) (m : PairMsg) : (b.pairTell e m).lay = b.lay := rfl
@[simp] theorem Body.pairTell_cor (e : Env) (m : PairMsg) : (b.pairTell e m).cor = b.cor := rfl
@[simp] theorem Body.pairTell_rods (e : Env) (m : PairMsg) : (b.pairTell e m).rods = b.rods := rfl
@[simp] theorem Body.pairTell_tiles (e : Env) (m : PairMsg) : (b.pairTell e m).tiles = b.tiles := rfl
@[simp] theorem Body.pairTell_pans (e : Env) (m : PairMsg) : (b.pairTell e m).pans = b.pans := rfl
@[simp] theorem Body.pairTell_media (e : Env) (m : PairMsg) : (b.pairTell e m).media = b.media := rfl
@[simp] theorem Body.pairTell_hbm (e : Env) (m : PairMsg) : (b.pairTell e m).hbm = b.hbm := rfl
@[simp] theorem Body.pairTell_dma (e : Env) (m : PairMsg) : (b.pairTell e m).dma = b.dma := rfl
@[simp] theorem Body.pairTell_pair (e : Env) (m : PairMsg) : (b.pairTell e m).pair = b.pair := rfl
@[simp] theorem Body.pairTell_flt (e : Env) (m : PairMsg) : (b.pairTell e m).flt = b.flt := rfl
@[simp] theorem Body.pairTell_si (e : Env) (m : PairMsg) : (b.pairTell e m).si = b.si := rfl
@[simp] theorem Body.pairTell_dev (e : Env) (m : PairMsg) : (b.pairTell e m).dev = b.dev := rfl
@[simp] theorem Body.pairTell_free (e : Env) (m : PairMsg) : (b.pairTell e m).free = b.free := rfl

@[simp] theorem Body.modPair_num (f : Pair → Pair) : (b.modPair f).num = b.num := rfl
@[simp] theorem Body.modPair_blob (f : Pair → Pair) : (b.modPair f).blob = b.blob := rfl
@[simp] theorem Body.modPair_mem (f : Pair → Pair) : (b.modPair f).mem = b.mem := rfl
@[simp] theorem Body.modPair_tu (f : Pair → Pair) : (b.modPair f).tu = b.tu := rfl
@[simp] theorem Body.modPair_ev (f : Pair → Pair) : (b.modPair f).ev = b.ev := rfl
@[simp] theorem Body.modPair_dict (f : Pair → Pair) : (b.modPair f).dict = b.dict := rfl
@[simp] theorem Body.modPair_mbox (f : Pair → Pair) : (b.modPair f).mbox = b.mbox := rfl
@[simp] theorem Body.modPair_ops (f : Pair → Pair) : (b.modPair f).ops = b.ops := rfl
@[simp] theorem Body.modPair_seq (f : Pair → Pair) : (b.modPair f).seq = b.seq := rfl
@[simp] theorem Body.modPair_beads (f : Pair → Pair) : (b.modPair f).beads = b.beads := rfl
@[simp] theorem Body.modPair_lay (f : Pair → Pair) : (b.modPair f).lay = b.lay := rfl
@[simp] theorem Body.modPair_cor (f : Pair → Pair) : (b.modPair f).cor = b.cor := rfl
@[simp] theorem Body.modPair_rods (f : Pair → Pair) : (b.modPair f).rods = b.rods := rfl
@[simp] theorem Body.modPair_tiles (f : Pair → Pair) : (b.modPair f).tiles = b.tiles := rfl
@[simp] theorem Body.modPair_pans (f : Pair → Pair) : (b.modPair f).pans = b.pans := rfl
@[simp] theorem Body.modPair_media (f : Pair → Pair) : (b.modPair f).media = b.media := rfl
@[simp] theorem Body.modPair_hbm (f : Pair → Pair) : (b.modPair f).hbm = b.hbm := rfl
@[simp] theorem Body.modPair_dma (f : Pair → Pair) : (b.modPair f).dma = b.dma := rfl
@[simp] theorem Body.modPair_flt (f : Pair → Pair) : (b.modPair f).flt = b.flt := rfl
@[simp] theorem Body.modPair_si (f : Pair → Pair) : (b.modPair f).si = b.si := rfl
@[simp] theorem Body.modPair_dev (f : Pair → Pair) : (b.modPair f).dev = b.dev := rfl
@[simp] theorem Body.modPair_out (f : Pair → Pair) : (b.modPair f).out = b.out := rfl
@[simp] theorem Body.modPair_free (f : Pair → Pair) : (b.modPair f).free = b.free := rfl

@[simp] theorem Body.modBeads_num (f : Beads → Beads) : (b.modBeads f).num = b.num := rfl
@[simp] theorem Body.modBeads_blob (f : Beads → Beads) : (b.modBeads f).blob = b.blob := rfl
@[simp] theorem Body.modBeads_mem (f : Beads → Beads) : (b.modBeads f).mem = b.mem := rfl
@[simp] theorem Body.modBeads_tu (f : Beads → Beads) : (b.modBeads f).tu = b.tu := rfl
@[simp] theorem Body.modBeads_ev (f : Beads → Beads) : (b.modBeads f).ev = b.ev := rfl
@[simp] theorem Body.modBeads_dict (f : Beads → Beads) : (b.modBeads f).dict = b.dict := rfl
@[simp] theorem Body.modBeads_mbox (f : Beads → Beads) : (b.modBeads f).mbox = b.mbox := rfl
@[simp] theorem Body.modBeads_ops (f : Beads → Beads) : (b.modBeads f).ops = b.ops := rfl
@[simp] theorem Body.modBeads_seq (f : Beads → Beads) : (b.modBeads f).seq = b.seq := rfl
@[simp] theorem Body.modBeads_lay (f : Beads → Beads) : (b.modBeads f).lay = b.lay := rfl
@[simp] theorem Body.modBeads_cor (f : Beads → Beads) : (b.modBeads f).cor = b.cor := rfl
@[simp] theorem Body.modBeads_rods (f : Beads → Beads) : (b.modBeads f).rods = b.rods := rfl
@[simp] theorem Body.modBeads_tiles (f : Beads → Beads) : (b.modBeads f).tiles = b.tiles := rfl
@[simp] theorem Body.modBeads_pans (f : Beads → Beads) : (b.modBeads f).pans = b.pans := rfl
@[simp] theorem Body.modBeads_media (f : Beads → Beads) : (b.modBeads f).media = b.media := rfl
@[simp] theorem Body.modBeads_hbm (f : Beads → Beads) : (b.modBeads f).hbm = b.hbm := rfl
@[simp] theorem Body.modBeads_dma (f : Beads → Beads) : (b.modBeads f).dma = b.dma := rfl
@[simp] theorem Body.modBeads_pair (f : Beads → Beads) : (b.modBeads f).pair = b.pair := rfl
@[simp] theorem Body.modBeads_flt (f : Beads → Beads) : (b.modBeads f).flt = b.flt := rfl
@[simp] theorem Body.modBeads_si (f : Beads → Beads) : (b.modBeads f).si = b.si := rfl
@[simp] theorem Body.modBeads_dev (f : Beads → Beads) : (b.modBeads f).dev = b.dev := rfl
@[simp] theorem Body.modBeads_out (f : Beads → Beads) : (b.modBeads f).out = b.out := rfl
@[simp] theorem Body.modBeads_free (f : Beads → Beads) : (b.modBeads f).free = b.free := rfl

@[simp] theorem Body.modSub_num (n : Nat) (f : Sub → Sub) : (b.modSub n f).num = b.num := rfl
@[simp] theorem Body.modSub_blob (n : Nat) (f : Sub → Sub) : (b.modSub n f).blob = b.blob := rfl
@[simp] theorem Body.modSub_mem (n : Nat) (f : Sub → Sub) : (b.modSub n f).mem = b.mem := rfl
@[simp] theorem Body.modSub_tu (n : Nat) (f : Sub → Sub) : (b.modSub n f).tu = b.tu := rfl
@[simp] theorem Body.modSub_ev (n : Nat) (f : Sub → Sub) : (b.modSub n f).ev = b.ev := rfl
@[simp] theorem Body.modSub_dict (n : Nat) (f : Sub → Sub) : (b.modSub n f).dict = b.dict := rfl
@[simp] theorem Body.modSub_mbox (n : Nat) (f : Sub → Sub) : (b.modSub n f).mbox = b.mbox := rfl
@[simp] theorem Body.modSub_ops (n : Nat) (f : Sub → Sub) : (b.modSub n f).ops = b.ops := rfl
@[simp] theorem Body.modSub_seq (n : Nat) (f : Sub → Sub) : (b.modSub n f).seq = b.seq := rfl
@[simp] theorem Body.modSub_lay (n : Nat) (f : Sub → Sub) : (b.modSub n f).lay = b.lay := rfl
@[simp] theorem Body.modSub_cor (n : Nat) (f : Sub → Sub) : (b.modSub n f).cor = b.cor := rfl
@[simp] theorem Body.modSub_rods (n : Nat) (f : Sub → Sub) : (b.modSub n f).rods = b.rods := rfl
@[simp] theorem Body.modSub_tiles (n : Nat) (f : Sub → Sub) : (b.modSub n f).tiles = b.tiles := rfl
@[simp] theorem Body.modSub_pans (n : Nat) (f : Sub → Sub) : (b.modSub n f).pans = b.pans := rfl
@[simp] theorem Body.modSub_media (n : Nat) (f : Sub → Sub) : (b.modSub n f).media = b.media := rfl
@[simp] theorem Body.modSub_hbm (n : Nat) (f : Sub → Sub) : (b.modSub n f).hbm = b.hbm := rfl
@[simp] theorem Body.modSub_dma (n : Nat) (f : Sub → Sub) : (b.modSub n f).dma = b.dma := rfl
@[simp] theorem Body.modSub_pair (n : Nat) (f : Sub → Sub) : (b.modSub n f).pair = b.pair := rfl
@[simp] theorem Body.modSub_flt (n : Nat) (f : Sub → Sub) : (b.modSub n f).flt = b.flt := rfl
@[simp] theorem Body.modSub_si (n : Nat) (f : Sub → Sub) : (b.modSub n f).si = b.si := rfl
@[simp] theorem Body.modSub_dev (n : Nat) (f : Sub → Sub) : (b.modSub n f).dev = b.dev := rfl
@[simp] theorem Body.modSub_out (n : Nat) (f : Sub → Sub) : (b.modSub n f).out = b.out := rfl
@[simp] theorem Body.modSub_free (n : Nat) (f : Sub → Sub) : (b.modSub n f).free = b.free := rfl

@[simp] theorem Body.addStaging_blob (d : Int) : (b.addStaging d).blob = b.blob := rfl
@[simp] theorem Body.addStaging_mem (d : Int) : (b.addStaging d).mem = b.mem := rfl
@[simp] theorem Body.addStaging_tu (d : Int) : (b.addStaging d).tu = b.tu := rfl
@[simp] theorem Body.addStaging_ev (d : Int) : (b.addStaging d).ev = b.ev := rfl
@[simp] theorem Body.addStaging_dict (d : Int) : (b.addStaging d).dict = b.dict := rfl
@[simp] theorem Body.addStaging_mbox (d : Int) : (b.addStaging d).mbox = b.mbox := rfl
@[simp] theorem Body.addStaging_ops (d : Int) : (b.addStaging d).ops = b.ops := rfl
@[simp] theorem Body.addStaging_seq (d : Int) : (b.addStaging d).seq = b.seq := rfl
@[simp] theorem Body.addStaging_beads (d : Int) : (b.addStaging d).beads = b.beads := rfl
@[simp] theorem Body.addStaging_lay (d : Int) : (b.addStaging d).lay = b.lay := rfl
@[simp] theorem Body.addStaging_cor (d : Int) : (b.addStaging d).cor = b.cor := rfl
@[simp] theorem Body.addStaging_rods (d : Int) : (b.addStaging d).rods = b.rods := rfl
@[simp] theorem Body.addStaging_tiles (d : Int) : (b.addStaging d).tiles = b.tiles := rfl
@[simp] theorem Body.addStaging_pans (d : Int) : (b.addStaging d).pans = b.pans := rfl
@[simp] theorem Body.addStaging_media (d : Int) : (b.addStaging d).media = b.media := rfl
@[simp] theorem Body.addStaging_hbm (d : Int) : (b.addStaging d).hbm = b.hbm := rfl
@[simp] theorem Body.addStaging_dma (d : Int) : (b.addStaging d).dma = b.dma := rfl
@[simp] theorem Body.addStaging_pair (d : Int) : (b.addStaging d).pair = b.pair := rfl
@[simp] theorem Body.addStaging_flt (d : Int) : (b.addStaging d).flt = b.flt := rfl
@[simp] theorem Body.addStaging_si (d : Int) : (b.addStaging d).si = b.si := rfl
@[simp] theorem Body.addStaging_dev (d : Int) : (b.addStaging d).dev = b.dev := rfl
@[simp] theorem Body.addStaging_out (d : Int) : (b.addStaging d).out = b.out := rfl
@[simp] theorem Body.addStaging_free (d : Int) : (b.addStaging d).free = b.free := rfl

@[simp] theorem Body.setGen_blob (k g st : Nat) : (b.setGen k g st).blob = b.blob := rfl
@[simp] theorem Body.setGen_mem (k g st : Nat) : (b.setGen k g st).mem = b.mem := rfl
@[simp] theorem Body.setGen_tu (k g st : Nat) : (b.setGen k g st).tu = b.tu := rfl
@[simp] theorem Body.setGen_ev (k g st : Nat) : (b.setGen k g st).ev = b.ev := rfl
@[simp] theorem Body.setGen_dict (k g st : Nat) : (b.setGen k g st).dict = b.dict := rfl
@[simp] theorem Body.setGen_mbox (k g st : Nat) : (b.setGen k g st).mbox = b.mbox := rfl
@[simp] theorem Body.setGen_ops (k g st : Nat) : (b.setGen k g st).ops = b.ops := rfl
@[simp] theorem Body.setGen_seq (k g st : Nat) : (b.setGen k g st).seq = b.seq := rfl
@[simp] theorem Body.setGen_beads (k g st : Nat) : (b.setGen k g st).beads = b.beads := rfl
@[simp] theorem Body.setGen_lay (k g st : Nat) : (b.setGen k g st).lay = b.lay := rfl
@[simp] theorem Body.setGen_cor (k g st : Nat) : (b.setGen k g st).cor = b.cor := rfl
@[simp] theorem Body.setGen_rods (k g st : Nat) : (b.setGen k g st).rods = b.rods := rfl
@[simp] theorem Body.setGen_tiles (k g st : Nat) : (b.setGen k g st).tiles = b.tiles := rfl
@[simp] theorem Body.setGen_pans (k g st : Nat) : (b.setGen k g st).pans = b.pans := rfl
@[simp] theorem Body.setGen_media (k g st : Nat) : (b.setGen k g st).media = b.media := rfl
@[simp] theorem Body.setGen_hbm (k g st : Nat) : (b.setGen k g st).hbm = b.hbm := rfl
@[simp] theorem Body.setGen_dma (k g st : Nat) : (b.setGen k g st).dma = b.dma := rfl
@[simp] theorem Body.setGen_pair (k g st : Nat) : (b.setGen k g st).pair = b.pair := rfl
@[simp] theorem Body.setGen_flt (k g st : Nat) : (b.setGen k g st).flt = b.flt := rfl
@[simp] theorem Body.setGen_si (k g st : Nat) : (b.setGen k g st).si = b.si := rfl
@[simp] theorem Body.setGen_dev (k g st : Nat) : (b.setGen k g st).dev = b.dev := rfl
@[simp] theorem Body.setGen_out (k g st : Nat) : (b.setGen k g st).out = b.out := rfl
@[simp] theorem Body.setGen_free (k g st : Nat) : (b.setGen k g st).free = b.free := rfl

@[simp] theorem Body.setLoad_num (k : Nat) (x : Load) : (b.setLoad k x).num = b.num := rfl
@[simp] theorem Body.setLoad_blob (k : Nat) (x : Load) : (b.setLoad k x).blob = b.blob := rfl
@[simp] theorem Body.setLoad_mem (k : Nat) (x : Load) : (b.setLoad k x).mem = b.mem := rfl
@[simp] theorem Body.setLoad_tu (k : Nat) (x : Load) : (b.setLoad k x).tu = b.tu := rfl
@[simp] theorem Body.setLoad_ev (k : Nat) (x : Load) : (b.setLoad k x).ev = b.ev := rfl
@[simp] theorem Body.setLoad_dict (k : Nat) (x : Load) : (b.setLoad k x).dict = b.dict := rfl
@[simp] theorem Body.setLoad_mbox (k : Nat) (x : Load) : (b.setLoad k x).mbox = b.mbox := rfl
@[simp] theorem Body.setLoad_ops (k : Nat) (x : Load) : (b.setLoad k x).ops = b.ops := rfl
@[simp] theorem Body.setLoad_seq (k : Nat) (x : Load) : (b.setLoad k x).seq = b.seq := rfl
@[simp] theorem Body.setLoad_beads (k : Nat) (x : Load) : (b.setLoad k x).beads = b.beads := rfl
@[simp] theorem Body.setLoad_lay (k : Nat) (x : Load) : (b.setLoad k x).lay = b.lay := rfl
@[simp] theorem Body.setLoad_rods (k : Nat) (x : Load) : (b.setLoad k x).rods = b.rods := rfl
@[simp] theorem Body.setLoad_tiles (k : Nat) (x : Load) : (b.setLoad k x).tiles = b.tiles := rfl
@[simp] theorem Body.setLoad_pans (k : Nat) (x : Load) : (b.setLoad k x).pans = b.pans := rfl
@[simp] theorem Body.setLoad_media (k : Nat) (x : Load) : (b.setLoad k x).media = b.media := rfl
@[simp] theorem Body.setLoad_hbm (k : Nat) (x : Load) : (b.setLoad k x).hbm = b.hbm := rfl
@[simp] theorem Body.setLoad_dma (k : Nat) (x : Load) : (b.setLoad k x).dma = b.dma := rfl
@[simp] theorem Body.setLoad_pair (k : Nat) (x : Load) : (b.setLoad k x).pair = b.pair := rfl
@[simp] theorem Body.setLoad_flt (k : Nat) (x : Load) : (b.setLoad k x).flt = b.flt := rfl
@[simp] theorem Body.setLoad_si (k : Nat) (x : Load) : (b.setLoad k x).si = b.si := rfl
@[simp] theorem Body.setLoad_dev (k : Nat) (x : Load) : (b.setLoad k x).dev = b.dev := rfl
@[simp] theorem Body.setLoad_out (k : Nat) (x : Load) : (b.setLoad k x).out = b.out := rfl
@[simp] theorem Body.setLoad_free (k : Nat) (x : Load) : (b.setLoad k x).free = b.free := rfl

@[simp] theorem Body.setSess_num (n : Nat) (x : Session) : (b.setSess n x).num = b.num := rfl
@[simp] theorem Body.setSess_blob (n : Nat) (x : Session) : (b.setSess n x).blob = b.blob := rfl
@[simp] theorem Body.setSess_mem (n : Nat) (x : Session) : (b.setSess n x).mem = b.mem := rfl
@[simp] theorem Body.setSess_tu (n : Nat) (x : Session) : (b.setSess n x).tu = b.tu := rfl
@[simp] theorem Body.setSess_ev (n : Nat) (x : Session) : (b.setSess n x).ev = b.ev := rfl
@[simp] theorem Body.setSess_mbox (n : Nat) (x : Session) : (b.setSess n x).mbox = b.mbox := rfl
@[simp] theorem Body.setSess_ops (n : Nat) (x : Session) : (b.setSess n x).ops = b.ops := rfl
@[simp] theorem Body.setSess_seq (n : Nat) (x : Session) : (b.setSess n x).seq = b.seq := rfl
@[simp] theorem Body.setSess_beads (n : Nat) (x : Session) : (b.setSess n x).beads = b.beads := rfl
@[simp] theorem Body.setSess_lay (n : Nat) (x : Session) : (b.setSess n x).lay = b.lay := rfl
@[simp] theorem Body.setSess_cor (n : Nat) (x : Session) : (b.setSess n x).cor = b.cor := rfl
@[simp] theorem Body.setSess_rods (n : Nat) (x : Session) : (b.setSess n x).rods = b.rods := rfl
@[simp] theorem Body.setSess_tiles (n : Nat) (x : Session) : (b.setSess n x).tiles = b.tiles := rfl
@[simp] theorem Body.setSess_pans (n : Nat) (x : Session) : (b.setSess n x).pans = b.pans := rfl
@[simp] theorem Body.setSess_media (n : Nat) (x : Session) : (b.setSess n x).media = b.media := rfl
@[simp] theorem Body.setSess_hbm (n : Nat) (x : Session) : (b.setSess n x).hbm = b.hbm := rfl
@[simp] theorem Body.setSess_dma (n : Nat) (x : Session) : (b.setSess n x).dma = b.dma := rfl
@[simp] theorem Body.setSess_pair (n : Nat) (x : Session) : (b.setSess n x).pair = b.pair := rfl
@[simp] theorem Body.setSess_flt (n : Nat) (x : Session) : (b.setSess n x).flt = b.flt := rfl
@[simp] theorem Body.setSess_si (n : Nat) (x : Session) : (b.setSess n x).si = b.si := rfl
@[simp] theorem Body.setSess_dev (n : Nat) (x : Session) : (b.setSess n x).dev = b.dev := rfl
@[simp] theorem Body.setSess_out (n : Nat) (x : Session) : (b.setSess n x).out = b.out := rfl
@[simp] theorem Body.setSess_free (n : Nat) (x : Session) : (b.setSess n x).free = b.free := rfl

@[simp] theorem Body.setRx_num (f : Nat) (x : FlowRx) : (b.setRx f x).num = b.num := rfl
@[simp] theorem Body.setRx_blob (f : Nat) (x : FlowRx) : (b.setRx f x).blob = b.blob := rfl
@[simp] theorem Body.setRx_mem (f : Nat) (x : FlowRx) : (b.setRx f x).mem = b.mem := rfl
@[simp] theorem Body.setRx_tu (f : Nat) (x : FlowRx) : (b.setRx f x).tu = b.tu := rfl
@[simp] theorem Body.setRx_ev (f : Nat) (x : FlowRx) : (b.setRx f x).ev = b.ev := rfl
@[simp] theorem Body.setRx_dict (f : Nat) (x : FlowRx) : (b.setRx f x).dict = b.dict := rfl
@[simp] theorem Body.setRx_mbox (f : Nat) (x : FlowRx) : (b.setRx f x).mbox = b.mbox := rfl
@[simp] theorem Body.setRx_ops (f : Nat) (x : FlowRx) : (b.setRx f x).ops = b.ops := rfl
@[simp] theorem Body.setRx_seq (f : Nat) (x : FlowRx) : (b.setRx f x).seq = b.seq := rfl
@[simp] theorem Body.setRx_beads (f : Nat) (x : FlowRx) : (b.setRx f x).beads = b.beads := rfl
@[simp] theorem Body.setRx_lay (f : Nat) (x : FlowRx) : (b.setRx f x).lay = b.lay := rfl
@[simp] theorem Body.setRx_cor (f : Nat) (x : FlowRx) : (b.setRx f x).cor = b.cor := rfl
@[simp] theorem Body.setRx_rods (f : Nat) (x : FlowRx) : (b.setRx f x).rods = b.rods := rfl
@[simp] theorem Body.setRx_tiles (f : Nat) (x : FlowRx) : (b.setRx f x).tiles = b.tiles := rfl
@[simp] theorem Body.setRx_pans (f : Nat) (x : FlowRx) : (b.setRx f x).pans = b.pans := rfl
@[simp] theorem Body.setRx_hbm (f : Nat) (x : FlowRx) : (b.setRx f x).hbm = b.hbm := rfl
@[simp] theorem Body.setRx_dma (f : Nat) (x : FlowRx) : (b.setRx f x).dma = b.dma := rfl
@[simp] theorem Body.setRx_pair (f : Nat) (x : FlowRx) : (b.setRx f x).pair = b.pair := rfl
@[simp] theorem Body.setRx_flt (f : Nat) (x : FlowRx) : (b.setRx f x).flt = b.flt := rfl
@[simp] theorem Body.setRx_si (f : Nat) (x : FlowRx) : (b.setRx f x).si = b.si := rfl
@[simp] theorem Body.setRx_dev (f : Nat) (x : FlowRx) : (b.setRx f x).dev = b.dev := rfl
@[simp] theorem Body.setRx_out (f : Nat) (x : FlowRx) : (b.setRx f x).out = b.out := rfl
@[simp] theorem Body.setRx_free (f : Nat) (x : FlowRx) : (b.setRx f x).free = b.free := rfl

@[simp] theorem Body.setStream_num (n : Nat) (x : Stream) : (b.setStream n x).num = b.num := rfl
@[simp] theorem Body.setStream_blob (n : Nat) (x : Stream) : (b.setStream n x).blob = b.blob := rfl
@[simp] theorem Body.setStream_mem (n : Nat) (x : Stream) : (b.setStream n x).mem = b.mem := rfl
@[simp] theorem Body.setStream_tu (n : Nat) (x : Stream) : (b.setStream n x).tu = b.tu := rfl
@[simp] theorem Body.setStream_ev (n : Nat) (x : Stream) : (b.setStream n x).ev = b.ev := rfl
@[simp] theorem Body.setStream_dict (n : Nat) (x : Stream) : (b.setStream n x).dict = b.dict := rfl
@[simp] theorem Body.setStream_mbox (n : Nat) (x : Stream) : (b.setStream n x).mbox = b.mbox := rfl
@[simp] theorem Body.setStream_ops (n : Nat) (x : Stream) : (b.setStream n x).ops = b.ops := rfl
@[simp] theorem Body.setStream_seq (n : Nat) (x : Stream) : (b.setStream n x).seq = b.seq := rfl
@[simp] theorem Body.setStream_beads (n : Nat) (x : Stream) : (b.setStream n x).beads = b.beads := rfl
@[simp] theorem Body.setStream_lay (n : Nat) (x : Stream) : (b.setStream n x).lay = b.lay := rfl
@[simp] theorem Body.setStream_cor (n : Nat) (x : Stream) : (b.setStream n x).cor = b.cor := rfl
@[simp] theorem Body.setStream_rods (n : Nat) (x : Stream) : (b.setStream n x).rods = b.rods := rfl
@[simp] theorem Body.setStream_tiles (n : Nat) (x : Stream) : (b.setStream n x).tiles = b.tiles := rfl
@[simp] theorem Body.setStream_pans (n : Nat) (x : Stream) : (b.setStream n x).pans = b.pans := rfl
@[simp] theorem Body.setStream_hbm (n : Nat) (x : Stream) : (b.setStream n x).hbm = b.hbm := rfl
@[simp] theorem Body.setStream_dma (n : Nat) (x : Stream) : (b.setStream n x).dma = b.dma := rfl
@[simp] theorem Body.setStream_pair (n : Nat) (x : Stream) : (b.setStream n x).pair = b.pair := rfl
@[simp] theorem Body.setStream_flt (n : Nat) (x : Stream) : (b.setStream n x).flt = b.flt := rfl
@[simp] theorem Body.setStream_si (n : Nat) (x : Stream) : (b.setStream n x).si = b.si := rfl
@[simp] theorem Body.setStream_dev (n : Nat) (x : Stream) : (b.setStream n x).dev = b.dev := rfl
@[simp] theorem Body.setStream_out (n : Nat) (x : Stream) : (b.setStream n x).out = b.out := rfl
@[simp] theorem Body.setStream_free (n : Nat) (x : Stream) : (b.setStream n x).free = b.free := rfl

@[simp] theorem Body.setEnc_num (n : Nat) (x : Enc) : (b.setEnc n x).num = b.num := rfl
@[simp] theorem Body.setEnc_blob (n : Nat) (x : Enc) : (b.setEnc n x).blob = b.blob := rfl
@[simp] theorem Body.setEnc_mem (n : Nat) (x : Enc) : (b.setEnc n x).mem = b.mem := rfl
@[simp] theorem Body.setEnc_tu (n : Nat) (x : Enc) : (b.setEnc n x).tu = b.tu := rfl
@[simp] theorem Body.setEnc_ev (n : Nat) (x : Enc) : (b.setEnc n x).ev = b.ev := rfl
@[simp] theorem Body.setEnc_dict (n : Nat) (x : Enc) : (b.setEnc n x).dict = b.dict := rfl
@[simp] theorem Body.setEnc_mbox (n : Nat) (x : Enc) : (b.setEnc n x).mbox = b.mbox := rfl
@[simp] theorem Body.setEnc_ops (n : Nat) (x : Enc) : (b.setEnc n x).ops = b.ops := rfl
@[simp] theorem Body.setEnc_seq (n : Nat) (x : Enc) : (b.setEnc n x).seq = b.seq := rfl
@[simp] theorem Body.setEnc_beads (n : Nat) (x : Enc) : (b.setEnc n x).beads = b.beads := rfl
@[simp] theorem Body.setEnc_lay (n : Nat) (x : Enc) : (b.setEnc n x).lay = b.lay := rfl
@[simp] theorem Body.setEnc_cor (n : Nat) (x : Enc) : (b.setEnc n x).cor = b.cor := rfl
@[simp] theorem Body.setEnc_rods (n : Nat) (x : Enc) : (b.setEnc n x).rods = b.rods := rfl
@[simp] theorem Body.setEnc_tiles (n : Nat) (x : Enc) : (b.setEnc n x).tiles = b.tiles := rfl
@[simp] theorem Body.setEnc_pans (n : Nat) (x : Enc) : (b.setEnc n x).pans = b.pans := rfl
@[simp] theorem Body.setEnc_hbm (n : Nat) (x : Enc) : (b.setEnc n x).hbm = b.hbm := rfl
@[simp] theorem Body.setEnc_dma (n : Nat) (x : Enc) : (b.setEnc n x).dma = b.dma := rfl
@[simp] theorem Body.setEnc_pair (n : Nat) (x : Enc) : (b.setEnc n x).pair = b.pair := rfl
@[simp] theorem Body.setEnc_flt (n : Nat) (x : Enc) : (b.setEnc n x).flt = b.flt := rfl
@[simp] theorem Body.setEnc_si (n : Nat) (x : Enc) : (b.setEnc n x).si = b.si := rfl
@[simp] theorem Body.setEnc_dev (n : Nat) (x : Enc) : (b.setEnc n x).dev = b.dev := rfl
@[simp] theorem Body.setEnc_out (n : Nat) (x : Enc) : (b.setEnc n x).out = b.out := rfl
@[simp] theorem Body.setEnc_free (n : Nat) (x : Enc) : (b.setEnc n x).free = b.free := rfl

@[simp] theorem Body.setCh_num (c : Nat) (x : DmaCh) : (b.setCh c x).num = b.num := rfl
@[simp] theorem Body.setCh_blob (c : Nat) (x : DmaCh) : (b.setCh c x).blob = b.blob := rfl
@[simp] theorem Body.setCh_mem (c : Nat) (x : DmaCh) : (b.setCh c x).mem = b.mem := rfl
@[simp] theorem Body.setCh_tu (c : Nat) (x : DmaCh) : (b.setCh c x).tu = b.tu := rfl
@[simp] theorem Body.setCh_ev (c : Nat) (x : DmaCh) : (b.setCh c x).ev = b.ev := rfl
@[simp] theorem Body.setCh_dict (c : Nat) (x : DmaCh) : (b.setCh c x).dict = b.dict := rfl
@[simp] theorem Body.setCh_mbox (c : Nat) (x : DmaCh) : (b.setCh c x).mbox = b.mbox := rfl
@[simp] theorem Body.setCh_ops (c : Nat) (x : DmaCh) : (b.setCh c x).ops = b.ops := rfl
@[simp] theorem Body.setCh_seq (c : Nat) (x : DmaCh) : (b.setCh c x).seq = b.seq := rfl
@[simp] theorem Body.setCh_beads (c : Nat) (x : DmaCh) : (b.setCh c x).beads = b.beads := rfl
@[simp] theorem Body.setCh_lay (c : Nat) (x : DmaCh) : (b.setCh c x).lay = b.lay := rfl
@[simp] theorem Body.setCh_cor (c : Nat) (x : DmaCh) : (b.setCh c x).cor = b.cor := rfl
@[simp] theorem Body.setCh_rods (c : Nat) (x : DmaCh) : (b.setCh c x).rods = b.rods := rfl
@[simp] theorem Body.setCh_tiles (c : Nat) (x : DmaCh) : (b.setCh c x).tiles = b.tiles := rfl
@[simp] theorem Body.setCh_pans (c : Nat) (x : DmaCh) : (b.setCh c x).pans = b.pans := rfl
@[simp] theorem Body.setCh_media (c : Nat) (x : DmaCh) : (b.setCh c x).media = b.media := rfl
@[simp] theorem Body.setCh_hbm (c : Nat) (x : DmaCh) : (b.setCh c x).hbm = b.hbm := rfl
@[simp] theorem Body.setCh_pair (c : Nat) (x : DmaCh) : (b.setCh c x).pair = b.pair := rfl
@[simp] theorem Body.setCh_flt (c : Nat) (x : DmaCh) : (b.setCh c x).flt = b.flt := rfl
@[simp] theorem Body.setCh_si (c : Nat) (x : DmaCh) : (b.setCh c x).si = b.si := rfl
@[simp] theorem Body.setCh_dev (c : Nat) (x : DmaCh) : (b.setCh c x).dev = b.dev := rfl
@[simp] theorem Body.setCh_out (c : Nat) (x : DmaCh) : (b.setCh c x).out = b.out := rfl
@[simp] theorem Body.setCh_free (c : Nat) (x : DmaCh) : (b.setCh c x).free = b.free := rfl

@[simp] theorem Body.setChState_blob (c st : Nat) : (b.setChState c st).blob = b.blob := rfl
@[simp] theorem Body.setChState_mem (c st : Nat) : (b.setChState c st).mem = b.mem := rfl
@[simp] theorem Body.setChState_tu (c st : Nat) : (b.setChState c st).tu = b.tu := rfl
@[simp] theorem Body.setChState_ev (c st : Nat) : (b.setChState c st).ev = b.ev := rfl
@[simp] theorem Body.setChState_dict (c st : Nat) : (b.setChState c st).dict = b.dict := rfl
@[simp] theorem Body.setChState_mbox (c st : Nat) : (b.setChState c st).mbox = b.mbox := rfl
@[simp] theorem Body.setChState_ops (c st : Nat) : (b.setChState c st).ops = b.ops := rfl
@[simp] theorem Body.setChState_seq (c st : Nat) : (b.setChState c st).seq = b.seq := rfl
@[simp] theorem Body.setChState_beads (c st : Nat) : (b.setChState c st).beads = b.beads := rfl
@[simp] theorem Body.setChState_lay (c st : Nat) : (b.setChState c st).lay = b.lay := rfl
@[simp] theorem Body.setChState_cor (c st : Nat) : (b.setChState c st).cor = b.cor := rfl
@[simp] theorem Body.setChState_rods (c st : Nat) : (b.setChState c st).rods = b.rods := rfl
@[simp] theorem Body.setChState_tiles (c st : Nat) : (b.setChState c st).tiles = b.tiles := rfl
@[simp] theorem Body.setChState_pans (c st : Nat) : (b.setChState c st).pans = b.pans := rfl
@[simp] theorem Body.setChState_media (c st : Nat) : (b.setChState c st).media = b.media := rfl
@[simp] theorem Body.setChState_hbm (c st : Nat) : (b.setChState c st).hbm = b.hbm := rfl
@[simp] theorem Body.setChState_dma (c st : Nat) : (b.setChState c st).dma = b.dma := rfl
@[simp] theorem Body.setChState_pair (c st : Nat) : (b.setChState c st).pair = b.pair := rfl
@[simp] theorem Body.setChState_flt (c st : Nat) : (b.setChState c st).flt = b.flt := rfl
@[simp] theorem Body.setChState_si (c st : Nat) : (b.setChState c st).si = b.si := rfl
@[simp] theorem Body.setChState_dev (c st : Nat) : (b.setChState c st).dev = b.dev := rfl
@[simp] theorem Body.setChState_out (c st : Nat) : (b.setChState c st).out = b.out := rfl
@[simp] theorem Body.setChState_free (c st : Nat) : (b.setChState c st).free = b.free := rfl

/-! ## Registers -/

@[simp] theorem Body.reg_setReg_same (i j : Nat) (v : Int) : (b.setReg i j v).reg i j = v := by
  simp [Body.reg, Body.setReg]

theorem Body.reg_setReg_ne {i j i' j' : Nat} (v : Int) (h : key i j ≠ key i' j') : (b.setReg i' j' v).reg i j = b.reg i j := by
  simp [Body.reg, Body.setReg, mgetD_mputD_ne h]

@[simp] theorem Body.regN_setReg_same (i j n : Nat) : (b.setReg i j (n : Int)).regN i j = n := by
  simp [Body.regN]

theorem Body.regN_setReg_ne {i j i' j' : Nat} (v : Int) (h : key i j ≠ key i' j') : (b.setReg i' j' v).regN i j = b.regN i j := by
  simp [Body.regN, Body.reg_setReg_ne b v h]

/-- A register depends on the store of numbers alone. -/
theorem Body.reg_congr {b c : Body} (h : b.num = c.num) (i j : Nat) : b.reg i j = c.reg i j := by
  simp [Body.reg, h]

theorem Body.regN_congr {b c : Body} (h : b.num = c.num) (i j : Nat) : b.regN i j = c.regN i j := by
  simp [Body.regN, Body.reg, h]

@[simp] theorem Body.str_setStr_same (i j : Nat) (v : Bytes) : (b.setStr i j v).str i j = v := by
  simp [Body.str, Body.setStr]

/-! ## Keyed parts -/

@[simp] theorem Body.rod_setRod_same (n : Nat) (x : Rod) : (b.setRod n x).rod n = x := by
  simp [Body.rod, Body.setRod]

theorem Body.rod_setRod_ne {n m : Nat} (h : n ≠ m) (x : Rod) : (b.setRod m x).rod n = b.rod n := by
  simp [Body.rod, Body.setRod, mgetD_mputD_ne h]

@[simp] theorem Body.rod_modRod_same (n : Nat) (f : Rod → Rod) : (b.modRod n f).rod n = f (b.rod n) := by
  simp [Body.modRod]

@[simp] theorem Body.tile_setTile_same (n p : Nat) (x : Tile) : (b.setTile n p x).tile n p = x := by
  simp [Body.tile, Body.setTile]

@[simp] theorem Body.tile_modTile_same (n p : Nat) (f : Tile → Tile) : (b.modTile n p f).tile n p = f (b.tile n p) := by
  simp [Body.modTile]

@[simp] theorem Body.pan_setPan_same (p : Nat) (x : Pan) : (b.setPan p x).pan p = x := by
  simp [Body.pan, Body.setPan]

@[simp] theorem Body.trig_setTrig_same (t : Nat) (x : Trig) : (b.setTrig t x).trig t = x := by
  simp [Body.trig, Body.setTrig]

@[simp] theorem Body.capt_setCapt_same (c : Nat) (x : Capture) : (b.setCapt c x).capt c = x := by
  simp [Body.capt, Body.setCapt]

@[simp] theorem Body.sess_setSess_same (n : Nat) (x : Session) : (b.setSess n x).sess? n = some x := by
  simp [Body.sess?, Body.setSess]

theorem Body.sess_setSess_ne {n m : Nat} (h : n ≠ m) (x : Session) : (b.setSess m x).sess? n = b.sess? n := by
  simp [Body.sess?, Body.setSess, mfind_minsert_ne h]

@[simp] theorem Body.load_setLoad_same (k : Nat) (x : Load) : (b.setLoad k x).load k = x := by
  simp [Body.load, Body.setLoad]

end Sys2Proof.Machine
end

