-- ==== Sys2Proof/Laws/Events.lean ====
section
/-! SUPPORT. What raising an event changes: statuses and counters of sources, records on their way, waiting DMA channels, and
nothing else (R429 to R435). -/

namespace Sys2Proof.Machine

set_option Elab.async false

/-- A session apart from the records on their way to it. -/
def Session.core (x : Session) : Session := { x with gather := [], gatherTb := none, lost := 0 }

/-- A body apart from what events write: numbers, rings, gathered records, waiting channels and outputs. -/
def Body.eventless (b : Body) : Body :=
  { b with num := [], ev := Body.reset.ev, dma := [], out := [], dict := { b.dict with sess := [] } }

/-- An update that only records events: every part but statuses, rings, gathered records and waiting channels is as before. -/
structure Quiet (b c : Body) : Prop where
  rest : c.eventless = b.eventless
  reg : ∀ i j, key i j < 0x030800 ∨ 0x031000 ≤ key i j → c.reg i j = b.reg i j
  sess : ∃ f : Session → Session, (∀ n, c.sess? n = (b.sess? n).map f) ∧
    ∀ x, (f x).core = x.core
  out : ∃ l, c.out = b.out ++ l

/-- Whatever is read from the parts events leave alone is as before. -/
theorem Quiet.part {α : Type} {b c : Body} (h : Quiet b c) (f : Body → α) (hf : ∀ x : Body, f x.eventless = f x := by intro _; rfl) : f c = f b := by
  rw [← hf c, h.rest, hf]

theorem Quiet.refl (b : Body) : Quiet b b :=
  ⟨rfl, fun _ _ _ => rfl, ⟨id, by simp, fun _ => rfl⟩, ⟨[], by simp⟩⟩

theorem Quiet.trans {a b c : Body} (h : Quiet a b) (k : Quiet b c) : Quiet a c where
  rest := k.rest.trans h.rest
  reg := fun i j hk => (k.reg i j hk).trans (h.reg i j hk)
  sess := by
    obtain ⟨f, hf, hf'⟩ := h.sess
    obtain ⟨g, hg, hg'⟩ := k.sess
    exact ⟨g ∘ f, fun n => by rw [hg, hf]; simp, fun x => (hg' (f x)).trans (hf' x)⟩
  out := by
    obtain ⟨l, hl⟩ := h.out
    obtain ⟨m, hm⟩ := k.out
    exact ⟨l ++ m, by rw [hm, hl, List.append_assoc]⟩

/-- Updates of event bookkeeping alone. -/
theorem Quiet.of_ev (b : Body) (ev : EventUnit) (l : List Out) : Quiet b { b with ev := ev, out := b.out ++ l } :=
  { Quiet.refl b with out := ⟨l, rfl⟩ }

theorem Quiet.of_dma (b : Body) (d : Map DmaCh) : Quiet b { b with dma := d } := { Quiet.refl b with }

theorem Quiet.of_status (b : Body) (s : Nat) (h : s < 1024) (v : Int) :
    Quiet b (b.setReg (0x0308 + s / 128) (s % 128 + 1) v) :=
  { Quiet.refl b with
    reg := fun i j hk => Body.reg_setReg_ne b v (by unfold key at *; omega) }

theorem mfind_map_val {α : Type} (f : α → α) (n : Nat) (m : Map α) : mfind n (m.map (fun p => (p.1, f p.2))) = (mfind n m).map f := by
  induction m with
  | nil => rfl
  | cons p m ih =>
    obtain ⟨j, w⟩ := p
    simp only [List.map_cons, mfind]
    split
    · rfl
    · exact ih

theorem Session.offer_core (tb : Nat) (r : EvRec) (x : Session) : (x.offer tb r).core = x.core := by
  unfold Session.offer
  split
  · split <;> rfl
  · rfl

theorem Quiet.of_offer (b : Body) (tb : Nat) (r : EvRec) :
    Quiet b { b with dict := { b.dict with sess := b.dict.sess.map (fun p => (p.1, p.2.offer tb r)) } } :=
  { Quiet.refl b with
    sess := ⟨Session.offer tb r, fun n => by simp only [Body.sess?]; exact mfind_map_val _ _ _, Session.offer_core tb r⟩ }

theorem Quiet.toIsland (b : Body) (l : Nat) (r : EvRec) : Quiet b (b.toIsland l r) := Quiet.of_ev b _ _

theorem Quiet.toCores (b : Body) (r : EvRec) : Quiet b (b.toCores r) := by
  unfold Body.toCores
  split
  · exact { Quiet.refl b with }
  · exact Quiet.of_ev b _ _

theorem Quiet.mark (b : Body) (e : Env) (k : Nat) : Quiet b (b.mark e k) := { Quiet.refl b with }

theorem Quiet.ite {p : Prop} [Decidable p] {a b c : Body} (h1 : Quiet a b) (h2 : Quiet a c) : Quiet a (if p then b else c) := by
  split <;> assumption

theorem raiseN_quiet (k : Nat) (e : Env) (s d : Nat) (b : Body) (hs : s < 1024) : Quiet b (raiseN k e s d b) := by
  induction k generalizing s d b with
  | zero => exact Quiet.refl b
  | succ k ih =>
    simp only [raiseN]
    split
    · rename_i hb
      have q1 : Quiet b ((b.waitSeen s).setReg (0x0308 + s / 128) (s % 128 + 1)
          (2 ^ 31 + Nat.min (b.regN (0x0308 + s / 128) (s % 128 + 1) % 65536 + 1) 0xFFFF : Nat)) :=
        (Quiet.of_dma b _).trans (Quiet.of_status _ s hs _)
      generalize (b.waitSeen s).setReg (0x0308 + s / 128) (s % 128 + 1)
          (2 ^ 31 + Nat.min (b.regN (0x0308 + s / 128) (s % 128 + 1) % 65536 + 1) 0xFFFF : Nat) = b1 at *
      generalize (⟨e.t64, s, field (b.evCfg s) 27 26, field (b.evCfg s) 17 12, d % 65536,
        Nat.min (b.regN (0x0308 + s / 128) (s % 128 + 1) % 65536 + 1) 0xFFFF⟩ : EvRec) = r
      have q2 : Quiet b (if bit (b.evCfg s) 25 then b1.toIsland (field (b.evCfg s) 23 20) r else b1) :=
        Quiet.ite (q1.trans (Quiet.toIsland _ _ _)) q1
      generalize (if bit (b.evCfg s) 25 then b1.toIsland (field (b.evCfg s) 23 20) r else b1) = b2 at *
      have q3 : Quiet b (if bit (b.evCfg s) 19 then
          if b2.ev.evWrite - b2.ev.evRead = 252 && b2.mayMark e 39 then raiseN k e 39 0 ((b2.toCores r).mark e 39)
          else b2.toCores r else b2) := by
        split
        · split
          · exact q2.trans (((Quiet.toCores _ _).trans (Quiet.mark _ _ _)).trans (ih 39 0 _ (by omega)))
          · exact q2.trans (Quiet.toCores _ _)
        · exact q2
      generalize (if bit (b.evCfg s) 19 then
          if b2.ev.evWrite - b2.ev.evRead = 252 && b2.mayMark e 39 then raiseN k e 39 0 ((b2.toCores r).mark e 39)
          else b2.toCores r else b2) = b3 at *
      split
      · have q4 := q3.trans (Quiet.of_offer b3 e.tb r)
        split
        · exact q4.trans (ih 38 0 _ (by omega))
        · exact q4
      · exact q3
    · exact Quiet.of_dma b _

/-- Raising an event records it, and changes nothing else. -/
theorem Body.raise_quiet (b : Body) (e : Env) (s d : Nat) : Quiet b (b.raise e s d) := by
  unfold Body.raise
  split
  · exact raiseN_quiet 3 e s d b (by assumption)
  · exact Quiet.refl b

theorem Body.raiseSlow_quiet (b : Body) (e : Env) (m s d : Nat) : Quiet b (b.raiseSlow e m s d) := by
  unfold Body.raiseSlow
  split
  · exact (Quiet.mark b e m).trans (Body.raise_quiet _ e s d)
  · exact Quiet.refl b

@[simp] theorem Body.raise_blob (b : Body) (e : Env) (s d : Nat) : (b.raise e s d).blob = b.blob := (b.raise_quiet e s d).part Body.blob
@[simp] theorem Body.raise_mem (b : Body) (e : Env) (s d : Nat) : (b.raise e s d).mem = b.mem := (b.raise_quiet e s d).part Body.mem
@[simp] theorem Body.raise_tu (b : Body) (e : Env) (s d : Nat) : (b.raise e s d).tu = b.tu := (b.raise_quiet e s d).part Body.tu
@[simp] theorem Body.raise_mbox (b : Body) (e : Env) (s d : Nat) : (b.raise e s d).mbox = b.mbox := (b.raise_quiet e s d).part Body.mbox
@[simp] theorem Body.raise_ops (b : Body) (e : Env) (s d : Nat) : (b.raise e s d).ops = b.ops := (b.raise_quiet e s d).part Body.ops
@[simp] theorem Body.raise_seq (b : Body) (e : Env) (s d : Nat) : (b.raise e s d).seq = b.seq := (b.raise_quiet e s d).part Body.seq
@[simp] theorem Body.raise_beads (b : Body) (e : Env) (s d : Nat) : (b.raise e s d).beads = b.beads := (b.raise_quiet e s d).part Body.beads
@[simp] theorem Body.raise_lay (b : Body) (e : Env) (s d : Nat) : (b.raise e s d).lay = b.lay := (b.raise_quiet e s d).part Body.lay
@[simp] theorem Body.raise_cor (b : Body) (e : Env) (s d : Nat) : (b.raise e s d).cor = b.cor := (b.raise_quiet e s d).part Body.cor
@[simp] theorem Body.raise_rods (b : Body) (e : Env) (s d : Nat) : (b.raise e s d).rods = b.rods := (b.raise_quiet e s d).part Body.rods
@[simp] theorem Body.raise_tiles (b : Body) (e : Env) (s d : Nat) : (b.raise e s d).tiles = b.tiles := (b.raise_quiet e s d).part Body.tiles
@[simp] theorem Body.raise_pans (b : Body) (e : Env) (s d : Nat) : (b.raise e s d).pans = b.pans := (b.raise_quiet e s d).part Body.pans
@[simp] theorem Body.raise_media (b : Body) (e : Env) (s d : Nat) : (b.raise e s d).media = b.media := (b.raise_quiet e s d).part Body.media
@[simp] theorem Body.raise_hbm (b : Body) (e : Env) (s d : Nat) : (b.raise e s d).hbm = b.hbm := (b.raise_quiet e s d).part Body.hbm
@[simp] theorem Body.raise_pair (b : Body) (e : Env) (s d : Nat) : (b.raise e s d).pair = b.pair := (b.raise_quiet e s d).part Body.pair
@[simp] theorem Body.raise_flt (b : Body) (e : Env) (s d : Nat) : (b.raise e s d).flt = b.flt := (b.raise_quiet e s d).part Body.flt
@[simp] theorem Body.raise_si (b : Body) (e : Env) (s d : Nat) : (b.raise e s d).si = b.si := (b.raise_quiet e s d).part Body.si
@[simp] theorem Body.raise_dev (b : Body) (e : Env) (s d : Nat) : (b.raise e s d).dev = b.dev := (b.raise_quiet e s d).part Body.dev
@[simp] theorem Body.raise_free (b : Body) (e : Env) (s d : Nat) : (b.raise e s d).free = b.free := (b.raise_quiet e s d).part Body.free
@[simp] theorem Body.raiseSlow_blob (b : Body) (e : Env) (m s d : Nat) : (b.raiseSlow e m s d).blob = b.blob :=
  (b.raiseSlow_quiet e m s d).part Body.blob
@[simp] theorem Body.raiseSlow_mem (b : Body) (e : Env) (m s d : Nat) : (b.raiseSlow e m s d).mem = b.mem :=
  (b.raiseSlow_quiet e m s d).part Body.mem
@[simp] theorem Body.raiseSlow_tu (b : Body) (e : Env) (m s d : Nat) : (b.raiseSlow e m s d).tu = b.tu :=
  (b.raiseSlow_quiet e m s d).part Body.tu
@[simp] theorem Body.raiseSlow_mbox (b : Body) (e : Env) (m s d : Nat) : (b.raiseSlow e m s d).mbox = b.mbox :=
  (b.raiseSlow_quiet e m s d).part Body.mbox
@[simp] theorem Body.raiseSlow_ops (b : Body) (e : Env) (m s d : Nat) : (b.raiseSlow e m s d).ops = b.ops :=
  (b.raiseSlow_quiet e m s d).part Body.ops
@[simp] theorem Body.raiseSlow_seq (b : Body) (e : Env) (m s d : Nat) : (b.raiseSlow e m s d).seq = b.seq :=
  (b.raiseSlow_quiet e m s d).part Body.seq
@[simp] theorem Body.raiseSlow_beads (b : Body) (e : Env) (m s d : Nat) : (b.raiseSlow e m s d).beads = b.beads :=
  (b.raiseSlow_quiet e m s d).part Body.beads
@[simp] theorem Body.raiseSlow_lay (b : Body) (e : Env) (m s d : Nat) : (b.raiseSlow e m s d).lay = b.lay :=
  (b.raiseSlow_quiet e m s d).part Body.lay
@[simp] theorem Body.raiseSlow_cor (b : Body) (e : Env) (m s d : Nat) : (b.raiseSlow e m s d).cor = b.cor :=
  (b.raiseSlow_quiet e m s d).part Body.cor
@[simp] theorem Body.raiseSlow_rods (b : Body) (e : Env) (m s d : Nat) : (b.raiseSlow e m s d).rods = b.rods :=
  (b.raiseSlow_quiet e m s d).part Body.rods
@[simp] theorem Body.raiseSlow_tiles (b : Body) (e : Env) (m s d : Nat) : (b.raiseSlow e m s d).tiles = b.tiles :=
  (b.raiseSlow_quiet e m s d).part Body.tiles
@[simp] theorem Body.raiseSlow_pans (b : Body) (e : Env) (m s d : Nat) : (b.raiseSlow e m s d).pans = b.pans :=
  (b.raiseSlow_quiet e m s d).part Body.pans
@[simp] theorem Body.raiseSlow_media (b : Body) (e : Env) (m s d : Nat) : (b.raiseSlow e m s d).media = b.media :=
  (b.raiseSlow_quiet e m s d).part Body.media
@[simp] theorem Body.raiseSlow_hbm (b : Body) (e : Env) (m s d : Nat) : (b.raiseSlow e m s d).hbm = b.hbm :=
  (b.raiseSlow_quiet e m s d).part Body.hbm
@[simp] theorem Body.raiseSlow_pair (b : Body) (e : Env) (m s d : Nat) : (b.raiseSlow e m s d).pair = b.pair :=
  (b.raiseSlow_quiet e m s d).part Body.pair
@[simp] theorem Body.raiseSlow_flt (b : Body) (e : Env) (m s d : Nat) : (b.raiseSlow e m s d).flt = b.flt :=
  (b.raiseSlow_quiet e m s d).part Body.flt
@[simp] theorem Body.raiseSlow_si (b : Body) (e : Env) (m s d : Nat) : (b.raiseSlow e m s d).si = b.si :=
  (b.raiseSlow_quiet e m s d).part Body.si
@[simp] theorem Body.raiseSlow_dev (b : Body) (e : Env) (m s d : Nat) : (b.raiseSlow e m s d).dev = b.dev :=
  (b.raiseSlow_quiet e m s d).part Body.dev
@[simp] theorem Body.raiseSlow_free (b : Body) (e : Env) (m s d : Nat) : (b.raiseSlow e m s d).free = b.free :=
  (b.raiseSlow_quiet e m s d).part Body.free

/-- A register outside the event statuses reads as before. -/
theorem Body.reg_raise (b : Body) (e : Env) (s d : Nat) {i j : Nat} (h : key i j < 0x030800 ∨ 0x031000 ≤ key i j) :
    (b.raise e s d).reg i j = b.reg i j := (b.raise_quiet e s d).reg i j h

theorem Body.regN_raise (b : Body) (e : Env) (s d : Nat) {i j : Nat} (h : key i j < 0x030800 ∨ 0x031000 ≤ key i j) :
    (b.raise e s d).regN i j = b.regN i j := by simp [Body.regN, b.reg_raise e s d h]

theorem Body.reg_raiseSlow (b : Body) (e : Env) (m s d : Nat) {i j : Nat} (h : key i j < 0x030800 ∨ 0x031000 ≤ key i j) :
    (b.raiseSlow e m s d).reg i j = b.reg i j := (b.raiseSlow_quiet e m s d).reg i j h

end Sys2Proof.Machine
end

