-- ==== Sys2Proof/Laws/Memory.lean ====
section
/-! SUPPORT. Laws of requests to HBM: how a range is cut into units, and what a request leaves alone (R365). -/

namespace Sys2Proof.Machine

/-- A range within one unit is one piece. -/
theorem unitPieces_single (a n : Nat) (hn : 0 < n) (h : a % 64 + n ≤ 64) : unitPieces a n = [(a, n)] := by
  have h1 : divUp (a % 64 + n) 64 = 1 := by simp only [divUp]; omega
  have h2 : Nat.max a (64 * (a / 64)) = a := by simp only [Nat.max_def]; split <;> omega
  have h3 : Nat.min (a + n) (64 * (a / 64) + 64) - a = n := by simp only [Nat.min_def]; split <;> omega
  have h4 : n ≠ 0 := by omega
  simp [unitPieces, h1, h4, upFrom, h2, h3]

theorem enqueue_mem (b : Body) (x : MemEntry) : (b.enqueue x).mem = b.mem := by
  simp only [Body.enqueue]; split <;> rfl

theorem enqueue_num (b : Body) (x : MemEntry) : (b.enqueue x).num = b.num := by
  simp only [Body.enqueue]; split <;> rfl

theorem enqueue_out (b : Body) (x : MemEntry) : (b.enqueue x).out = b.out := by
  simp only [Body.enqueue]; split <;> rfl

end Sys2Proof.Machine
end

