-- ==== Sys2Proof/Laws/Net.lean ====
section
/-! SUPPORT. Laws of the frames that ports and the pairing link send: their lengths, and all that sending one changes (R325, R326, R450 to R452). -/

namespace Sys2Proof.Machine

@[simp] theorem length_portMac (p : Nat) : (portMac p).length = 6 := length_fit _ _ _

@[simp] theorem length_arpPacket (p op : Nat) (own mac ip : Bytes) :
    (arpPacket p op own mac ip).length = 14 + own.length + mac.length + ip.length := by
  simp [arpPacket]; omega

@[simp] theorem length_icmp (src dst : Bytes) (ty : Nat) (body : Bytes) : (icmp src dst ty body).length = 4 + body.length := by
  simp [icmp]; omega

/-- An IP packet is its header, of 40 bytes or of 20 with IPv4 addresses, and its payload. -/
theorem length_ipPacket (src dst : Bytes) (hops : Nat) (pay : Bytes) :
    (ipPacket src dst hops pay).length = (if src.length = 16 then 8 else 12) + src.length + dst.length + pay.length := by
  unfold ipPacket
  split <;> simp <;> omega

/-- An Ethernet frame without its check sequence: header, tag where the port has one, payload, at least 60 bytes. -/
theorem Body.length_ethernet (b : Body) (p : Nat) (dst : Bytes) (ty : Nat) (pay : Bytes) :
    (b.ethernet p dst ty pay).length = Nat.max 60 (dst.length + 8 + (if (b.vlanTag p).isSome then 4 else 0) + pay.length) := by
  simp only [Body.ethernet, length_fit]
  congr 1
  cases b.vlanTag p <;> simp <;> omega

/-- Sending a frame puts it behind what has left, or, where it is longer than Ethernet allows, does nothing. -/
theorem Body.sendFrame_eq (b : Body) (p : Nat) (f : Bytes) :
    b.sendFrame p f = { b with out := b.out ++ (if f.length + 4 ≤ 1522 then [.frame p f] else []) } := by
  unfold Body.sendFrame
  split <;> simp [Body.emit]

/-- A message of the pairing link is its 16-byte header and its body (R451). -/
@[simp] theorem length_pairBytes (seq : Nat) (active : Bool) (t64 : Nat) (m : PairMsg) :
    (pairBytes seq active t64 m).length = 16 + m.wire.2.length := by
  simp [pairBytes]; omega

/-- A frame of the pairing link: Ethernet's header, the message, the check sequence (R450). -/
theorem length_pairFrame (seq : Nat) (active : Bool) (t64 : Nat) (m : PairMsg) :
    (pairFrame seq active t64 m).length = Nat.max 60 (30 + m.wire.2.length) + 4 := by
  have h : ∀ k n : Nat, (le k n).length = k := by
    intro k
    induction k with
    | zero => intro n; rfl
    | succ k ih => intro n; simp [le, ih]
  simp only [pairFrame, ethFcs, List.length_append, length_fit, h, length_be, length_pairBytes]
  congr 2
  omega

/-- A piece of a value fits a frame (R450). -/
theorem length_pairFrame_write (seq : Nat) (active : Bool) (t64 order idx sub : Nat) (ty : Ty) (s : Bytes) (h : s.length ≤ 8192) :
    (pairFrame seq active t64 (.write order idx sub ty (.b s))).length ≤ 9216 := by
  have hv : (encodeVal ty (.b s)).length ≤ 2 + s.length := by
    simp only [encodeVal]; split <;> simp <;> omega
  have hm : (60 : Nat).max (30 + (PairMsg.wire (.write order idx sub ty (.b s))).2.length) ≤ 9212 := by
    rw [Nat.max_le]
    simp only [PairMsg.wire, List.length_append, length_be]
    omega
  rw [length_pairFrame]
  omega

end Sys2Proof.Machine
end

