-- ==== Sys2Proof/Laws/Session.lean ====
section
/-! SUPPORT. What accepting and answering a request does: the shared path of every dictionary command (R407 to R412, R420). -/

namespace Sys2Proof.Machine

set_option Elab.async false

/-! ## Updates built from registers and events -/

@[simp] theorem Body.setCause_blob (b : Body) (e : Env) (i j v ev : Nat) : (b.setCause e i j v ev).blob = b.blob := by
  simp only [Body.setCause]; repeat' split
  all_goals simp
@[simp] theorem Body.setCause_mem (b : Body) (e : Env) (i j v ev : Nat) : (b.setCause e i j v ev).mem = b.mem := by
  simp only [Body.setCause]; repeat' split
  all_goals simp
@[simp] theorem Body.setCause_tu (b : Body) (e : Env) (i j v ev : Nat) : (b.setCause e i j v ev).tu = b.tu := by
  simp only [Body.setCause]; repeat' split
  all_goals simp
@[simp] theorem Body.setCause_mbox (b : Body) (e : Env) (i j v ev : Nat) : (b.setCause e i j v ev).mbox = b.mbox := by
  simp only [Body.setCause]; repeat' split
  all_goals simp
@[simp] theorem Body.setCause_seq (b : Body) (e : Env) (i j v ev : Nat) : (b.setCause e i j v ev).seq = b.seq := by
  simp only [Body.setCause]; repeat' split
  all_goals simp
@[simp] theorem Body.setCause_beads (b : Body) (e : Env) (i j v ev : Nat) : (b.setCause e i j v ev).beads = b.beads := by
  simp only [Body.setCause]; repeat' split
  all_goals simp
@[simp] theorem Body.setCause_lay (b : Body) (e : Env) (i j v ev : Nat) : (b.setCause e i j v ev).lay = b.lay := by
  simp only [Body.setCause]; repeat' split
  all_goals simp
@[simp] theorem Body.setCause_cor (b : Body) (e : Env) (i j v ev : Nat) : (b.setCause e i j v ev).cor = b.cor := by
  simp only [Body.setCause]; repeat' split
  all_goals simp
@[simp] theorem Body.setCause_rods (b : Body) (e : Env) (i j v ev : Nat) : (b.setCause e i j v ev).rods = b.rods := by
  simp only [Body.setCause]; repeat' split
  all_goals simp
@[simp] theorem Body.setCause_tiles (b : Body) (e : Env) (i j v ev : Nat) : (b.setCause e i j v ev).tiles = b.tiles := by
  simp only [Body.setCause]; repeat' split
  all_goals simp
@[simp] theorem Body.setCause_pans (b : Body) (e : Env) (i j v ev : Nat) : (b.setCause e i j v ev).pans = b.pans := by
  simp only [Body.setCause]; repeat' split
  all_goals simp
@[simp] theorem Body.setCause_media (b : Body) (e : Env) (i j v ev : Nat) : (b.setCause e i j v ev).media = b.media := by
  simp only [Body.setCause]; repeat' split
  all_goals simp
@[simp] theorem Body.setCause_hbm (b : Body) (e : Env) (i j v ev : Nat) : (b.setCause e i j v ev).hbm = b.hbm := by
  simp only [Body.setCause]; repeat' split
  all_goals simp
@[simp] theorem Body.setCause_pair (b : Body) (e : Env) (i j v ev : Nat) : (b.setCause e i j v ev).pair = b.pair := by
  simp only [Body.setCause]; repeat' split
  all_goals simp
@[simp] theorem Body.setCause_flt (b : Body) (e : Env) (i j v ev : Nat) : (b.setCause e i j v ev).flt = b.flt := by
  simp only [Body.setCause]; repeat' split
  all_goals simp
@[simp] theorem Body.setCause_si (b : Body) (e : Env) (i j v ev : Nat) : (b.setCause e i j v ev).si = b.si := by
  simp only [Body.setCause]; repeat' split
  all_goals simp
@[simp] theorem Body.setCause_dev (b : Body) (e : Env) (i j v ev : Nat) : (b.setCause e i j v ev).dev = b.dev := by
  simp only [Body.setCause]; repeat' split
  all_goals simp
@[simp] theorem Body.setCause_free (b : Body) (e : Env) (i j v ev : Nat) : (b.setCause e i j v ev).free = b.free := by
  simp only [Body.setCause]; repeat' split
  all_goals simp
@[simp] theorem Body.setCause_ops (b : Body) (e : Env) (i j v ev : Nat) : (b.setCause e i j v ev).ops = b.ops := by
  simp only [Body.setCause]; repeat' split
  all_goals simp

@[simp] theorem Body.tally_blob (b : Body) (e : Env) (k j n : Nat) : (b.tally e k j n).blob = b.blob := by
  simp only [Body.tally]; repeat' split
  all_goals simp
@[simp] theorem Body.tally_mem (b : Body) (e : Env) (k j n : Nat) : (b.tally e k j n).mem = b.mem := by
  simp only [Body.tally]; repeat' split
  all_goals simp
@[simp] theorem Body.tally_tu (b : Body) (e : Env) (k j n : Nat) : (b.tally e k j n).tu = b.tu := by
  simp only [Body.tally]; repeat' split
  all_goals simp
@[simp] theorem Body.tally_mbox (b : Body) (e : Env) (k j n : Nat) : (b.tally e k j n).mbox = b.mbox := by
  simp only [Body.tally]; repeat' split
  all_goals simp
@[simp] theorem Body.tally_seq (b : Body) (e : Env) (k j n : Nat) : (b.tally e k j n).seq = b.seq := by
  simp only [Body.tally]; repeat' split
  all_goals simp
@[simp] theorem Body.tally_beads (b : Body) (e : Env) (k j n : Nat) : (b.tally e k j n).beads = b.beads := by
  simp only [Body.tally]; repeat' split
  all_goals simp
@[simp] theorem Body.tally_lay (b : Body) (e : Env) (k j n : Nat) : (b.tally e k j n).lay = b.lay := by
  simp only [Body.tally]; repeat' split
  all_goals simp
@[simp] theorem Body.tally_cor (b : Body) (e : Env) (k j n : Nat) : (b.tally e k j n).cor = b.cor := by
  simp only [Body.tally]; repeat' split
  all_goals simp
@[simp] theorem Body.tally_rods (b : Body) (e : Env) (k j n : Nat) : (b.tally e k j n).rods = b.rods := by
  simp only [Body.tally]; repeat' split
  all_goals simp
@[simp] theorem Body.tally_tiles (b : Body) (e : Env) (k j n : Nat) : (b.tally e k j n).tiles = b.tiles := by
  simp only [Body.tally]; repeat' split
  all_goals simp
@[simp] theorem Body.tally_pans (b : Body) (e : Env) (k j n : Nat) : (b.tally e k j n).pans = b.pans := by
  simp only [Body.tally]; repeat' split
  all_goals simp
@[simp] theorem Body.tally_media (b : Body) (e : Env) (k j n : Nat) : (b.tally e k j n).media = b.media := by
  simp only [Body.tally]; repeat' split
  all_goals simp
@[simp] theorem Body.tally_hbm (b : Body) (e : Env) (k j n : Nat) : (b.tally e k j n).hbm = b.hbm := by
  simp only [Body.tally]; repeat' split
  all_goals simp
@[simp] theorem Body.tally_pair (b : Body) (e : Env) (k j n : Nat) : (b.tally e k j n).pair = b.pair := by
  simp only [Body.tally]; repeat' split
  all_goals simp
@[simp] theorem Body.tally_flt (b : Body) (e : Env) (k j n : Nat) : (b.tally e k j n).flt = b.flt := by
  simp only [Body.tally]; repeat' split
  all_goals simp
@[simp] theorem Body.tally_si (b : Body) (e : Env) (k j n : Nat) : (b.tally e k j n).si = b.si := by
  simp only [Body.tally]; repeat' split
  all_goals simp
@[simp] theorem Body.tally_dev (b : Body) (e : Env) (k j n : Nat) : (b.tally e k j n).dev = b.dev := by
  simp only [Body.tally]; repeat' split
  all_goals simp
@[simp] theorem Body.tally_free (b : Body) (e : Env) (k j n : Nat) : (b.tally e k j n).free = b.free := by
  simp only [Body.tally]; repeat' split
  all_goals simp
@[simp] theorem Body.tally_ops (b : Body) (e : Env) (k j n : Nat) : (b.tally e k j n).ops = b.ops := by
  simp only [Body.tally]; repeat' split
  all_goals simp

@[simp] theorem Body.enter_blob (b : Body) (e : Env) (st : Nat) : (b.enter e st).blob = b.blob := by simp [Body.enter]
@[simp] theorem Body.enter_mem (b : Body) (e : Env) (st : Nat) : (b.enter e st).mem = b.mem := by simp [Body.enter]
@[simp] theorem Body.enter_tu (b : Body) (e : Env) (st : Nat) : (b.enter e st).tu = b.tu := by simp [Body.enter]
@[simp] theorem Body.enter_mbox (b : Body) (e : Env) (st : Nat) : (b.enter e st).mbox = b.mbox := by simp [Body.enter]
@[simp] theorem Body.enter_seq (b : Body) (e : Env) (st : Nat) : (b.enter e st).seq = b.seq := by simp [Body.enter]
@[simp] theorem Body.enter_beads (b : Body) (e : Env) (st : Nat) : (b.enter e st).beads = b.beads := by simp [Body.enter]
@[simp] theorem Body.enter_lay (b : Body) (e : Env) (st : Nat) : (b.enter e st).lay = b.lay := by simp [Body.enter]
@[simp] theorem Body.enter_cor (b : Body) (e : Env) (st : Nat) : (b.enter e st).cor = b.cor := by simp [Body.enter]
@[simp] theorem Body.enter_rods (b : Body) (e : Env) (st : Nat) : (b.enter e st).rods = b.rods := by simp [Body.enter]
@[simp] theorem Body.enter_tiles (b : Body) (e : Env) (st : Nat) : (b.enter e st).tiles = b.tiles := by simp [Body.enter]
@[simp] theorem Body.enter_pans (b : Body) (e : Env) (st : Nat) : (b.enter e st).pans = b.pans := by simp [Body.enter]
@[simp] theorem Body.enter_media (b : Body) (e : Env) (st : Nat) : (b.enter e st).media = b.media := by simp [Body.enter]
@[simp] theorem Body.enter_hbm (b : Body) (e : Env) (st : Nat) : (b.enter e st).hbm = b.hbm := by simp [Body.enter]
@[simp] theorem Body.enter_pair (b : Body) (e : Env) (st : Nat) : (b.enter e st).pair = b.pair := by simp [Body.enter]
@[simp] theorem Body.enter_flt (b : Body) (e : Env) (st : Nat) : (b.enter e st).flt = b.flt := by simp [Body.enter]
@[simp] theorem Body.enter_si (b : Body) (e : Env) (st : Nat) : (b.enter e st).si = b.si := by simp [Body.enter]
@[simp] theorem Body.enter_dev (b : Body) (e : Env) (st : Nat) : (b.enter e st).dev = b.dev := by simp [Body.enter]
@[simp] theorem Body.enter_free (b : Body) (e : Env) (st : Nat) : (b.enter e st).free = b.free := by simp [Body.enter]
@[simp] theorem Body.enter_ops (b : Body) (e : Env) (st : Nat) : (b.enter e st).ops = b.ops := by simp [Body.enter]
@[simp] theorem Body.opBegin_blob (b : Body) (e : Env) (i s : Nat) (l : List Nat) : (b.opBegin e i s l).blob = b.blob := rfl
@[simp] theorem Body.opRefuse_blob (b : Body) (e : Env) (i c d : Nat) : (b.opRefuse e i c d).blob = b.blob := by simp [Body.opRefuse]
@[simp] theorem Body.opEnd_blob (b : Body) (e : Env) (i : Nat) (k : Bool) (c d : Nat) : (b.opEnd e i k c d).blob = b.blob := by
  simp only [Body.opEnd, Body.opFinish]; (repeat' split) <;> simp
@[simp] theorem Body.opBegin_mem (b : Body) (e : Env) (i s : Nat) (l : List Nat) : (b.opBegin e i s l).mem = b.mem := rfl
@[simp] theorem Body.opRefuse_mem (b : Body) (e : Env) (i c d : Nat) : (b.opRefuse e i c d).mem = b.mem := by simp [Body.opRefuse]
@[simp] theorem Body.opEnd_mem (b : Body) (e : Env) (i : Nat) (k : Bool) (c d : Nat) : (b.opEnd e i k c d).mem = b.mem := by
  simp only [Body.opEnd, Body.opFinish]; (repeat' split) <;> simp
@[simp] theorem Body.opBegin_tu (b : Body) (e : Env) (i s : Nat) (l : List Nat) : (b.opBegin e i s l).tu = b.tu := rfl
@[simp] theorem Body.opRefuse_tu (b : Body) (e : Env) (i c d : Nat) : (b.opRefuse e i c d).tu = b.tu := by simp [Body.opRefuse]
@[simp] theorem Body.opEnd_tu (b : Body) (e : Env) (i : Nat) (k : Bool) (c d : Nat) : (b.opEnd e i k c d).tu = b.tu := by
  simp only [Body.opEnd, Body.opFinish]; (repeat' split) <;> simp
@[simp] theorem Body.opBegin_mbox (b : Body) (e : Env) (i s : Nat) (l : List Nat) : (b.opBegin e i s l).mbox = b.mbox := rfl
@[simp] theorem Body.opRefuse_mbox (b : Body) (e : Env) (i c d : Nat) : (b.opRefuse e i c d).mbox = b.mbox := by simp [Body.opRefuse]
@[simp] theorem Body.opEnd_mbox (b : Body) (e : Env) (i : Nat) (k : Bool) (c d : Nat) : (b.opEnd e i k c d).mbox = b.mbox := by
  simp only [Body.opEnd, Body.opFinish]; (repeat' split) <;> simp
@[simp] theorem Body.opBegin_seq (b : Body) (e : Env) (i s : Nat) (l : List Nat) : (b.opBegin e i s l).seq = b.seq := rfl
@[simp] theorem Body.opRefuse_seq (b : Body) (e : Env) (i c d : Nat) : (b.opRefuse e i c d).seq = b.seq := by simp [Body.opRefuse]
@[simp] theorem Body.opEnd_seq (b : Body) (e : Env) (i : Nat) (k : Bool) (c d : Nat) : (b.opEnd e i k c d).seq = b.seq := by
  simp only [Body.opEnd, Body.opFinish]; (repeat' split) <;> simp
@[simp] theorem Body.opBegin_beads (b : Body) (e : Env) (i s : Nat) (l : List Nat) : (b.opBegin e i s l).beads = b.beads := rfl
@[simp] theorem Body.opRefuse_beads (b : Body) (e : Env) (i c d : Nat) : (b.opRefuse e i c d).beads = b.beads := by simp [Body.opRefuse]
@[simp] theorem Body.opEnd_beads (b : Body) (e : Env) (i : Nat) (k : Bool) (c d : Nat) : (b.opEnd e i k c d).beads = b.beads := by
  simp only [Body.opEnd, Body.opFinish]; (repeat' split) <;> simp
@[simp] theorem Body.opBegin_lay (b : Body) (e : Env) (i s : Nat) (l : List Nat) : (b.opBegin e i s l).lay = b.lay := rfl
@[simp] theorem Body.opRefuse_lay (b : Body) (e : Env) (i c d : Nat) : (b.opRefuse e i c d).lay = b.lay := by simp [Body.opRefuse]
@[simp] theorem Body.opEnd_lay (b : Body) (e : Env) (i : Nat) (k : Bool) (c d : Nat) : (b.opEnd e i k c d).lay = b.lay := by
  simp only [Body.opEnd, Body.opFinish]; (repeat' split) <;> simp
@[simp] theorem Body.opBegin_cor (b : Body) (e : Env) (i s : Nat) (l : List Nat) : (b.opBegin e i s l).cor = b.cor := rfl
@[simp] theorem Body.opRefuse_cor (b : Body) (e : Env) (i c d : Nat) : (b.opRefuse e i c d).cor = b.cor := by simp [Body.opRefuse]
@[simp] theorem Body.opEnd_cor (b : Body) (e : Env) (i : Nat) (k : Bool) (c d : Nat) : (b.opEnd e i k c d).cor = b.cor := by
  simp only [Body.opEnd, Body.opFinish]; (repeat' split) <;> simp
@[simp] theorem Body.opBegin_rods (b : Body) (e : Env) (i s : Nat) (l : List Nat) : (b.opBegin e i s l).rods = b.rods := rfl
@[simp] theorem Body.opRefuse_rods (b : Body) (e : Env) (i c d : Nat) : (b.opRefuse e i c d).rods = b.rods := by simp [Body.opRefuse]
@[simp] theorem Body.opEnd_rods (b : Body) (e : Env) (i : Nat) (k : Bool) (c d : Nat) : (b.opEnd e i k c d).rods = b.rods := by
  simp only [Body.opEnd, Body.opFinish]; (repeat' split) <;> simp
@[simp] theorem Body.opBegin_tiles (b : Body) (e : Env) (i s : Nat) (l : List Nat) : (b.opBegin e i s l).tiles = b.tiles := rfl
@[simp] theorem Body.opRefuse_tiles (b : Body) (e : Env) (i c d : Nat) : (b.opRefuse e i c d).tiles = b.tiles := by simp [Body.opRefuse]
@[simp] theorem Body.opEnd_tiles (b : Body) (e : Env) (i : Nat) (k : Bool) (c d : Nat) : (b.opEnd e i k c d).tiles = b.tiles := by
  simp only [Body.opEnd, Body.opFinish]; (repeat' split) <;> simp
@[simp] theorem Body.opBegin_pans (b : Body) (e : Env) (i s : Nat) (l : List Nat) : (b.opBegin e i s l).pans = b.pans := rfl
@[simp] theorem Body.opRefuse_pans (b : Body) (e : Env) (i c d : Nat) : (b.opRefuse e i c d).pans = b.pans := by simp [Body.opRefuse]
@[simp] theorem Body.opEnd_pans (b : Body) (e : Env) (i : Nat) (k : Bool) (c d : Nat) : (b.opEnd e i k c d).pans = b.pans := by
  simp only [Body.opEnd, Body.opFinish]; (repeat' split) <;> simp
@[simp] theorem Body.opBegin_media (b : Body) (e : Env) (i s : Nat) (l : List Nat) : (b.opBegin e i s l).media = b.media := rfl
@[simp] theorem Body.opRefuse_media (b : Body) (e : Env) (i c d : Nat) : (b.opRefuse e i c d).media = b.media := by simp [Body.opRefuse]
@[simp] theorem Body.opEnd_media (b : Body) (e : Env) (i : Nat) (k : Bool) (c d : Nat) : (b.opEnd e i k c d).media = b.media := by
  simp only [Body.opEnd, Body.opFinish]; (repeat' split) <;> simp
@[simp] theorem Body.opBegin_hbm (b : Body) (e : Env) (i s : Nat) (l : List Nat) : (b.opBegin e i s l).hbm = b.hbm := rfl
@[simp] theorem Body.opRefuse_hbm (b : Body) (e : Env) (i c d : Nat) : (b.opRefuse e i c d).hbm = b.hbm := by simp [Body.opRefuse]
@[simp] theorem Body.opEnd_hbm (b : Body) (e : Env) (i : Nat) (k : Bool) (c d : Nat) : (b.opEnd e i k c d).hbm = b.hbm := by
  simp only [Body.opEnd, Body.opFinish]; (repeat' split) <;> simp
@[simp] theorem Body.opBegin_pair (b : Body) (e : Env) (i s : Nat) (l : List Nat) : (b.opBegin e i s l).pair = b.pair := rfl
@[simp] theorem Body.opRefuse_pair (b : Body) (e : Env) (i c d : Nat) : (b.opRefuse e i c d).pair = b.pair := by simp [Body.opRefuse]
@[simp] theorem Body.opEnd_pair (b : Body) (e : Env) (i : Nat) (k : Bool) (c d : Nat) : (b.opEnd e i k c d).pair = b.pair := by
  simp only [Body.opEnd, Body.opFinish]; (repeat' split) <;> simp
@[simp] theorem Body.opBegin_flt (b : Body) (e : Env) (i s : Nat) (l : List Nat) : (b.opBegin e i s l).flt = b.flt := rfl
@[simp] theorem Body.opRefuse_flt (b : Body) (e : Env) (i c d : Nat) : (b.opRefuse e i c d).flt = b.flt := by simp [Body.opRefuse]
@[simp] theorem Body.opEnd_flt (b : Body) (e : Env) (i : Nat) (k : Bool) (c d : Nat) : (b.opEnd e i k c d).flt = b.flt := by
  simp only [Body.opEnd, Body.opFinish]; (repeat' split) <;> simp
@[simp] theorem Body.opBegin_si (b : Body) (e : Env) (i s : Nat) (l : List Nat) : (b.opBegin e i s l).si = b.si := rfl
@[simp] theorem Body.opRefuse_si (b : Body) (e : Env) (i c d : Nat) : (b.opRefuse e i c d).si = b.si := by simp [Body.opRefuse]
@[simp] theorem Body.opEnd_si (b : Body) (e : Env) (i : Nat) (k : Bool) (c d : Nat) : (b.opEnd e i k c d).si = b.si := by
  simp only [Body.opEnd, Body.opFinish]; (repeat' split) <;> simp
@[simp] theorem Body.opBegin_dev (b : Body) (e : Env) (i s : Nat) (l : List Nat) : (b.opBegin e i s l).dev = b.dev := rfl
@[simp] theorem Body.opRefuse_dev (b : Body) (e : Env) (i c d : Nat) : (b.opRefuse e i c d).dev = b.dev := by simp [Body.opRefuse]
@[simp] theorem Body.opEnd_dev (b : Body) (e : Env) (i : Nat) (k : Bool) (c d : Nat) : (b.opEnd e i k c d).dev = b.dev := by
  simp only [Body.opEnd, Body.opFinish]; (repeat' split) <;> simp
@[simp] theorem Body.opBegin_free (b : Body) (e : Env) (i s : Nat) (l : List Nat) : (b.opBegin e i s l).free = b.free := rfl
@[simp] theorem Body.opRefuse_free (b : Body) (e : Env) (i c d : Nat) : (b.opRefuse e i c d).free = b.free := by simp [Body.opRefuse]

/-! ## The pairing link as a way out -/

@[simp] theorem Body.pairSend_num (b : Body) (e : Env) (m : PairMsg) : (b.pairSend e m).num = b.num := by
  simp only [Body.pairSend]; split <;> rfl
@[simp] theorem Body.pairSend_blob (b : Body) (e : Env) (m : PairMsg) : (b.pairSend e m).blob = b.blob := by
  simp only [Body.pairSend]; split <;> rfl
@[simp] theorem Body.pairSend_mem (b : Body) (e : Env) (m : PairMsg) : (b.pairSend e m).mem = b.mem := by
  simp only [Body.pairSend]; split <;> rfl
@[simp] theorem Body.pairSend_tu (b : Body) (e : Env) (m : PairMsg) : (b.pairSend e m).tu = b.tu := by
  simp only [Body.pairSend]; split <;> rfl
@[simp] theorem Body.pairSend_ev (b : Body) (e : Env) (m : PairMsg) : (b.pairSend e m).ev = b.ev := by
  simp only [Body.pairSend]; split <;> rfl
@[simp] theorem Body.pairSend_dict (b : Body) (e : Env) (m : PairMsg) : (b.pairSend e m).dict = b.dict := by
  simp only [Body.pairSend]; split <;> rfl
@[simp] theorem Body.pairSend_mbox (b : Body) (e : Env) (m : PairMsg) : (b.pairSend e m).mbox = b.mbox := by
  simp only [Body.pairSend]; split <;> rfl
@[simp] theorem Body.pairSend_ops (b : Body) (e : Env) (m : PairMsg) : (b.pairSend e m).ops = b.ops := by
  simp only [Body.pairSend]; split <;> rfl
@[simp] theorem Body.pairSend_seq (b : Body) (e : Env) (m : PairMsg) : (b.pairSend e m).seq = b.seq := by
  simp only [Body.pairSend]; split <;> rfl
@[simp] theorem Body.pairSend_beads (b : Body) (e : Env) (m : PairMsg) : (b.pairSend e m).beads = b.beads := by
  simp only [Body.pairSend]; split <;> rfl
@[simp] theorem Body.pairSend_lay (b : Body) (e : Env) (m : PairMsg) : (b.pairSend e m).lay = b.lay := by
  simp only [Body.pairSend]; split <;> rfl
@[simp] theorem Body.pairSend_cor (b : Body) (e : Env) (m : PairMsg) : (b.pairSend e m).cor = b.cor := by
  simp only [Body.pairSend]; split <;> rfl
@[simp] theorem Body.pairSend_rods (b : Body) (e : Env) (m : PairMsg) : (b.pairSend e m).rods = b.rods := by
  simp only [Body.pairSend]; split <;> rfl
@[simp] theorem Body.pairSend_tiles (b : Body) (e : Env) (m : PairMsg) : (b.pairSend e m).tiles = b.tiles := by
  simp only [Body.pairSend]; split <;> rfl
@[simp] theorem Body.pairSend_pans (b : Body) (e : Env) (m : PairMsg) : (b.pairSend e m).pans = b.pans := by
  simp only [Body.pairSend]; split <;> rfl
@[simp] theorem Body.pairSend_media (b : Body) (e : Env) (m : PairMsg) : (b.pairSend e m).media = b.media := by
  simp only [Body.pairSend]; split <;> rfl
@[simp] theorem Body.pairSend_hbm (b : Body) (e : Env) (m : PairMsg) : (b.pairSend e m).hbm = b.hbm := by
  simp only [Body.pairSend]; split <;> rfl
@[simp] theorem Body.pairSend_dma (b : Body) (e : Env) (m : PairMsg) : (b.pairSend e m).dma = b.dma := by
  simp only [Body.pairSend]; split <;> rfl
@[simp] theorem Body.pairSend_flt (b : Body) (e : Env) (m : PairMsg) : (b.pairSend e m).flt = b.flt := by
  simp only [Body.pairSend]; split <;> rfl
@[simp] theorem Body.pairSend_si (b : Body) (e : Env) (m : PairMsg) : (b.pairSend e m).si = b.si := by
  simp only [Body.pairSend]; split <;> rfl
@[simp] theorem Body.pairSend_dev (b : Body) (e : Env) (m : PairMsg) : (b.pairSend e m).dev = b.dev := by
  simp only [Body.pairSend]; split <;> rfl
@[simp] theorem Body.pairSend_free (b : Body) (e : Env) (m : PairMsg) : (b.pairSend e m).free = b.free := by
  simp only [Body.pairSend]; split <;> rfl
/-- What no message sent changes, no forwarded value changes, in however many pieces it goes. -/
theorem Body.tellWrite_keeps {α : Type} (f : Body → α) (hf : ∀ (b : Body) (e : Env) (m : PairMsg), f (b.pairSend e m) = f b)
    (ho : ∀ (b : Body) (k : Nat), f { b with pair := { b.pair with order := k } } = f b)
    (b : Body) (e : Env) (i j : Nat) (t : Ty) (v : Val) : f (b.tellWrite e i j t v) = f b := by
  have hl : ∀ (l : List Val) (x : Body), f (l.foldl (fun x p => x.pairSend e (.write (b.pair.order + 1) i j t p)) x) = f x := by
    intro l
    induction l with
    | nil => intro x; rfl
    | cons p l ih => intro x; rw [List.foldl_cons, ih, hf]
  rw [Body.tellWrite, hl, ho]

/-- The same of a write passed on to the twin. -/
theorem Body.forwardWrite_keeps {α : Type} (f : Body → α) (hf : ∀ (b : Body) (e : Env) (m : PairMsg), f (b.pairSend e m) = f b)
    (ho : ∀ (b : Body) (k : Nat), f { b with pair := { b.pair with order := k } } = f b)
    (b : Body) (e : Env) (i j : Nat) (v : WireVal) : f (b.forwardWrite e i j v) = f b := by
  unfold Body.forwardWrite
  split
  · rfl
  · split
    · exact Body.tellWrite_keeps f hf ho _ _ _ _ _ _
    · rfl

@[simp] theorem Body.forwardWrite_num (b : Body) (e : Env) (i j : Nat) (v : WireVal) : (b.forwardWrite e i j v).num = b.num :=
  b.forwardWrite_keeps (fun x => x.num) (fun x e m => x.pairSend_num e m) (fun _ _ => rfl) e i j v
@[simp] theorem Body.forwardWrite_blob (b : Body) (e : Env) (i j : Nat) (v : WireVal) : (b.forwardWrite e i j v).blob = b.blob :=
  b.forwardWrite_keeps (fun x => x.blob) (fun x e m => x.pairSend_blob e m) (fun _ _ => rfl) e i j v
@[simp] theorem Body.forwardWrite_mem (b : Body) (e : Env) (i j : Nat) (v : WireVal) : (b.forwardWrite e i j v).mem = b.mem :=
  b.forwardWrite_keeps (fun x => x.mem) (fun x e m => x.pairSend_mem e m) (fun _ _ => rfl) e i j v
@[simp] theorem Body.forwardWrite_tu (b : Body) (e : Env) (i j : Nat) (v : WireVal) : (b.forwardWrite e i j v).tu = b.tu :=
  b.forwardWrite_keeps (fun x => x.tu) (fun x e m => x.pairSend_tu e m) (fun _ _ => rfl) e i j v
@[simp] theorem Body.forwardWrite_ev (b : Body) (e : Env) (i j : Nat) (v : WireVal) : (b.forwardWrite e i j v).ev = b.ev :=
  b.forwardWrite_keeps (fun x => x.ev) (fun x e m => x.pairSend_ev e m) (fun _ _ => rfl) e i j v
@[simp] theorem Body.forwardWrite_dict (b : Body) (e : Env) (i j : Nat) (v : WireVal) : (b.forwardWrite e i j v).dict = b.dict :=
  b.forwardWrite_keeps (fun x => x.dict) (fun x e m => x.pairSend_dict e m) (fun _ _ => rfl) e i j v
@[simp] theorem Body.forwardWrite_mbox (b : Body) (e : Env) (i j : Nat) (v : WireVal) : (b.forwardWrite e i j v).mbox = b.mbox :=
  b.forwardWrite_keeps (fun x => x.mbox) (fun x e m => x.pairSend_mbox e m) (fun _ _ => rfl) e i j v
@[simp] theorem Body.forwardWrite_ops (b : Body) (e : Env) (i j : Nat) (v : WireVal) : (b.forwardWrite e i j v).ops = b.ops :=
  b.forwardWrite_keeps (fun x => x.ops) (fun x e m => x.pairSend_ops e m) (fun _ _ => rfl) e i j v
@[simp] theorem Body.forwardWrite_seq (b : Body) (e : Env) (i j : Nat) (v : WireVal) : (b.forwardWrite e i j v).seq = b.seq :=
  b.forwardWrite_keeps (fun x => x.seq) (fun x e m => x.pairSend_seq e m) (fun _ _ => rfl) e i j v
@[simp] theorem Body.forwardWrite_beads (b : Body) (e : Env) (i j : Nat) (v : WireVal) : (b.forwardWrite e i j v).beads = b.beads :=
  b.forwardWrite_keeps (fun x => x.beads) (fun x e m => x.pairSend_beads e m) (fun _ _ => rfl) e i j v
@[simp] theorem Body.forwardWrite_lay (b : Body) (e : Env) (i j : Nat) (v : WireVal) : (b.forwardWrite e i j v).lay = b.lay :=
  b.forwardWrite_keeps (fun x => x.lay) (fun x e m => x.pairSend_lay e m) (fun _ _ => rfl) e i j v
@[simp] theorem Body.forwardWrite_cor (b : Body) (e : Env) (i j : Nat) (v : WireVal) : (b.forwardWrite e i j v).cor = b.cor :=
  b.forwardWrite_keeps (fun x => x.cor) (fun x e m => x.pairSend_cor e m) (fun _ _ => rfl) e i j v
@[simp] theorem Body.forwardWrite_rods (b : Body) (e : Env) (i j : Nat) (v : WireVal) : (b.forwardWrite e i j v).rods = b.rods :=
  b.forwardWrite_keeps (fun x => x.rods) (fun x e m => x.pairSend_rods e m) (fun _ _ => rfl) e i j v
@[simp] theorem Body.forwardWrite_tiles (b : Body) (e : Env) (i j : Nat) (v : WireVal) : (b.forwardWrite e i j v).tiles = b.tiles :=
  b.forwardWrite_keeps (fun x => x.tiles) (fun x e m => x.pairSend_tiles e m) (fun _ _ => rfl) e i j v
@[simp] theorem Body.forwardWrite_pans (b : Body) (e : Env) (i j : Nat) (v : WireVal) : (b.forwardWrite e i j v).pans = b.pans :=
  b.forwardWrite_keeps (fun x => x.pans) (fun x e m => x.pairSend_pans e m) (fun _ _ => rfl) e i j v
@[simp] theorem Body.forwardWrite_media (b : Body) (e : Env) (i j : Nat) (v : WireVal) : (b.forwardWrite e i j v).media = b.media :=
  b.forwardWrite_keeps (fun x => x.media) (fun x e m => x.pairSend_media e m) (fun _ _ => rfl) e i j v
@[simp] theorem Body.forwardWrite_hbm (b : Body) (e : Env) (i j : Nat) (v : WireVal) : (b.forwardWrite e i j v).hbm = b.hbm :=
  b.forwardWrite_keeps (fun x => x.hbm) (fun x e m => x.pairSend_hbm e m) (fun _ _ => rfl) e i j v
@[simp] theorem Body.forwardWrite_dma (b : Body) (e : Env) (i j : Nat) (v : WireVal) : (b.forwardWrite e i j v).dma = b.dma :=
  b.forwardWrite_keeps (fun x => x.dma) (fun x e m => x.pairSend_dma e m) (fun _ _ => rfl) e i j v
@[simp] theorem Body.forwardWrite_flt (b : Body) (e : Env) (i j : Nat) (v : WireVal) : (b.forwardWrite e i j v).flt = b.flt :=
  b.forwardWrite_keeps (fun x => x.flt) (fun x e m => x.pairSend_flt e m) (fun _ _ => rfl) e i j v
@[simp] theorem Body.forwardWrite_si (b : Body) (e : Env) (i j : Nat) (v : WireVal) : (b.forwardWrite e i j v).si = b.si :=
  b.forwardWrite_keeps (fun x => x.si) (fun x e m => x.pairSend_si e m) (fun _ _ => rfl) e i j v
@[simp] theorem Body.forwardWrite_dev (b : Body) (e : Env) (i j : Nat) (v : WireVal) : (b.forwardWrite e i j v).dev = b.dev :=
  b.forwardWrite_keeps (fun x => x.dev) (fun x e m => x.pairSend_dev e m) (fun _ _ => rfl) e i j v
@[simp] theorem Body.forwardWrite_free (b : Body) (e : Env) (i j : Nat) (v : WireVal) : (b.forwardWrite e i j v).free = b.free :=
  b.forwardWrite_keeps (fun x => x.free) (fun x e m => x.pairSend_free e m) (fun _ _ => rfl) e i j v

/-! ## Answering -/

/-- Posting to the mailbox records an event, and changes the mailbox. -/
theorem Body.mboxPost_quiet (b : Body) (e : Env) (m : Bytes) :
    ∃ mb, Quiet { b with mbox := mb } (b.mboxPost e m) := by
  unfold Body.mboxPost
  split
  · exact ⟨_, Body.raise_quiet _ _ _ _⟩
  · exact ⟨_, Quiet.refl _⟩

/-- A message that leaves changes the mailbox or what has left, and event bookkeeping. -/
theorem Body.leave_quiet (b : Body) (e : Env) (via : Transport) (peer m : Bytes) :
    ∃ mb, Quiet { b with mbox := mb } (b.leave e via peer m) := by
  unfold Body.leave
  split
  · exact b.mboxPost_quiet e m
  · exact ⟨b.mbox, { Quiet.refl _ with out := ⟨_, rfl⟩ }⟩

/-- Sending a response changes the mailbox, what has left, and event bookkeeping. -/
theorem Body.sendRsp_quiet (b : Body) (e : Env) (key : Option Bytes) (sid : Nat) (via : Transport) (peer : Bytes) (tx reply : Nat)
    (rsp : Rsp) : ∃ mb, Quiet { b with mbox := mb } (b.sendRsp e key sid via peer tx reply rsp) := by
  have q0 : ∀ mb, Quiet { b with mbox := mb } { (b.emit (.rsp sid via peer tx reply rsp)) with mbox := mb } := fun mb =>
    { Quiet.refl _ with out := ⟨_, rfl⟩ }
  obtain ⟨mb, h⟩ := (b.emit (.rsp sid via peer tx reply rsp)).leave_quiet e via peer (deviceMsg key (rsp.wire reply).1 sid tx (rsp.wire reply).2)
  exact ⟨mb, (q0 mb).trans h⟩

theorem List.mem_drop_last {α : Type} (l : List α) (a : α) (n : Nat) (h : n ≤ l.length) : a ∈ (l ++ [a]).drop n := by
  rw [List.drop_append_of_le_length h]
  simp

/-- The session after an answer: the answer kept, the next sequence taken. -/
def Session.answered (x : Session) (seq : Nat) (m : Bytes) (rsp : Rsp) : Session :=
  let kept : List Kept := (x.kept.filter (fun k => k.seq != seq)) ++ [⟨seq, m, x.tx + 1, some rsp⟩]
  { x with tx := x.tx + 1, kept := kept.drop (kept.length - 32) }

/-- The answer is among those kept. -/
theorem Session.answered_kept (x : Session) (seq : Nat) (m : Bytes) (rsp : Rsp) :
    (⟨seq, m, x.tx + 1, some rsp⟩ : Kept) ∈ (x.answered seq m rsp).kept := by
  simp only [Session.answered]
  apply List.mem_drop_last
  simp

/-- Answering a request of an open session: its session keeps the answer, and what else changes is the way out and event
bookkeeping. -/
theorem Body.answer_quiet {b : Body} {slot : Nat} {x : Session} (e : Env) (seq : Nat) (m : Bytes) (rsp : Rsp)
    (h : b.sess? slot = some x) :
    ∃ mb, Quiet { (b.setSess slot (x.answered seq m rsp)) with mbox := mb } (b.answer e slot seq m rsp) := by
  simp only [Body.answer, h]
  exact (b.setSess slot (x.answered seq m rsp)).sendRsp_quiet e _ _ _ _ _ _ _

@[simp] theorem Body.answer_blob (b : Body) (e : Env) (slot seq : Nat) (m : Bytes) (rsp : Rsp) :
    (b.answer e slot seq m rsp).blob = b.blob := by
  cases h : b.sess? slot with
  | none => simp [Body.answer, h]
  | some x => obtain ⟨_, q⟩ := Body.answer_quiet e seq m rsp h; rw [q.part Body.blob]; rfl
@[simp] theorem Body.answer_mem (b : Body) (e : Env) (slot seq : Nat) (m : Bytes) (rsp : Rsp) :
    (b.answer e slot seq m rsp).mem = b.mem := by
  cases h : b.sess? slot with
  | none => simp [Body.answer, h]
  | some x => obtain ⟨_, q⟩ := Body.answer_quiet e seq m rsp h; rw [q.part Body.mem]; rfl
@[simp] theorem Body.answer_tu (b : Body) (e : Env) (slot seq : Nat) (m : Bytes) (rsp : Rsp) :
    (b.answer e slot seq m rsp).tu = b.tu := by
  cases h : b.sess? slot with
  | none => simp [Body.answer, h]
  | some x => obtain ⟨_, q⟩ := Body.answer_quiet e seq m rsp h; rw [q.part Body.tu]; rfl
@[simp] theorem Body.answer_ops (b : Body) (e : Env) (slot seq : Nat) (m : Bytes) (rsp : Rsp) :
    (b.answer e slot seq m rsp).ops = b.ops := by
  cases h : b.sess? slot with
  | none => simp [Body.answer, h]
  | some x => obtain ⟨_, q⟩ := Body.answer_quiet e seq m rsp h; rw [q.part Body.ops]; rfl
@[simp] theorem Body.answer_seq (b : Body) (e : Env) (slot seq : Nat) (m : Bytes) (rsp : Rsp) :
    (b.answer e slot seq m rsp).seq = b.seq := by
  cases h : b.sess? slot with
  | none => simp [Body.answer, h]
  | some x => obtain ⟨_, q⟩ := Body.answer_quiet e seq m rsp h; rw [q.part Body.seq]; rfl
@[simp] theorem Body.answer_beads (b : Body) (e : Env) (slot seq : Nat) (m : Bytes) (rsp : Rsp) :
    (b.answer e slot seq m rsp).beads = b.beads := by
  cases h : b.sess? slot with
  | none => simp [Body.answer, h]
  | some x => obtain ⟨_, q⟩ := Body.answer_quiet e seq m rsp h; rw [q.part Body.beads]; rfl
@[simp] theorem Body.answer_lay (b : Body) (e : Env) (slot seq : Nat) (m : Bytes) (rsp : Rsp) :
    (b.answer e slot seq m rsp).lay = b.lay := by
  cases h : b.sess? slot with
  | none => simp [Body.answer, h]
  | some x => obtain ⟨_, q⟩ := Body.answer_quiet e seq m rsp h; rw [q.part Body.lay]; rfl
@[simp] theorem Body.answer_cor (b : Body) (e : Env) (slot seq : Nat) (m : Bytes) (rsp : Rsp) :
    (b.answer e slot seq m rsp).cor = b.cor := by
  cases h : b.sess? slot with
  | none => simp [Body.answer, h]
  | some x => obtain ⟨_, q⟩ := Body.answer_quiet e seq m rsp h; rw [q.part Body.cor]; rfl
@[simp] theorem Body.answer_rods (b : Body) (e : Env) (slot seq : Nat) (m : Bytes) (rsp : Rsp) :
    (b.answer e slot seq m rsp).rods = b.rods := by
  cases h : b.sess? slot with
  | none => simp [Body.answer, h]
  | some x => obtain ⟨_, q⟩ := Body.answer_quiet e seq m rsp h; rw [q.part Body.rods]; rfl
@[simp] theorem Body.answer_tiles (b : Body) (e : Env) (slot seq : Nat) (m : Bytes) (rsp : Rsp) :
    (b.answer e slot seq m rsp).tiles = b.tiles := by
  cases h : b.sess? slot with
  | none => simp [Body.answer, h]
  | some x => obtain ⟨_, q⟩ := Body.answer_quiet e seq m rsp h; rw [q.part Body.tiles]; rfl
@[simp] theorem Body.answer_pans (b : Body) (e : Env) (slot seq : Nat) (m : Bytes) (rsp : Rsp) :
    (b.answer e slot seq m rsp).pans = b.pans := by
  cases h : b.sess? slot with
  | none => simp [Body.answer, h]
  | some x => obtain ⟨_, q⟩ := Body.answer_quiet e seq m rsp h; rw [q.part Body.pans]; rfl
@[simp] theorem Body.answer_media (b : Body) (e : Env) (slot seq : Nat) (m : Bytes) (rsp : Rsp) :
    (b.answer e slot seq m rsp).media = b.media := by
  cases h : b.sess? slot with
  | none => simp [Body.answer, h]
  | some x => obtain ⟨_, q⟩ := Body.answer_quiet e seq m rsp h; rw [q.part Body.media]; rfl
@[simp] theorem Body.answer_hbm (b : Body) (e : Env) (slot seq : Nat) (m : Bytes) (rsp : Rsp) :
    (b.answer e slot seq m rsp).hbm = b.hbm := by
  cases h : b.sess? slot with
  | none => simp [Body.answer, h]
  | some x => obtain ⟨_, q⟩ := Body.answer_quiet e seq m rsp h; rw [q.part Body.hbm]; rfl
@[simp] theorem Body.answer_pair (b : Body) (e : Env) (slot seq : Nat) (m : Bytes) (rsp : Rsp) :
    (b.answer e slot seq m rsp).pair = b.pair := by
  cases h : b.sess? slot with
  | none => simp [Body.answer, h]
  | some x => obtain ⟨_, q⟩ := Body.answer_quiet e seq m rsp h; rw [q.part Body.pair]; rfl
@[simp] theorem Body.answer_flt (b : Body) (e : Env) (slot seq : Nat) (m : Bytes) (rsp : Rsp) :
    (b.answer e slot seq m rsp).flt = b.flt := by
  cases h : b.sess? slot with
  | none => simp [Body.answer, h]
  | some x => obtain ⟨_, q⟩ := Body.answer_quiet e seq m rsp h; rw [q.part Body.flt]; rfl
@[simp] theorem Body.answer_si (b : Body) (e : Env) (slot seq : Nat) (m : Bytes) (rsp : Rsp) :
    (b.answer e slot seq m rsp).si = b.si := by
  cases h : b.sess? slot with
  | none => simp [Body.answer, h]
  | some x => obtain ⟨_, q⟩ := Body.answer_quiet e seq m rsp h; rw [q.part Body.si]; rfl
@[simp] theorem Body.answer_dev (b : Body) (e : Env) (slot seq : Nat) (m : Bytes) (rsp : Rsp) :
    (b.answer e slot seq m rsp).dev = b.dev := by
  cases h : b.sess? slot with
  | none => simp [Body.answer, h]
  | some x => obtain ⟨_, q⟩ := Body.answer_quiet e seq m rsp h; rw [q.part Body.dev]; rfl
@[simp] theorem Body.answer_free (b : Body) (e : Env) (slot seq : Nat) (m : Bytes) (rsp : Rsp) :
    (b.answer e slot seq m rsp).free = b.free := by
  cases h : b.sess? slot with
  | none => simp [Body.answer, h]
  | some x => obtain ⟨_, q⟩ := Body.answer_quiet e seq m rsp h; rw [q.part Body.free]; rfl

/-- A register outside the event statuses reads as before an answer. -/
theorem Body.reg_answer (b : Body) (e : Env) (slot seq : Nat) (m : Bytes) (rsp : Rsp) {i j : Nat}
    (hk : key i j < 0x030800 ∨ 0x031000 ≤ key i j) : (b.answer e slot seq m rsp).reg i j = b.reg i j := by
  cases h : b.sess? slot with
  | none => simp [Body.answer, h]
  | some x => obtain ⟨_, q⟩ := Body.answer_quiet e seq m rsp h; rw [q.reg i j hk]; rfl

theorem Body.regN_answer (b : Body) (e : Env) (slot seq : Nat) (m : Bytes) (rsp : Rsp) {i j : Nat}
    (hk : key i j < 0x030800 ∨ 0x031000 ≤ key i j) : (b.answer e slot seq m rsp).regN i j = b.regN i j := by
  simp [Body.regN, b.reg_answer e slot seq m rsp hk]

/-- The answering session: the answer kept, the rest as it was. -/
theorem Body.sess_answer {b : Body} {slot : Nat} {x : Session} (e : Env) (seq : Nat) (m : Bytes) (rsp : Rsp)
    (h : b.sess? slot = some x) :
    ∃ y, (b.answer e slot seq m rsp).sess? slot = some y ∧ y.core = (x.answered seq m rsp).core := by
  obtain ⟨_, q⟩ := Body.answer_quiet e seq m rsp h
  obtain ⟨f, hf, hc⟩ := q.sess
  refine ⟨f (x.answered seq m rsp), ?_, hc _⟩
  rw [hf]
  show Option.map f ((b.setSess slot (x.answered seq m rsp)).sess? slot) = _
  simp

/-- Other sessions keep all but the records gathered for them. -/
theorem Body.sess_answer_ne {b : Body} {slot n : Nat} {x : Session} (e : Env) (seq : Nat) (m : Bytes) (rsp : Rsp)
    (h : b.sess? slot = some x) (hn : n ≠ slot) :
    ((b.answer e slot seq m rsp).sess? n).map Session.core = (b.sess? n).map Session.core := by
  obtain ⟨_, q⟩ := Body.answer_quiet e seq m rsp h
  obtain ⟨f, hf, hc⟩ := q.sess
  rw [hf]
  show Option.map Session.core (Option.map f ((b.setSess slot (x.answered seq m rsp)).sess? n)) = _
  rw [Body.sess_setSess_ne b hn]
  cases b.sess? n <;> simp [hc]

/-! ## Serving -/

/-- An accepted request runs its handler on its slot; the answer follows, or is kept open. -/
theorem serve_accepted {b : Body} {r : Req} {ty : Nat} {body : Bytes} {x : Session} (e : Env)
    (hd : Nat → Body → Body × Option Rsp) (post : Nat → Body → Body) (h : b.arrive r ty body = .accepted x) :
    serve e r ty body hd post b =
      (let a := hd (r.sid % 8) (b.setSess (r.sid % 8) (x.accept r.seq e.tb))
       match a.2 with
       | some rsp => post (r.sid % 8) (a.1.answer e (r.sid % 8) r.seq (idpMsg ty r.sid r.seq r.rsv body) rsp)
       | none => post (r.sid % 8) (a.1.keepOpen (r.sid % 8) r.seq (idpMsg ty r.sid r.seq r.rsv body))) := by
  simp only [serve, h] <;> rfl

/-- An accepted request comes from the open session of its slot. -/
theorem arrive_session {b : Body} {r : Req} {ty : Nat} {body : Bytes} {x : Session} (h : b.arrive r ty body = .accepted x) :
    b.sess? (r.sid % 8) = some x := by
  cases hy : b.sess? (r.sid % 8) with
  | none => simp [Body.arrive, hy] at h
  | some y =>
    simp only [Body.arrive, hy] at h
    repeat' split at h
    all_goals first
      | (cases h; rfl)
      | cases h

/-- The fate of a request whose session, sender, order and tag are right. -/
theorem arrive_of {b : Body} {r : Req} {ty : Nat} {body : Bytes} {x : Session} (hs : b.sess? (r.sid % 8) = some x)
    (hid : x.sid = r.sid) (hv : x.via = r.via) (hp : x.peer = r.peer) (hver : r.version = 1)
    (hd : r.via = .mailbox ∨ b.regN 0x0120 53 ≠ 3) (hq : r.depth < 256)
    (ht : r.tag = (hmac x.kc2d (idpMsg ty r.sid r.seq r.rsv body)).take 16) (hf : x.fresh r.seq = true) :
    b.arrive r ty body = .accepted x := by
  unfold Body.arrive
  simp only [hs, hid, hv, hp]
  have hq' : ¬ 256 ≤ r.depth := by omega
  have hd' : ¬ (r.via ≠ .mailbox ∧ b.regN 0x0120 53 = 3) := by
    rintro ⟨h1, h2⟩
    rcases hd with h | h
    · exact h1 h
    · exact h h2
  simp [hq', hd', ht, hf, hver]

/-- The checks of a write do not depend on the sessions. -/
theorem checkWrite_setSess (b : Body) (n role idx sub : Nat) (x : Session) (ty : Ty) (v : WireVal) :
    (b.setSess n x).checkWrite role idx sub ty v = b.checkWrite role idx sub ty v := rfl

theorem roleOf_setSess (b : Body) (n : Nat) (x : Session) : (b.setSess n x).roleOf n = x.role := by
  simp [Body.roleOf, Body.setSess]

theorem Session.accept_role (x : Session) (seq tb : Nat) : (x.accept seq tb).role = x.role := by
  unfold Session.accept; split <;> rfl

/-- A granted write runs its handler, is forwarded where it succeeds, and is answered. -/
theorem serveWrite_granted {b : Body} {r : Req} {idx sub : Nat} {v : WireVal} {x : Session} (e : Env)
    (hd : Nat → Body → Body × Rsp) (h : b.arrive r 0x12 (writeBody idx sub (tyOf idx sub) v) = .accepted x)
    (hc : b.checkWrite x.role idx sub (tyOf idx sub) v = 0) :
    serveWrite e r idx sub v hd b =
      (let a := hd (r.sid % 8) (b.setSess (r.sid % 8) (x.accept r.seq e.tb))
       (match a.2 with
        | .write 0 _ _ => a.1.forwardWrite e idx sub v
        | _ => a.1).answer e (r.sid % 8) r.seq (idpMsg 0x12 r.sid r.seq r.rsv (writeBody idx sub (tyOf idx sub) v)) a.2) := by
  rw [serveWrite, serve_accepted e _ _ h]
  have hr : (b.setSess (r.sid % 8) (x.accept r.seq e.tb)).roleOf (r.sid % 8) = x.role := by
    rw [roleOf_setSess, Session.accept_role]
  simp only [checkedWrite, hr, checkWrite_setSess, hc]
  generalize hd (r.sid % 8) (b.setSess (r.sid % 8) (x.accept r.seq e.tb)) = a
  obtain ⟨a1, a2⟩ := a
  cases a2 with
  | write st k o => cases st <;> rfl
  | _ => rfl

/-- A write refused by the checks every write meets changes nothing but the way out. -/
theorem serveWrite_refused {b : Body} {r : Req} {idx sub : Nat} {v : WireVal} {x : Session} (e : Env)
    (hd : Nat → Body → Body × Rsp) (h : b.arrive r 0x12 (writeBody idx sub (tyOf idx sub) v) = .accepted x)
    (hc : b.checkWrite x.role idx sub (tyOf idx sub) v ≠ 0) :
    serveWrite e r idx sub v hd b =
      (b.setSess (r.sid % 8) (x.accept r.seq e.tb)).answer e (r.sid % 8) r.seq
        (idpMsg 0x12 r.sid r.seq r.rsv (writeBody idx sub (tyOf idx sub) v)) (wrote (b.checkWrite x.role idx sub (tyOf idx sub) v)) := by
  rw [serveWrite, serve_accepted e _ _ h]
  have hr : (b.setSess (r.sid % 8) (x.accept r.seq e.tb)).roleOf (r.sid % 8) = x.role := by
    rw [roleOf_setSess, Session.accept_role]
  simp only [checkedWrite, hr, checkWrite_setSess]
  rfl

end Sys2Proof.Machine
end

