-- ==== Sys2Proof/WellFormed.lean ====
section
/-! DEFINITION. Well-formed commands: every operand lies in the range its rule gives it. An ill-formed command is no row of the
table; the meanings are total on it and leave the state unchanged where the object it names does not exist (log entry 6). -/

namespace Sys2Proof

/-- A request's fields fit their places in R408: session id 2 bytes, sequence 4 bytes, a tag of 16 bytes. -/
def Req.wf (r : Req) : Bool := decide (r.sid < 65536) && decide (r.seq < 2 ^ 32) && decide (r.tag.length = 16) && decide (r.rsv < 65536) &&
  r.rsv / 256 % 2 == 0 && decide (r.version < 256)

/-- A time as WTIME carries it (R11). -/
def Wtime.wf (t : Wtime) : Bool := decide (t.sec < 2 ^ 48) && decide (t.ns < 2 ^ 32)

/-- A value to be written fits a message: a byte string of at most 1,024 bytes (R403). -/
def WireVal.wf : WireVal → Bool
  | .n _ => true
  | .w t => t.wf
  | .b s => decide (s.length ≤ 65535)

/-- An entry's address: index 2 bytes, sub-index 1 byte. -/
def entryWf (idx sub : Nat) : Bool := decide (idx < 65536) && decide (sub < 256)

/-- An output port (R4). -/
def rodWf (n : Nat) : Bool := decide (n < 192)

/-- A position on a chain (R163). -/
def tileWf (n p : Nat) : Bool := rodWf n && decide (p < 64)

/-- Words of a lane: two bits of sync header, 64 of content (R215). -/
def wordsWf (ws : List (Nat × Nat)) : Bool := ws.all (fun w => decide (w.1 < 4) && decide (w.2 < 2 ^ 64))

/-- Words that hold an upstream frame (R219). -/
def UpFrame.wf (f : UpFrame) : Bool := decide (64 ≤ f.words.length) && wordsWf f.words

/-- What an eye monitor can have observed (R285): heights and widths of at most 1,024, 32 and 16 bins. -/
def Eye.wf (y : Eye) : Bool :=
  decide (y.us < 65536) && decide (y.h ≤ 1024) && decide (y.w ≤ 1024) && decide (y.words < 2 ^ 32) && decide (y.invalid ≤ y.words) &&
  decide (y.vert.length = 32) && decide (y.horiz.length = 16)

/-- A pairing header fits (R451). -/
def PairHdr.wf (h : PairHdr) : Bool := decide (h.seq < 2 ^ 32) && decide (h.t64 < 2 ^ 64)

/-- The command's operands lie in their ranges. -/
def Instr.wf : Instr → Bool
  | .pllLossOfLock d => decide (d < 60)
  | .pllRelock d _ => decide (d < 60)
  | .refclkSupervisionWindow _ _ => true
  | .wallClockTick n => decide (0 < n)
  | .timeIncrWrite r v => r.wf && decide (v < 2 ^ 64)
  | .timeStepWrite r v => r.wf && decide (-(2 ^ 63) ≤ v) && decide (v < 2 ^ 63)
  | .stepHoldExpiry => true
  | .timeForce r => r.wf
  | .ttArm r t => r.wf && decide (t < 16)
  | .ttDisarm r t => r.wf && decide (t < 16)
  | .ttLeadingEdge t => decide (t < 16)
  | .ttTrailingEdge t => decide (t < 16)
  | .tcLevelChange c _ => decide (c < 8)
  | .tcEdgeQualified c => decide (c < 8)
  | .ptpMessageReceived p _ => decide (p < 4)
  | .ptpMessageTransmit p _ => decide (p < 4)
  | .transparentClockForward p => decide (p < 4)
  | .forwardDrop p => decide (p < 4)
  | .tsPairModeWrite r p v => r.wf && decide (p < 2) && decide (v < 256)
  | .subframeLatch => true
  | .beadIssue => true
  | .beadComplete t _ => decide (t < 8192)
  | .hungBeadTimeout t => decide (t < 8192)
  | .stagingRecordGrant => true
  | .subframeRetire rods => rods.all rodWf
  | .shadowWrite r i s v => r.wf && entryWf i s && v.wf
  | .cfgCommit r => r.wf
  | .cfgDiscard r => r.wf
  | .guardSignatureComputed => true
  | .stillLoad r n _ => r.wf && decide (n < 64)
  | .stillFree r n => r.wf && decide (n < 64)
  | .bufferDeferredRelease _ => true
  | .lampStateWrite r v => r.wf && decide (v < 2 ^ 64)
  | .corrProbeRead r => r.wf
  | .corrLoadStart r => r.wf
  | .corrLoadComplete => true
  | .mapLoadStart r => r.wf
  | .mapLoadComplete => true
  | .modeEntryWrite r i s _ => r.wf && entryWf i s
  | .modeSwitchStart r => r.wf
  | .darkPathDark => true
  | .darkPathResume => true
  | .freezeClear r l => r.wf && decide (l < 31)
  | .linkFrameSend n i => rodWf n && decide (i < 2 ^ 32)
  | .tokenDue n => rodWf n
  | .telemetryReceive n f => rodWf n && f.wf
  | .enumRspReceive n f => rodWf n && f.wf
  | .cmdRspReceive n f => rodWf n && f.wf
  | .commandRetryTimeout n p => tileWf n p
  | .enumStart r => r.wf
  | .enumCollectTimeout n => rodWf n
  | .enumComplete => true
  | .echoRspReceive n f _ => rodWf n && f.wf
  | .echoTimeout n p => tileWf n p
  | .echoPeriodTimer => true
  | .tileSilent n p => tileWf n p
  | .upWordLockLost x => rodWf x.rod && wordsWf x.words
  | .bringupStart n => rodWf n
  | .laneRestart r n => r.wf && rodWf n
  | .bringupRetryTimer n => rodWf n
  | .trainTimeExpiry n m => rodWf n && m.all (fun x => x.spare.wf && x.active.wf)
  | .laneStep n => rodWf n
  | .laneReportReceive n f => rodWf n && f.wf
  | .laneCheckTimeout n z y => rodWf n && (eyeOf z y).wf
  | .fclkAlignTimer n => rodWf n
  | .recoveryStart n => rodWf n
  | .dnSleep n => rodWf n
  | .dnWake n => rodWf n
  | .upsleepGrant n s d => rodWf n && decide (s < 2 ^ 32) && decide (d < 2 ^ 32)
  | .calStep n m => rodWf n && m.spare.wf && m.active.wf
  | .quadTempRead ts => decide (ts.length = 48)
  | .laneCalStart r => r.wf
  | .laneCalComplete => true
  | .setpointInstant => true
  | .panCommandWake r p => r.wf && decide (p < 256)
  | .panCommandSleep r p => r.wf && decide (p < 256)
  | .tilePowerWake r => r.wf
  | .tilePowerSleep r => r.wf
  | .wakeSlotRelease n p => tileWf n p
  | .faultReportReceive n f => rodWf n && f.wf
  | .healthChannelWrite r v => r.wf && decide (v < 2 ^ 64)
  | .doseTileReset r v => r.wf && decide (v < 2 ^ 16)
  | .doseExportStart r => r.wf
  | .doseExportComplete => true
  | .doseImportStart r => r.wf
  | .doseImportComplete => true
  | .retentionLoad r _ => r.wf
  | .reckonStart r => r.wf
  | .reckonComplete => true
  | .autoReckonTimer => true
  | .portLinkDown p => decide (p < 4)
  | .portLinkUp p => decide (p < 4)
  | .modulePoll p _ => decide (p < 4)
  | .mediaFrameReceive p _ => decide (p < 4)
  | .incompleteFrameDiscard f => decide (f < 16)
  | .legTimeout f l => decide (f < 16) && decide (l < 2)
  | .flowAdmit r f => r.wf && decide (f < 16)
  | .joinReportRepeat f => decide (f < 16)
  | .flowDelete r f => r.wf && decide (f < 16)
  | .streamStart r n => r.wf && decide (n < 32)
  | .streamStop r n => r.wf && decide (n < 32)
  | .decodePictureComplete n p => decide (n < 4) && decide (p.stream < 32)
  | .auWaitTimeout n => decide (n < 32)
  | .confEnable r n => r.wf && decide (n < 2)
  | .confDisable r n => r.wf && decide (n < 2)
  | .confPictureComplete n _ _ => decide (n < 2)
  | .hbmRequest q => decide (q.port < 12) && decide (0 < q.len)
  | .hbmCommandPick p _ _ => decide (p < 64)
  | .refreshDue p => decide (p < 64)
  | .rakeRead _ => true
  | .repairEntryAged _ => true
  | .thawStart r => r.wf
  | .thawComplete _ => true
  | .hbmTrainingComplete _ p _ => decide (p < 64)
  | .dmaStart c p => decide (c < 32) && decide (p < 2 ^ 40) && p % 8 == 0
  | .dmaStop c => decide (c < 32)
  | .move c => decide (c < 32)
  | .movex c => decide (c < 32)
  | .loop c => decide (c < 32)
  | .wait c => decide (c < 32)
  | .dmaWaitMet c => decide (c < 32)
  | .signal c => decide (c < 32)
  | .endProg c => decide (c < 32)
  | .dmaResponse c _ _ => decide (c < 32)
  | .dmaResponseTimeout c => decide (c < 32)
  | .hello _ _ v c i nc nd =>
    decide (v < 256) && decide (c < 256) && decide (i < 65536) && decide (nc.length = 16) && decide (nd.length = 16)
  | .prove _ _ v s p => decide (v < 256) && decide (s < 65536) && decide (p.length = 32)
  | .read r i s n => r.wf && entryWf i s && decide (n < 256)
  | .write r i s _ v => r.wf && entryWf i s && v.wf
  | .describe r i s => r.wf && entryWf i s
  | .blobOpen r i s d n => r.wf && entryWf i s && decide (d < 2) && decide (n < 2 ^ 64)
  | .blobData r t o d => r.wf && decide (t < 65536) && decide (o < 2 ^ 64) && decide (d.length ≤ 1024)
  | .blobClose r t c => r.wf && decide (t < 65536) && decide (c < 2 ^ 32)
  | .blobAck r t s o => r.wf && decide (t < 65536) && decide (s < 65536) && decide (o < 2 ^ 64)
  | .blobReadRetransmit s => decide (s < 8)
  | .blobTransferTimeout s d => decide (s < 8) && decide (d < 2)
  | .notifyAck r n => r.wf && decide (n < 2 ^ 32)
  | .notifyGatherExpiry s => decide (s < 8)
  | .notifyRetransmit s n => decide (s < 8) && decide (n < 2 ^ 32)
  | .keepalive r b => r.wf && decide (b.length ≤ 1024)
  | .close r b => r.wf && decide (b.length ≤ 1024)
  | .handshakeExpiry s => decide (s < 65536)
  | .sessionIdleTimeout s => decide (s < 8)
  | .sessEndWrite r s => r.wf && decide (s < 8)
  | .lockoutExpiry c => decide (c < 32)
  | .lockLevelReset c => decide (c < 32)
  | .credKeyWrite r c _ => r.wf && decide (c < 32)
  | .credWrite r i c v => r.wf && decide (i < 65536) && decide (c < 32) && decide (v < 2 ^ 32)
  | .mailboxDoorbell p => decide (p.msgs.length ≤ 16)
  | .mailboxFdRead _ => true
  | .opSuspend r i => r.wf && decide (i < 65536)
  | .opResume r i => r.wf && decide (i < 65536)
  | .opCancel r i => r.wf && decide (i < 65536)
  | .evtConfigWrite r n v => r.wf && decide (n < 1024) && decide (v < 2 ^ 32)
  | .evtStatusWrite r n v => r.wf && decide (n < 1024) && decide (v < 2 ^ 32)
  | .linePendingWrite v => decide (v < 2 ^ 64)
  | .lockstepMismatch p => decide (p < 2)
  | .supplySample mv => decide (mv.length = 8)
  | .tempSample ts => decide (ts.length = 12)
  | .faultEnterSafe r => r.wf
  | .recoverStart r => r.wf
  | .recoverComplete => true
  | .activeNReleased => true
  | .splitBrainSensed => true
  | .seekingActive => true
  | .pairStatusSend => true
  | .pairTimeSend => true
  | .status h _ _ _ _ _ _ => h.wf
  | .demote h c => h.wf && decide (c < 256)
  | .ack h n => h.wf && decide (n < 2 ^ 32)
  | .time h _ _ _ _ => h.wf
  | .pairWrite h _ i s _ v => h.wf && entryWf i s && v.wf
  | .commit h _ _ => h.wf
  | .latch h _ _ c => h.wf && decide (c < 2 ^ 64)
  | .decision h d => h.wf && decide (d.layer < 31)
  | .seal h _ _ => h.wf
  | .operation h i _ _ => h.wf && decide (i < 65536)
  | .result h _ _ _ => h.wf
  | .pan h p n q a => h.wf && decide (p < 256) && tileWf n q && decide (a < 256)
  | .override h l f _ => h.wf && decide (l < 2 ^ 26) && decide (f < 256)
  | .signature h _ f rs => h.wf && decide (f + rs.length ≤ 192)
  | .attrib h _ n _ => h.wf && rodWf n
  | .attribTimeout _ n => rodWf n
  | .snapshot h _ _ _ _ _ => h.wf
  | .join h _ => h.wf
  | .handover h _ => h.wf
  | .pairSwitch r => r.wf
  | .pairRetransmit n => decide (n < 2 ^ 32)
  | .pairLinkDown => true
  | .pairGapTimeout => true
  | .latchMissingTimeout => true
  | .clockOffsetTimeout => true
  | .tallySecond ts mv => decide (ts.length = 12) && decide (mv.length = 8)
  | .attestNonceWrite r n => r.wf && decide (n.length = 32)
  | .attestReportReady s => decide (s < 8)
  | .harvestStart r => r.wf
  | .harvestComplete => true
  | .slackSample ps => decide (ps.length = 96)
  | .siReckonStart r => r.wf
  | .siReckonPeriod => true
  | .avsSettleCheck n mv => decide (n < 2) && decide (mv < 65536)
  | .siReckonComplete => true
  | .resetAssert c => decide (c < 256)
  | .devResetWrite r => r.wf
  | .resetEnd b p _ ts _ ls => decide (b < 4) && decide (p < 2) && decide (ts.length = 12) && decide (ls.length = 8)
  | .bootSourceTry _ => true
  | .netbootTimeout => true
  | .bootRetryTimer => true
  | .devTargetWrite r v => r.wf && decide (v < 256)
  | .linkTimeout => true
  | .liveExitDark => true
  | .jtagBoundaryScan => true
  | .upWordLockGained x => rodWf x.rod && wordsWf x.words
  | .bufferPanic p _ _ => decide (p < 12)
  | .queryResponseTimer p _ _ => decide (p < 4)

end Sys2Proof
end

