-- ==== Sys2Proof/Tests/Slice0.lean ====
section
/-! SUPPORT. Tests: ill-formed commands are refused, a few single steps, and for each statement states that meet its hypotheses. -/

namespace Sys2Proof.Tests

open Sys2Proof Sys2Proof.Machine

set_option Elab.async false

/-! ## Helpers -/

/-- A session of a role in slot 0, over IPv4, with an empty key. -/
def user (role : Nat) : Session :=
  ⟨8, 0, role, .ipv4, [1], [], [], 30, 0, 0, 0, 0, [], 0, [], [], [], [], none, [], 0, none, none, ⟨none, 0, none, none⟩, 0⟩

/-- A body with that session changed by f and opened. -/
def withSess (x : Session) (b : Body) : Body := { b with dict := { b.dict with sess := [(0, x)] } }

/-- A state with a body, at wall time 10 s and tick 10^13. -/
def stOf (b : Body) : State := ⟨⟨10, 0, 0, 2 ^ 41, 10000000000000⟩, b, []⟩

/-- A body with number entries set. -/
def regs (l : List (Nat × Nat × Int)) (b : Body) : Body := l.foldl (fun x p => x.setReg p.1 p.2.1 p.2.2) b

/-- The device in a state, otherwise as at reset. -/
def inState (n : Nat) (b : Body) : Body := b.setReg 0x010A 0 (n : Nat)

/-- A request of that session, with its right tag. -/
def ask (ty : Nat) (body : Bytes) : Req := ⟨8, 1, .ipv4, [1], (hmac [] (idpMsg ty 8 1 0 body)).take 16, 0, 0, 1⟩

/-- A WRITE of that session. -/
def askWrite (idx sub : Nat) (v : WireVal) : Req := ask 0x12 (writeBody idx sub (tyOf idx sub) v)

theorem takes_ask {s : State} {x : Session} (ty : Nat) (body : Bytes) (hs : s.b.sess? 0 = some x)
    (h : s.b.regN 0x0120 53 ≠ 3 ∧ x.sid = 8 ∧ x.via = .ipv4 ∧ x.peer = [1] ∧ x.kc2d = [] ∧ x.fresh 1 = true) :
    Takes s (ask ty body) ty body x :=
  arrive_of (show s.b.sess? (8 % 8) = some x from hs) h.2.1 h.2.2.1 h.2.2.2.1 rfl (.inr h.1) (show (0 : Nat) < 256 by decide) (by rw [h.2.2.2.2.1]; rfl) h.2.2.2.2.2

theorem grants_ask {s : State} {x : Session} (idx sub : Nat) (v : WireVal) (hs : s.b.sess? 0 = some x)
    (h : (s.b.regN 0x0120 53 ≠ 3 ∧ x.sid = 8 ∧ x.via = .ipv4 ∧ x.peer = [1] ∧ x.kc2d = [] ∧ x.fresh 1 = true) ∧
      s.b.checkWrite x.role idx sub (tyOf idx sub) v = 0) : Grants s (askWrite idx sub v) idx sub v x :=
  ⟨takes_ask _ _ hs h.1, h.2⟩

/-! ## Well-formedness: a good term of each command, and for each check a term it refuses -/

def goodReq : Req := ⟨0, 0, .ipv4, [], List.replicate 16 0, 0, 0, 1⟩
def badReq : Req := ⟨0, 0, .ipv4, [], List.replicate 15 0, 0, 0, 1⟩
def goodUp : UpFrame := ⟨List.replicate 64 (0, 0)⟩
def badUp : UpFrame := ⟨List.replicate 63 (0, 0)⟩
def badVal : WireVal := .w ⟨2 ^ 48, 0⟩
def badWords : RodWords := ⟨0, [(4, 0)]⟩
def noEye : EyeSeen := ⟨0, 0, 0, List.replicate 32 0, List.replicate 16 0⟩
def meas : CalMeas := ⟨eyeOf (0, 0) noEye, eyeOf (0, 0) noEye, true, false⟩
def badMeas : CalMeas := { meas with active := eyeOf (1025, 0) noEye }
def badHdr : PairHdr := ⟨2 ^ 32, false, 0⟩
def ptp : PtpMsg := ⟨.sync, .ethernet, 0, 2, 0x88F7, 0, false, 0, 0, 0, 0, []⟩
def pic : Picture :=
  ⟨0, 0, true, false, 0, 0, 0, 0, 0, false, false, true, 0, 8, 16, [], false, true, false, false, 0, none, [], [], [], 1, .good⟩

theorem test_ill_formed_parts :
    Req.wf { goodReq with sid := 65536 } = false ∧ Req.wf { goodReq with seq := 2 ^ 32 } = false ∧ badReq.wf = false ∧
    Wtime.wf ⟨2 ^ 48, 0⟩ = false ∧ Wtime.wf ⟨0, 2 ^ 32⟩ = false ∧
    Req.wf { goodReq with rsv := 256 } = false ∧ Req.wf { goodReq with rsv := 0xFE42 } = true ∧ Req.wf { goodReq with rsv := 65536 } = false ∧ Req.wf { goodReq with version := 256 } = false ∧
    badUp.wf = false ∧ UpFrame.wf ⟨List.replicate 64 (4, 0)⟩ = false ∧ UpFrame.wf ⟨List.replicate 64 (0, 2 ^ 64)⟩ = false ∧
    badHdr.wf = false ∧ PairHdr.wf ⟨0, false, 2 ^ 64⟩ = false := by decide

theorem test_ill_formed_value : WireVal.wf (.b (List.replicate 65536 0)) = false := by
  rw [WireVal.wf, List.length_replicate]
  decide

theorem test_well_formed_1 : List.all (α := Instr)
    [.pllLossOfLock 0, .pllRelock 0 false, .refclkSupervisionWindow 0 0, .wallClockTick 1, .timeIncrWrite goodReq 0,
     .timeStepWrite goodReq 0, .stepHoldExpiry, .timeForce goodReq, .ttArm goodReq 0, .ttDisarm goodReq 0, .ttLeadingEdge 0,
     .ttTrailingEdge 0, .tcLevelChange 0 false, .tcEdgeQualified 0, .ptpMessageReceived 0 ptp, .ptpMessageTransmit 0 ptp,
     .transparentClockForward 0, .forwardDrop 0, .tsPairModeWrite goodReq 0 0, .subframeLatch, .beadIssue,
     .beadComplete 0 none, .hungBeadTimeout 0, .stagingRecordGrant, .subframeRetire [0], .shadowWrite goodReq 0 0 (.n 0),
     .cfgCommit goodReq, .cfgDiscard goodReq, .guardSignatureComputed, .stillLoad goodReq 0 [], .stillFree goodReq 0,
     .bufferDeferredRelease 0, .lampStateWrite goodReq 0, .corrProbeRead goodReq, .corrLoadStart goodReq, .corrLoadComplete,
     .mapLoadStart goodReq, .mapLoadComplete, .modeEntryWrite goodReq 0 0 0, .modeSwitchStart goodReq, .darkPathDark,
     .darkPathResume, .freezeClear goodReq 0, .linkFrameSend 0 0, .tokenDue 0]
    Instr.wf = true := by decide +kernel

theorem test_well_formed_2 : List.all (α := Instr)
    [.telemetryReceive 0 goodUp, .enumRspReceive 0 goodUp, .cmdRspReceive 0 goodUp, .commandRetryTimeout 0 0,
     .enumStart goodReq, .enumCollectTimeout 0, .enumComplete, .echoRspReceive 0 goodUp 0, .echoTimeout 0 0,
     .echoPeriodTimer, .tileSilent 0 0, .upWordLockLost ⟨0, []⟩, .bringupStart 0, .laneRestart goodReq 0, .bringupRetryTimer 0,
     .trainTimeExpiry 0 (some meas), .laneStep 0, .laneReportReceive 0 goodUp, .laneCheckTimeout 0 (1024, 1024) noEye, .fclkAlignTimer 0,
     .recoveryStart 0, .dnSleep 0, .dnWake 0, .upsleepGrant 0 0 0, .calStep 0 meas,
     .quadTempRead (List.replicate 48 0), .laneCalStart goodReq, .laneCalComplete, .setpointInstant,
     .panCommandWake goodReq 0, .panCommandSleep goodReq 0, .tilePowerWake goodReq, .tilePowerSleep goodReq,
     .wakeSlotRelease 0 0, .faultReportReceive 0 goodUp, .healthChannelWrite goodReq 0, .doseTileReset goodReq 0,
     .doseExportStart goodReq, .doseExportComplete, .doseImportStart goodReq, .doseImportComplete,
     .retentionLoad goodReq [], .reckonStart goodReq, .reckonComplete, .autoReckonTimer]
    Instr.wf = true := by decide +kernel

theorem test_well_formed_3 : List.all (α := Instr)
    [.portLinkDown 0, .portLinkUp 0, .modulePoll 0 none, .mediaFrameReceive 0 ⟨none, .other 0, .good⟩, .incompleteFrameDiscard 0,
     .legTimeout 0 0, .flowAdmit goodReq 0, .joinReportRepeat 0, .flowDelete goodReq 0, .streamStart goodReq 0,
     .streamStop goodReq 0, .decodePictureComplete 0 pic, .auWaitTimeout 0, .confEnable goodReq 0, .confDisable goodReq 0,
     .confPictureComplete 0 [] [], .hbmRequest ⟨.cores, 0, 0, 0, false, [], 64, false⟩, .hbmCommandPick 0 ⟨none, []⟩ .clean, .refreshDue 0,
     .rakeRead .clean, .repairEntryAged 0, .thawStart goodReq, .thawComplete .ok, .hbmTrainingComplete false 0 [],
     .dmaStart 0 0, .dmaStop 0, .move 0, .movex 0, .loop 0, .wait 0, .dmaWaitMet 0, .signal 0, .endProg 0,
     .dmaResponse 0 0 .ok, .dmaResponseTimeout 0, .hello .ipv4 [] 0 0 0 (List.replicate 16 0) (List.replicate 16 0),
     .prove .ipv4 [] 0 0 (List.replicate 32 0), .read goodReq 0 0 0, .write goodReq 0 0 .u8 (.n 0), .describe goodReq 0 0,
     .blobOpen goodReq 0 0 0 0, .blobData goodReq 0 0 [], .blobClose goodReq 0 0, .blobAck goodReq 0 0 0,
     .blobReadRetransmit 0]
    Instr.wf = true := by decide +kernel

theorem test_well_formed_4 : List.all (α := Instr)
    [.blobTransferTimeout 0 0, .notifyAck goodReq 0, .notifyGatherExpiry 0, .notifyRetransmit 0 0, .keepalive goodReq [],
     .close goodReq [], .handshakeExpiry 0, .sessionIdleTimeout 0, .sessEndWrite goodReq 0, .lockoutExpiry 0,
     .lockLevelReset 0, .credKeyWrite goodReq 0 [], .credWrite goodReq 0 0 0, .mailboxDoorbell ⟨[], 0⟩, .mailboxFdRead 0,
     .opSuspend goodReq 0, .opResume goodReq 0, .opCancel goodReq 0, .evtConfigWrite goodReq 0 0,
     .evtStatusWrite goodReq 0 0, .linePendingWrite 0, .lockstepMismatch 0, .supplySample (List.replicate 8 0),
     .tempSample (List.replicate 12 0), .faultEnterSafe goodReq, .recoverStart goodReq, .recoverComplete, .activeNReleased,
     .splitBrainSensed, .seekingActive, .pairStatusSend, .pairTimeSend, .status ⟨0, false, 0⟩ 0 0 0 0 0 0,
     .demote ⟨0, false, 0⟩ 0, .ack ⟨0, false, 0⟩ 0, .time ⟨0, false, 0⟩ 0 0 0 0, .pairWrite ⟨0, false, 0⟩ 0 0 0 .u8 (.n 0),
     .commit ⟨0, false, 0⟩ 0 0, .latch ⟨0, false, 0⟩ 0 0 0, .decision ⟨0, false, 0⟩ ⟨0, 0, 0, 0, 0, 0, 0, 0, 0⟩,
     .seal ⟨0, false, 0⟩ 0 0, .operation ⟨0, false, 0⟩ 0 0 [], .result ⟨0, false, 0⟩ 0 [] none, .pan ⟨0, false, 0⟩ 0 0 0 0,
     .override ⟨0, false, 0⟩ 0 0 0]
    Instr.wf = true := by decide +kernel

theorem test_well_formed_5 : List.all (α := Instr)
    [.signature ⟨0, false, 0⟩ 0 0 [], .attrib ⟨0, false, 0⟩ 0 0 0, .attribTimeout 0 0,
     .snapshot ⟨0, false, 0⟩ 0 [] [] [] false, .join ⟨0, false, 0⟩ 0, .handover ⟨0, false, 0⟩ 0, .pairSwitch goodReq,
     .pairRetransmit 0, .pairLinkDown, .pairGapTimeout, .latchMissingTimeout, .clockOffsetTimeout,
     .tallySecond (List.replicate 12 0) (List.replicate 8 0), .attestNonceWrite goodReq (List.replicate 32 0),
     .attestReportReady 0, .harvestStart goodReq, .harvestComplete, .slackSample (List.replicate 96 0),
     .siReckonStart goodReq, .siReckonPeriod, .avsSettleCheck 0 0, .siReckonComplete, .resetAssert 0,
     .devResetWrite goodReq, .resetEnd 0 0 false (List.replicate 12 0) [] (List.replicate 8 true),
     .bootSourceTry ⟨none, none, 0, none⟩, .netbootTimeout, .bootRetryTimer, .devTargetWrite goodReq 0, .linkTimeout, .liveExitDark,
     .jtagBoundaryScan, .upWordLockGained ⟨0, []⟩, .bufferPanic 0 0 0, .queryResponseTimer 0 false []]
    Instr.wf = true := by decide +kernel

theorem test_ill_formed_1 : List.all (α := Instr)
    [.pllLossOfLock (60), .pllRelock (60) false, .wallClockTick 0, .timeIncrWrite badReq 0, .timeIncrWrite goodReq (2 ^ 64),
     .timeStepWrite badReq 0, .timeStepWrite goodReq (-(2 ^ 63) - 1), .timeStepWrite goodReq (2 ^ 63), .timeForce badReq,
     .ttArm badReq 0, .ttArm goodReq (16), .ttDisarm badReq 0, .ttDisarm goodReq (16), .ttLeadingEdge (16),
     .ttTrailingEdge (16), .tcLevelChange (8) false, .tcEdgeQualified (8), .ptpMessageReceived (4) ptp,
     .ptpMessageTransmit (4) ptp, .transparentClockForward (4), .forwardDrop (4), .tsPairModeWrite badReq 0 0,
     .tsPairModeWrite goodReq (2) 0, .tsPairModeWrite goodReq 0 (256), .beadComplete (8192) none, .hungBeadTimeout (8192),
     .shadowWrite badReq 0 0 (.n 0), .shadowWrite goodReq 65536 0 (.n 0), .shadowWrite goodReq 0 256 (.n 0),
     .shadowWrite goodReq 0 0 badVal, .cfgCommit badReq, .cfgDiscard badReq, .stillLoad badReq 0 [],
     .stillLoad goodReq (64) [], .stillFree badReq 0, .stillFree goodReq (64), .lampStateWrite badReq 0,
     .lampStateWrite goodReq (2 ^ 64), .corrProbeRead badReq, .corrLoadStart badReq, .mapLoadStart badReq,
     .modeEntryWrite badReq 0 0 0, .modeEntryWrite goodReq 65536 0 0, .modeEntryWrite goodReq 0 256 0,
     .modeSwitchStart badReq]
    (fun i => !i.wf) = true := by decide +kernel

theorem test_ill_formed_2 : List.all (α := Instr)
    [.freezeClear badReq 0, .freezeClear goodReq (31), .linkFrameSend 192 0, .linkFrameSend 0 (2 ^ 32), .tokenDue 192,
     .telemetryReceive 192 goodUp, .telemetryReceive 0 badUp, .enumRspReceive 192 goodUp, .enumRspReceive 0 badUp,
     .cmdRspReceive 192 goodUp, .cmdRspReceive 0 badUp, .commandRetryTimeout 192 0, .commandRetryTimeout 0 64,
     .enumStart badReq, .enumCollectTimeout 192, .echoRspReceive 192 goodUp 0, .echoRspReceive 0 badUp 0,
     .echoTimeout 192 0, .echoTimeout 0 64, .tileSilent 192 0, .tileSilent 0 64, .upWordLockLost ⟨192, []⟩, .upWordLockLost badWords, .bringupStart 192,
     .laneRestart badReq 0, .laneRestart goodReq 192, .bringupRetryTimer 192, .trainTimeExpiry 192 none, .trainTimeExpiry 0 (some badMeas),
     .laneStep 192, .laneReportReceive 192 goodUp, .laneReportReceive 0 badUp, .laneCheckTimeout 192 (0, 0) noEye,
     .laneCheckTimeout 0 (1025, 0) noEye, .laneCheckTimeout 0 (0, 1025) noEye,
     .laneCheckTimeout 0 (0, 0) ⟨0, 0, 1, noEye.vert, noEye.horiz⟩, .laneCheckTimeout 0 (0, 0) ⟨0, 0, 0, [], noEye.horiz⟩, .fclkAlignTimer 192, .recoveryStart 192, .dnSleep 192,
     .dnWake 192, .upsleepGrant 192 0 0, .upsleepGrant 0 (2 ^ 32) 0, .upsleepGrant 0 0 (2 ^ 32),
     .calStep 192 meas, .calStep 0 badMeas, .quadTempRead (List.replicate 47 0), .laneCalStart badReq,
     .panCommandWake badReq 0, .panCommandWake goodReq (256)]
    (fun i => !i.wf) = true := by decide +kernel

theorem test_ill_formed_3 : List.all (α := Instr)
    [.panCommandSleep badReq 0, .panCommandSleep goodReq (256), .tilePowerWake badReq, .tilePowerSleep badReq,
     .wakeSlotRelease 192 0, .wakeSlotRelease 0 64, .faultReportReceive 192 goodUp, .faultReportReceive 0 badUp,
     .healthChannelWrite badReq 0, .healthChannelWrite goodReq (2 ^ 64), .doseTileReset badReq 0,
     .doseTileReset goodReq (2 ^ 16), .doseExportStart badReq, .doseImportStart badReq, .retentionLoad badReq [],
     .reckonStart badReq, .portLinkDown (4), .portLinkUp (4), .modulePoll (4) none, .mediaFrameReceive (4) ⟨none, .other 0, .good⟩,
     .incompleteFrameDiscard (16), .legTimeout (16) 0, .legTimeout 0 (2), .flowAdmit badReq 0, .flowAdmit goodReq (16),
     .joinReportRepeat (16), .flowDelete badReq 0, .flowDelete goodReq (16), .streamStart badReq 0,
     .streamStart goodReq (32), .streamStop badReq 0, .streamStop goodReq (32), .decodePictureComplete (4) pic,
     .decodePictureComplete 0 { pic with stream := 32 }, .auWaitTimeout (32), .confEnable badReq 0, .confEnable goodReq (2),
     .confDisable badReq 0, .confDisable goodReq (2), .confPictureComplete (2) [] [],
     .hbmRequest ⟨.cores, 12, 0, 0, false, [], 64, false⟩, .hbmRequest ⟨.cores, 0, 0, 0, false, [], 0, false⟩,
     .hbmCommandPick (64) ⟨none, []⟩ .clean, .refreshDue (64)]
    (fun i => !i.wf) = true := by decide +kernel

theorem test_ill_formed_4 : List.all (α := Instr)
    [.thawStart badReq, .hbmTrainingComplete false (64) [], .dmaStart (32) 0, .dmaStart 0 (2 ^ 40), .dmaStart 0 4,
     .dmaStop (32), .move (32), .movex (32), .loop (32), .wait (32), .dmaWaitMet (32), .signal (32), .endProg (32),
     .dmaResponse (32) 0 .ok, .dmaResponseTimeout (32),
     .hello .ipv4 [] (256) 0 0 (List.replicate 16 0) (List.replicate 16 0),
     .hello .ipv4 [] 0 (256) 0 (List.replicate 16 0) (List.replicate 16 0),
     .hello .ipv4 [] 0 0 (65536) (List.replicate 16 0) (List.replicate 16 0),
     .hello .ipv4 [] 0 0 0 (List.replicate 15 0) (List.replicate 16 0),
     .hello .ipv4 [] 0 0 0 (List.replicate 16 0) (List.replicate 15 0), .prove .ipv4 [] (256) 0 (List.replicate 32 0),
     .prove .ipv4 [] 0 (65536) (List.replicate 32 0), .prove .ipv4 [] 0 0 (List.replicate 31 0), .read badReq 0 0 0,
     .read goodReq 65536 0 0, .read goodReq 0 256 0, .read goodReq 0 0 (256), .write badReq 0 0 .u8 (.n 0),
     .write goodReq 65536 0 .u8 (.n 0), .write goodReq 0 256 .u8 (.n 0), .write goodReq 0 0 .u8 badVal,
     .describe badReq 0 0, .describe goodReq 65536 0, .describe goodReq 0 256, .blobOpen badReq 0 0 0 0,
     .blobOpen goodReq 65536 0 0 0, .blobOpen goodReq 0 256 0 0, .blobOpen goodReq 0 0 (2) 0,
     .blobOpen goodReq 0 0 0 (2 ^ 64), .blobData badReq 0 0 [], .blobData goodReq (65536) 0 [],
     .blobData goodReq 0 (2 ^ 64) [], .blobData goodReq 0 0 (List.replicate 1025 0), .blobClose badReq 0 0,
     .blobClose goodReq (65536) 0]
    (fun i => !i.wf) = true := by decide +kernel

theorem test_ill_formed_5 : List.all (α := Instr)
    [.blobClose goodReq 0 (2 ^ 32), .blobAck badReq 0 0 0, .blobAck goodReq (65536) 0 0, .blobAck goodReq 0 (65536) 0,
     .blobAck goodReq 0 0 (2 ^ 64), .blobReadRetransmit (8), .blobTransferTimeout (8) 0, .blobTransferTimeout 0 (2),
     .notifyAck badReq 0, .notifyAck goodReq (2 ^ 32), .notifyGatherExpiry (8), .notifyRetransmit (8) 0,
     .notifyRetransmit 0 (2 ^ 32), .keepalive badReq [], .keepalive goodReq (List.replicate 1025 0), .close badReq [],
     .close goodReq (List.replicate 1025 0), .handshakeExpiry (65536), .sessionIdleTimeout (8), .sessEndWrite badReq 0,
     .sessEndWrite goodReq (8), .lockoutExpiry (32), .lockLevelReset (32), .credKeyWrite badReq 0 [],
     .credKeyWrite goodReq (32) [], .credWrite badReq 0 0 0, .credWrite goodReq (65536) 0 0, .credWrite goodReq 0 (32) 0,
     .credWrite goodReq 0 0 (2 ^ 32), .mailboxDoorbell ⟨List.replicate 17 [], 0⟩, .opSuspend badReq 0,
     .opSuspend goodReq (65536), .opResume badReq 0, .opResume goodReq (65536), .opCancel badReq 0,
     .opCancel goodReq (65536), .evtConfigWrite badReq 0 0, .evtConfigWrite goodReq (1024) 0,
     .evtConfigWrite goodReq 0 (2 ^ 32), .evtStatusWrite badReq 0 0, .evtStatusWrite goodReq (1024) 0,
     .evtStatusWrite goodReq 0 (2 ^ 32), .linePendingWrite (2 ^ 64), .lockstepMismatch (2),
     .supplySample (List.replicate 7 0)]
    (fun i => !i.wf) = true := by decide +kernel

theorem test_ill_formed_6 : List.all (α := Instr)
    [.tempSample (List.replicate 11 0), .faultEnterSafe badReq, .recoverStart badReq, .status badHdr 0 0 0 0 0 0,
     .demote badHdr 0, .demote ⟨0, false, 0⟩ (256), .ack badHdr 0, .ack ⟨0, false, 0⟩ (2 ^ 32), .time badHdr 0 0 0 0,
     .pairWrite badHdr 0 0 0 .u8 (.n 0), .pairWrite ⟨0, false, 0⟩ 0 65536 0 .u8 (.n 0),
     .pairWrite ⟨0, false, 0⟩ 0 0 256 .u8 (.n 0), .pairWrite ⟨0, false, 0⟩ 0 0 0 .u8 badVal, .commit badHdr 0 0,
     .latch badHdr 0 0 0, .latch ⟨0, false, 0⟩ 0 0 (2 ^ 64), .decision badHdr ⟨0, 0, 0, 0, 0, 0, 0, 0, 0⟩,
     .decision ⟨0, false, 0⟩ ⟨0, 31, 0, 0, 0, 0, 0, 0, 0⟩, .seal badHdr 0 0, .operation badHdr 0 0 [],
     .operation ⟨0, false, 0⟩ (65536) 0 [], .result badHdr 0 [] none, .pan badHdr 0 0 0 0, .pan ⟨0, false, 0⟩ (256) 0 0 0,
     .pan ⟨0, false, 0⟩ 0 192 0 0, .pan ⟨0, false, 0⟩ 0 0 64 0, .pan ⟨0, false, 0⟩ 0 0 0 (256), .override badHdr 0 0 0,
     .override ⟨0, false, 0⟩ (2 ^ 26) 0 0, .override ⟨0, false, 0⟩ 0 (256) 0, .signature badHdr 0 0 [],
     .signature ⟨0, false, 0⟩ 0 193 [], .attrib badHdr 0 0 0, .attrib ⟨0, false, 0⟩ 0 192 0, .attribTimeout 0 192,
     .snapshot badHdr 0 [] [] [] false, .join badHdr 0, .handover badHdr 0, .pairSwitch badReq, .pairRetransmit (2 ^ 32),
     .tallySecond (List.replicate 11 0) (List.replicate 8 0), .tallySecond (List.replicate 12 0) (List.replicate 7 0),
     .attestNonceWrite badReq (List.replicate 32 0), .attestNonceWrite goodReq (List.replicate 31 0), .attestReportReady (8)]
    (fun i => !i.wf) = true := by decide +kernel

theorem test_ill_formed_7 : List.all (α := Instr)
    [.harvestStart badReq, .slackSample (List.replicate 95 0), .siReckonStart badReq, .avsSettleCheck (2) 0,
     .avsSettleCheck 0 (65536), .resetAssert (256), .devResetWrite badReq,
     .resetEnd (4) 0 false (List.replicate 12 0) [] (List.replicate 8 true),
     .resetEnd 0 (2) false (List.replicate 12 0) [] (List.replicate 8 true),
     .resetEnd 0 0 false (List.replicate 11 0) [] (List.replicate 8 true),
     .resetEnd 0 0 false (List.replicate 12 0) [] (List.replicate 7 true), .devTargetWrite badReq 0,
     .devTargetWrite goodReq (256), .upWordLockGained ⟨192, []⟩, .upWordLockGained badWords, .bufferPanic (12) 0 0, .queryResponseTimer (4) false []]
    (fun i => !i.wf) = true := by decide +kernel

/-! ## The manual's worked examples -/

/-- Arena's mode (06_emission, worked example: the four phases of Arena). -/
def arena : Mode := ⟨8, 4, List.replicate 8 0, List.replicate 8 3900000, 0, 4, 2, 65536⟩

/-- 02_wall_time, worked example: disciplining +3.7 ppm. The increment written takes effect and 500,000,000 ticks advance the
clock by 3,699.99998 ns more than one second. -/
theorem test_incr_example :
    ((⟨0, 0, 0, 0x0200007C26C2, 0⟩ : Clock).ticks 500000000).sec = 1 ∧
    ((⟨0, 0, 0, 0x0200007C26C2, 0⟩ : Clock).ticks 500000000).ns = 3699 ∧
    ((⟨0, 0, 0, 0x0200007C26C2, 0⟩ : Clock).ticks 500000000).frac = 4068193000000000 - 3699 * 2 ^ 40 := by decide +kernel

/-- 02_wall_time, worked example: a compare across the 32-bit wrap. -/
theorem test_wrap_example : time32 ⟨1760936595654963200, 0, 0, 0⟩ 0x00002710 = 1760936595654977296 := by decide

/-- 02_wall_time, worked example: one Arena base frame. -/
theorem test_instants_example : let n := 422202580224
    (upFrom n 5).map (fun k => (arena.instI k - 1760936595017600000, arena.instC k - 1760936595017600000,
      arena.instE k - 1760936595017600000)) =
    [(-8441667, -4270834, 0), (-4270834, -100000, 4170833), (-100000, 4070833, 8341666), (4070833, 8241666, 12512500),
      (8241666, 12412500, 16683333)] := by decide +kernel

/-- 06_emission, worked example: the four phases of Arena; T_em of two phases is that of the next example. -/
theorem test_unit_example : arena.unitUsed = 14 ∧ arena.tEm = 3670200 ∧ arena.checkSelf = 0 ∧
    slotOrder arena.order = [0, 2, 4, 6, 8, 10, 12, 14, 15, 13, 11, 9, 7, 5, 3, 1] ∧
    Mode.unitUsed { arena with phases := 2, window := List.replicate 8 8000000 } = 30 ∧
    Mode.tEm { arena with phases := 2, window := List.replicate 8 8000000 } = 7864440 := by decide +kernel

/-- 06_emission under R201: from 2 phases to 4 is seamless, from 4 to 2 is not. -/
theorem test_seamless_example :
    Body.isSeamless { Body.reset with seq := { Body.reset.seq with mode := { arena with phases := 2, window := List.replicate 8 8000000 } } }
      arena 422202580232 211101290115 = true ∧
    Body.isSeamless { Body.reset with seq := { Body.reset.seq with mode := arena } }
      { arena with phases := 2, window := List.replicate 8 8000000 } 211101290116 422202580231 = false := by decide +kernel

/-- 06_emission, worked example: Arena from four phases to two: N_L is N3, E_d is E(N4), and k' = k + 2. -/
theorem test_dark_path_example :
    let b := Body.beginDark { Body.reset with seq := { Body.reset.seq with mode := arena } }
      { arena with phases := 2, window := List.replicate 8 8000000 } 422202580225 false none
    b.seq.sw.map (fun w => (w.nL - 422202580224, w.ed - 1760936595000000000, w.cd - 1760936595000000000, w.first, w.newE - 1760936595000000000)) =
      some (3, 34283333, 30012500, some 211101290116, 50966666) := by decide +kernel

/-- 03_bead_pipeline, worked example: the lamp quota of one sub-frame; and 14_lifetime's after one clock step. -/
theorem test_quota_example : Body.reset.quota arena = 50381979 ∧
    Body.quota { Body.reset with si := { Body.reset.si with budget := 301989888 * 39 } } arena = 49122430 := by decide +kernel

/-- The tile of 05_lamp_correction's worked example: rod 28, position 5. -/
def tile5 : TileRec := ⟨640, 896, 128, 128, 0, 16, 7, 0, 0, 1, 1, 0, [], 81920⟩

/-- The entry of that example. -/
def entry5 : Bytes :=
  ([15974, 287, 65475, 65413, 16221, 92, 41, 65331, 16548, 33587, 33114, 34406].map (le 2)).flatten ++ [3, 2, 5, 4, 0, 0, 0, 0]

/-- The lamp lies where the example says: its canvas position, its index, its bead. -/
theorem test_lamp_position_example : tile5.pos 8300 = (108, 64) ∧ tile5.at 8300 = (748, 960) ∧
    (⟨28, 88, 5, tile5, 8192, 1024⟩ : Bead).lamp 8300 = 7430252 := by decide

/-- 05_lamp_correction, worked example: correction of the composed value, and the codes it is dithered to. -/
theorem test_correction_example :
    let b := (regs [(0x1003, 1, 0x7C29)] Body.reset).store (Body.reset.entryAddr 0 7430252) entry5
    let s : Sub := ⟨422202580226, arena, 0, 0, 0, ⟨[], []⟩, 0, 0, 0, 0, [], [], [], [], 0, 0, 0, false, false, [], false, [], 0, [], [], [], false, []⟩
    b.correct s ⟨28, 88, 5, tile5, 8192, 1024⟩ [] ⟨0, 6144, 5120, 0, []⟩ 8300 [1718319, 821807, 233967] =
      ([1731247, 810642, 242159], false) := by decide +kernel

theorem test_dither_example :
    (ditherCode true 1731247 16 748 960 0 105550645056, ditherCode true 810642 16 748 960 1 105550645056,
      ditherCode true 242159 16 748 960 2 105550645056) = (0x69AA, 0x317A, 0x0EC7) ∧
    ((upFrom 105550645056 8).map (ditherCode true 242159 16 748 960 2)).foldl (· + ·) 0 = 8 * 3783 + 4 := by decide +kernel

/-- 07_kizen_link, worked example: trims on Arena rod 28. The delays are given here in quarters of a ns, as R246 and R247 carry them. -/
theorem test_trim_example :
    let t : Tile := { Tile.reset with ldn := 192, lup := 208 }
    let b := { regs [(0x1201, 29, 12)] Body.reset with rods := [(28, { Rod.reset with held := upFrom 0 12 })], tiles := (upFrom 0 12).map (fun p =>
      (28 * 64 + p, { t with turn := 16 * (if p = 5 then 5610 else if p = 11 then 5561 else 0) })) }
    b.trimOf 28 5 (16 * 8530) = 1420 ∧ b.trimOf 28 11 (16 * 11025) = 2644 := by decide +kernel

/-- 10_media_and_codecs, worked example: two 8K flows on one port. -/
theorem test_wire_rate_example :
    (regs [(0x0A10, 1, 1), (0x0A18, 1, 7680 * 2 ^ 48 + 4320 * 2 ^ 32 + 10 * 2 ^ 16), (0x0A19, 1, 8), (0x0A1B, 1, 1200)]
      Body.reset).wireRate 0 = 42624 ∧ bufBytes 0 7680 4320 = 132710400 := by decide +kernel

/-- 09_tiles_and_lamp_ageing, worked example, step 2: the red retention at the effective dose of step 1. -/
theorem test_retention_example :
    let r : Bytes := List.replicate 48 0 ++ le 4 40000000 ++ le 2 31130 ++ le 2 0 ++ le 4 50000000 ++ le 2 30802 ++ List.replicate 400 0
    (retention r 0 42928518 0).1 = 31034 ∧ roundTie (31810 * 32768) 31034 0 = 33587 := by decide +kernel

/-- 11_memory_and_dma, worked example: the words of the program, and byte 40 of each plane fragment. -/
theorem test_movex_example :
    let ws := [0x02010000_00000C00, 0x00000005_C5000000, 0x00000005_C5004000, 0x00001000_00000180]
    let rd (o : Nat) : Byte := BitVec.ofNat 8 ((if o / 2 = 324 then 0x69AA else if o / 2 = 325 then 0x317A else if o / 2 = 326 then 0x0EC7
      else 0) / 256 ^ (o % 2))
    moveXOf ws = ⟨0, 0, 2, 3072, 0, 16, 384⟩ ∧ (moveXOf ws).ok = true ∧
    (upFrom 0 16).map (fun j => (moveByte ws rd j 40).toNat) =
      [0x02, 0x0E, 0x02, 0x0C, 0x04, 0x0C, 0x06, 0x0A, 0x0C, 0x02, 0x02, 0x0A, 0x04, 0x0C, 0x08, 0x00] := by decide +kernel

/-- 04_layers, worked example: two refusals. -/
theorem test_scaler_example : scalerLines 7680 = 24 ∧ linesNeeded 8 4320 1728 = 21 ∧ linesNeeded 8 4320 1080 = 33 := by decide

/-- 12_dictionary, worked example: the body of the WRITE of `layer.alpha` of layer 5. -/
theorem test_write_body_example : writeBody 0x0C08 6 .u16 (.n 0x4000) = [0x0C, 0x08, 0x06, 0x03, 0x40, 0x00] := by decide

/-- FIPS 180-4 and the CRC-32C and CRC-64/XZ check values, which R2 and its neighbours name by reference. -/
theorem test_check_values :
    crc32c [0x31, 0x32, 0x33, 0x34, 0x35, 0x36, 0x37, 0x38, 0x39] = 0xE3069283 ∧
    crc64xz [0x31, 0x32, 0x33, 0x34, 0x35, 0x36, 0x37, 0x38, 0x39] = 0x995DC9BBDF1939FA ∧
    ofBE (sha256 [0x61, 0x62, 0x63]) = 0xBA7816BF8F01CFEA414140DE5DAE2223B00361A396177A9CB410FF61F20015AD := by decide +kernel

/-- R355 by hand: 6 log2(2) = 6 is clamped to 3; 6 log2(1.1) = 0.825 rounds to 1; 6 log2(0.9) = -0.912 rounds to -1; equal bits give 0. -/
theorem test_six_log2 : sixLog2 2000 1000 = 3 ∧ sixLog2 1100 1000 = 1 ∧ sixLog2 1000 1000 = 0 ∧ sixLog2 900 1000 = -1 ∧
    sixLog2 100 1000 = -3 := by decide +kernel

/-- R148 and R351 by hand: (1/2)^2.4 = 0.189464573 and (1/4)^(1/2.4) = 0.561231024, each times 2^22 rounded down; 1.0 stays. -/
theorem test_transfers : bt1886 1 2 = 794672 ∧ rootBits 12 (1048576 ^ 5 * 2 ^ 154) 1 23 0 = 2353973 ∧
    bt1886 1 1 = 4194304 ∧ rootBits 12 (4194304 ^ 5 * 2 ^ 154) 1 23 0 = 4194304 := by decide +kernel

/-- PQ of 1.0 is 10,000 cd/m2, and of code 520 / 1,023 is 100.2 cd/m2; over 1,000 that is 10 and 0.1002. HLG of 1.0 at 1,000 cd/m2 is 1.0, and
of 0.5 is (1/12)^1.2 = 0.0507. -/
theorem test_pq_hlg : pqLight 1000 1 1 / 41943 = 1000 ∧ pqLight 1000 520 1023 / 419 = 1003 ∧
    hlgLight 1000 (hlgScene 1 1) (hlgScene 1 1) / 4194 = 1000 ∧ hlgLight 1000 (hlgScene 1 2) (hlgScene 1 2) / 419 = 507 := by decide +kernel

/-- R318 by hand for the lamp of 09_tiles_and_lamp_ageing's worked example: 1.5^0.3 = 1.12934694, so 42,928,842 within 2^-20. (The example
itself prints 1.1293384; see log entry 10.) -/
theorem test_dose_example : (effDoseRange 38012095 0x180 48 1).1 ≤ 42928842 ∧ 42928843 ≤ (effDoseRange 38012095 0x180 48 1).2 ∧
    (effDoseRange 38012095 0x180 48 1).2 ≤ (effDoseRange 38012095 0x180 48 1).1 + 84 := by decide +kernel


/-- R29, R402: an event source that is not allocated has no entry. -/
theorem test_absent_source : lookup 0x0300 12 = none ∧ (lookup 0x0300 11).isSome = true ∧ lookup 0x030F 108 = none := by decide +kernel

/-- R220: kind 0x5, type 000111, address 111111, sequence 9, time 5. -/
theorem test_header_word : (linkWords 7 63 9 5 []).head? = some (2, 0x51FF000900000005) ∧ (linkWords 7 63 9 5 []).length = 64 ∧
    (⟨linkWords 7 63 9 5 []⟩ : UpFrame).damaged = false := by decide +kernel

/-- R216: one bit set comes again 39 and 58 bits later. -/
theorem test_scrambler : (scrambleAll 0 [(1, 2 ^ 63)]).1 = [2 ^ 64 + 2 ^ 63 + 2 ^ 24 + 2 ^ 5] := by decide +kernel

/-- R228, R231: bytes of a SET and of a SCHEDULE. -/
theorem test_bodies : (DnFrame.set 3 0x100000002 1 16 197 0x0102030405060708).body 0 0 0 false =
      [0, 0, 0, 2, 1, 16, 0, 197, 1, 2, 3, 4, 5, 6, 7, 8] ∧
    ((DnFrame.schedule 2 1 4 0x100000007 (List.replicate 16 0x010203) 9 1).body 0 0 0x0A0B0C0D true).drop 54 =
      [1, 2, 3, 1, 2, 3, 9, 1, 0, 0, 10, 11, 12, 13, 1] := by decide +kernel
/-! ## States that meet the hypotheses of each statement -/


def wStepRunsTheFrontCommand1 : State := { stOf Body.reset with pending := [.wallClockTick 1] }

theorem witness_StepRunsTheFrontCommand :
    (wStepRunsTheFrontCommand1.pending = .wallClockTick 1 :: []) :=
  by decide +kernel


def wClockStaysInRange1 : State := stOf Body.reset

theorem witness_ClockStaysInRange :
    (wClockStaysInRange1.clk.sec < 2 ^ 48 ∧ wClockStaysInRange1.clk.ns < 1000000000 ∧ wClockStaysInRange1.clk.frac < 2 ^ 40) :=
  by decide +kernel


def wStrangersChangeNothing1 : State := stOf Body.reset

def wStrangersChangeNothing2 : State := stOf (withSess { user 4 with peer := [2] } Body.reset)

theorem witness_StrangersChangeNothing :
    ((Instr.cfgCommit (ask 0x12 [])).request = some (ask 0x12 []) ∧ wStrangersChangeNothing1.b.sess? 0 = none) ∧
    ((Instr.close (ask 0x12 []) []).request = some (ask 0x12 []) ∧ (wStrangersChangeNothing2.b.sess? 0).map (fun x => x.peer) = some [2] ∧ (ask 0x12 []).peer = [1]) :=
  ⟨⟨rfl, by decide +kernel⟩,
   ⟨rfl, by decide +kernel, rfl⟩⟩


def wNamedWritesAreWrites1 : State := stOf (withSess (user 4) Body.reset)

theorem witness_NamedWritesAreWrites :
    ((Instr.timeForce (askWrite 0x0805 0 (.n 1))).asWrite = some (askWrite 0x0805 0 (.n 1), 0x0805, 0, .n 1) ∧ (Answers (exec (.timeForce (askWrite 0x0805 0 (.n 1))) wNamedWritesAreWrites1))) :=
  ⟨rfl, ⟨_, rfl⟩⟩


def wUnservedWritesAreNotExecuted1 : State := stOf (withSess (user 0) Body.reset)

def wUnservedWritesAreNotExecuted3 : State := stOf (withSess (user 4) Body.reset)

def wUnservedWritesAreNotExecuted4 : State := stOf (withSess { user 4 with hi := 1, window := 1, kept := [⟨1, idpMsg 0x12 8 1 0 (writeBody 0x0801 0 (tyOf 0x0801 0) (.n 5)), 7, some (wrote stRange)⟩] } Body.reset)

theorem witness_UnservedWritesAreNotExecuted :
    (Takes wUnservedWritesAreNotExecuted1 (ask 0x12 (writeBody 0x0801 0 (tyOf 0x0801 0) (.n 5))) 0x12 (writeBody 0x0801 0 (tyOf 0x0801 0) (.n 5)) (user 0) ∧ wUnservedWritesAreNotExecuted1.b.checkWrite (user 0).role 0x0801 0 (tyOf 0x0801 0) (.n 5) = stRole) ∧
    (wUnservedWritesAreNotExecuted1.b.arrive { ask 0x12 (writeBody 0x0801 0 (tyOf 0x0801 0) (.n 5)) with depth := 256 } 0x12 (writeBody 0x0801 0 (tyOf 0x0801 0) (.n 5)) = .queueFull) ∧
    ((wUnservedWritesAreNotExecuted3.b.arrive { ask 0x12 (writeBody 0x0801 0 (tyOf 0x0801 0) (.n 5)) with tag := [1] } 0x12 (writeBody 0x0801 0 (tyOf 0x0801 0) (.n 5)) = .badTag ∧ wUnservedWritesAreNotExecuted3.b.sess? (8 % 8) = some (user 4)) ∧
     (wUnservedWritesAreNotExecuted4.b.arrive (ask 0x12 (writeBody 0x0801 0 (tyOf 0x0801 0) (.n 5))) 0x12 (writeBody 0x0801 0 (tyOf 0x0801 0) (.n 5)) = .again ⟨1, idpMsg 0x12 8 1 0 (writeBody 0x0801 0 (tyOf 0x0801 0) (.n 5)), 7, some (wrote stRange)⟩)) :=
  ⟨⟨takes_ask _ _ rfl (by decide +kernel), by decide +kernel⟩,
   rfl,
   by decide +kernel⟩


def wDomainsLoseAndRegainLock1 : State := stOf (regs [(0x0120, 1, 2), (0x0120, 60, 3)] (inState 6 Body.reset))

theorem witness_DomainsLoseAndRegainLock :
    ((wDomainsLoseAndRegainLock1.b.reg 0x0120 (0 + 1) = 2 ∧ wDomainsLoseAndRegainLock1.b.reg 0x0120 (59 + 1) ≠ 2) ∧
     (wDomainsLoseAndRegainLock1.b.reg 0x0120 (59 + 1) = 3 ∧ wDomainsLoseAndRegainLock1.b.reg 0x0120 (0 + 1) ≠ 3) ∧
     (wDomainsLoseAndRegainLock1.b.reg 0x0120 (59 + 1) ≠ 2)) ∧
    (wDomainsLoseAndRegainLock1.b.reg 0x0120 (0 + 1) ≠ 3) :=
  ⟨by decide +kernel,
   by decide +kernel⟩


def wReferencesAreSupervised1 : State := stOf (inState 1 Body.reset)

def wReferencesAreSupervised2 : State := stOf (let b := inState 6 Body.reset; { b with flt := { b.flt with refBad := [(0, 2)] } })

theorem witness_ReferencesAreSupervised :
    ((wReferencesAreSupervised1.b.devState ≠ devOff ∧ refGood 156093750 = true ∧ refGood 156406250 = true) ∧
     (refGood 156093749 = false ∧ refGood 156250000 = true ∧ mgetD 0 0 wReferencesAreSupervised2.b.flt.refBad = 2 ∧ wReferencesAreSupervised2.b.devState ≠ devOff ∧ wReferencesAreSupervised2.b.devState ≠ devSafe ∧ wReferencesAreSupervised2.b.devState ≠ devFrozen)) :=
  by decide +kernel


def wTicksFollowThePseudocode1 : State := stOf Body.reset

def wTicksFollowThePseudocode2 : State := stOf (withSess (user 4) Body.reset)

theorem witness_TicksFollowThePseudocode :
    (wTicksFollowThePseudocode1.clk.sec < 2 ^ 48 ∧ wTicksFollowThePseudocode1.clk.ns < 1000000000 ∧ wTicksFollowThePseudocode1.clk.frac < 2 ^ 40 ∧ wTicksFollowThePseudocode1.clk.incr < 3 * 2 ^ 40 ∧ wTicksFollowThePseudocode1.b.tu.changes = [] ∧ wTicksFollowThePseudocode1.b.seq.sw = none) ∧
    (Grants wTicksFollowThePseudocode2 (askWrite 0x0801 (0) (.n ((2 ^ 62 : Nat) : Int))) 0x0801 (0) (.n ((2 ^ 62 : Nat) : Int)) (user 4) ∧ Answers (exec (.timeIncrWrite (askWrite 0x0801 0 (.n ((2 ^ 62 : Nat) : Int))) (2 ^ 62)) wTicksFollowThePseudocode2) ∧ 3 * 2 ^ 40 < (2 ^ 62 : Nat)) :=
  ⟨by decide +kernel,
   ⟨grants_ask _ _ _ rfl (by decide +kernel), ⟨⟨_, rfl⟩, by decide⟩⟩⟩


def wChangesTakeEffectAtOneTick1 : State := stOf { Body.reset with tu := { Body.reset.tu with changes := [.incr 2199463060203] } }

def wChangesTakeEffectAtOneTick2 : State := stOf { Body.reset with tu := { Body.reset.tu with changes := [.step (-10000000002)] } }

def wChangesTakeEffectAtOneTick3 : State := stOf (withSess (user 4) Body.reset)

theorem witness_ChangesTakeEffectAtOneTick :
    ((wChangesTakeEffectAtOneTick1.b.tu.changes = .incr 2199463060203 :: [] ∧ wChangesTakeEffectAtOneTick1.b.seq.sw = none ∧ wChangesTakeEffectAtOneTick1.clk.incr < 3 * 2 ^ 40) ∧
     (wChangesTakeEffectAtOneTick2.b.tu.changes = .step (-10000000002) :: [] ∧ 0 ≤ (wChangesTakeEffectAtOneTick2.clk.tick1.time : Int) + (-10000000002) ∧ (wChangesTakeEffectAtOneTick2.clk.tick1.time : Int) + (-10000000002) < 2 ^ 48 * 1000000000)) ∧
    (Grants wChangesTakeEffectAtOneTick3 (askWrite 0x0801 (0) (.n (2198583450901 : Nat))) 0x0801 (0) (.n (2198583450901 : Nat)) (user 4) ∧ (wChangesTakeEffectAtOneTick3.b.follows && wChangesTakeEffectAtOneTick3.b.regN 0x1A05 0 == 1) = false ∧ wChangesTakeEffectAtOneTick3.b.tu.changes = []) ∧
    (Grants wChangesTakeEffectAtOneTick3 (askWrite 0x0802 (0) (.n (-10000000000))) 0x0802 (0) (.n (-10000000000)) (user 4) ∧ wChangesTakeEffectAtOneTick3.b.regN 0x0806 0 = 0 ∧ wChangesTakeEffectAtOneTick3.b.tu.changes = [] ∧ 0 ≤ (wChangesTakeEffectAtOneTick3.clk.time : Int) + (-10000000000) ∧ 0 ≤ (wChangesTakeEffectAtOneTick3.clk.tick1.time : Int) + (-10000000000)) :=
  ⟨by decide +kernel,
   ⟨grants_ask _ _ _ rfl (by decide +kernel), by decide +kernel⟩,
   ⟨grants_ask _ _ _ rfl (by decide +kernel), by decide +kernel⟩⟩


def wIncrementsAreBounded1 : State := stOf (withSess (user 4) Body.reset)

theorem witness_IncrementsAreBounded :
    (Grants wIncrementsAreBounded1 (askWrite 0x0801 (0) (.n (2199463060203 : Nat))) 0x0801 (0) (.n (2199463060203 : Nat)) (user 4) ∧ (wIncrementsAreBounded1.b.follows && wIncrementsAreBounded1.b.regN 0x1A05 0 == 1) = false) ∧
    (Grants wIncrementsAreBounded1 (askWrite 0x0801 (0) (.n (2199463060204 : Nat))) 0x0801 (0) (.n (2199463060204 : Nat)) (user 4)) ∧
    (Grants wIncrementsAreBounded1 (askWrite 0x0801 (0) (.n (2198583450900 : Nat))) 0x0801 (0) (.n (2198583450900 : Nat)) (user 4)) ∧
    (Grants wIncrementsAreBounded1 (askWrite 0x0801 (0) (.n (2198583450901 : Nat))) 0x0801 (0) (.n (2198583450901 : Nat)) (user 4)) :=
  ⟨⟨grants_ask _ _ _ rfl (by decide +kernel), by decide +kernel⟩,
   grants_ask _ _ _ rfl (by decide +kernel),
   grants_ask _ _ _ rfl (by decide +kernel),
   grants_ask _ _ _ rfl (by decide +kernel)⟩


def wStepsAreGuarded1 : State := stOf (withSess (user 4) Body.reset)

def wStepsAreGuarded2 : State := stOf (withSess (user 4) (regs [(0x0806, 0, 1), (0x0803, 0, 1000)] Body.reset))

def wStepsAreGuarded3 : State := stOf (withSess (user 4) Body.reset)

def wStepsAreGuarded4 : State := stOf (withSess (user 4) { Body.reset with tu := { Body.reset.tu with held := some (5, 9999999999990) } })

def wStepsAreGuarded5 : State := stOf { Body.reset with tu := { Body.reset.tu with held := some (5, 9995000000000) } }

def wStepsAreGuarded6 : State := stOf { Body.reset with tu := { Body.reset.tu with held := some (5, 9995000000001) } }

theorem witness_StepsAreGuarded :
    (Grants wStepsAreGuarded1 (askWrite 0x0802 (0) (.n (-10000000003))) 0x0802 (0) (.n (-10000000003)) (user 4) ∧ wStepsAreGuarded1.b.tu.changes = [] ∧ (((wStepsAreGuarded1.clk.time * 2 ^ 40 + wStepsAreGuarded1.clk.frac + wStepsAreGuarded1.clk.incr) / 2 ^ 40 : Nat) : Int) + (-10000000003) < 0) ∧
    (Grants wStepsAreGuarded2 (askWrite 0x0802 (0) (.n 1001)) 0x0802 (0) (.n 1001) (user 4) ∧ wStepsAreGuarded2.b.reg 0x0806 0 = 1 ∧ wStepsAreGuarded2.b.regN 0x0803 0 < (1001 : Int).natAbs) ∧
    (Grants wStepsAreGuarded3 (askWrite 0x0802 (0) (.n (-10000000002))) 0x0802 (0) (.n (-10000000002)) (user 4) ∧ 0 ≤ (((wStepsAreGuarded3.clk.time * 2 ^ 40 + wStepsAreGuarded3.clk.frac + wStepsAreGuarded3.clk.incr) / 2 ^ 40 : Nat) : Int) + (-10000000002) ∧ wStepsAreGuarded3.b.reg 0x0806 0 = 0) ∧
    (Grants wStepsAreGuarded4 (askWrite 0x0805 (0) (.n 1)) 0x0805 (0) (.n 1) (user 4) ∧ (wStepsAreGuarded4.b.follows && wStepsAreGuarded4.b.regN 0x1A05 0 == 1) = false ∧ wStepsAreGuarded4.b.tu.held = some (5, 9999999999990) ∧ wStepsAreGuarded4.env.after 9999999999990 10000000000 = false ∧ 0 ≤ (((wStepsAreGuarded4.clk.time * 2 ^ 40 + wStepsAreGuarded4.clk.frac + wStepsAreGuarded4.clk.incr) / 2 ^ 40 : Nat) : Int) + 5 ∧ wStepsAreGuarded4.b.live = false ∧ wStepsAreGuarded4.b.seq.sw = none) ∧
    ((wStepsAreGuarded5.b.tu.held = some (5, 9995000000000) ∧ 9995000000000 + 5000000000 ≤ wStepsAreGuarded5.clk.tb) ∧
     (wStepsAreGuarded6.b.tu.held = some (5, 9995000000001) ∧ wStepsAreGuarded6.clk.tb < 9995000000001 + 5000000000)) :=
  ⟨⟨grants_ask _ _ _ rfl (by decide +kernel), by decide +kernel⟩,
   ⟨grants_ask _ _ _ rfl (by decide +kernel), by decide +kernel⟩,
   ⟨grants_ask _ _ _ rfl (by decide +kernel), by decide +kernel⟩,
   ⟨grants_ask _ _ _ rfl (by decide +kernel), by decide +kernel⟩,
   by decide +kernel⟩


def wTriggersPulse1 : State := stOf (withSess (user 4) (regs [(0x0806, 0, 1), (0x0810, 16, 1), (0x0811, 16, 11000000000), (0x0814, 16, 1000)] (inState 5 Body.reset)))

def wTriggersPulse2 : State := stOf (withSess (user 4) (regs [(0x0819, 1, 2)] Body.reset))

def wTriggersPulse3 : State := stOf { regs [(0x0819, 1, 1), (0x0810, 1, 1), (0x0814, 1, 1000)] Body.reset with tu := { Body.reset.tu with trig := [(0, ⟨some 10000000000, 0, none, false, [], []⟩)] } }

def wTriggersPulse4 : State := stOf { regs [(0x0819, 1, 2), (0x0810, 1, 1), (0x0814, 1, 1000)] Body.reset with tu := { Body.reset.tu with trig := [(0, ⟨none, 0, some 10000000000, true, [], []⟩)] } }

def wTriggersPulse5 : State := stOf (withSess (user 4) (inState 7 Body.reset))

def wTriggersPulse6 : State := stOf (withSess (user 4) (regs [(0x0819, 1, 2)] (inState 5 Body.reset)))

def wTriggersPulse7 : State := stOf (withSess (user 4) (inState 5 Body.reset))

def wTriggersPulse8 : State := stOf { regs [(0x0819, 1, 2), (0x0810, 1, 1), (0x0814, 1, 1000)] Body.reset with tu := { Body.reset.tu with trig := [(0, ⟨none, 0, some 10000000000, true, [], [10000000500]⟩)] } }

theorem witness_TriggersPulse :
    (Grants wTriggersPulse1 (askWrite 0x0818 (15 + 1) (.n 1)) 0x0818 (15 + 1) (.n 1) (user 4) ∧ wTriggersPulse1.b.devState ≠ devSafe ∧ wTriggersPulse1.b.devState ≠ devFrozen ∧ wTriggersPulse1.b.reg 0x0819 (15 + 1) = 0 ∧ wTriggersPulse1.b.ttBad wTriggersPulse1.env 15 = false) ∧
    (Grants wTriggersPulse2 (askWrite 0x0818 (0 + 1) (.n 0)) 0x0818 (0 + 1) (.n 0) (user 4) ∧ wTriggersPulse2.b.reg 0x0819 (0 + 1) = 2) ∧
    (((wTriggersPulse3.b.trig 0).lead = some 10000000000 ∧ wTriggersPulse3.env.reached 10000000000 = true) ∧
     ((wTriggersPulse4.b.trig 0).trail = some 10000000000 ∧ wTriggersPulse4.env.reached 10000000000 = true ∧ (∀ k ∈ (wTriggersPulse4.b.trig 0).kept, wTriggersPulse4.env.reached k = true))) ∧
    (Grants wTriggersPulse5 (askWrite 0x0818 (0 + 1) (.n 1)) 0x0818 (0 + 1) (.n 1) (user 4) ∧ wTriggersPulse5.b.devState = devSafe) ∧
    (Grants wTriggersPulse6 (askWrite 0x0818 (0 + 1) (.n 1)) 0x0818 (0 + 1) (.n 1) (user 4) ∧ wTriggersPulse6.b.devState ≠ devSafe ∧ wTriggersPulse6.b.devState ≠ devFrozen ∧ wTriggersPulse6.b.reg 0x0819 (0 + 1) = 2) ∧
    (Grants wTriggersPulse7 (askWrite 0x0818 (0 + 1) (.n 1)) 0x0818 (0 + 1) (.n 1) (user 4) ∧ wTriggersPulse7.b.devState ≠ devSafe ∧ wTriggersPulse7.b.devState ≠ devFrozen ∧ wTriggersPulse7.b.reg 0x0819 (0 + 1) = 0 ∧ wTriggersPulse7.b.ttBad wTriggersPulse7.env 0 = true) ∧
    ((wTriggersPulse8.b.trig 0).trail = some 10000000000 ∧ wTriggersPulse8.env.reached 10000000000 = true ∧ (10000000500 : Int) ∈ (wTriggersPulse8.b.trig 0).kept ∧ wTriggersPulse8.env.reached 10000000500 = false) :=
  ⟨⟨grants_ask _ _ _ rfl (by decide +kernel), by decide +kernel⟩,
   ⟨grants_ask _ _ _ rfl (by decide +kernel), by decide +kernel⟩,
   by decide +kernel,
   ⟨grants_ask _ _ _ rfl (by decide +kernel), by decide +kernel⟩,
   ⟨grants_ask _ _ _ rfl (by decide +kernel), by decide +kernel⟩,
   ⟨grants_ask _ _ _ rfl (by decide +kernel), by decide +kernel⟩,
   by decide +kernel⟩


def wCapturesStampQualifiedEdges1 : State := stOf (inState 1 Body.reset)

def wCapturesStampQualifiedEdges2 : State := stOf (let b := inState 1 Body.reset; { b with tu := { b.tu with cap := [(0, ⟨true, false, some (5, 5), 0, 0⟩)] } })

def wCapturesStampQualifiedEdges3 : State := stOf (let b := regs [(0x0820, 1, 3), (0x0821, 1, 1000)] (inState 1 Body.reset); { b with tu := { b.tu with cap := [(0, ⟨true, false, some (9999999000, 9999999999500), 9999999999500, 0⟩)] } })

theorem witness_CapturesStampQualifiedEdges :
    ((wCapturesStampQualifiedEdges1.b.devState ≠ devOff ∧ true ≠ (wCapturesStampQualifiedEdges1.b.capt 7).qual ∧ true ≠ (wCapturesStampQualifiedEdges1.b.capt 7).raw) ∧
     (wCapturesStampQualifiedEdges2.b.devState ≠ devOff ∧ false = (wCapturesStampQualifiedEdges2.b.capt 0).qual) ∧
     ((wCapturesStampQualifiedEdges3.b.capt 0).change = some (9999999000, 9999999999500) ∧ wCapturesStampQualifiedEdges3.env.after 9999999999500 (wCapturesStampQualifiedEdges3.b.regN 0x0821 (0 + 1)) = true ∧ (wCapturesStampQualifiedEdges3.b.capt 0).asked ≤ 9999999999500 ∧ wCapturesStampQualifiedEdges3.b.reg 0x0820 (0 + 1) = 3)) ∧
    ((wCapturesStampQualifiedEdges1.b.capt 7).change = none) :=
  ⟨by decide +kernel,
   by decide +kernel⟩

def ptpMsg (d : Nat) : PtpMsg := ⟨.sync, .ipv4, 0, 2, 319, d, false, 0, 0, 0, 7, []⟩

def wPtpMessagesAreStamped1 : State := stOf (regs [(0x0A05, 1, 1), (0x0A00, 1, 1), (0x0A00, 2, 1), (0x0A00, 4, 1), (0x0830, 1, 1), (0x0831, 0, 127)] (inState 3 Body.reset))

def wPtpMessagesAreStamped3 : State := stOf (regs [(0x0A00, 1, 1), (0x0830, 1, 1)] (inState 3 Body.reset))

def wPtpMessagesAreStamped4 : State := stOf (regs [(0x0A00, 1, 1), (0x0830, 1, 2), (0x0831, 0, 0)] (inState 3 Body.reset))

def wPtpMessagesAreStamped5 : State := stOf { regs [(0x0A00, 1, 1), (0x0A00, 2, 1), (0x0830, 1, 1)] Body.reset with tu := { Body.reset.tu with fwd := [⟨0, 5, 9999999500000, ptpMsg 0⟩] } }

def wPtpMessagesAreStamped7 : State := stOf (withSess (user 4) (regs [(0x0A00, 1, 1)] Body.reset))

theorem witness_PtpMessagesAreStamped :
    ((wPtpMessagesAreStamped1.b.portUp 0 = true ∧ wPtpMessagesAreStamped1.b.ptpMine (ptpMsg 127) = true ∧ wPtpMessagesAreStamped1.b.ptpMode 0 = 1 ∧ (ptpMsg 127).ty.forwards = true ∧ wPtpMessagesAreStamped1.b.portUp (otherPort 0) = true) ∧
     (wPtpMessagesAreStamped1.b.portUp 3 = true ∧ wPtpMessagesAreStamped1.b.ptpKnown (ptpMsg 127) = true ∧ wPtpMessagesAreStamped1.b.ptpMode 3 ≠ 2) ∧
     (wPtpMessagesAreStamped3.b.portUp 0 = true ∧ wPtpMessagesAreStamped3.b.ptpMine (ptpMsg 127) = true ∧ wPtpMessagesAreStamped3.b.ptpMode 0 = 1 ∧ wPtpMessagesAreStamped3.b.portUp (otherPort 0) = false ∧ wPtpMessagesAreStamped3.b.ptpMine (ptpMsg 1) = false)) ∧
    ((wPtpMessagesAreStamped4.b.portUp 0 = true ∧ wPtpMessagesAreStamped4.b.ptpKnown (ptpMsg 0) = true ∧ wPtpMessagesAreStamped4.b.ptpMode 0 = 2 ∧ (ptpMsg 0).ty = .sync ∧ (ptpMsg 0).encap = .ipv4 ∧ (ptpMsg 0).tags ≤ 1) ∧
     (wPtpMessagesAreStamped5.b.portUp 1 = true ∧ wPtpMessagesAreStamped5.b.ptpMode 1 = 1 ∧ wPtpMessagesAreStamped5.b.tu.fwd = ⟨0, 5, 9999999500000, ptpMsg 0⟩ :: [] ∧ 1 = otherPort 0 ∧ (wPtpMessagesAreStamped5.clk.tb - 9999999500000) * 2 ≤ 1000000) ∧
     (wPtpMessagesAreStamped5.b.portUp 0 = true ∧ wPtpMessagesAreStamped5.b.tu.fwd = ⟨0, 5, 9999999500000, ptpMsg 0⟩ :: [] ∧ 9999999500000 * 2 + 1000000 ≤ wPtpMessagesAreStamped5.clk.tb * 2)) ∧
    (Grants wPtpMessagesAreStamped7 (askWrite 0x0830 (1 + 1) (.n (2 : Nat))) 0x0830 (1 + 1) (.n (2 : Nat)) (user 4) ∧ wPtpMessagesAreStamped7.b.portUp 0 = true) ∧
    ((wPtpMessagesAreStamped1.b.portUp 0 = true ∧ wPtpMessagesAreStamped1.b.ptpMine (ptpMsg 1) = false) ∧
     (wPtpMessagesAreStamped1.b.ptpKnown (ptpMsg 1) = false) ∧
     (wPtpMessagesAreStamped4.b.ptpKnown { ptpMsg 0 with tags := 2 } = true ∧ wPtpMessagesAreStamped4.b.ptpMode 0 = 2 ∧ (ptpMsg 0).ty.event = true ∧ 1 < ({ ptpMsg 0 with tags := 2 } : PtpMsg).tags)) :=
  ⟨by decide +kernel,
   by decide +kernel,
   ⟨grants_ask _ _ _ rfl (by decide +kernel), by decide +kernel⟩,
   by decide +kernel⟩

def tile1 : TileRec := ⟨0, 0, 2, 1, 0, 16, 0, 2, 1, 1, 1, 0, [], 0⟩
def map1 : RodMap := ⟨1, 16, 16, 2, [(0, [tile1])]⟩
def sub1 (n : Nat) (c : Int) : Sub :=
  { n := n, mode := Mode.reset, e := c + 1000, c := c, i := c - 1000, cfg := ⟨[], []⟩, crc := 0, gen := 0, corrGen := 0, mapGen := 0, decs := [],
    groups := [⟨1, true, none, none, [], [(0, 255)], [], false, none⟩], use := [], epochs := [], charged := 0, recomps := 0, admitted := 0, picked := false,
    retired := false, votes := [], starved := false, held := [], decCount := 0, open1 := [], absent := [], slews := [], setSent := false, await := [] }
def job1 : Job := ⟨7, 1, 0, .normal, 0, 0, none, true⟩
def withMap (b : Body) : Body := (regs [(0x1014, 0, 0), (0x1013, 1, 1), (0x1012, 1, 2)] { b with cor := { b.cor with maps := [(0, map1)] } })
def withBeads (w : List Job) (o : List Out1) (y : List Sub) (b : Body) : Body :=
  { b with beads := { b.beads with subs := y, waiting := w, out := o, stopped := false } }

def wFirstBeadIsIssued1 : State := stOf (withBeads [job1] [⟨0, { job1 with bead := 1 }, 0, 5⟩] [sub1 7 10000500000] (withMap (inState 6 Body.reset)))

theorem witness_FirstBeadIsIssued :
    (wFirstBeadIsIssued1.b.beads.stopped = false ∧ wFirstBeadIsIssued1.b.firstJob = some job1 ∧ wFirstBeadIsIssued1.b.freeTag = some 1 ∧ wFirstBeadIsIssued1.b.engineFor job1 = some 1) :=
  by decide +kernel


def wBeadsEnd1 : State := stOf (withBeads [] [⟨8191, job1, 0, 5⟩] [sub1 7 10000500000] (withMap (inState 6 Body.reset)))

def wBeadsEnd3 : State := stOf (withBeads [] [⟨8191, job1, 0, 10000000000000 - 5⟩] [] (regs [(0x0E05, 0, 10)] (inState 6 Body.reset)))

theorem witness_BeadsEnd :
    ((wBeadsEnd1.b.beads.out.find? (fun x => x.tag == 8191) = some ⟨8191, job1, 0, 5⟩ ∧ (wBeadsEnd1.b.sub? 7).isSome = true ∧ ((sub1 7 10000500000).group? 1).isSome = true ∧ (wBeadsEnd1.b.beadOf (sub1 7 10000500000) 0).isSome = true ∧ wBeadsEnd1.b.subMap (sub1 7 10000500000) = some map1 ∧ mfind 0 (sub1 7 10000500000).epochs = none ∧ wBeadsEnd1.b.checkOf 7 1 0 = none) ∧
     (wBeadsEnd1.b.regN 0x0E05 0 < 2 * (wBeadsEnd1.clk.tb - 5) ∧ wBeadsEnd1.b.reg 0x0E0C (0 + 1) = 0) ∧
     (wBeadsEnd3.b.beads.out.find? (fun x => x.tag == 8191) = some ⟨8191, job1, 0, 10000000000000 - 5⟩ ∧ 2 * (wBeadsEnd3.clk.tb - (10000000000000 - 5)) ≤ wBeadsEnd3.b.regN 0x0E05 0)) :=
  by decide +kernel


def wFreeRecordsAreGranted1 : State := stOf (withBeads [{ job1 with record := false }] [] [sub1 7 10000500000] (withMap (regs [(0x0E0A, 0, 1)] (inState 6 Body.reset))))

def wFreeRecordsAreGranted2 : State := stOf (regs [(0x0E0A, 0, 0)] Body.reset)

theorem witness_FreeRecordsAreGranted :
    ((0 < wFreeRecordsAreGranted1.b.reg 0x0E0A 0 ∧ wFreeRecordsAreGranted1.b.beads.waiting.find? (fun k => !k.record) = some { job1 with record := false }) ∧
     (wFreeRecordsAreGranted2.b.reg 0x0E0A 0 = 0 ∧ ∀ j ∈ wFreeRecordsAreGranted2.b.beads.waiting, j.record = true)) :=
  by decide +kernel


def wLatchesIssueSubframes1 : State := stOf (let b := withMap (inState 5 Body.reset); { b with seq := { b.seq with next := some 480, entering := true }, lay := { b.lay with armed := ⟨[(key 0x0C08 6, 16384)], []⟩ } })

def wLatchesIssueSubframes2 : State := stOf (let b := withMap (regs [(0x1A02, 0, 4), (0x1A00, 0, 1)] (inState 6 Body.reset)); { b with seq := { b.seq with next := some 480 }, pair := { b.pair with latches := [⟨480, 3, 0⟩], done := 3 } })

def wLatchesIssueSubframes3 : State := stOf (let b := withMap (regs [(0x1A02, 0, 4), (0x1A00, 0, 1), (0x0C00, 1, 1), (0x0C0B, 1, 1)] (inState 6 Body.reset)); { b with seq := { b.seq with next := some 480 }, pair := { b.pair with latches := [⟨480, 3, 0⟩], done := 3, decs := [⟨480, 0, 0, 0, 2, 0, 0, 0, 0⟩] } })

def wLatchesIssueSubframes4 : State := stOf (let b := withMap (regs [(0x1A02, 0, 4), (0x1A00, 0, 1)] (inState 6 Body.reset)); { b with seq := { b.seq with next := some 480 } })

def wLatchesIssueSubframes5 : State := stOf (let b := withMap (inState 6 Body.reset); { b with seq := { b.seq with next := some 1000 } })

theorem witness_LatchesIssueSubframes :
    ((wLatchesIssueSubframes1.b.beads.subs = [] ∧ wLatchesIssueSubframes1.b.seq.entering = true ∧ wLatchesIssueSubframes1.b.nextLatch = some (480, Mode.reset) ∧ wLatchesIssueSubframes1.env.reached (Mode.reset.instI 480) = true ∧ wLatchesIssueSubframes1.b.mustFollow 480 = false ∧ wLatchesIssueSubframes1.b.pair.commits = [] ∧ mrising 0 wLatchesIssueSubframes1.b.lay.armed.num = true ∧ ∀ p ∈ wLatchesIssueSubframes1.b.lay.armed.num, isRws p.1 = true) ∧
     (wLatchesIssueSubframes2.b.live = true ∧ wLatchesIssueSubframes2.b.nextLatch = some (480, Mode.reset) ∧ wLatchesIssueSubframes2.env.reached (Mode.reset.instI 480) = true ∧ wLatchesIssueSubframes2.b.mustFollow 480 = true ∧ wLatchesIssueSubframes2.b.latchRec 480 = some ⟨480, 3, 0⟩ ∧ (3 : Nat) ≤ wLatchesIssueSubframes2.b.pair.done ∧ wLatchesIssueSubframes2.b.cfgNext.shownIn (480 % 1) = [] ∧ wLatchesIssueSubframes2.b.pair.decs = [] ∧ wLatchesIssueSubframes2.b.pair.commits = [] ∧ wLatchesIssueSubframes2.b.beads.subs = [])) ∧
    ((wLatchesIssueSubframes3.b.live = true ∧ wLatchesIssueSubframes3.b.nextLatch = some (480, Mode.reset) ∧ wLatchesIssueSubframes3.env.reached (Mode.reset.instI 480) = true ∧ wLatchesIssueSubframes3.b.mustFollow 480 = true ∧ wLatchesIssueSubframes3.b.latchRec 480 = some ⟨480, 3, 0⟩ ∧ wLatchesIssueSubframes3.b.cfgNext.shownIn (480 % 1) = [0]) ∧ (∀ k ∈ wLatchesIssueSubframes3.b.cfgNext.shownIn (480 % 1), wLatchesIssueSubframes3.b.pair.decs.any (fun d => d.n == 480 && d.layer == k && d.kind == 0) = true) ∧ (∀ d ∈ wLatchesIssueSubframes3.b.pair.decs, d.kind = 0) ∧ wLatchesIssueSubframes3.b.pair.commits = [] ∧ wLatchesIssueSubframes3.b.beads.subs = []) ∧
    ((wLatchesIssueSubframes4.b.live = true ∧ wLatchesIssueSubframes4.b.nextLatch = some (480, Mode.reset) ∧ wLatchesIssueSubframes4.env.reached (Mode.reset.instI 480) = true ∧ wLatchesIssueSubframes4.b.mustFollow 480 = true ∧ wLatchesIssueSubframes4.b.latchRec 480 = none ∧ wLatchesIssueSubframes4.b.pair.latchWait = none ∧ wLatchesIssueSubframes4.b.beads.subs = []) ∧
     (wLatchesIssueSubframes5.b.live = true ∧ wLatchesIssueSubframes5.b.nextLatch = some (1000, Mode.reset) ∧ wLatchesIssueSubframes5.env.reached (Mode.reset.instI 1000) = false ∧ wLatchesIssueSubframes5.b.beads.subs = [])) :=
  ⟨by decide +kernel,
   ⟨by decide +kernel, by decide +kernel⟩,
   by decide +kernel⟩


def wSubframesRetireAtC1 : State := stOf (withBeads [] [] [sub1 7 10000000000] (withMap (inState 6 Body.reset)))

def wSubframesRetireAtC2 : State := stOf (withBeads [] [] [sub1 7 10000000001] (withMap (inState 6 Body.reset)))

theorem witness_SubframesRetireAtC :
    ((wSubframesRetireAtC1.b.beads.subs.find? (fun z => !z.retired) = some (sub1 7 10000000000) ∧ wSubframesRetireAtC1.env.reached (sub1 7 10000000000).c = true) ∧
     (wSubframesRetireAtC2.b.beads.subs.find? (fun z => !z.retired) = some (sub1 7 10000000001) ∧ wSubframesRetireAtC2.env.reached (sub1 7 10000000001).c = false)) :=
  by decide +kernel


def wModesSwitch1 : State := stOf (withSess (user 2) (regs [(0x0412, 0x10, 8), (0x0412, 0x11, 2), (0x0412, 0x22, 0), (0x0412, 0x25, 0x20000)] (inState 5 Body.reset)))

def wModesSwitch2 : State := stOf (let b := withSess (user 2) (regs [(0x0412, 0x10, 8), (0x0412, 0x11, 1), (0x0412, 0x22, 0), (0x0412, 0x23, 4), (0x0412, 0x24, 2), (0x0412, 0x25, 0x10000)] (inState 6 Body.reset)); { b with seq := { b.seq with next := some 481 } })

def wModesSwitch3 : State := stOf (withSess (user 2) (inState 5 Body.reset))

theorem witness_ModesSwitch :
    (Grants wModesSwitch1 (askWrite 0x0412 (1) (.n 1)) 0x0412 (1) (.n 1) (user 2) ∧ wModesSwitch1.b.follows = false ∧ wModesSwitch1.b.opBusy 0x0412 = false ∧ wModesSwitch1.b.live = false) ∧
    (Grants wModesSwitch2 (askWrite 0x0412 (1) (.n 1)) 0x0412 (1) (.n 1) (user 2) ∧ wModesSwitch2.b.live = true ∧ wModesSwitch2.b.regN 0x0909 0 = 0 ∧ wModesSwitch2.b.seq.sw = none ∧ wModesSwitch2.b.mapPending = false ∧ wModesSwitch2.b.modeBad wModesSwitch2.b.argMode (Nat.max wModesSwitch2.b.argMode.ra wModesSwitch2.b.seq.mode.ra) = stOK) ∧
    (Grants wModesSwitch3 (askWrite 0x0901 (0) (.n 8)) 0x0901 (0) (.n 8) (user 2) ∧ 0x0900 ≤ 0x0901 ∧ 0x0901 < 0x0A00) :=
  ⟨⟨grants_ask _ _ _ rfl (by decide +kernel), by decide +kernel⟩,
   ⟨grants_ask _ _ _ rfl (by decide +kernel), by decide +kernel⟩,
   ⟨grants_ask _ _ _ rfl (by decide +kernel), by decide +kernel⟩⟩

def switch1 (dark latched leave : Bool) : Switch :=
  ⟨Mode.reset, Mode.reset, false, leave, none, 480, 10000000000, 9999999000, some 600, 9999999500, dark, latched, []⟩
def darkAt (w : Switch) (n : Nat) : Body := let b := inState n Body.reset; { b with seq := { b.seq with sw := some w } }

def wDarkPathsRun1 : State := stOf (darkAt (switch1 false false false) 6)

def wDarkPathsRun2 : State := stOf (darkAt (switch1 true true false) 6)

def wDarkPathsRun3 : State := stOf (darkAt (switch1 true false true) 6)

def wDarkPathsRun4 : State := stOf (darkAt (switch1 true false false) 6)

def wDarkPathsRun5 : State := stOf (regs [(0x0412, 2, 1)] (darkAt (switch1 true true false) 6))

theorem witness_DarkPathsRun :
    ((wDarkPathsRun1.b.beads.subs = [] ∧ wDarkPathsRun1.b.nextLatch = none ∧ wDarkPathsRun1.b.seq.sw = some (switch1 false false false) ∧ wDarkPathsRun1.env.reached (switch1 false false false).cd = true) ∧
     (wDarkPathsRun2.b.beads.subs = [] ∧ wDarkPathsRun2.b.nextLatch = none ∧ wDarkPathsRun2.b.seq.sw = some (switch1 true true false) ∧ wDarkPathsRun2.env.reached (switch1 true true false).newE = true) ∧
     (wDarkPathsRun3.b.beads.subs = [] ∧ wDarkPathsRun3.b.nextLatch = none ∧ wDarkPathsRun3.b.seq.sw = some (switch1 true false true) ∧ wDarkPathsRun3.env.reached (switch1 true false true).ed = true ∧ wDarkPathsRun3.b.lay.armed = ⟨[], []⟩)) ∧
    ((wDarkPathsRun4.b.beads.subs = [] ∧ wDarkPathsRun4.b.nextLatch = none ∧ wDarkPathsRun4.b.seq.sw = some (switch1 true false false)) ∧
     (wDarkPathsRun5.b.beads.subs = [] ∧ wDarkPathsRun5.b.nextLatch = none ∧ wDarkPathsRun5.b.seq.sw = some (switch1 true true false) ∧ wDarkPathsRun5.b.opState 0x0412 = 1)) :=
  ⟨by decide +kernel,
   by decide +kernel⟩

def fullUser : Session := { user 2 with shadow := (upFrom 0 4096).map (fun k => (k, 1)) }

def wShadowWritesWait1 : State := stOf (withSess (user 2) (inState 6 Body.reset))

def wShadowWritesWait3 : State := stOf (withSess fullUser (inState 6 Body.reset))

def wShadowWritesWait4 : State := stOf (withSess { user 2 with shadow := [(key 0x0C08 1, 5)] } Body.reset)

def wShadowWritesWait5 : State := stOf (withSess (user 3) (inState 5 Body.reset))

def wShadowWritesWait6 : State := stOf (withSess { fullUser with shadow := fullUser.shadow ++ [(key 0x0C08 1, 5)] } (inState 6 Body.reset))

theorem witness_ShadowWritesWait :
    (Grants wShadowWritesWait1 (askWrite 0x0C08 (31) (.n 0x4000)) 0x0C08 (31) (.n 0x4000) (user 2) ∧ isRws (key 0x0C08 31) = true ∧ (user 2).set.size < 4096) ∧
    (Grants wShadowWritesWait1 (askWrite 0x0D02 (1) (.b [0, 1])) 0x0D02 (1) (.b [0, 1]) (user 2) ∧ isRws (key 0x0D02 1) = true) ∧
    (Grants wShadowWritesWait3 (askWrite 0x0C08 (1) (.n 0x4000)) 0x0C08 (1) (.n 0x4000) (fullUser) ∧ mfind (key 0x0C08 1) fullUser.shadow = none ∧ mfind (key 0x0C08 1) fullUser.shadowB = none ∧ 4096 ≤ fullUser.set.size) ∧
    (Grants wShadowWritesWait4 (askWrite 0x0C29 (0) (.n 1)) 0x0C29 (0) (.n 1) ({ user 2 with shadow := [(key 0x0C08 1, 5)] })) ∧
    (Grants wShadowWritesWait5 (askWrite 0x0C50 (0 + 1) (.b [1, 2, 3])) 0x0C50 (0 + 1) (.b [1, 2, 3]) (user 3) ∧ wShadowWritesWait5.b.devState ≠ devFrozen ∧ wShadowWritesWait5.b.guardStill 0 = false ∧ stillOf 0 [1, 2, 3] = none) ∧
    (Grants wShadowWritesWait6 (askWrite 0x0C08 (1) (.n 0x4000)) 0x0C08 (1) (.n 0x4000) ({ fullUser with shadow := fullUser.shadow ++ [(key 0x0C08 1, 5)] }) ∧ isRws (key 0x0C08 1) = true ∧ (mfind (key 0x0C08 1) ({ fullUser with shadow := fullUser.shadow ++ [(key 0x0C08 1, 5)] } : Session).shadow).isSome = true) :=
  ⟨⟨grants_ask _ _ _ rfl (by decide +kernel), by decide +kernel⟩,
   ⟨grants_ask _ _ _ rfl (by decide +kernel), by decide +kernel⟩,
   ⟨grants_ask _ _ _ rfl (by decide +kernel), by decide +kernel⟩,
   grants_ask _ _ _ rfl (by decide +kernel),
   ⟨grants_ask _ _ _ rfl (by decide +kernel), by decide +kernel⟩,
   ⟨grants_ask _ _ _ rfl (by decide +kernel), by decide +kernel⟩⟩

def editor : Session := { user 2 with shadow := [(key 0x0C08 1, 0x4000)] }
def badEditor : Session := { user 2 with shadow := [(key 0x0C00 1, 1), (key 0x0C01 1, 1)] }
def liveNext (n : Nat) (b : Body) : Body := { b with seq := { b.seq with next := some n } }
def guardEditor : Session := { user 3 with shadow := [(key 0x0C40 0, 0)] }

def wCommitsTakeTheShadow1 : State := stOf (withSess editor (liveNext 700 (inState 6 Body.reset)))

def wCommitsTakeTheShadow2 : State := stOf (withSess editor (inState 5 Body.reset))

def wCommitsTakeTheShadow3 : State := stOf (withSess badEditor (inState 5 Body.reset))

def wCommitsTakeTheShadow4 : State := stOf (withSess guardEditor (inState 5 Body.reset))

theorem witness_CommitsTakeTheShadow :
    (Grants wCommitsTakeTheShadow1 (askWrite 0x0C28 (0) (.n 1)) 0x0C28 (0) (.n 1) (editor) ∧ wCommitsTakeTheShadow1.b.beads.subs = [] ∧ wCommitsTakeTheShadow1.b.nextLatch = some (700, Mode.reset) ∧ wCommitsTakeTheShadow1.env.reached (Mode.reset.instI 700) = false ∧ wCommitsTakeTheShadow1.b.lay.waits = [] ∧ wCommitsTakeTheShadow1.b.commitBad editor.set = stOK ∧ wCommitsTakeTheShadow1.b.guardCommit editor.set = false ∧ wCommitsTakeTheShadow1.b.live = true) ∧
    (Grants wCommitsTakeTheShadow2 (askWrite 0x0C28 (0) (.n 1)) 0x0C28 (0) (.n 1) (editor) ∧ wCommitsTakeTheShadow2.b.beads.subs = [] ∧ wCommitsTakeTheShadow2.b.nextLatch = none ∧ wCommitsTakeTheShadow2.b.lay.waits = [] ∧ wCommitsTakeTheShadow2.b.commitBad editor.set = stOK ∧ wCommitsTakeTheShadow2.b.guardCommit editor.set = false ∧ wCommitsTakeTheShadow2.b.live = false ∧ mrising 0 editor.shadow = true) ∧
    (Grants wCommitsTakeTheShadow3 (askWrite 0x0C28 (0) (.n 1)) 0x0C28 (0) (.n 1) (badEditor) ∧ wCommitsTakeTheShadow3.b.beads.subs = [] ∧ wCommitsTakeTheShadow3.b.nextLatch = none ∧ wCommitsTakeTheShadow3.b.lay.waits = [] ∧ wCommitsTakeTheShadow3.b.commitBad badEditor.set ≠ stOK) ∧
    (Grants wCommitsTakeTheShadow4 (askWrite 0x0C28 (0) (.n 1)) 0x0C28 (0) (.n 1) (guardEditor) ∧ wCommitsTakeTheShadow4.b.beads.subs = [] ∧ wCommitsTakeTheShadow4.b.nextLatch = none ∧ wCommitsTakeTheShadow4.b.lay.waits = [] ∧ wCommitsTakeTheShadow4.b.commitBad guardEditor.set = stOK ∧ wCommitsTakeTheShadow4.b.guardCommit guardEditor.set = true) :=
  ⟨⟨grants_ask _ _ _ rfl (by decide +kernel), by decide +kernel⟩,
   ⟨grants_ask _ _ _ rfl (by decide +kernel), by decide +kernel⟩,
   ⟨grants_ask _ _ _ rfl (by decide +kernel), by decide +kernel⟩,
   ⟨grants_ask _ _ _ rfl (by decide +kernel), by decide +kernel⟩⟩

def wait1 : GuardWait := ⟨0, 1, ⟨[(key 0x0C40 0, 0)], []⟩, true, none⟩

def wGuardCommitsFollowTheirSignature1 : State := stOf (let b := liveNext 700 (inState 6 Body.reset); { b with lay := { b.lay with waits := [wait1] } })

theorem witness_GuardCommitsFollowTheirSignature :
    (wGuardCommitsFollowTheirSignature1.b.beads.subs = [] ∧ wGuardCommitsFollowTheirSignature1.b.nextLatch = some (700, Mode.reset) ∧ wGuardCommitsFollowTheirSignature1.env.reached (Mode.reset.instI 700) = false ∧ wGuardCommitsFollowTheirSignature1.b.lay.waits = [wait1] ∧ wait1.guard = true ∧ wGuardCommitsFollowTheirSignature1.b.commitBad wait1.set = stOK ∧ wGuardCommitsFollowTheirSignature1.b.live = true) :=
  by decide +kernel

def stillBytes1 : Bytes := [0x53, 0x54, 0x4C, 1] ++ le 2 1 ++ le 2 1 ++ List.replicate 8 0 ++ le 2 5 ++ le 2 6 ++ le 2 7

def wStillsComeAndGo1 : State := stOf (withSess (user 3) (inState 5 Body.reset))

def wStillsComeAndGo3 : State := stOf (let b := withSess (user 3) (regs [(0x0C50, 1, 4), (0x0C52, 1, 1)] (inState 5 Body.reset)); { b with lay := { b.lay with bufs := [(4, { (stillOf 0 stillBytes1).getD ⟨3, 0, 1, 1, false, ⟨2, 16, 0, 0, 0, true⟩, [], 0, 0, 0, none, 0, false, 0, 0, [], false, false⟩ with dying := true })], bufCtr := 4 } })

def wStillsComeAndGo5 : State := stOf (let b := inState 5 Body.reset; { b with lay := { b.lay with heldFrame := [(3, 4)] } })

def wStillsComeAndGo6 : State := stOf (let b := withSess (user 3) (regs [(0x0C50, 1, 4)] (inState 5 Body.reset)); { b with lay := { b.lay with heldFrame := [(3, 4)], bufs := [(4, { (stillOf 0 stillBytes1).getD ⟨3, 0, 1, 1, false, ⟨2, 16, 0, 0, 0, true⟩, [], 0, 0, 0, none, 0, false, 0, 0, [], false, false⟩ with dying := false })], bufCtr := 4 } })

theorem witness_StillsComeAndGo :
    (Grants wStillsComeAndGo1 (askWrite 0x0C50 (63 + 1) (.b stillBytes1)) 0x0C50 (63 + 1) (.b stillBytes1) (user 3) ∧ wStillsComeAndGo1.b.devState ≠ devFrozen ∧ wStillsComeAndGo1.b.guardStill 63 = false ∧ (stillOf 63 stillBytes1).isSome = true ∧ (user 3).set.size < 4096) ∧
    (Grants wStillsComeAndGo1 (askWrite 0x0C50 (0 + 1) (.b [1, 2, 3])) 0x0C50 (0 + 1) (.b [1, 2, 3]) (user 3) ∧ stillOf 0 [1, 2, 3] = none ∧ wStillsComeAndGo1.b.guardStill 0 = false) ∧
    (Grants wStillsComeAndGo3 (askWrite 0x0C51 (0 + 1) (.n 1)) 0x0C51 (0 + 1) (.n 1) (user 3) ∧ wStillsComeAndGo3.b.guardStill 0 = false ∧ wStillsComeAndGo3.b.regN 0x0C50 (0 + 1) = 4 ∧ wStillsComeAndGo3.b.leased 4 = false ∧ wStillsComeAndGo3.b.heldBuf 4 = false ∧ wStillsComeAndGo3.b.needs 4 = false) ∧
    (((mfind 4 wStillsComeAndGo3.b.lay.bufs).map (fun f => f.dying) = some true ∧ (mfind 4 wStillsComeAndGo3.b.lay.bufs).map (fun f => (f.kind, f.num)) = some (3, 0) ∧ wStillsComeAndGo3.b.regN 0x0C50 1 = 4 ∧ wStillsComeAndGo3.b.needs 4 = false ∧ wStillsComeAndGo3.b.heldBuf 4 = false) ∧
     (wStillsComeAndGo5.b.needs 4 = true ∨ wStillsComeAndGo5.b.heldBuf 4 = true)) ∧
    (Grants wStillsComeAndGo6 (askWrite 0x0C51 (0 + 1) (.n 1)) 0x0C51 (0 + 1) (.n 1) (user 3) ∧ wStillsComeAndGo6.b.guardStill 0 = false ∧ wStillsComeAndGo6.b.regN 0x0C50 (0 + 1) = 4 ∧ (wStillsComeAndGo6.b.leased 4 = true ∨ wStillsComeAndGo6.b.heldBuf 4 = true) ∧ (mfind 4 wStillsComeAndGo6.b.lay.bufs).isSome = true) :=
  ⟨⟨grants_ask _ _ _ rfl (by decide +kernel), by decide +kernel⟩,
   ⟨grants_ask _ _ _ rfl (by decide +kernel), by decide +kernel⟩,
   ⟨grants_ask _ _ _ rfl (by decide +kernel), by decide +kernel⟩,
   by decide +kernel,
   ⟨grants_ask _ _ _ rfl (by decide +kernel), by decide +kernel⟩⟩


def wLampsAndLayersAreTold1 : State := stOf (withSess (user 2) (regs [(0x1123, 31, 3)] (inState 6 Body.reset)))

def wLampsAndLayersAreTold2 : State := stOf (withSess (user 2) (withMap (inState 5 Body.reset)))

def wLampsAndLayersAreTold3 : State := stOf (withSess (user 0) (withMap (regs [(0x1006, 0, 0), (0x101A, 0, 1)] (inState 5 Body.reset))))

def wLampsAndLayersAreTold4 : State := stOf (withSess (user 0) (inState 5 Body.reset))

theorem witness_LampsAndLayersAreTold :
    (Grants wLampsAndLayersAreTold1 (askWrite 0x1124 (30 + 1) (.n 1)) 0x1124 (30 + 1) (.n 1) (user 2) ∧ wLampsAndLayersAreTold1.b.regN 0x1123 (30 + 1) ≠ 0) ∧
    (Grants wLampsAndLayersAreTold2 (askWrite 0x1018 (0) (.n ((1 * 2 ^ 32 + 17 : Nat) : Int))) 0x1018 (0) (.n ((1 * 2 ^ 32 + 17 : Nat) : Int)) (user 2) ∧ wLampsAndLayersAreTold2.b.beads.subs = [] ∧ wLampsAndLayersAreTold2.b.nextLatch = none ∧ wLampsAndLayersAreTold2.b.map? = some map1 ∧ (map1.lampAt (field (1 * 2 ^ 32 + 17) 63 32)).isSome = true ∧ flagsOk ((1 * 2 ^ 32 + 17) % 256) = true ∧ field (1 * 2 ^ 32 + 17) 31 8 = 0 ∧ wLampsAndLayersAreTold2.b.freeOverrides.cor.overrides.length < 4096) ∧
    (Takes wLampsAndLayersAreTold3 (ask 0x10 (readBody 0x101B 0 1)) 0x10 (readBody 0x101B 0 1) (user 0)) ∧
    (Takes wLampsAndLayersAreTold4 (ask 0x10 (readBody 0x101B 0 1)) 0x10 (readBody 0x101B 0 1) (user 0) ∧ wLampsAndLayersAreTold4.b.probe = .inl stState) :=
  ⟨⟨grants_ask _ _ _ rfl (by decide +kernel), by decide +kernel⟩,
   ⟨grants_ask _ _ _ rfl (by decide +kernel), by decide +kernel⟩,
   takes_ask _ _ rfl (by decide +kernel),
   ⟨takes_ask _ _ rfl (by decide +kernel), by decide +kernel⟩⟩


def wLoadsBegin1 : State := stOf (withSess (user 2) (inState 5 Body.reset))

def wLoadsBegin3 : State := stOf (withSess (user 2) (regs [(0x1000, 1, 5)] (inState 5 Body.reset)))

theorem witness_LoadsBegin :
    (Grants wLoadsBegin1 (askWrite 0x0410 (1) (.n 1)) 0x0410 (1) (.n 1) (user 2) ∧ wLoadsBegin1.b.devState ≠ devFrozen ∧ wLoadsBegin1.b.opBusy 0x0410 = false ∧ wLoadsBegin1.b.genFree 0 = true) ∧
    (Grants wLoadsBegin1 (askWrite 0x0411 (1) (.n 1)) 0x0411 (1) (.n 1) (user 2) ∧ wLoadsBegin1.b.opBusy 0x0411 = false ∧ wLoadsBegin1.b.genFree 1 = true) ∧
    (Grants wLoadsBegin3 (askWrite 0x0410 (1) (.n 1)) 0x0410 (1) (.n 1) (user 2) ∧ wLoadsBegin3.b.devState ≠ devFrozen ∧ wLoadsBegin3.b.opBusy 0x0410 = false ∧ wLoadsBegin3.b.genFree 0 = false) :=
  ⟨⟨grants_ask _ _ _ rfl (by decide +kernel), by decide +kernel⟩,
   ⟨grants_ask _ _ _ rfl (by decide +kernel), by decide +kernel⟩,
   ⟨grants_ask _ _ _ rfl (by decide +kernel), by decide +kernel⟩⟩

def mapBody1 : Bytes :=
  le 1 0 ++ le 1 1 ++ le 2 0 ++ le 4 72 ++ (le 2 0 ++ le 2 0 ++ le 2 2 ++ le 2 1 ++ le 1 0 ++ le 1 16 ++ le 1 0 ++ le 1 0 ++ le 1 2 ++ le 1 1 ++
  le 1 1 ++ le 1 1 ++ le 4 2 ++ List.replicate 12 0) ++ (le 1 0 ++ le 1 0 ++ le 2 2 ++ le 2 1 ++ le 2 0 ++ le 4 0 ++ le 4 0)
def mapHead1 : Bytes :=
  [0x43, 0x57, 0x52, 0x4D] ++ le 2 1 ++ le 2 64 ++ le 4 1 ++ le 2 16 ++ le 2 16 ++ le 2 1 ++ le 2 1 ++ le 4 2 ++ le 4 64 ++ le 4 104 ++ le 4 120 ++
  List.replicate 20 0 ++ le 4 (crc32c mapBody1)
def mapBytes1 : Bytes := mapHead1 ++ le 4 (crc32c mapHead1) ++ mapBody1
def corrEntries1 : Bytes := List.replicate 64 0
def corrHead1 (tag : Nat) : Bytes :=
  [0x43, 0x57, 0x54, 0x49] ++ le 2 1 ++ le 2 64 ++ le 4 2 ++ le 4 3 ++ le 4 tag ++ le 2 0x8000 ++ le 2 0 ++ le 4 1 ++ le 4 128 ++ List.replicate 28 0
def corrBytes1 (tag : Nat) : Bytes :=
  corrHead1 tag ++ le 4 (crc32c (corrHead1 tag)) ++ le 4 (crc32c corrEntries1) ++ List.replicate 60 0 ++ corrEntries1
def loading (op idx : Nat) (k : Nat) (bs : Bytes) (b : Body) : Body :=
  let x := (regs [(op, 2, 1), (idx, 1, 1), (idx, 2, 1)] b).setStr 0x1508 0 (List.replicate 6 0 ++ [1] ++ List.replicate 401 0)
  { x with ops := [(op, ⟨[], 0, 0, []⟩)], cor := { x.cor with loads := [(k, ⟨bs, true⟩)] } }

def wLoadsEnd1 : State := stOf (loading 0x0410 0x1000 0 (corrBytes1 1) (withMap (inState 5 Body.reset)))

def wLoadsEnd2 : State := stOf (loading 0x0410 0x1000 0 (corrBytes1 9) (withMap (inState 5 Body.reset)))

def wLoadsEnd3 : State := stOf (loading 0x0411 0x1012 1 mapBytes1 (inState 5 Body.reset))

def wLoadsEnd4 : State := stOf (loading 0x0411 0x1012 1 (mapBytes1.take 119) (inState 5 Body.reset))

theorem witness_LoadsEnd :
    ((wLoadsEnd1.b.opState 0x0410 = 1 ∧ wLoadsEnd1.b.gen 0 (wLoadsEnd1.b.nonActive 0) = 1 ∧ wLoadsEnd1.b.imageFault (wLoadsEnd1.b.loadData 0).1 = none ∧ (wLoadsEnd1.b.loadData 0).2 = true ∧ wLoadsEnd1.b.mapOfTag (leAt (wLoadsEnd1.b.loadData 0).1 16 4) = some map1 ∧ bit (wLoadsEnd1.b.opArg 0x0410 0x13).toNat 0 = false) ∧
     (wLoadsEnd2.b.opState 0x0410 = 1 ∧ wLoadsEnd2.b.gen 0 (wLoadsEnd2.b.nonActive 0) = 1 ∧ wLoadsEnd2.b.imageFault (wLoadsEnd2.b.loadData 0).1 = some (stMapTag, 0)) ∧
     (wLoadsEnd3.b.opState 0x0411 = 1 ∧ wLoadsEnd3.b.gen 1 (wLoadsEnd3.b.nonActive 1) = 1 ∧ (wLoadsEnd3.b.loadData 1).2 = true ∧ (wLoadsEnd3.b.loadData 1).1 ≠ [] ∧ parseMap (wLoadsEnd3.b.loadData 1).1 = .inr map1 ∧ bit (wLoadsEnd3.b.opArg 0x0411 0x13).toNat 0 = false)) ∧
    (wLoadsEnd4.b.opState 0x0411 = 1 ∧ wLoadsEnd4.b.gen 1 (wLoadsEnd4.b.nonActive 1) = 1 ∧ (wLoadsEnd4.b.loadData 1).2 = true ∧ (wLoadsEnd4.b.loadData 1).1 ≠ [] ∧ parseMap (wLoadsEnd4.b.loadData 1).1 = .inl stFormat) :=
  ⟨by decide +kernel,
   by decide +kernel⟩

def withRod (n : Nat) (r : Rod) (b : Body) : Body := { b with rods := [(n, r)] }
def withTile (n p : Nat) (t : Tile) (b : Body) : Body := { b with tiles := [(n * 64 + p, t)] }
def capOf1 : Bytes := List.replicate 16 0 ++ be 2 2 ++ be 2 1 ++ [8, 16, 2, 1, 0, 1, 0, 0] ++ List.replicate 36 0
def served (n : Nat) : Body := withRod n { Rod.reset with phase := .service, lock := true, used := true } (regs [(0x1300, n + 1, 4), (0x1201, n + 1, 2)] (inState 6 Body.reset))

def wFramesLeaveInOrder1 : State := stOf (served 191)

def wFramesLeaveInOrder2 : State := stOf (withRod 0 { Rod.reset with phase := .enumerate, txq := [.enum 0 1 0], seqDn := 65535 } (regs [(0x1300, 1, 1)] Body.reset))

def wFramesLeaveInOrder3 : State := stOf Body.reset

def wFramesLeaveInOrder5 : State := stOf (withRod 5 { Rod.reset with phase := .train, scr := 77 } (regs [(0x1300, 6, 1)] Body.reset))

def wFramesLeaveInOrder6 : State := stOf (withRod 0 { Rod.reset with phase := .stepWait 3, txq := [.lane 1 3 0 0] } (regs [(0x1300, 1, 2), (0x1204, 1, 1)] Body.reset))

def wFramesLeaveInOrder7 : State := stOf Body.reset

def wFramesLeaveInOrder8 : State := stOf (withRod 191 { (served 191).rod 191 with txq := [.token] } (served 191))

theorem witness_FramesLeaveInOrder :
    ((wFramesLeaveInOrder1.b.inService 191 = true ∧ wFramesLeaveInOrder1.b.carries 191 = true ∧ (wFramesLeaveInOrder1.b.rod 191).sleepTb = none ∧ (wFramesLeaveInOrder1.b.rod 191).waking = false ∧ wFramesLeaveInOrder1.b.pick wFramesLeaveInOrder1.env 191 = none) ∧
     (wFramesLeaveInOrder2.b.laneState 0 ≠ 0 ∧ (∀ f ∈ (wFramesLeaveInOrder2.b.rod 0).txq, -1000000000 ≤ f.ahead wFramesLeaveInOrder2.env) ∧ wFramesLeaveInOrder2.b.inService 0 = false ∧ wFramesLeaveInOrder2.b.carries 0 = true ∧ (wFramesLeaveInOrder2.b.rod 0).sleepTb = none ∧ (wFramesLeaveInOrder2.b.rod 0).waking = false ∧ wFramesLeaveInOrder2.b.pick wFramesLeaveInOrder2.env 0 = some (.enum 0 1 0)) ∧
     (wFramesLeaveInOrder3.b.carries 5 = false ∧ wFramesLeaveInOrder3.b.inService 5 = false)) ∧
    ((wFramesLeaveInOrder1.b.inService 191 = true ∧ wFramesLeaveInOrder1.b.maySend .token = true ∧ wFramesLeaveInOrder1.env.after (wFramesLeaveInOrder1.b.rod 191).lastToken 900000 = true) ∧
     (wFramesLeaveInOrder5.b.laneState 5 ≠ 0 ∧ wFramesLeaveInOrder5.b.carries 5 = false ∧ wFramesLeaveInOrder5.b.inService 5 = false) ∧
     (wFramesLeaveInOrder6.b.laneState 0 ≠ 0 ∧ wFramesLeaveInOrder6.b.carries 0 = true ∧ (wFramesLeaveInOrder6.b.rod 0).sleepTb = none ∧ (wFramesLeaveInOrder6.b.rod 0).waking = false ∧ (∀ f ∈ (wFramesLeaveInOrder6.b.rod 0).txq, -1000000000 ≤ f.ahead wFramesLeaveInOrder6.env) ∧ wFramesLeaveInOrder6.b.pick wFramesLeaveInOrder6.env 0 = some (.lane 1 3 0 0))) ∧
    ((wFramesLeaveInOrder7.b.laneState 0 = 0 ∧ wFramesLeaveInOrder7.b.inService 0 = false) ∧
     (wFramesLeaveInOrder8.b.laneState 191 ≠ 0 ∧ wFramesLeaveInOrder8.b.carries 191 = true ∧ (wFramesLeaveInOrder8.b.rod 191).sleepTb = none ∧ (wFramesLeaveInOrder8.b.rod 191).waking = false ∧ (∀ f ∈ (wFramesLeaveInOrder8.b.rod 191).txq, -1000000000 ≤ f.ahead wFramesLeaveInOrder8.env) ∧ wFramesLeaveInOrder8.b.inService 191 = true ∧ wFramesLeaveInOrder8.b.pick wFramesLeaveInOrder8.env 191 = some .token)) :=
  ⟨by decide +kernel,
   by decide +kernel,
   by decide +kernel⟩

/-- Words as they come in on a lane whose receiver has seen nothing. -/
def onLane (ws : List (Nat × Nat)) : UpFrame := ⟨(scrambleAll 0 ws).1.map (fun v => (v / 2 ^ 64, v % 2 ^ 64))⟩
def sentUp (ty addr : Nat) (body : Bytes) : UpFrame := ⟨linkWords ty addr 9 5 body⟩
def up (ty addr : Nat) (body : Bytes) : UpFrame := onLane (sentUp ty addr body).words
def tornUp : UpFrame := ⟨(2, headerWord 0x20 0 9 5) :: List.replicate 63 (1, 0)⟩
def torn : UpFrame := onLane tornUp.words
def unlocked : UpFrame := ⟨(0, 0) :: List.replicate 63 (1, 0)⟩
def served2 (n : Nat) : Body := withRod n { Rod.reset with phase := .service, lock := true, used := true, held := [0, 1] } (served n)
def cmd1 (why : CmdWhy) (seq tries : Nat) : Cmd := ⟨why, 1, [], seq, tries, 5, true⟩

def wUpstreamFramesAreTaken1 : State := stOf (served 191)

def wUpstreamFramesAreTaken2 : State := stOf (withRod 0 { Rod.reset with lock := true, enumr := some ⟨.op, 0, 1, 5, [], false, false⟩ } (regs [(0x1300, 1, 1)] Body.reset))

def wUpstreamFramesAreTaken3 : State := stOf (withTile 191 0 { Tile.reset with cmd := some (cmd1 .wake 258 0) } (served 191))

def wUpstreamFramesAreTaken5 : State := stOf (withTile 191 1 { Tile.reset with echo := some ⟨3, 5, 2, 2, 100⟩ } (served 191))

def wUpstreamFramesAreTaken6 : State := stOf (withTile 191 1 { Tile.reset with echo := some ⟨3, 5, 2, 1, 100⟩ } (served 191))

def wUpstreamFramesAreTaken7 : State := stOf (withRod 7 { Rod.reset with lock := true, phase := .check false false, tb := 10000000000000 } (regs [(0x1300, 8, 3)] Body.reset))

theorem witness_UpstreamFramesAreTaken :
    (((wUpstreamFramesAreTaken1.b.rod 191).lock = true ∧ (sentUp 0x20 62 [1]).damaged = false ∧ (sentUp 0x20 62 [1]).addr < 63 ∧ (sentUp 0x20 62 [1]).ty = 0x20 ∧ wUpstreamFramesAreTaken1.b.regN 0x1A02 0 ≠ 2 ∧ (wUpstreamFramesAreTaken1.b.heard 191 (up 0x20 62 [1]).words).lost = false ∧ wUpstreamFramesAreTaken1.b.received 191 (up 0x20 62 [1]) = some (sentUp 0x20 62 [1]) ∧ (sentUp 0x20 62 [1]).damaged = false) ∧
     ((wUpstreamFramesAreTaken2.b.rod 0).lock = true ∧ (wUpstreamFramesAreTaken2.b.rod 0).enumr = some ⟨.op, 0, 1, 5, [], false, false⟩ ∧ (sentUp 0x23 63 [4, 5]).ty = 0x23 ∧ (wUpstreamFramesAreTaken2.b.heard 0 (up 0x23 63 [4, 5]).words).lost = false ∧ wUpstreamFramesAreTaken2.b.received 0 (up 0x23 63 [4, 5]) = some (sentUp 0x23 63 [4, 5]) ∧ (sentUp 0x23 63 [4, 5]).damaged = false) ∧
     ((wUpstreamFramesAreTaken3.b.rod 191).lock = true ∧ (wUpstreamFramesAreTaken3.b.tile 191 0).cmd = some (cmd1 .wake 258 0) ∧ (cmd1 .wake 258 0).seq = beAt (sentUp 0x24 0 [1, 2, 0, 0]).body 0 2 ∧ beAt (sentUp 0x24 0 [1, 2, 0, 0]).body 3 1 = 0 ∧ (wUpstreamFramesAreTaken3.b.tile 191 0).cmdq = [] ∧ (wUpstreamFramesAreTaken3.b.rod 191).enumr = none ∧ (wUpstreamFramesAreTaken3.b.heard 191 (up 0x24 0 [1, 2, 0, 0]).words).lost = false ∧ wUpstreamFramesAreTaken3.b.received 191 (up 0x24 0 [1, 2, 0, 0]) = some (sentUp 0x24 0 [1, 2, 0, 0]) ∧ (sentUp 0x24 0 [1, 2, 0, 0]).damaged = false)) ∧
    (((wUpstreamFramesAreTaken3.b.tile 191 0).cmd = some (cmd1 .wake 258 0) ∧ (cmd1 .wake 258 0).seq ≠ beAt (sentUp 0x24 0 [1, 1, 0, 0]).body 0 2 ∧ (wUpstreamFramesAreTaken3.b.heard 191 (up 0x24 0 [1, 1, 0, 0]).words).lost = false ∧ wUpstreamFramesAreTaken3.b.received 191 (up 0x24 0 [1, 1, 0, 0]) = some (sentUp 0x24 0 [1, 1, 0, 0]) ∧ (sentUp 0x24 0 [1, 1, 0, 0]).damaged = false) ∧
     ((wUpstreamFramesAreTaken5.b.rod 191).lock = true ∧ (wUpstreamFramesAreTaken5.b.tile 191 1).echo = some ⟨3, 5, 2, 2, 100⟩ ∧ beAt (sentUp 0x22 1 [0, 3, 0, 0]).body 0 2 = 3 ∧ (wUpstreamFramesAreTaken5.b.heard 191 (up 0x22 1 [0, 3, 0, 0]).words).lost = false ∧ wUpstreamFramesAreTaken5.b.received 191 (up 0x22 1 [0, 3, 0, 0]) = some (sentUp 0x22 1 [0, 3, 0, 0]) ∧ (sentUp 0x22 1 [0, 3, 0, 0]).damaged = false) ∧
     ((wUpstreamFramesAreTaken6.b.rod 191).lock = true ∧ (wUpstreamFramesAreTaken6.b.tile 191 1).echo = some ⟨3, 5, 2, 1, 100⟩ ∧ beAt (sentUp 0x22 1 [0, 3, 0, 0]).body 0 2 = 3 ∧ (wUpstreamFramesAreTaken6.b.rod 191).enumr = none ∧ (wUpstreamFramesAreTaken6.b.heard 191 (up 0x22 1 [0, 3, 0, 0]).words).lost = false ∧ wUpstreamFramesAreTaken6.b.received 191 (up 0x22 1 [0, 3, 0, 0]) = some (sentUp 0x22 1 [0, 3, 0, 0]) ∧ (sentUp 0x22 1 [0, 3, 0, 0]).damaged = false)) ∧
    (((wUpstreamFramesAreTaken7.b.rod 7).lock = true ∧ wUpstreamFramesAreTaken7.b.checking 7 = true ∧ wUpstreamFramesAreTaken7.env.after (wUpstreamFramesAreTaken7.b.rod 7).tb 1000001 = false ∧ beAt (sentUp 0x25 62 [2, 1, 0, 0, 0, 0, 0, 0, 1, 0, 0, 9]).body 0 1 = 2 ∧ (wUpstreamFramesAreTaken7.b.heard 7 (up 0x25 62 [2, 1, 0, 0, 0, 0, 0, 0, 1, 0, 0, 9]).words).lost = false ∧ wUpstreamFramesAreTaken7.b.received 7 (up 0x25 62 [2, 1, 0, 0, 0, 0, 0, 0, 1, 0, 0, 9]) = some (sentUp 0x25 62 [2, 1, 0, 0, 0, 0, 0, 0, 1, 0, 0, 9]) ∧ (sentUp 0x25 62 [2, 1, 0, 0, 0, 0, 0, 0, 1, 0, 0, 9]).damaged = false) ∧
     ((wUpstreamFramesAreTaken1.b.rod 191).lock = true ∧ (sentUp 0x21 0 [0, 7, 1, 1, 0, 1, 0, 0]).ty = 0x21 ∧ ∀ g ∈ (wUpstreamFramesAreTaken1.b.tile 191 0).faults, g.number ≠ beAt (sentUp 0x21 0 [0, 7, 1, 1, 0, 1, 0, 0]).body 0 2 ∧ (wUpstreamFramesAreTaken1.b.heard 191 (up 0x21 0 [0, 7, 1, 1, 0, 1, 0, 0]).words).lost = false ∧ wUpstreamFramesAreTaken1.b.received 191 (up 0x21 0 [0, 7, 1, 1, 0, 1, 0, 0]) = some (sentUp 0x21 0 [0, 7, 1, 1, 0, 1, 0, 0]) ∧ (sentUp 0x21 0 [0, 7, 1, 1, 0, 1, 0, 0]).damaged = false)) :=
  ⟨by decide +kernel,
   by decide +kernel,
   by decide +kernel⟩


def wDamagedFramesAreCounted1 : State := stOf (served 191)

def wDamagedFramesAreCounted2 : State := stOf (regs [(0x1205, 1, 2 ^ 32 - 1)] (served 191))

theorem witness_DamagedFramesAreCounted :
    ((Instr.telemetryReceive 191 torn ∈ [Instr.telemetryReceive 191 torn, .enumRspReceive 191 torn] ∧ (wDamagedFramesAreCounted1.b.rod 191).lock = true ∧ (wDamagedFramesAreCounted1.b.heard 191 torn.words).lost = false ∧ wDamagedFramesAreCounted1.b.received 191 torn = some tornUp ∧ tornUp.damaged = true) ∧
     ((wDamagedFramesAreCounted2.b.rod 0).lock = false ∧ (wDamagedFramesAreCounted2.b.heard 0 unlocked.words).lock = false)) :=
  by decide +kernel


def wLinkTimeouts1 : State := stOf (withTile 191 62 { Tile.reset with cmd := some (cmd1 .wake 258 2) } (served 191))

def wLinkTimeouts2 : State := stOf (withTile 191 62 { Tile.reset with cmd := some (cmd1 .ack 258 3) } (regs [(0x010B, 0, 6)] (served 191)))

def wLinkTimeouts4 : State := stOf (withTile 191 1 { Tile.reset with echo := some ⟨3, 5, 2, 2, 100⟩ } (served 191))

def wLinkTimeouts5 : State := stOf (withTile 191 1 { Tile.reset with echo := some ⟨3, 5, 3, 2, 100⟩ } (served 191))

def wLinkTimeouts6 : State := stOf (served2 191)

def wLinkTimeouts8 : State := stOf (regs [(0x1300, 1, 1)] Body.reset)

def wLinkTimeouts9 : State := stOf Body.reset

theorem witness_LinkTimeouts :
    (((wLinkTimeouts1.b.tile 191 62).cmd = some (cmd1 .wake 258 2) ∧ (cmd1 .wake 258 2).onAir = true ∧ wLinkTimeouts1.env.after (cmd1 .wake 258 2).tb 2000000 = true ∧ (cmd1 .wake 258 2).tries < 3) ∧
     ((wLinkTimeouts2.b.tile 191 62).cmd = some (cmd1 .ack 258 3) ∧ wLinkTimeouts2.env.after (cmd1 .ack 258 3).tb 2000000 = true ∧ (wLinkTimeouts2.b.tile 191 62).cmdq = [] ∧ (wLinkTimeouts2.b.rod 191).enumr = none ∧ wLinkTimeouts2.b.devState = devLive ∧ wLinkTimeouts2.b.regN 0x010B 0 = 6) ∧
     ((wLinkTimeouts2.b.tile 191 0).cmd = none)) ∧
    (((wLinkTimeouts4.b.tile 191 1).echo = some ⟨3, 5, 2, 2, 100⟩ ∧ wLinkTimeouts4.env.after 5 1000000 = true ∧ DnFrame.echoReq 1 3 ∉ (wLinkTimeouts4.b.rod 191).txq) ∧
     ((wLinkTimeouts5.b.tile 191 1).echo = some ⟨3, 5, 3, 2, 100⟩ ∧ wLinkTimeouts5.env.after 5 1000000 = true ∧ DnFrame.echoReq 1 3 ∉ (wLinkTimeouts5.b.rod 191).txq ∧ (wLinkTimeouts5.b.rod 191).enumr = none) ∧
     (1 ∈ wLinkTimeouts6.b.held 191 ∧ (wLinkTimeouts6.b.tile 191 1).silent = false ∧ wLinkTimeouts6.env.after (wLinkTimeouts6.b.tile 191 1).lastUp (3 * wLinkTimeouts6.b.regN 0x1211 0 * 1000000) = true)) ∧
    ((wLinkTimeouts6.b.laneState 191 ≠ 0 ∧ (wLinkTimeouts6.b.rod 191).lock = true ∧ (wLinkTimeouts6.b.heard 191 (List.replicate 16 (3, 0))).lost = true ∧ (wLinkTimeouts6.b.heard 191 (List.replicate 16 (3, 0))).lock = false) ∧
     (wLinkTimeouts8.b.laneState 0 ≠ 0 ∧ (wLinkTimeouts8.b.rod 0).lock = false ∧ (wLinkTimeouts8.b.heard 0 (List.replicate 64 (1, 0))).lock = true ∧ wLinkTimeouts8.b.reg 0x1200 1 = 0) ∧
     (wLinkTimeouts9.b.laneState 191 = 0)) ∧
    (wLinkTimeouts9.b.laneState 191 = 0) :=
  ⟨by decide +kernel,
   by decide +kernel,
   by decide +kernel,
   by decide +kernel⟩


def wEnumerations1 : State := stOf (withSess (user 2) (regs [(0x0413, 0x10, 0)] (withRod 0 { Rod.reset with phase := .service, lock := true } (withMap (regs [(0x1300, 1, 4)] (inState 5 Body.reset))))))

def wEnumerations2 : State := stOf { regs [(0x0413, 2, 1)] (inState 5 Body.reset) with ops := [(0x0413, ⟨[], 0, 5, [0]⟩)] }

def wEnumerations3 : State := stOf (withRod 0 { Rod.reset with enumr := some ⟨.op, 0, 1, 5, [], false, false⟩ } { regs [(0x0413, 2, 1)] (inState 6 Body.reset) with ops := [(0x0413, ⟨[], 0, 5, [0]⟩)] })

def wEnumerations4 : State := stOf (withRod 0 { Rod.reset with enumr := some ⟨.op, 0, 1, 5, [], false, false⟩ } (regs [(0x010B, 0, 6)] (inState 6 Body.reset)))

def wEnumerations5 : State := stOf (withRod 0 { Rod.reset with enumr := some ⟨.op, 0, 1, 5, [capOf1], false, false⟩ } (withMap (inState 6 Body.reset)))

def wEnumerations7 : State := stOf (withSess (user 2) (regs [(0x0413, 0x10, 0xFF)] (withMap (inState 5 Body.reset))))

def wEnumerations8 : State := stOf (withSess (user 2) (regs [(0x0413, 2, 1)] (inState 5 Body.reset)))

def wEnumerations9 : State := stOf (withRod 0 { Rod.reset with enumr := some ⟨.op, 0, 1, 9999999000000, [], false, false⟩ } Body.reset)

def wEnumerations10 : State := stOf (let b := served2 191; { b with tiles := [(191 * 64, { Tile.reset with measured := true })] })

def wEnumerations11 : State := stOf (withSess (user 2) (regs [(0x0413, 0x10, 0), (0x0413, 0x11, 2)] (withRod 0 { Rod.reset with phase := .service, lock := true, enumr := some ⟨.dark, 0, 1, 5, [], false, false⟩ } (withMap (regs [(0x1300, 1, 4)] (inState 5 Body.reset))))))

def wEnumerations12 : State := stOf { regs [(0x0413, 2, 3)] (inState 5 Body.reset) with ops := [(0x0413, ⟨[], 0, 5, [0]⟩)] }

theorem witness_Enumerations :
    (Grants wEnumerations1 (askWrite 0x0413 (1) (.n 1)) 0x0413 (1) (.n 1) (user 2) ∧ wEnumerations1.b.opBusy 0x0413 = false ∧ wEnumerations1.b.regN 0x0413 0x10 = 0 ∧ (∀ k ∈ wEnumerations1.b.rodsInUse, k < 192) ∧ wEnumerations1.b.carries 0 = true ∧ wEnumerations1.b.enumBusy 0 = false) ∧
    ((mfind 0x0413 wEnumerations2.b.ops = some ⟨[], 0, 5, [0]⟩ ∧ (∀ k ∈ [(0 : Nat)], wEnumerations2.b.enumBusy k = false) ∧ wEnumerations2.b.opState 0x0413 ≠ 3) ∧
     (mfind 0x0413 wEnumerations3.b.ops = some ⟨[], 0, 5, [0]⟩ ∧ 0 ∈ [0] ∧ wEnumerations3.b.enumBusy 0 = true) ∧
     ((wEnumerations4.b.rod 0).enumr = some ⟨.op, 0, 1, 5, [], false, false⟩ ∧ wEnumerations4.env.after 5 5000000 = true ∧ wEnumerations4.b.carries 0 = false ∧ (wEnumerations4.b.rod 0).enumq = [] ∧ wEnumerations4.b.enumResult 0 ⟨.op, 0, 1, 5, [], false, false⟩ ≠ 0 ∧ wEnumerations4.b.devState = devLive ∧ wEnumerations4.b.regN 0x010B 0 = 6)) ∧
    (((wEnumerations5.b.rod 0).enumr = some ⟨.op, 0, 1, 5, [capOf1], false, false⟩ ∧ wEnumerations5.env.after 5 5000000 = true ∧ (∀ f ∈ (wEnumerations5.b.rod 0).txq, f.place ≠ 7) ∧ wEnumerations5.b.enumResult 0 ⟨.op, 0, 1, 5, [capOf1], false, false⟩ = 0) ∧
     (wEnumerations5.b.inService 0 = false)) ∧
    (Grants wEnumerations7 (askWrite 0x0413 (1) (.n 1)) 0x0413 (1) (.n 1) (user 2) ∧ wEnumerations7.b.opBusy 0x0413 = false ∧ wEnumerations7.b.regN 0x0413 0x10 = 0xFF ∧ 0 ∈ wEnumerations7.b.rodsInUse ∧ (∀ k ∈ wEnumerations7.b.rodsInUse, k < 192) ∧ wEnumerations7.b.carries 0 = false ∧ wEnumerations7.b.enumBusy 0 = false) ∧
    (Grants wEnumerations8 (askWrite 0x0413 (1) (.n 1)) 0x0413 (1) (.n 1) (user 2) ∧ wEnumerations8.b.opBusy 0x0413 = true) ∧
    (((wEnumerations9.b.rod 0).enumr = some ⟨.op, 0, 1, 9999999000000, [], false, false⟩ ∧ wEnumerations9.env.after 9999999000000 5000000 = false) ∧
     (wEnumerations10.b.inService 191 = true ∧ 0 ∈ wEnumerations10.b.held 191)) ∧
    (Grants wEnumerations11 (askWrite 0x0413 (1) (.n 1)) 0x0413 (1) (.n 1) (user 2) ∧ wEnumerations11.b.opBusy 0x0413 = false ∧ wEnumerations11.b.regN 0x0413 0x10 = 0 ∧ (∀ k ∈ wEnumerations11.b.rodsInUse, k < 192) ∧ wEnumerations11.b.enumBusy 0 = true) ∧
    (mfind 0x0413 wEnumerations12.b.ops = some ⟨[], 0, 5, [0]⟩ ∧ (∀ k ∈ [(0 : Nat)], wEnumerations12.b.enumBusy k = false) ∧ wEnumerations12.b.opState 0x0413 = 3) :=
  ⟨⟨grants_ask _ _ _ rfl (by decide +kernel), by decide +kernel⟩,
   by decide +kernel,
   by decide +kernel,
   ⟨grants_ask _ _ _ rfl (by decide +kernel), by decide +kernel⟩,
   ⟨grants_ask _ _ _ rfl (by decide +kernel), by decide +kernel⟩,
   by decide +kernel,
   ⟨grants_ask _ _ _ rfl (by decide +kernel), by decide +kernel⟩,
   by decide +kernel⟩


def wRodsTrain1 : State := stOf (withMap (regs [(0x010B, 0, 6)] (inState 3 Body.reset)))

def wRodsTrain2 : State := stOf (withRod 191 { Rod.reset with used := true } (inState 6 Body.reset))

def wRodsTrain3 : State := stOf (withSess (user 2) (served 3 |> inState 5))

def wRodsTrain4 : State := stOf (withSess (user 2) (served 3))

def wRodsTrain5 : State := stOf (withRod 191 { Rod.reset with phase := .service, used := true, lockLost := some 5 } (served 191))

def wRodsTrain6 : State := stOf Body.reset

theorem witness_RodsTrain :
    ((wRodsTrain1.b.quadLocked 0 = true ∧ wRodsTrain1.b.devState = devMemory ∧ 4 ≤ wRodsTrain1.b.regN 0x010B 0 ∧ 0 ∈ wRodsTrain1.b.rodsInUse ∧ wRodsTrain1.b.laneState 0 = 0 ∧ (wRodsTrain1.b.rod 0).used = false) ∧
     (wRodsTrain2.b.quadLocked 191 = true ∧ wRodsTrain2.b.devState = devLive ∧ (wRodsTrain2.b.rod 191).used = true ∧ wRodsTrain2.b.laneState 191 = 0 ∧ wRodsTrain2.env.after (wRodsTrain2.b.rod 191).tb 1000000000 = true)) ∧
    (Grants wRodsTrain3 (askWrite 0x1302 (3 + 1) (.n 1)) 0x1302 (3 + 1) (.n 1) (user 2) ∧ wRodsTrain3.b.quadLocked 3 = true ∧ wRodsTrain3.b.live = false) ∧
    (Grants wRodsTrain4 (askWrite 0x1302 (3 + 1) (.n 1)) 0x1302 (3 + 1) (.n 1) (user 2) ∧ wRodsTrain4.b.quadLocked 3 = true ∧ wRodsTrain4.b.live = true) ∧
    ((wRodsTrain5.b.quadLocked 191 = true ∧ wRodsTrain5.b.inService 191 = true ∧ (wRodsTrain5.b.rod 191).lock = false ∧ (wRodsTrain5.b.rod 191).lockLost = some 5 ∧ wRodsTrain5.env.after 5 100000 = true) ∧
     (wRodsTrain6.b.quadLocked 0 = true ∧ wRodsTrain6.b.inService 0 = false)) :=
  ⟨by decide +kernel,
   ⟨grants_ask _ _ _ rfl (by decide +kernel), by decide +kernel⟩,
   ⟨grants_ask _ _ _ rfl (by decide +kernel), by decide +kernel⟩,
   by decide +kernel⟩

def noEye1 : EyeSeen := ⟨0, 0, 0, List.replicate 32 0, List.replicate 16 0⟩
def heldTile (b : Body) : Body :=
  b.modRod 7 (fun r => { r with held := [0], reports := [⟨0, 0, 1024, 1024⟩], tb := 5 })
def inPhase (n : Nat) (p : LanePhase) (lane : Int) : Body :=
  withRod n { Rod.reset with phase := p, lock := true, used := true, target := 4 } (regs [(0x1300, n + 1, lane), (0x1204, n + 1, 1)] (inState 6 (regs [(0x010B, 0, 6)] Body.reset)))

def wRodsClimbToService1 : State := stOf (inPhase 191 .train 1)

def wRodsClimbToService2 : State := stOf (withRod 0 { Rod.reset with phase := .train } (inPhase 0 .train 1))

def wRodsClimbToService3 : State := stOf (inPhase 7 .recoverTrain 5)

def wRodsClimbToService4 : State := stOf (inPhase 7 .idle 2)

def wRodsClimbToService5 : State := stOf (inPhase 7 .fclkWait 3)

def wRodsClimbToService6 : State := stOf (heldTile (inPhase 7 (.check false true) 3))

def wRodsClimbToService8 : State := stOf (let b := withMap (regs [(0x010B, 0, 4)] (inState 3 Body.reset)); { b with dev := { b.dev with linkTb := some 5 } })

def wRodsClimbToService9 : State := stOf (withRod 7 { Rod.reset with phase := .stepTrain, from_ := 2, tb := 5 } (inPhase 7 .stepTrain 3))

def wRodsClimbToService10 : State := stOf (heldTile (inPhase 7 .recoverCheck 5))

def wRodsClimbToService11 : State := stOf ((heldTile (inPhase 7 .recoverCheck 5)).setReg 0x1204 8 3)

def wRodsClimbToService12 : State := stOf (heldTile (inPhase 7 .recoverCheck 5))

def wRodsClimbToService13 : State := stOf (inPhase 191 .train 1)

theorem witness_RodsClimbToService :
    (((wRodsClimbToService1.b.rod 191).phase = .train ∧ wRodsClimbToService1.b.laneState 191 = 1 ∧ wRodsClimbToService1.env.after (wRodsClimbToService1.b.rod 191).tb (wRodsClimbToService1.b.regN 0x1303 0 * 1000000) = true ∧ (wRodsClimbToService1.b.rod 191).lock = true) ∧
     ((wRodsClimbToService2.b.rod 0).phase = .train ∧ wRodsClimbToService2.b.laneState 0 = 1 ∧ wRodsClimbToService2.env.after (wRodsClimbToService2.b.rod 0).tb (wRodsClimbToService2.b.regN 0x1303 0 * 1000000) = true ∧ (wRodsClimbToService2.b.rod 0).lock = false) ∧
     ((wRodsClimbToService3.b.rod 7).phase = .recoverTrain ∧ wRodsClimbToService3.env.after (wRodsClimbToService3.b.rod 7).tb (wRodsClimbToService3.b.regN 0x1303 0 * 1000000) = true)) ∧
    (((wRodsClimbToService4.b.rod 7).phase = .idle ∧ wRodsClimbToService4.b.laneState 7 = 2 ∧ wRodsClimbToService4.b.regN 0x1204 (7 + 1) < (wRodsClimbToService4.b.rod 7).target) ∧
     ((wRodsClimbToService5.b.rod 7).phase = .fclkWait ∧ (∀ f ∈ (wRodsClimbToService5.b.rod 7).txq, f.place ≠ 8) ∧ wRodsClimbToService5.env.after (wRodsClimbToService5.b.rod 7).tb 100000 = true) ∧
     ((wRodsClimbToService6.b.rod 7).phase = .check false true ∧ wRodsClimbToService6.b.checking 7 = true ∧ wRodsClimbToService6.b.reported 7 = true ∧ wRodsClimbToService6.b.checkPass 7 1024 1024 = true ∧ wRodsClimbToService6.b.devState = devLive ∧ wRodsClimbToService6.b.regN 0x010B 0 = 6)) ∧
    (((wRodsClimbToService6.b.rod 7).phase = .check false true ∧ wRodsClimbToService6.b.checking 7 = true ∧ wRodsClimbToService6.b.reported 7 = true ∧ wRodsClimbToService6.b.checkPass 7 0 0 = false) ∧
     (wRodsClimbToService8.b.dev.linkTb = some 5 ∧ wRodsClimbToService8.b.devState = devMemory ∧ wRodsClimbToService8.b.regN 0x010B 0 = 4 ∧ wRodsClimbToService8.env.after 5 (wRodsClimbToService8.b.regN 0x010F 0 * 1000000) = true ∧ wRodsClimbToService8.b.notPassed ≠ []) ∧
     ((wRodsClimbToService9.b.rod 7).phase = .stepTrain ∧ wRodsClimbToService9.b.laneState 7 = 3 ∧ wRodsClimbToService9.env.after (wRodsClimbToService9.b.rod 7).tb (wRodsClimbToService9.b.regN 0x1303 0 * 1000000) = true)) ∧
    (((wRodsClimbToService10.b.rod 7).phase = .recoverCheck ∧ wRodsClimbToService10.b.checking 7 = true ∧ wRodsClimbToService10.b.reported 7 = true ∧ wRodsClimbToService10.b.checkPass 7 1024 1024 = true) ∧
     ((wRodsClimbToService11.b.rod 7).phase = .recoverCheck ∧ wRodsClimbToService11.b.checking 7 = true ∧ wRodsClimbToService11.b.reported 7 = true ∧ wRodsClimbToService11.b.checkPass 7 0 0 = false ∧ 1 < wRodsClimbToService11.b.regN 0x1204 (7 + 1)) ∧
     ((wRodsClimbToService12.b.rod 7).phase = .recoverCheck ∧ wRodsClimbToService12.b.checking 7 = true ∧ wRodsClimbToService12.b.reported 7 = true ∧ wRodsClimbToService12.b.checkPass 7 0 0 = false ∧ wRodsClimbToService12.b.regN 0x1204 (7 + 1) ≤ 1)) ∧
    ((wRodsClimbToService13.b.rod 191).phase = .train ∧ (wRodsClimbToService13.b.rod 191).lock = true) :=
  ⟨by decide +kernel,
   by decide +kernel,
   by decide +kernel,
   by decide +kernel,
   by decide +kernel⟩


def wLanesSleepAndWake1 : State := stOf (withRod 0 { Rod.reset with phase := .service, lock := true, lastToken := 9999999999999 } (regs [(0x1307, 1, 1)] (served 0)))

def wLanesSleepAndWake2 : State := stOf (regs [(0x1307, 1, 2)] (served 0))

def wLanesSleepAndWake3 : State := stOf (withRod 191 { Rod.reset with phase := .service, lock := true, sleepTb := some 9999999500000, slept := 5000, txq := [.echoReq 0 1] } (served 191))

def wLanesSleepAndWake4 : State := stOf (regs [(0x1307, 192, 2)] (served 191))

def wLanesSleepAndWake6 : State := stOf Body.reset

def wLanesSleepAndWake7 : State := stOf (withRod 0 { Rod.reset with phase := .service, lock := true } (regs [(0x1307, 1, 1)] (inState 7 (served 0))))

def wLanesSleepAndWake8 : State := stOf (withRod 191 { Rod.reset with phase := .service, lock := true, upEnd := 9999999999999 } (regs [(0x1307, 192, 2)] (served 191)))

theorem witness_LanesSleepAndWake :
    ((wLanesSleepAndWake1.b.inService 0 = true ∧ bit (wLanesSleepAndWake1.b.regN 0x1307 (0 + 1)) 0 = true ∧ (wLanesSleepAndWake1.b.rod 0).txq = [] ∧ (wLanesSleepAndWake1.b.rod 0).sleepTb = none ∧ (wLanesSleepAndWake1.b.rod 0).tokenDue = false ∧ (wLanesSleepAndWake1.b.rod 0).waking = false ∧ wLanesSleepAndWake1.b.maySend (.lane 5 (wLanesSleepAndWake1.b.regN 0x1204 (0 + 1)) 0 0) = true ∧ wLanesSleepAndWake1.b.dueWithin wLanesSleepAndWake1.env 0 (50000 + wLanesSleepAndWake1.b.wakeLead 0) = false ∧ ∀ p ∈ wLanesSleepAndWake1.b.held 0, (wLanesSleepAndWake1.b.tile 0 p).echo = none) ∧
     (bit (wLanesSleepAndWake2.b.regN 0x1307 (0 + 1)) 0 = false) ∧
     ((wLanesSleepAndWake3.b.rod 191).sleepTb = some 9999999500000 ∧ wLanesSleepAndWake3.b.wakeDue wLanesSleepAndWake3.env 191 = true)) ∧
    ((wLanesSleepAndWake4.b.inService 191 = true ∧ bit (wLanesSleepAndWake4.b.regN 0x1307 (191 + 1)) 1 = true ∧ wLanesSleepAndWake4.b.awaits 191 = false ∧ wLanesSleepAndWake4.env.after (wLanesSleepAndWake4.b.rod 191).upEnd 200000 = true ∧ (wLanesSleepAndWake4.clk.time : Int) ≤ time32 wLanesSleepAndWake4.env 1411000000 ∧ time32 wLanesSleepAndWake4.env 1411000000 ≤ wLanesSleepAndWake4.clk.time + 1000000000) ∧
     (5000001 < 1000 ∨ 5000000 < 5000001) ∧
     (wLanesSleepAndWake6.b.wakeDue wLanesSleepAndWake6.env 191 = false)) ∧
    ((wLanesSleepAndWake7.b.maySend (.lane 5 (wLanesSleepAndWake7.b.regN 0x1204 (0 + 1)) 0 0) = false) ∧
     (wLanesSleepAndWake8.env.after (wLanesSleepAndWake8.b.rod 191).upEnd 200000 = false)) :=
  ⟨by decide +kernel,
   by decide +kernel,
   by decide +kernel⟩

def measOf (spare active : Nat) (agreed slept : Bool) : CalMeas := ⟨eyeOf (spare, spare) noEye1, eyeOf (active, active) noEye1, agreed, slept⟩
def pass0 : Pass := Pass.start Slicer.reset false
def passEnd : Pass := { pass0 with par := 6, cand := 2, bestMerit := 2000000000, rounds := 3 }

def wLanesCalibrate1 : State := stOf (withRod 0 { Rod.reset with phase := .service, lock := true, rx := some pass0 } (served 0))

def wLanesCalibrate2 : State := stOf (withRod 191 { Rod.reset with phase := .service, lock := true, rx := some passEnd } (served 191))

def wLanesCalibrate4 : State := stOf (served 191)

def wLanesCalibrate5 : State := stOf (withSess (user 2) (inState 6 Body.reset))

def wLanesCalibrate6 : State := stOf { regs [(0x0414, 2, 1)] (served 191) with ops := [(0x0414, ⟨[], 1, 5, [191]⟩)] }

def wLanesCalibrate7 : State := stOf { withRod 191 { Rod.reset with rx := some { pass0 with byOp := true } } (regs [(0x0414, 2, 1)] (served 191)) with ops := [(0x0414, ⟨[], 1, 5, [191]⟩)] }

def wLanesCalibrate8 : State := stOf (withRod 0 { Rod.reset with phase := .train, rx := some pass0 } (regs [(0x1300, 1, 1)] (inState 6 Body.reset)))

def wLanesCalibrate9 : State := stOf (withRod 191 { Rod.reset with phase := .service, lock := true, rx := some passEnd } (served 191))

def wLanesCalibrate10 : State := stOf (served 191)

def wLanesCalibrate11 : State := stOf (withSess (user 2) (regs [(0x0414, 0x10, 191), (0x0414, 0x11, 3)] (served 191)))

def wLanesCalibrate12 : State := stOf { regs [(0x0414, 2, 3)] (served 191) with ops := [(0x0414, ⟨[], 1, 5, [191]⟩)] }

theorem witness_LanesCalibrate :
    (((wLanesCalibrate1.b.rod 0).rx = some pass0 ∧ (measOf 40 4 true false).slept = false ∧ pass0.took (nudgeSlicer (wLanesCalibrate1.b.activePath 0)) 7 16 (merit 40 40) = ((pass0.took (nudgeSlicer (wLanesCalibrate1.b.activePath 0)) 7 16 (merit 40 40)).1, false)) ∧
     ((wLanesCalibrate2.b.rod 191).rx = some passEnd ∧ passEnd.took (nudgeSlicer (wLanesCalibrate2.b.activePath 191)) 7 16 (merit 40 40) = ((passEnd.took (nudgeSlicer (wLanesCalibrate2.b.activePath 191)) 7 16 (merit 40 40)).1, true) ∧ merit 4 4 ≤ merit 40 40) ∧
     ((wLanesCalibrate2.b.rod 191).rx = some passEnd ∧ (measOf 40 4 true true).slept = true)) ∧
    ((List.replicate 47 (400 : Int) ++ [5000]).length = 48 ∧ wLanesCalibrate4.b.inService 191 = true ∧ 16 * wLanesCalibrate4.b.reg 0x1306 0 < (((List.replicate 47 (400 : Int) ++ [5000]).getD (191 / 4) 0 - wLanesCalibrate4.b.reg 0x130C (191 + 1)).natAbs : Int)) ∧
    (Grants wLanesCalibrate5 (askWrite 0x0414 (1) (.n 1)) 0x0414 (1) (.n 1) (user 2) ∧ wLanesCalibrate5.b.opBusy 0x0414 = false) ∧
    ((mfind 0x0414 wLanesCalibrate6.b.ops = some ⟨[], 1, 5, [191]⟩ ∧ (∀ k ∈ [(191 : Nat)], wLanesCalibrate6.b.calBusy k = false) ∧ wLanesCalibrate6.b.opState 0x0414 ≠ 3) ∧
     (mfind 0x0414 wLanesCalibrate7.b.ops = some ⟨[], 1, 5, [191]⟩ ∧ wLanesCalibrate7.b.calBusy 191 = true) ∧
     ((wLanesCalibrate8.b.rod 0).rx = some pass0 ∧ (wLanesCalibrate8.b.rod 0).phase = .train ∧ pass0.took nudgeTrain 7 16 (merit 4 4) = ((pass0.took nudgeTrain 7 16 (merit 4 4)).1, false))) ∧
    (((wLanesCalibrate9.b.rod 191).rx = some passEnd ∧ (passEnd.took (nudgeSlicer (wLanesCalibrate9.b.activePath 191)) 7 16 (merit 4 4)).2 = true ∧ merit 4 4 < merit 40 40) ∧
     ((wLanesCalibrate10.b.rod 191).rx = none ∧ wLanesCalibrate10.b.inService 191 = true ∧ wLanesCalibrate10.b.meets 4 4 = false)) ∧
    (Grants wLanesCalibrate11 (askWrite 0x0414 (1) (.n 1)) 0x0414 (1) (.n 1) (user 2) ∧ wLanesCalibrate11.b.opBusy 0x0414 = false ∧ wLanesCalibrate11.b.regN 0x0414 0x10 = 191 ∧ wLanesCalibrate11.b.inService 191 = true ∧ bit (wLanesCalibrate11.b.regN 0x0414 0x11) 0 = true ∧ bit (wLanesCalibrate11.b.regN 0x0414 0x11) 1 = true) ∧
    (mfind 0x0414 wLanesCalibrate12.b.ops = some ⟨[], 1, 5, [191]⟩ ∧ (∀ k ∈ [(191 : Nat)], wLanesCalibrate12.b.calBusy k = false) ∧ wLanesCalibrate12.b.opState 0x0414 = 3) :=
  ⟨by decide +kernel,
   by decide +kernel,
   ⟨grants_ask _ _ _ rfl (by decide +kernel), by decide +kernel⟩,
   by decide +kernel,
   by decide +kernel,
   ⟨grants_ask _ _ _ rfl (by decide +kernel), by decide +kernel⟩,
   by decide +kernel⟩

def withPan (p : Nat) (x : Pan) (b : Body) : Body := { b with pans := [(p, x)] }
def chooser : Session := { user 2 with own := [(key 0x1220 0, 0)] }

def wTilesWakeAndSleep1 : State := stOf (withSess (user 2) (withMap (inState 6 Body.reset)))

def wTilesWakeAndSleep2 : State := stOf (withSess (user 2) (withTile 0 0 { Tile.reset with awake := true } (withPan 0 ⟨[⟨0, 0, 5⟩], [], false, 0, none⟩ (withMap (inState 6 Body.reset)))))

def wTilesWakeAndSleep3 : State := stOf (withSess chooser (withMap (inState 6 Body.reset)))

def wTilesWakeAndSleep4 : State := stOf (withSess chooser (withTile 0 0 { Tile.reset with awake := true } (withMap (inState 6 Body.reset))))

def wTilesWakeAndSleep5 : State := stOf (withPan 0 ⟨[], [⟨0, 0, 5, true⟩], false, 0, none⟩ (withMap (regs [(0x010B, 0, 6)] (inState 6 Body.reset))))

theorem witness_TilesWakeAndSleep :
    (Grants wTilesWakeAndSleep1 (askWrite 0x1418 (1) (.n 1)) 0x1418 (1) (.n 1) (user 2) ∧ wTilesWakeAndSleep1.b.isActive = true ∧ panKey 0x1418 0 = (0x1418, 1) ∧ (0, 0) ∈ wTilesWakeAndSleep1.b.panTiles 0 ∧ (wTilesWakeAndSleep1.b.tile 0 0).awake = false) ∧
    (Grants wTilesWakeAndSleep2 (askWrite 0x1418 (1) (.n 2)) 0x1418 (1) (.n 2) (user 2) ∧ wTilesWakeAndSleep2.b.isActive = true ∧ panKey 0x1418 0 = (0x1418, 1) ∧ (0, 0) ∈ wTilesWakeAndSleep2.b.panTiles 0) ∧
    (Grants wTilesWakeAndSleep3 (askWrite 0x1428 (0) (.n 1)) 0x1428 (0) (.n 1) (chooser) ∧ wTilesWakeAndSleep3.b.isActive = true ∧ wTilesWakeAndSleep3.b.selected 0 = (0, 0) ∧ (wTilesWakeAndSleep3.b.tile 0 0).awake = false) ∧
    (Grants wTilesWakeAndSleep4 (askWrite 0x1428 (0) (.n 2)) 0x1428 (0) (.n 2) (chooser) ∧ wTilesWakeAndSleep4.b.isActive = true ∧ wTilesWakeAndSleep4.b.selected 0 = (0, 0)) ∧
    ((wTilesWakeAndSleep5.b.isActive = true ∧ (wTilesWakeAndSleep5.b.pan (wTilesWakeAndSleep5.b.panOf 0 0)).slots.find? (fun w => w.rod == 0 && w.pos == 0) = some ⟨0, 0, 5, true⟩ ∧ wTilesWakeAndSleep5.b.devState = devLive ∧ wTilesWakeAndSleep5.b.regN 0x010B 0 = 6 ∧ wTilesWakeAndSleep5.env.after 5 ((wTilesWakeAndSleep5.b.panReg 0x1412 (wTilesWakeAndSleep5.b.panOf 0 0) + wTilesWakeAndSleep5.b.panReg 0x1414 (wTilesWakeAndSleep5.b.panOf 0 0)) * 1000000) = true ∧ (wTilesWakeAndSleep5.b.pan (wTilesWakeAndSleep5.b.panOf 0 0)).queue = []) ∧
     ((wTilesWakeAndSleep5.b.pan (wTilesWakeAndSleep5.b.panOf 0 1)).slots.find? (fun w => w.rod == 0 && w.pos == 1) = none)) :=
  ⟨⟨grants_ask _ _ _ rfl (by decide +kernel), by decide +kernel⟩,
   ⟨grants_ask _ _ _ rfl (by decide +kernel), by decide +kernel⟩,
   ⟨grants_ask _ _ _ rfl (by decide +kernel), by decide +kernel⟩,
   ⟨grants_ask _ _ _ rfl (by decide +kernel), by decide +kernel⟩,
   by decide +kernel⟩


def wTileWritesReachTheirTile1 : State := stOf (withSess (user 2) (inState 6 Body.reset))

def wTileWritesReachTheirTile2 : State := stOf (withSess (user 3) (inState 5 Body.reset))

def wTileWritesReachTheirTile3 : State := stOf (withSess (user 2) (inState 6 Body.reset))

def wTileWritesReachTheirTile4 : State := stOf (withSess (user 3) (inState 8 Body.reset))

def wTileWritesReachTheirTile5 : State := stOf (withSess (user 2) (regs [(0x1A00, 0, 1), (0x1A02, 0, 5)] (inState 6 Body.reset)))

def wTileWritesReachTheirTile6 : State := stOf (withSess (user 3) (inState 5 Body.reset))

theorem witness_TileWritesReachTheirTile :
    (Grants wTileWritesReachTheirTile1 (askWrite 0x1433 (0) (.n (((3 * 2 ^ 32 + 191 * 2 ^ 24 + 62 * 2 ^ 16 + 1000 : Nat) : Nat) : Int))) 0x1433 (0) (.n (((3 * 2 ^ 32 + 191 * 2 ^ 24 + 62 * 2 ^ 16 + 1000 : Nat) : Nat) : Int)) (user 2) ∧ wTileWritesReachTheirTile1.b.isActive = true ∧ field (3 * 2 ^ 32 + 191 * 2 ^ 24 + 62 * 2 ^ 16 + 1000) 31 24 < 192 ∧ field (3 * 2 ^ 32 + 191 * 2 ^ 24 + 62 * 2 ^ 16 + 1000) 23 16 < 63) ∧
    (Grants wTileWritesReachTheirTile2 (askWrite 0x1504 (0) (.n ((191 * 256 + 62 : Nat) : Int))) 0x1504 (0) (.n ((191 * 256 + 62 : Nat) : Int)) (user 3) ∧ wTileWritesReachTheirTile2.b.devState ≠ devFrozen ∧ field (191 * 256 + 62) 15 8 < 192 ∧ field (191 * 256 + 62) 7 0 < 63) ∧
    (Grants wTileWritesReachTheirTile3 (askWrite 0x1433 (0) (.n ((192 * 2 ^ 24 : Nat) : Int))) 0x1433 (0) (.n ((192 * 2 ^ 24 : Nat) : Int)) (user 2) ∧ 192 ≤ field (192 * 2 ^ 24) 31 24) ∧
    (Grants wTileWritesReachTheirTile4 (askWrite 0x1504 (0) (.n 5)) 0x1504 (0) (.n 5) (user 3) ∧ wTileWritesReachTheirTile4.b.devState = devFrozen) ∧
    (Grants wTileWritesReachTheirTile5 (askWrite 0x1433 (0) (.n ((191 * 2 ^ 24 + 62 * 2 ^ 16 : Nat) : Int))) 0x1433 (0) (.n ((191 * 2 ^ 24 + 62 * 2 ^ 16 : Nat) : Int)) (user 2) ∧ wTileWritesReachTheirTile5.b.isActive = false ∧ field (191 * 2 ^ 24 + 62 * 2 ^ 16) 31 24 < 192 ∧ field (191 * 2 ^ 24 + 62 * 2 ^ 16) 23 16 < 63) ∧
    (Grants wTileWritesReachTheirTile6 (askWrite 0x1504 (0) (.n ((191 * 256 + 63 : Nat) : Int))) 0x1504 (0) (.n ((191 * 256 + 63 : Nat) : Int)) (user 3) ∧ wTileWritesReachTheirTile6.b.devState ≠ devFrozen ∧ 63 ≤ field (191 * 256 + 63) 7 0) :=
  ⟨⟨grants_ask _ _ _ rfl (by decide +kernel), by decide +kernel⟩,
   ⟨grants_ask _ _ _ rfl (by decide +kernel), by decide +kernel⟩,
   ⟨grants_ask _ _ _ rfl (by decide +kernel), by decide +kernel⟩,
   ⟨grants_ask _ _ _ rfl (by decide +kernel), by decide +kernel⟩,
   ⟨grants_ask _ _ _ rfl (by decide +kernel), by decide +kernel⟩,
   ⟨grants_ask _ _ _ rfl (by decide +kernel), by decide +kernel⟩⟩


def wSetpointsAreCommitted1 : State := stOf (withBeads [] [] [sub1 7 9999000000] (withMap (regs [(0x1300, 1, 4)] (inState 6 Body.reset))))

def wSetpointsAreCommitted2 : State := stOf (withMap (liveNext 480 (inState 6 Body.reset)))

def wSetpointsAreCommitted3 : State := stOf (withMap (regs [(0x1300, 1, 4)] (liveNext 480 (inState 6 Body.reset))))

def wSetpointsAreCommitted4 : State := stOf (inState 5 Body.reset)

theorem witness_SetpointsAreCommitted :
    ((wSetpointsAreCommitted1.b.beads.subs.find? (fun z => !z.setSent && wSetpointsAreCommitted1.env.reached (wSetpointsAreCommitted1.b.instH z.e)) = some (sub1 7 9999000000) ∧ 0 ∈ wSetpointsAreCommitted1.b.subRods (sub1 7 9999000000) ∧ wSetpointsAreCommitted1.b.inService 0 = true ∧ wSetpointsAreCommitted1.b.sendsData 7 = true ∧ (((wSetpointsAreCommitted1.b.subMap (sub1 7 9999000000)).map (fun m => m.tilesOf 0)).getD [])[0]? = some tile1 ∧ (wSetpointsAreCommitted1.b.subRods (sub1 7 9999000000)).Nodup ∧ ∀ k ∈ wSetpointsAreCommitted1.b.subRods (sub1 7 9999000000), (((wSetpointsAreCommitted1.b.subMap (sub1 7 9999000000)).map (fun m => m.tilesOf k)).getD []).length ≤ 63) ∧
     (wSetpointsAreCommitted2.b.beads.subs.find? (fun z => !z.setSent && wSetpointsAreCommitted2.env.reached (wSetpointsAreCommitted2.b.instH z.e)) = none ∧ wSetpointsAreCommitted2.b.earlyH wSetpointsAreCommitted2.env = some (480, Mode.reset, 0)) ∧
     (wSetpointsAreCommitted3.b.beads.subs.find? (fun z => !z.setSent && wSetpointsAreCommitted3.env.reached (wSetpointsAreCommitted3.b.instH z.e)) = none ∧ wSetpointsAreCommitted3.b.earlyH wSetpointsAreCommitted3.env = some (480, Mode.reset, 0) ∧ 0 ∈ wSetpointsAreCommitted3.b.rodsInUse ∧ wSetpointsAreCommitted3.b.inService 0 = true ∧ wSetpointsAreCommitted3.b.sendsData 480 = true ∧ ((wSetpointsAreCommitted3.b.map?.map (fun x => x.tilesOf 0)).getD [])[0]? = some tile1)) ∧
    (wSetpointsAreCommitted4.b.beads.subs.find? (fun z => !z.setSent && wSetpointsAreCommitted4.env.reached (wSetpointsAreCommitted4.b.instH z.e)) = none ∧ wSetpointsAreCommitted4.b.earlyH wSetpointsAreCommitted4.env = none) :=
  ⟨by decide +kernel,
   by decide +kernel⟩

def app : Nat := Body.reset.base 8
def cells (a : Nat) (bs : Bytes) : List Host.Cell := ((upFrom a bs.length).zip bs).filter (fun c => c.2 != 0)
def withOp (idx : Nat) (args : Map Int) (b : Body) : Body := { b.setReg idx 2 1 with ops := [(idx, ⟨args, 0, 5, []⟩)] }

def wDoseIsExported1 : State := stOf (withSess (user 2) (inState 6 Body.reset))

def wDoseIsExported2 : State := stOf (withSess (user 2) (withOp 0x0416 [] (inState 6 Body.reset)))

def wDoseIsExported3 : State := stOf (withSess (user 2) (inState 8 Body.reset))

def wDoseIsExported4 : State := stOf (withOp 0x0416 [(key 0x0416 0x10, (app : Nat)), (key 0x0416 0x11, 4096)] (withMap (inState 6 Body.reset)))

def wDoseIsExported5 : State := stOf (inState 6 Body.reset)

def wDoseIsExported6 : State := stOf ((withOp 0x0416 [] (inState 6 Body.reset)).setReg 0x0416 2 3)

theorem witness_DoseIsExported :
    (Grants wDoseIsExported1 (askWrite 0x0416 (1) (.n 1)) 0x0416 (1) (.n 1) (user 2) ∧ wDoseIsExported1.b.opBusy 0x0416 = false ∧ wDoseIsExported1.b.devState ≠ devFrozen) ∧
    (Grants wDoseIsExported2 (askWrite 0x0416 (1) (.n 1)) 0x0416 (1) (.n 1) (user 2) ∧ wDoseIsExported2.b.opBusy 0x0416 = true) ∧
    (Grants wDoseIsExported3 (askWrite 0x0416 (1) (.n 1)) 0x0416 (1) (.n 1) (user 2) ∧ wDoseIsExported3.b.opBusy 0x0416 = false ∧ wDoseIsExported3.b.devState = devFrozen) ∧
    ((wDoseIsExported4.b.opState 0x0416 = 1 ∧ (wDoseIsExported4.b.opArg 0x0416 0x10).toNat = app ∧ (wDoseIsExported4.b.appBytes app (wDoseIsExported4.b.opArg 0x0416 0x11).toNat).isSome = true ∧ (wDoseIsExported4.b.doseImage wDoseIsExported4.env ((wDoseIsExported4.b.regN 0x1503 0 + 1) % 2 ^ 32)).length ≤ (wDoseIsExported4.b.opArg 0x0416 0x11).toNat) ∧
     (wDoseIsExported5.b.opState 0x0416 ≠ 1 ∧ wDoseIsExported5.b.opState 0x0416 ≠ 3) ∧
     (wDoseIsExported6.b.opState 0x0416 = 3)) :=
  ⟨⟨grants_ask _ _ _ rfl (by decide +kernel), by decide +kernel⟩,
   ⟨grants_ask _ _ _ rfl (by decide +kernel), by decide +kernel⟩,
   ⟨grants_ask _ _ _ rfl (by decide +kernel), by decide +kernel⟩,
   by decide +kernel⟩

def doseData1 : Bytes := le 4 1000 ++ le 4 2000 ++ le 4 3000 ++ le 4 1 ++ le 4 2 ++ le 4 3 ++ ([0, 0, 0, 0] ++ le 4 2 ++ le 8 800)
def doseHead1 : Bytes := [0x43, 0x57, 0x44, 0x49] ++ le 2 1 ++ le 2 64 ++ le 4 2 ++ le 4 1 ++ le 4 7 ++ le 2 1 ++ le 2 0 ++ le 4 1 ++ le 4 128 ++ List.replicate 28 0
def image1 : Bytes := doseHead1 ++ le 4 (crc32c doseHead1) ++ le 4 (crc32c doseData1) ++ List.replicate 60 0 ++ doseData1
def imageAt (bs : Bytes) : Body := { regs [(0x0417, 0x10, (app : Nat))] (withMap (inState 5 Body.reset)) with mem := cells app bs }
def importing (bs : Bytes) : Body := { withOp 0x0417 [(key 0x0417 0x10, (app : Nat))] (withMap (inState 5 Body.reset)) with mem := cells app bs }

def wDoseIsImported1 : State := stOf (withSess (user 3) (imageAt image1))

def wDoseIsImported2 : State := stOf (withSess (user 3) (inState 6 Body.reset))

def wDoseIsImported3 : State := stOf (importing image1)

def wDoseIsImported4 : State := stOf (importing (image1.take 63))

def wDoseIsImported5 : State := stOf (importing (image1.take 127 ++ [1] ++ image1.drop 129))

def wDoseIsImported6 : State := stOf (inState 5 Body.reset)

def wDoseIsImported7 : State := stOf (withSess (user 3) (imageAt (image1.take 127 ++ [1] ++ image1.drop 129)))

def wDoseIsImported8 : State := stOf (withSess (user 3) (imageAt []))

def wDoseIsImported9 : State := stOf ((importing image1).setReg 0x0417 2 3)

theorem witness_DoseIsImported :
    (Grants wDoseIsImported1 (askWrite 0x0417 (1) (.n 1)) 0x0417 (1) (.n 1) (user 3) ∧ wDoseIsImported1.b.opBusy 0x0417 = false ∧ wDoseIsImported1.b.devState ≠ devFrozen ∧ wDoseIsImported1.b.live = false ∧ wDoseIsImported1.b.doseFault (wDoseIsImported1.b.regN 0x0417 0x10) (wDoseIsImported1.b.regN 0x0417 0x11 == 1) = .inr (image1.take 64 ++ image1.drop 128)) ∧
    (Grants wDoseIsImported2 (askWrite 0x0417 (1) (.n 1)) 0x0417 (1) (.n 1) (user 3) ∧ wDoseIsImported2.b.opBusy 0x0417 = false ∧ wDoseIsImported2.b.live = true) ∧
    ((wDoseIsImported3.b.opState 0x0417 = 1 ∧ wDoseIsImported3.b.doseFault (wDoseIsImported3.b.opArg 0x0417 0x10).toNat (wDoseIsImported3.b.opArg 0x0417 0x11 == 1) = .inr (image1.take 64 ++ image1.drop 128) ∧ wDoseIsImported3.b.lampIdsNow.Nodup) ∧
     (wDoseIsImported4.b.opState 0x0417 = 1 ∧ wDoseIsImported4.b.doseFault (wDoseIsImported4.b.opArg 0x0417 0x10).toNat (wDoseIsImported4.b.opArg 0x0417 0x11 == 1) = .inl (stCrc, 0)) ∧
     (wDoseIsImported5.b.opState 0x0417 = 1 ∧ wDoseIsImported5.b.doseFault (wDoseIsImported5.b.opArg 0x0417 0x10).toNat (wDoseIsImported5.b.opArg 0x0417 0x11 == 1) = .inl (stChunk, 0))) ∧
    (wDoseIsImported6.b.opState 0x0417 ≠ 1 ∧ wDoseIsImported6.b.opState 0x0417 ≠ 3) ∧
    (Grants wDoseIsImported7 (askWrite 0x0417 (1) (.n 1)) 0x0417 (1) (.n 1) (user 3) ∧ wDoseIsImported7.b.opBusy 0x0417 = false ∧ wDoseIsImported7.b.devState ≠ devFrozen ∧ wDoseIsImported7.b.live = false ∧ wDoseIsImported7.b.doseFault (wDoseIsImported7.b.regN 0x0417 0x10) (wDoseIsImported7.b.regN 0x0417 0x11 == 1) = .inl (stChunk, 0)) ∧
    (Grants wDoseIsImported8 (askWrite 0x0417 (1) (.n 1)) 0x0417 (1) (.n 1) (user 3) ∧ wDoseIsImported8.b.opBusy 0x0417 = false ∧ wDoseIsImported8.b.devState ≠ devFrozen ∧ wDoseIsImported8.b.live = false ∧ wDoseIsImported8.b.doseFault (wDoseIsImported8.b.regN 0x0417 0x10) (wDoseIsImported8.b.regN 0x0417 0x11 == 1) = .inl (stFormat, 0)) ∧
    (wDoseIsImported9.b.opState 0x0417 = 3) :=
  ⟨⟨grants_ask _ _ _ rfl (by decide +kernel), by decide +kernel⟩,
   ⟨grants_ask _ _ _ rfl (by decide +kernel), by decide +kernel⟩,
   by decide +kernel,
   by decide +kernel,
   ⟨grants_ask _ _ _ rfl (by decide +kernel), by decide +kernel⟩,
   ⟨grants_ask _ _ _ rfl (by decide +kernel), by decide +kernel⟩,
   by decide +kernel⟩

def retRec1 : Bytes := le 2 5 ++ le 2 400 ++ le 2 512 ++ le 2 0 ++
  (List.replicate 3 ((upFrom 0 16).map (fun k => le 4 (k * 1000) ++ le 2 (0x8000 - 1024 * k) ++ le 2 0)).flatten).flatten
def retHead1 : Bytes := [0x43, 0x57, 0x52, 0x54] ++ le 2 1 ++ le 2 1 ++ le 4 0
def retBytes1 : Bytes := retHead1 ++ le 4 2394127296 ++ retRec1
theorem retCrc1 : crc32c retRec1 = 2394127296 := by decide +kernel
theorem retShape1 : (∀ i, i < 1 → 0x100 ≤ leAt (retRecord retBytes1 i) 4 2 ∧ leAt (retRecord retBytes1 i) 4 2 ≤ 0x800 ∧
    ∀ em, em < 3 → retPoint (retRecord retBytes1 i) em 0 = (0, 0x8000) ∧ ∀ k, 1 ≤ k → k ≤ 15 →
      (retPoint (retRecord retBytes1 i) em (k - 1)).1 < (retPoint (retRecord retBytes1 i) em k).1 ∧
      (retPoint (retRecord retBytes1 i) em k).2 ≤ (retPoint (retRecord retBytes1 i) em (k - 1)).2 ∧ 0x800 ≤ (retPoint (retRecord retBytes1 i) em k).2) := by
  have h : ∀ i, i < 1 → 0x100 ≤ leAt (retRecord retBytes1 i) 4 2 ∧ leAt (retRecord retBytes1 i) 4 2 ≤ 0x800 ∧
    ∀ em, em < 3 → retPoint (retRecord retBytes1 i) em 0 = (0, 0x8000) ∧ ∀ k, k < 15 →
      (retPoint (retRecord retBytes1 i) em k).1 < (retPoint (retRecord retBytes1 i) em (k + 1)).1 ∧
      (retPoint (retRecord retBytes1 i) em (k + 1)).2 ≤ (retPoint (retRecord retBytes1 i) em k).2 ∧
      0x800 ≤ (retPoint (retRecord retBytes1 i) em (k + 1)).2 := by decide +kernel
  intro i hi
  refine ⟨(h i hi).1, (h i hi).2.1, fun em he => ⟨((h i hi).2.2 em he).1, fun k h1 h2 => ?_⟩⟩
  have g := ((h i hi).2.2 em he).2 (k - 1) (by omega)
  rwa [show k - 1 + 1 = k by omega] at g

def wRetentionTablesAreReplaced1 : State := stOf (withSess (user 3) (inState 5 Body.reset))

theorem witness_RetentionTablesAreReplaced :
    (Grants wRetentionTablesAreReplaced1 (askWrite 0x1508 (0) (.b retBytes1)) 0x1508 (0) (.b retBytes1) (user 3) ∧ 1 = leAt retBytes1 6 2 ∧ retBytes1.take 4 = ascii "CWRT" ∧ leAt retBytes1 4 2 = 1 ∧ retBytes1.length = 16 + 392 * 1 ∧ crc32c (retBytes1.drop 16) = leAt retBytes1 12 4 ∧ ((upFrom 0 1).map (fun i => leAt (retRecord retBytes1 i) 0 2)).eraseDups.length = 1 ∧ (∀ i, i < 1 → 0x100 ≤ leAt (retRecord retBytes1 i) 4 2 ∧ leAt (retRecord retBytes1 i) 4 2 ≤ 0x800 ∧
      ∀ em, em < 3 → retPoint (retRecord retBytes1 i) em 0 = (0, 0x8000) ∧ ∀ k, 1 ≤ k → k ≤ 15 →
        (retPoint (retRecord retBytes1 i) em (k - 1)).1 < (retPoint (retRecord retBytes1 i) em k).1 ∧
        (retPoint (retRecord retBytes1 i) em k).2 ≤ (retPoint (retRecord retBytes1 i) em (k - 1)).2 ∧ 0x800 ≤ (retPoint (retRecord retBytes1 i) em k).2) ∧ (∀ k ∈ wRetentionTablesAreReplaced1.b.binsNamed, k ∈ (upFrom 0 1).map (fun i => leAt (retRecord retBytes1 i) 0 2))) ∧
    (Grants wRetentionTablesAreReplaced1 (askWrite 0x1508 (0) (.b [1, 2, 3])) 0x1508 (0) (.b [1, 2, 3]) (user 3) ∧ ([1, 2, 3] : Bytes).take 4 ≠ ascii "CWRT") ∧
    (Grants wRetentionTablesAreReplaced1 (askWrite 0x1508 (0) (.b (retHead1 ++ le 4 7 ++ retRec1))) 0x1508 (0) (.b (retHead1 ++ le 4 7 ++ retRec1)) (user 3) ∧ 1 = leAt (retHead1 ++ le 4 7 ++ retRec1) 6 2 ∧ (retHead1 ++ le 4 7 ++ retRec1).take 4 = ascii "CWRT" ∧ leAt (retHead1 ++ le 4 7 ++ retRec1) 4 2 = 1 ∧ (retHead1 ++ le 4 7 ++ retRec1).length = 16 + 392 * 1 ∧ crc32c ((retHead1 ++ le 4 7 ++ retRec1).drop 16) ≠ leAt (retHead1 ++ le 4 7 ++ retRec1) 12 4) :=
  ⟨⟨grants_ask _ _ _ rfl (by decide +kernel), ⟨by decide +kernel, by decide +kernel, by decide +kernel, by decide +kernel, by rw [show retBytes1.drop 16 = retRec1 by decide +kernel, retCrc1]; decide +kernel, by decide +kernel, retShape1, by decide +kernel⟩⟩,
   ⟨grants_ask _ _ _ rfl (by decide +kernel), by decide +kernel⟩,
   ⟨grants_ask _ _ _ rfl (by decide +kernel), ⟨by decide +kernel, by decide +kernel, by decide +kernel, by decide +kernel, by rw [show (retHead1 ++ le 4 7 ++ retRec1).drop 16 = retRec1 by decide +kernel, retCrc1]; decide +kernel⟩⟩⟩

def reckoning (bs : Bytes) : Body :=
  { withOp 0x0415 [(key 0x0415 0x10, (app : Nat)), (key 0x0415 0x11, (bs.length : Nat))] (regs [(0x1000, 1, 1), (0x1500, 0, 1)] (withMap (inState 5 Body.reset)))
    with mem := cells app bs }

def wLampsAreReckoned1 : State := stOf (withSess (user 3) (regs [(0x1500, 0, 1)] (inState 5 Body.reset)))

def wLampsAreReckoned2 : State := stOf (withSess (user 3) (inState 5 Body.reset))

def wLampsAreReckoned3 : State := stOf { reckoning (corrBytes1 1) with blob := [(key 0x1508 0, List.replicate 6 0 ++ [1] ++ List.replicate 401 0)] }

def wLampsAreReckoned4 : State := stOf (reckoning (corrBytes1 9))

def wLampsAreReckoned5 : State := stOf (regs [(0x150E, 0, 24), (0x150F, 0, 500), (0x1500, 0, 1)] (inState 5 Body.reset))

def wLampsAreReckoned6 : State := stOf (regs [(0x150E, 0, 0)] (inState 5 Body.reset))

theorem witness_LampsAreReckoned :
    (Grants wLampsAreReckoned1 (askWrite 0x0415 (1) (.n 1)) 0x0415 (1) (.n 1) (user 3) ∧ 0 = wLampsAreReckoned1.b.nonActive 0 ∧ wLampsAreReckoned1.b.follows = false ∧ wLampsAreReckoned1.b.opBusy 0x0415 = false ∧ wLampsAreReckoned1.b.devState ≠ devFrozen ∧ wLampsAreReckoned1.b.genFree 0 = true ∧ wLampsAreReckoned1.b.regN 0x1500 0 ≠ 0) ∧
    (Grants wLampsAreReckoned2 (askWrite 0x0415 (1) (.n 1)) 0x0415 (1) (.n 1) (user 3) ∧ 0 = wLampsAreReckoned2.b.nonActive 0 ∧ wLampsAreReckoned2.b.follows = false ∧ wLampsAreReckoned2.b.opBusy 0x0415 = false ∧ wLampsAreReckoned2.b.devState ≠ devFrozen ∧ wLampsAreReckoned2.b.genFree 0 = true ∧ wLampsAreReckoned2.b.regN 0x1500 0 = 0 ∧ wLampsAreReckoned2.b.reg 0x0415 0x13 = 0) ∧
    ((0 = wLampsAreReckoned3.b.nonActive 0 ∧ wLampsAreReckoned3.b.opState 0x0415 = 1 ∧ wLampsAreReckoned3.b.gen 0 0 = 1 ∧ wLampsAreReckoned3.b.follows = false ∧ wLampsAreReckoned3.b.reckonImage = .inr (corrBytes1 1) ∧ bit (wLampsAreReckoned3.b.opArg 0x0415 0x12).toNat 0 = false) ∧
     (0 = wLampsAreReckoned4.b.nonActive 0 ∧ wLampsAreReckoned4.b.opState 0x0415 = 1 ∧ wLampsAreReckoned4.b.gen 0 0 = 1 ∧ wLampsAreReckoned4.b.follows = false ∧ wLampsAreReckoned4.b.reckonImage = .inl (stMapTag, 0)) ∧
     (0 = wLampsAreReckoned5.b.nonActive 0 ∧ wLampsAreReckoned5.b.regN 0x150E 0 ≠ 0 ∧ wLampsAreReckoned5.b.regN 0x150F 0 ≠ 0 ∧ wLampsAreReckoned5.b.follows = false ∧ devVerified ≤ wLampsAreReckoned5.b.devState ∧ wLampsAreReckoned5.b.devState ≠ devFrozen ∧ wLampsAreReckoned5.b.opBusy 0x0415 = false ∧ wLampsAreReckoned5.b.genFree 0 = true ∧ wLampsAreReckoned5.b.regN 0x1500 0 ≠ 0)) ∧
    (0 = wLampsAreReckoned6.b.nonActive 0 ∧ wLampsAreReckoned6.b.regN 0x150E 0 = 0) :=
  ⟨⟨grants_ask _ _ _ rfl (by decide +kernel), by decide +kernel⟩,
   ⟨grants_ask _ _ _ rfl (by decide +kernel), by decide +kernel⟩,
   by decide +kernel,
   by decide +kernel⟩

def strs (l : List (Nat × Nat × Bytes)) (b : Body) : Body := l.foldl (fun x p => x.setStr p.1 p.2.1 p.2.2) b
def flowSet (f : Nat) (kind : Int) : Body :=
  strs [(0x0A02, 1, ascii "10.0.0.1/8"), (0x0A12, f + 1, ascii "239.1.1.1")]
    (regs [(0x0A00, 1, 1), (0x0A10, f + 1, kind), (0x0A11, f + 1, 0xF0), (0x0A16, f + 1, 5000 * 65536), (0x0A17, f + 1, 96),
      (0x0A18, f + 1, 2 * 2 ^ 48 + 2 ^ 32 + 10 * 2 ^ 16), (0x0A19, f + 1, 8), (0x0A1B, f + 1, 5), (0x0A1D, f + 1, 100)] (inState 6 Body.reset))
def rx0 : FlowRx := ⟨[], 0, [], [], [5], [false], some 5⟩
def flowing (f : Nat) (kind : Int) : Body := let b := regs [(0x0A1E, f + 1, 1), (0x0A20, f + 1, 1)] (flowSet f kind); { b with media := { b.media with rx := [(f, rx0)] } }
def rtp1 : RtpPacket := ⟨[239, 1, 1, 1], [10, 0, 0, 2], 5000, 96, 3, 100, false, [(0, 0, [[64, 128, 128], [65]])], true, false, false, []⟩

def wPortsTakeFrames1 : State := stOf (strs [(0x0A08, 4, [1])] (regs [(0x0A00, 4, 1)] (inState 6 Body.reset)))

def wPortsTakeFrames4 : State := stOf { inState 6 Body.reset with media := { Body.reset.media with mods := [(0, [9])] } }

def wPortsTakeFrames6 : State := stOf (regs [(0x0A06, 1, 2 ^ 32 - 1)] (flowing 15 1))

def wPortsTakeFrames8 : State := stOf (let b := flowing 15 1; { b with media := { b.media with host := [(0, 20000000000000 + Config.hostBurst + 1)] } })

def wPortsTakeFrames9 : State := stOf (flowing 15 1)

def wPortsTakeFrames11 : State := stOf (regs [(0x0120, 49, 3)] (inState 6 Body.reset))

def wPortsTakeFrames12 : State := stOf (regs [(0x0A05, 1, 4094)] (flowing 15 1))

def wPortsTakeFrames14 : State := stOf (strs [(0x0A03, 1, ascii "fe80::1/64")] (flowing 15 1))

def wPortsTakeFrames15 : State := stOf (flowing 15 1)

theorem witness_PortsTakeFrames :
    ((wPortsTakeFrames1.b.str 0x0A08 (3 + 1) ≠ []) ∧
     (wPortsTakeFrames1.b.regN 0x0120 (0 + 49) ≠ 3) ∧
     ((List.replicate 256 (7 : Byte)).length = 256 ∧ mfind 0 wPortsTakeFrames4.b.media.mods = some [9] ∧ ([9] : Bytes) ≠ (List.replicate 256 (7 : Byte)).drop 128)) ∧
    ((wPortsTakeFrames4.b.portUp 0 = false) ∧
     (wPortsTakeFrames6.b.portUp 0 = true) ∧
     (wPortsTakeFrames6.b.portUp 0 = true ∧ 9216 ≤ 9216 ∧ mgetD 0 0 wPortsTakeFrames6.b.media.host ≤ 2 * wPortsTakeFrames6.clk.tb)) ∧
    (wPortsTakeFrames8.b.portUp 0 = true ∧ 2 * wPortsTakeFrames8.clk.tb + Config.hostBurst < mgetD 0 0 wPortsTakeFrames8.b.media.host) ∧
    ((wPortsTakeFrames9.b.portUp 0 = true ∧ wPortsTakeFrames9.b.legFor 0 { rtp1 with dst := [10, 0, 0, 1] } = none ∧ wPortsTakeFrames9.b.ownAddr 0 [10, 0, 0, 1] = true) ∧
     (wPortsTakeFrames9.b.portUp 0 = true ∧ wPortsTakeFrames9.b.legFor 0 rtp1 = some (15, 0) ∧ wPortsTakeFrames9.b.rx? 15 = some rx0 ∧ rtp1.pt = wPortsTakeFrames9.b.regN 0x0A17 (15 + 1) ∧ wPortsTakeFrames9.b.regN 0x0A10 (15 + 1) = 1 ∧ 2 ^ 32 + 3 = extend rx0.kept (2 ^ 32) rtp1.seq ∧ rx0.floor < 2 ^ 32 + 3 ∧ ∀ q ∈ rx0.kept, q.seq ≠ 2 ^ 32 + 3) ∧
     (wPortsTakeFrames11.b.regN 0x0120 (0 + 49) = 3)) ∧
    ((wPortsTakeFrames12.b.portUp 0 = true ∧ (none : Option Nat) ≠ wPortsTakeFrames12.b.vlanTag 0) ∧
     (wPortsTakeFrames12.b.portUp 0 = true ∧ wPortsTakeFrames12.b.ownAddr 0 [10, 0, 0, 1] = true ∧ wPortsTakeFrames12.b.vlanTag 0 = some 4094) ∧
     (wPortsTakeFrames14.b.portUp 0 = true ∧ wPortsTakeFrames14.b.ownAddr 0 ([0xFE, 0x80] ++ List.replicate 13 0 ++ [1]) = true ∧ ([0xFE, 0x80] ++ List.replicate 13 0 ++ [2] : Bytes).any (· != 0) = true)) ∧
    (wPortsTakeFrames15.b.portUp 0 = true ∧ wPortsTakeFrames15.b.ownAddr 0 [10, 0, 0, 1] = true ∧ (wPortsTakeFrames15.b.ethernet 0 [1, 2, 3, 4, 5, 6] 0x0800 (ipPacket [10, 0, 0, 1] [10, 0, 0, 2] 64 (icmp [10, 0, 0, 1] [10, 0, 0, 2] 0 [1, 2]))).length ≤ 1518) :=
  ⟨by decide +kernel,
   by decide +kernel,
   ⟨by decide +kernel, show 2 * 10000000000000 + Config.hostBurst < 20000000000000 + Config.hostBurst + 1 by omega⟩,
   by decide +kernel,
   by decide +kernel,
   ⟨by decide +kernel, by decide +kernel, by rw [Body.length_ethernet, length_ipPacket, length_icmp]; decide +kernel⟩⟩


def wFlowsAreAdmittedAndWatched1 : State := stOf (withSess (user 2) (flowSet 15 1))

def wFlowsAreAdmittedAndWatched2 : State := stOf (withSess (user 2) (regs [(0x0A17, 1, 95)] (flowSet 0 1)))

def wFlowsAreAdmittedAndWatched3 : State := stOf (withSess (user 2) (flowing 15 1))

def wFlowsAreAdmittedAndWatched5 : State := stOf (let b := flowing 15 1; { b with media := { b.media with queries := [⟨0, false, [], 10000000000000, [], []⟩] } })

def wFlowsAreAdmittedAndWatched7 : State := stOf (let b := flowing 15 1; { b with media := { b.media with rx := [(15, { rx0 with frames := [⟨100, 1, 5, 5, 3, 3, 5, none, none, [], 0, false⟩] })] } })

def wFlowsAreAdmittedAndWatched8 : State := stOf (let b := flowing 15 1; { b with media := { b.media with queries := [⟨0, false, [239, 1, 1, 1], 10000000000001, [], []⟩] } })

def wFlowsAreAdmittedAndWatched9 : State := stOf (let b := flowing 15 1; { b with media := { b.media with queries := [⟨0, false, [239, 1, 1, 1], 5, [], []⟩] } })

theorem witness_FlowsAreAdmittedAndWatched :
    (Grants wFlowsAreAdmittedAndWatched1 (askWrite 0x0A1E (15 + 1) (.n 1)) 0x0A1E (15 + 1) (.n 1) (user 2) ∧ (wFlowsAreAdmittedAndWatched1.b.setReg 0x0A20 (15 + 1) (wFlowsAreAdmittedAndWatched1.b.wireRate 15 : Nat)).admitResult 15 = 0 ∧ wFlowsAreAdmittedAndWatched1.b.regN 0x0A1E (15 + 1) ≠ 1) ∧
    (Grants wFlowsAreAdmittedAndWatched2 (askWrite 0x0A1E (0 + 1) (.n 1)) 0x0A1E (0 + 1) (.n 1) (user 2) ∧ (wFlowsAreAdmittedAndWatched2.b.setReg 0x0A20 (0 + 1) (wFlowsAreAdmittedAndWatched2.b.wireRate 0 : Nat)).admitResult 0 = 1 ∧ wFlowsAreAdmittedAndWatched2.b.regN 0x0A1E (0 + 1) ≠ 1) ∧
    (Grants wFlowsAreAdmittedAndWatched3 (askWrite 0x0A1E (15 + 1) (.n 0)) 0x0A1E (15 + 1) (.n 0) (user 2) ∧ (wFlowsAreAdmittedAndWatched3.b.rx? 15).isSome = true ∧ (∀ l ∈ wFlowsAreAdmittedAndWatched3.b.legs 15, isMulticast l.dst = true ∧ wFlowsAreAdmittedAndWatched3.b.portUp l.port = true ∧ wFlowsAreAdmittedAndWatched3.b.version wFlowsAreAdmittedAndWatched3.env l.port (l.dst.length == 16) ≠ 1) ∧ wFlowsAreAdmittedAndWatched3.b.legs 15 ≠ []) ∧
    ((wFlowsAreAdmittedAndWatched3.b.rx? 15 = some rx0 ∧ rx0.joinTb = some 5 ∧ wFlowsAreAdmittedAndWatched3.env.after 5 1000000000 = true ∧ (∀ l ∈ wFlowsAreAdmittedAndWatched3.b.legs 15, wFlowsAreAdmittedAndWatched3.b.noteMode wFlowsAreAdmittedAndWatched3.env l.port (l.dst.length == 16) = wFlowsAreAdmittedAndWatched3.b ∧ isMulticast l.dst = true ∧ wFlowsAreAdmittedAndWatched3.b.portUp l.port = true) ∧ wFlowsAreAdmittedAndWatched3.b.legs 15 ≠ [] ∧ wFlowsAreAdmittedAndWatched3.b.media.unjoin = []) ∧
     (wFlowsAreAdmittedAndWatched5.b.query? 0 false [] = some ⟨0, false, [], 10000000000000, [], []⟩ ∧ 10000000000000 ≤ wFlowsAreAdmittedAndWatched5.clk.tb) ∧
     (wFlowsAreAdmittedAndWatched5.b.rx? 15 = some rx0 ∧ rx0.legTb[0]? = some 5 ∧ rx0.silent[0]? = some false ∧ wFlowsAreAdmittedAndWatched5.env.after 5 wFlowsAreAdmittedAndWatched5.b.silenceNs = true)) ∧
    (((wFlowsAreAdmittedAndWatched7.b.rx? 15).isSome = true) ∧
     (wFlowsAreAdmittedAndWatched8.b.query? 0 false [239, 1, 1, 1] = some ⟨0, false, [239, 1, 1, 1], 10000000000001, [], []⟩ ∧ wFlowsAreAdmittedAndWatched8.b.noteMode wFlowsAreAdmittedAndWatched8.env 0 false = wFlowsAreAdmittedAndWatched8.b ∧ wFlowsAreAdmittedAndWatched8.clk.tb < 10000000000001) ∧
     (wFlowsAreAdmittedAndWatched9.b.query? 0 false [239, 1, 1, 1] = some ⟨0, false, [239, 1, 1, 1], 5, [], []⟩ ∧ 5 ≤ wFlowsAreAdmittedAndWatched9.clk.tb ∧ wFlowsAreAdmittedAndWatched9.b.noteMode wFlowsAreAdmittedAndWatched9.env 0 false = wFlowsAreAdmittedAndWatched9.b ∧ wFlowsAreAdmittedAndWatched9.b.groupSources 0 [239, 1, 1, 1] = none ∧ wFlowsAreAdmittedAndWatched9.b.portUp 0 = true)) :=
  ⟨⟨grants_ask _ _ _ rfl (by decide +kernel), by decide +kernel⟩,
   ⟨grants_ask _ _ _ rfl (by decide +kernel), by decide +kernel⟩,
   ⟨grants_ask _ _ _ rfl (by decide +kernel), by decide +kernel⟩,
   by decide +kernel,
   by decide +kernel⟩

def streamSet (n : Nat) : Body := regs [(0x0B00, n + 1, 0), (0x0B01, n + 1, 255), (0x0B02, n + 1, 16 * 65536 + 8), (0x0B03, n + 1, 1)] (flowing 0 2)
def stream1 : Stream := ⟨0, 3, 0, 16, 8, 1, 5, 0, [⟨100, 5, 1, 1, true, 10, 5, none⟩], [], none, false, false, none⟩
def streaming (n : Nat) : Body :=
  let b := regs [(0x0B04, n + 1, 2), (0x0B06, n + 1, 3)] (streamSet n)
  { b with media := { b.media with rx := [], streams := [(n, stream1)] } }
def pic1 (n : Nat) : Picture := ⟨n, 0, true, false, 16, 8, 1, 1, 30, false, false, true, 0, 8, 16, [], false, true, false, false, 0, none, [], [], [[1], [2], [3]], 1, .good⟩

def wStreamsAndEncodersRun1 : State := stOf (withSess (user 2) (streamSet 31))

def wStreamsAndEncodersRun2 : State := stOf (withSess (user 2) (streaming 31))

def wStreamsAndEncodersRun6 : State := stOf (withSess (user 2) (regs [(0x0C23, 0, 64 * 65536 + 64)] (inState 6 Body.reset)))

def wStreamsAndEncodersRun7 : State := stOf (withSess (user 2) (regs [(0x0B40, 1, 1)] { inState 6 Body.reset with media := { Body.reset.media with enc := [(0, { Enc.reset with jobs := [⟨7, 5, 64, 64, 64, 64, [], false, 1000⟩], rtp := 65535 })] } }))

def wStreamsAndEncodersRun8 : State := stOf (regs [(0x0A00, 1, 1), (0x0B48, 1, 0), (0x0B40, 1, 1)] { inState 6 Body.reset with media := { Body.reset.media with enc := [(0, { Enc.reset with jobs := [⟨7, 5, 64, 64, 64, 64, [], false, 1000⟩], rtp := 65535 })] } })

theorem witness_StreamsAndEncodersRun :
    (Grants wStreamsAndEncodersRun1 (askWrite 0x0B04 (31 + 1) (.n 1)) 0x0B04 (31 + 1) (.n 1) (user 2) ∧ wStreamsAndEncodersRun1.b.stream? 31 = none ∧ wStreamsAndEncodersRun1.b.regN 0x0B00 (31 + 1) = 0 ∧ wStreamsAndEncodersRun1.b.regN 0x0A1E (0 + 1) = 1 ∧ wStreamsAndEncodersRun1.b.regN 0x0A10 (0 + 1) = 2 ∧ wStreamsAndEncodersRun1.b.streamOf 0 = none ∧ wStreamsAndEncodersRun1.b.regN 0x0B02 (31 + 1) = 16 * 65536 + 8 ∧ wStreamsAndEncodersRun1.b.pickDecoder (wStreamsAndEncodersRun1.b.regN 0x0B01 (31 + 1)) (wStreamsAndEncodersRun1.b.streamLoad 0 16 8, wStreamsAndEncodersRun1.b.streamTurn 0) = some 0 ∧ wStreamsAndEncodersRun1.b.codecUsed + (wStreamsAndEncodersRun1.b.regN 0x0B03 (31 + 1) + 1) * 16 * 8 * 4 + 8388608 ≤ wStreamsAndEncodersRun1.b.forceN 0x1802 0 * 2 ^ 20 ∧ wStreamsAndEncodersRun1.b.forceN 0x0C58 0 * bufBytes 0 16 8 ≤ wStreamsAndEncodersRun1.b.layerFree) ∧
    (Grants wStreamsAndEncodersRun2 (askWrite 0x0B04 (31 + 1) (.n 0)) 0x0B04 (31 + 1) (.n 0) (user 2) ∧ (wStreamsAndEncodersRun2.b.stream? 31).isSome = true) ∧
    ((wStreamsAndEncodersRun2.b.nextStream 3 = some 31 ∧ (pic1 31).syntaxError = false ∧ (pic1 31).check ≠ .source ∧ wStreamsAndEncodersRun2.b.stream? 31 = some stream1 ∧ wStreamsAndEncodersRun2.b.nextAu 31 stream1 = ⟨100, 5, 1, 1, true, 10, 5, none⟩ :: [] ∧ wStreamsAndEncodersRun2.b.streamState 31 = 2 ∧ stream1.fits (pic1 31) = true) ∧
     (wStreamsAndEncodersRun2.b.nextStream 2 ≠ some 31) ∧
     (wStreamsAndEncodersRun2.b.stream? 31 = some stream1 ∧ stream1.aus = ⟨100, 5, 1, 1, true, 10, 5, none⟩ :: [] ∧ rateOf (wStreamsAndEncodersRun2.b.regN 0x0A19 (stream1.flow + 1)) = some (1001, 60000) ∧ 2 * 1001 * 1000000000 < (wStreamsAndEncodersRun2.clk.tb - 5) * 2 * 60000)) ∧
    (Grants wStreamsAndEncodersRun6 (askWrite 0x0B40 (1 + 1) (.n 1)) 0x0B40 (1 + 1) (.n 1) (user 2) ∧ wStreamsAndEncodersRun6.b.encOn 1 = false ∧ codedSize (field (wStreamsAndEncodersRun6.b.regN 0x0C23 0) 31 16) (field (wStreamsAndEncodersRun6.b.regN 0x0C23 0) 15 0) (wStreamsAndEncodersRun6.b.cfgNow.regN 0x0B3F 0) = ((codedSize 64 64 (wStreamsAndEncodersRun6.b.cfgNow.regN 0x0B3F 0)).1, (codedSize 64 64 (wStreamsAndEncodersRun6.b.cfgNow.regN 0x0B3F 0)).2) ∧ confTooBig (codedSize 64 64 (wStreamsAndEncodersRun6.b.cfgNow.regN 0x0B3F 0)).1 (codedSize 64 64 (wStreamsAndEncodersRun6.b.cfgNow.regN 0x0B3F 0)).2 (wStreamsAndEncodersRun6.b.fPic (if wStreamsAndEncodersRun6.b.live then wStreamsAndEncodersRun6.b.seq.mode.rate else wStreamsAndEncodersRun6.b.regN 0x0900 0) 1) = false) ∧
    (Grants wStreamsAndEncodersRun7 (askWrite 0x0B40 (0 + 1) (.n 0)) 0x0B40 (0 + 1) (.n 0) (user 2)) ∧
    ((wStreamsAndEncodersRun8.b.enc 0).jobs = ⟨7, 5, 64, 64, 64, 64, [], false, 1000⟩ :: [] ∧ wStreamsAndEncodersRun8.b.isActive = true ∧ wStreamsAndEncodersRun8.b.regN 0x0A00 (wStreamsAndEncodersRun8.b.regN 0x0B48 (0 + 1) + 1) = 1) :=
  ⟨⟨grants_ask _ _ _ rfl (by decide +kernel), by decide +kernel⟩,
   ⟨grants_ask _ _ _ rfl (by decide +kernel), by decide +kernel⟩,
   by decide +kernel,
   ⟨grants_ask _ _ _ rfl (by decide +kernel), by decide +kernel⟩,
   grants_ask _ _ _ rfl (by decide +kernel),
   by decide +kernel⟩

def ready0 (b : Body) : Body := b.setReg 0x1805 0 2
def withPc (p : Nat) (x : PseudoCh) (b : Body) : Body := { b with hbm := { b.hbm with pcs := [(p, x)] } }
def req1 (write : Bool) : MemReq := ⟨.cores, 4, 0, app + 60, write, if write then [1, 2, 3, 4] else [], 4, false⟩
def at1 : UnitAt := placeOf 2 ((app + 60) / 64)
def entry1 (write : Bool) : MemEntry := ⟨4, 0, .cores, app / 64, 60, write, if write then [1, 2, 3, 4] else [], 4, 9999999999990, false, none⟩

def wMemoryIsServed1 : State := stOf (ready0 (inState 6 Body.reset))

def wMemoryIsServed2 : State := stOf (withPc at1.pc { PseudoCh.reset with queues := [(at1.bank, List.replicate 8 (entry1 false))] } (ready0 (inState 6 Body.reset)))

def wMemoryIsServed5 : State := stOf (withPc 63 { PseudoCh.reset with queues := [(47, [entry1 false])], ptr := 5 } (ready0 (inState 6 Body.reset)))

def wMemoryIsServed6 : State := stOf (withPc 63 { PseudoCh.reset with act := [(47, entry1 false, 0, false)] } (ready0 (inState 6 Body.reset)))

def wMemoryIsServed7 : State := stOf (withPc 63 { PseudoCh.reset with act := [(47, entry1 true, 1, false)] } (ready0 (inState 6 Body.reset)))

def wMemoryIsServed8 : State := stOf (withPc 63 { PseudoCh.reset with act := [(47, entry1 false, 1, true)] } (ready0 { inState 6 Body.reset with mem := [(app + 61, 7)] }))

def wMemoryIsServed9 : State := stOf (let b := withPc 63 { PseudoCh.reset with act := [(47, { entry1 false with port := 12, buffer := 1, agent := .rake }, 1, false)] } (ready0 (inState 6 Body.reset)); { b with hbm := { b.hbm with repair := [(app / 64, 5, true)] } })

def wMemoryIsServed11 : State := stOf (withPc 63 { PseudoCh.reset with act := [(47, { entry1 false with port := 12, agent := .rake }, 4, true)] } (ready0 (inState 6 Body.reset)))

def wMemoryIsServed12 : State := stOf (withPc 63 { PseudoCh.reset with refPtr := 47 } (ready0 (inState 6 Body.reset)))

def wMemoryIsServed13 : State := stOf (let b := withPc 63 { PseudoCh.reset with refPtr := 47, queues := [(47, [entry1 false])] } (ready0 (inState 6 Body.reset)); { b with hbm := { b.hbm with panic := [(1, 11)] } })

def wMemoryIsServed14 : State := stOf (withPc 63 { PseudoCh.reset with refPtr := 47, owed := [(47, 8)], queues := [(47, [entry1 false])] } (ready0 (inState 6 Body.reset)))

def wMemoryIsServed16 : State := stOf (let b := ready0 (inState 6 Body.reset); { b with hbm := { b.hbm with repair := [(9, 5, false)], panic := [(1, 11)] } })

def wMemoryIsServed19 : State := stOf (regs [(0x1805, 0, 1)] (inState 2 Body.reset))

def wMemoryIsServed20 : State := stOf (ready0 (inState 6 Body.reset))

def wMemoryIsServed22 : State := stOf (let b := ready0 (inState 6 Body.reset); { b with hbm := { b.hbm with copies := [(app, 9), (app + 1, 8)] } })

def wMemoryIsServed24 : State := stOf (let b := withPc 63 { PseudoCh.reset with act := [(47, { entry1 false with port := corePort, cached := true }, 1, false)] } (ready0 (inState 6 Body.reset)); { b with hbm := { b.hbm with copies := [(app + 60, 9)] } })

theorem witness_MemoryIsServed :
    (((4 : Nat) ≠ corePort ∧ wMemoryIsServed1.b.regN 0x1805 0 = 2 ∧ wMemoryIsServed1.b.allowed .cores (app + 60) 4 true = true ∧ (0 : Nat) < 4 ∧ (app + 60) % 64 + 4 ≤ 64 ∧ at1.pc = (placeOf wMemoryIsServed1.b.hbm.order ((app + 60) / 64)).pc ∧ ((wMemoryIsServed1.b.pch at1.pc).queue at1.bank).length < 8 ∧ mgetD [] at1.bank (wMemoryIsServed1.b.pch at1.pc).fabric = []) ∧
     ((4 : Nat) ≠ corePort ∧ wMemoryIsServed2.b.regN 0x1805 0 = 2 ∧ wMemoryIsServed2.b.allowed .cores (app + 60) 4 true = true ∧ 8 ≤ ((wMemoryIsServed2.b.pch at1.pc).queue at1.bank).length) ∧
     ((4 : Nat) ≠ corePort ∧ wMemoryIsServed1.b.regN 0x1805 0 = 2 ∧ wMemoryIsServed1.b.allowed .cores (app + 60) 5 true = true ∧ (app + 60) / 64 ≤ app / 64 + 1 ∧ 64 * (app / 64 + 1) < app + 60 + 5)) ∧
    (((4 : Nat) ≠ corePort ∧ wMemoryIsServed1.b.regN 0x1805 0 = 2 ∧ wMemoryIsServed1.b.allowed .cores 0 4 true = false ∧ (4 : Nat) ≠ 12) ∧
     (wMemoryIsServed5.b.regN 0x1805 0 = 2 ∧ (none : Option Nat).bind (fun j => mfind j (wMemoryIsServed5.b.pch 63).act) = none ∧ wMemoryIsServed5.b.refreshFirst (wMemoryIsServed5.b.pch 63) = none ∧ pickBank (wMemoryIsServed5.b.pch 63).ptr (wMemoryIsServed5.b.openBanks wMemoryIsServed5.env (wMemoryIsServed5.b.pch 63) [47]) = some (47, wMemoryIsServed5.b.prio wMemoryIsServed5.env (entry1 false)) ∧ (wMemoryIsServed5.b.pch 63).queue 47 = entry1 false :: []) ∧
     (wMemoryIsServed6.b.regN 0x1805 0 = 2 ∧ mfind 47 (wMemoryIsServed6.b.pch 63).act = some (entry1 false, 0, false))) ∧
    ((wMemoryIsServed7.b.regN 0x1805 0 = 2 ∧ mfind 47 (wMemoryIsServed7.b.pch 63).act = some (entry1 true, 1, false) ∧ (entry1 true).port ≠ 12 ∧ (entry1 true).dma = none ∧ (entry1 true).write = true ∧ EccFound.clean ≠ .command) ∧
     (wMemoryIsServed8.b.regN 0x1805 0 = 2 ∧ mfind 47 (wMemoryIsServed8.b.pch 63).act = some (entry1 false, 1, true) ∧ (entry1 false).port ≠ 12 ∧ (entry1 false).dma = none ∧ (entry1 false).write = false) ∧
     (wMemoryIsServed9.b.regN 0x1805 0 = 2 ∧ mfind 47 (wMemoryIsServed9.b.pch 63).act = some ({ entry1 false with port := 12, buffer := 1, agent := .rake }, 1, false))) ∧
    ((wMemoryIsServed9.b.regN 0x1805 0 = 2 ∧ mfind 47 (wMemoryIsServed9.b.pch 63).act = some ({ entry1 false with port := 12, buffer := 1, agent := .rake }, 1, false)) ∧
     (wMemoryIsServed11.b.regN 0x1805 0 = 2 ∧ mfind 47 (wMemoryIsServed11.b.pch 63).act = some ({ entry1 false with port := 12, agent := .rake }, 4, true)) ∧
     (wMemoryIsServed12.b.regN 0x1805 0 = 2 ∧ (wMemoryIsServed12.b.pch 63).quiet = true)) ∧
    ((wMemoryIsServed13.b.regN 0x1805 0 = 2 ∧ (wMemoryIsServed13.b.pch 63).quiet = false ∧ mgetD 0 (wMemoryIsServed13.b.pch 63).refPtr (wMemoryIsServed13.b.pch 63).owed < 8 ∧ wMemoryIsServed13.b.readPanic = true) ∧
     (wMemoryIsServed14.b.regN 0x1805 0 = 2 ∧ 8 ≤ mgetD 0 (wMemoryIsServed14.b.pch 63).refPtr (wMemoryIsServed14.b.pch 63).owed) ∧
     (wMemoryIsServed1.b.regN 0x1805 0 = 2 ∧ 1 < Nat.max 1 wMemoryIsServed1.b.assignedUnits)) ∧
    (((9, 5, false) ∈ wMemoryIsServed16.b.hbm.repair ∧ wMemoryIsServed16.env.after 5 1000000 = true) ∧
     (3 < [48, 12, 4].getD 2 0 ∧ 0 < wMemoryIsServed16.b.regN 0x1809 (2 + 1) ∧ (2, 3) ∉ wMemoryIsServed16.b.hbm.panic) ∧
     (11 < [48, 12, 4].getD 1 0 ∧ wMemoryIsServed16.b.regN 0x1809 (1 + 1) + 10 ≤ 100)) ∧
    ((wMemoryIsServed19.b.regN 0x1805 0 ≠ 2 ∧ (req1 false).port ≠ corePort ∧ (req1 false).port ≠ 12) ∧
     (wMemoryIsServed20.b.coreSpot 0x300000000 4 = .nothing) ∧
     (wMemoryIsServed20.b.coreSpot 0x400000000 4 = .region app)) ∧
    ((wMemoryIsServed22.b.coreSpot 0x400000000 2 = .region app ∧ wMemoryIsServed22.b.holdsCopies app 2 = true) ∧
     (wMemoryIsServed22.b.coreSpot 0x400000000 2 = .region app) ∧
     (wMemoryIsServed24.b.regN 0x1805 0 = 2 ∧ mfind 47 (wMemoryIsServed24.b.pch 63).act = some ({ entry1 false with port := corePort, cached := true }, 1, false))) :=
  ⟨by decide +kernel,
   by decide +kernel,
   by decide +kernel,
   by decide +kernel,
   by decide +kernel,
   by decide +kernel,
   by decide +kernel,
   by decide +kernel⟩

def dmaAt (c : Nat) (ws : List Nat) (x : DmaCh) : Body :=
  { ready0 (regs [(0x1902, c + 1, 1)] (inState 6 Body.reset)) with mem := cells app (ws.map (le 8)).flatten, dma := [(c, { x with pc := app })] }
def ch0 : DmaCh := { DmaCh.reset with budget := 1000, timeout := 1000 }
def write1 : DmaReq := ⟨3, 5, app + 4096, 2, true, [8, 9], none⟩
def dmaWrite1 : MemEntry := ⟨9, 0, .engines, app / 64 + 64, 0, true, [8, 9], 2, 9999999999990, false, some (0, 3)⟩

def wChannelsRun1 : State := stOf (inState 6 Body.reset)

def wChannelsRun2 : State := stOf (dmaAt 0 [] ch0)

def wChannelsRun4 : State := stOf (dmaAt 31 [2 ^ 56 + 65, app + 4096, app + 8192] { ch0 with reqs := [write1] })

def wChannelsRun6 : State := stOf (dmaAt 0 [2 ^ 56 + 65, app + 4096, app + 4160] ch0)

def wChannelsRun7 : State := stOf (dmaAt 0 [2 * 2 ^ 56 + 2 ^ 48 + 8, app + 4096, app + 8192, 2 * 2 ^ 40 + 64] ch0)

def wChannelsRun8 : State := stOf (dmaAt 0 [2 * 2 ^ 56 + 2 ^ 48 + 8, app + 4096, app + 8192, 17 * 2 ^ 40 + 64] ch0)

def wChannelsRun9 : State := stOf (dmaAt 0 [3 * 2 ^ 56 + 7 * 2 ^ 32 + 2] { ch0 with loops := [⟨app, app + 24, 0, 0⟩] })

def wChannelsRun10 : State := stOf (dmaAt 0 [3 * 2 ^ 56 + 7 * 2 ^ 32 + 2] { ch0 with loops := List.replicate 4 ⟨app, app + 64, 0, 0⟩ })

def wChannelsRun11 : State := stOf (dmaAt 0 [4 * 2 ^ 56 + 2 * 2 ^ 48, 1000] ch0)

def wChannelsRun12 : State := stOf (dmaAt 0 [4 * 2 ^ 56 + 2 * 2 ^ 48, 0] ch0)

def wChannelsRun13 : State := stOf (regs [(0x1902, 1, 2)] (dmaAt 0 [] { ch0 with wait := some ⟨2, 1000, 0, 5, 5, false⟩ }))

def wChannelsRun14 : State := stOf (dmaAt 31 [5 * 2 ^ 56 + 77] ch0)

def wChannelsRun15 : State := stOf (dmaAt 0 [5 * 2 ^ 56 + 2 ^ 48 + 63 * 2 ^ 32 + (2 ^ 32 - 1)] ch0)

def wChannelsRun16 : State := stOf (dmaAt 0 [5 * 2 ^ 56 + 77] { ch0 with reqs := [write1] })

def wChannelsRun17 : State := stOf (dmaAt 0 [6 * 2 ^ 56 + 1] ch0)

def wChannelsRun18 : State := stOf (dmaAt 0 [6 * 2 ^ 56] { ch0 with reqs := [write1] })

def wChannelsRun19 : State := stOf (regs [(0x1902, 1, 4)] (dmaAt 0 [] { ch0 with reqs := [{ write1 with ans := some .ok }] }))

def wChannelsRun20 : State := stOf (regs [(0x1902, 1, 4)] (dmaAt 0 [] { ch0 with reqs := [{ write1 with ans := some .memerr }] }))

def wChannelsRun21 : State := stOf (regs [(0x1902, 1, 4)] (dmaAt 0 [] { ch0 with reqs := [{ write1 with ans := some .firewall }] }))

def wChannelsRun22 : State := stOf (regs [(0x1902, 1, 4)] (dmaAt 0 [] { ch0 with reqs := [write1] }))

def wChannelsRun24 : State := stOf (regs [(0x1902, 1, 4)] (dmaAt 0 [] { ch0 with reqs := [{ write1 with id := 2, len := 1, data := [7] }, { write1 with ans := some .ok }] }))

def wChannelsRun25 : State := stOf (withPc 63 { PseudoCh.reset with act := [(47, dmaWrite1, 1, false)] } (dmaAt 0 [] { ch0 with reqs := [write1] }))

def wChannelsRun26 : State := stOf (withPc 63 { PseudoCh.reset with act := [(47, { dmaWrite1 with write := false, data := [] }, 1, false)] } { dmaAt 0 [] { ch0 with reqs := [{ write1 with write := false, data := [] }] } with mem := [(app + 4096, 8)] })

theorem witness_ChannelsRun :
    ((wChannelsRun1.b.chState 31 = chIdle) ∧
     (wChannelsRun2.b.chState 0 = chRunning) ∧
     (wChannelsRun2.b.chState 0 = chRunning ∧ (wChannelsRun2.b.ch 0).reqs = [])) ∧
    (wChannelsRun4.b.chState 31 = chRunning ∧ (wChannelsRun4.b.ch 31).reqs ≠ []) ∧
    ((AtInstr wChannelsRun4.b 31 1 3 ∧ app + 4096 = (wChannelsRun4.b.ch 31).addr (wChannelsRun4.b.word 31 1) ∧ app + 8192 = (wChannelsRun4.b.ch 31).addr (wChannelsRun4.b.word 31 2) ∧ 65 = field (wChannelsRun4.b.word 31 0) 31 0 ∧ meet (app + 4096) 65 (app + 8192) 65 = false ∧ (wChannelsRun4.b.ch 31).reqs.length < 64) ∧
     (AtInstr wChannelsRun6.b 0 1 3 ∧ app + 4096 = (wChannelsRun6.b.ch 0).addr (wChannelsRun6.b.word 0 1) ∧ app + 4160 = (wChannelsRun6.b.ch 0).addr (wChannelsRun6.b.word 0 2) ∧ 65 = field (wChannelsRun6.b.word 0 0) 31 0 ∧ meet (app + 4096) 65 (app + 4160) 65 = true) ∧
     (AtInstr wChannelsRun7.b 0 2 4 ∧ (moveXOf ((upFrom 0 4).map (wChannelsRun7.b.word 0))).ok = true ∧ (∀ a ∈ srcRanges ((upFrom 0 4).map (wChannelsRun7.b.word 0)), ∀ d ∈ dstRanges ((upFrom 0 4).map (wChannelsRun7.b.word 0)), meet ((wChannelsRun7.b.ch 0).addr (wChannelsRun7.b.word 0 1) + a.1) a.2 ((wChannelsRun7.b.ch 0).addr (wChannelsRun7.b.word 0 2) + d.1) d.2 = false))) ∧
    ((AtInstr wChannelsRun8.b 0 2 4 ∧ (moveXOf ((upFrom 0 4).map (wChannelsRun8.b.word 0))).ok = false) ∧
     (AtInstr wChannelsRun9.b 0 3 1 ∧ app + 24 = (wChannelsRun9.b.ch 0).pc + 8 + 8 * field (wChannelsRun9.b.word 0 0) 15 0 ∧ (wChannelsRun9.b.ch 0).loops.length < 4 ∧ (wChannelsRun9.b.ch 0).loops = ⟨app, app + 24, 0, 0⟩ :: [] ∧ app + 24 ≤ app + 24) ∧
     (AtInstr wChannelsRun10.b 0 3 1 ∧ 4 ≤ (wChannelsRun10.b.ch 0).loops.length)) ∧
    ((AtInstr wChannelsRun11.b 0 4 2 ∧ wChannelsRun11.b.waitMet wChannelsRun11.env ⟨field (wChannelsRun11.b.word 0 0) 55 48, wChannelsRun11.b.word 0 1, field (wChannelsRun11.b.word 0 0) 9 0, wChannelsRun11.env.follow 57, wChannelsRun11.clk.tb, false⟩ = false) ∧
     (AtInstr wChannelsRun12.b 0 4 2 ∧ wChannelsRun12.b.waitMet wChannelsRun12.env ⟨field (wChannelsRun12.b.word 0 0) 55 48, wChannelsRun12.b.word 0 1, field (wChannelsRun12.b.word 0 0) 9 0, wChannelsRun12.env.follow 57, wChannelsRun12.clk.tb, false⟩ = true)) ∧
    ((wChannelsRun13.b.ch 0).wait = some ⟨2, 1000, 0, 5, 5, false⟩ ∧ wChannelsRun13.b.chState 0 = chWaiting ∧ wChannelsRun13.b.waitMet wChannelsRun13.env ⟨2, 1000, 0, 5, 5, false⟩ = true) ∧
    ((AtInstr wChannelsRun14.b 31 5 1 ∧ (∀ q ∈ (wChannelsRun14.b.ch 31).reqs, q.write = false) ∧ field (wChannelsRun14.b.word 31 0) 55 48 = 0) ∧
     (AtInstr wChannelsRun15.b 0 5 1 ∧ (∀ q ∈ (wChannelsRun15.b.ch 0).reqs, q.write = false) ∧ field (wChannelsRun15.b.word 0 0) 55 48 ≠ 0 ∧ 63 = field (wChannelsRun15.b.word 0 0) 37 32) ∧
     (AtInstr wChannelsRun16.b 0 5 1 ∧ write1 ∈ (wChannelsRun16.b.ch 0).reqs ∧ write1.write = true)) ∧
    ((AtInstr wChannelsRun17.b 0 6 1 ∧ (wChannelsRun17.b.ch 0).reqs = [] ∧ bit (wChannelsRun17.b.word 0 0) 0 = true) ∧
     (AtInstr wChannelsRun18.b 0 6 1 ∧ (wChannelsRun18.b.ch 0).reqs ≠ [])) ∧
    (((wChannelsRun19.b.ch 0).reqs.find? (fun r => r.id == 3) = some { write1 with ans := some .ok } ∧ (wChannelsRun19.b.ch 0).behind { write1 with ans := some .ok } = false ∧ write1.write = true ∧ (wChannelsRun19.b.ch 0).reqs = [{ write1 with ans := some .ok }] ∧ (wChannelsRun19.b.ch 0).work = none ∧ wChannelsRun19.b.chState 0 = chStopping) ∧
     ((wChannelsRun20.b.ch 0).reqs.find? (fun r => r.id == 3) = some { write1 with ans := some .memerr } ∧ (wChannelsRun20.b.ch 0).behind { write1 with ans := some .memerr } = false) ∧
     ((wChannelsRun21.b.ch 0).reqs.find? (fun r => r.id == 3) = some { write1 with ans := some .firewall } ∧ (wChannelsRun21.b.ch 0).behind { write1 with ans := some .firewall } = false)) ∧
    ((write1 ∈ (wChannelsRun22.b.ch 0).reqs ∧ (wChannelsRun22.b.ch 0).wait = none ∧ wChannelsRun22.env.after write1.tb (wChannelsRun22.b.ch 0).timeout = true) ∧
     ((wChannelsRun22.b.ch 0).reqs.find? (fun r => r.id == 3) = some write1 ∧ write1.ans ≠ some .ok) ∧
     ((wChannelsRun24.b.ch 0).reqs.find? (fun r => r.id == 3) = some { write1 with ans := some .ok } ∧ (wChannelsRun24.b.ch 0).behind { write1 with ans := some .ok } = true)) ∧
    ((wChannelsRun25.b.regN 0x1805 0 = 2 ∧ mfind 47 (wChannelsRun25.b.pch 63).act = some (dmaWrite1, 1, false) ∧ dmaWrite1.port ≠ 12 ∧ dmaWrite1.dma = some (0, 3) ∧ write1 ∈ (wChannelsRun25.b.ch 0).reqs ∧ write1.id = 3 ∧ dmaWrite1.write = true ∧ dmaWrite1.unit * 64 + dmaWrite1.off < sramBase) ∧
     (wChannelsRun26.b.regN 0x1805 0 = 2 ∧ mfind 47 (wChannelsRun26.b.pch 63).act = some ({ dmaWrite1 with write := false, data := [] }, 1, false) ∧ (wChannelsRun26.b.ch 0).reqs = [{ write1 with write := false, data := [] }])) :=
  ⟨by decide +kernel,
   by decide +kernel,
   by unfold AtInstr; decide +kernel,
   by unfold AtInstr; decide +kernel,
   by unfold AtInstr; decide +kernel,
   by decide +kernel,
   by unfold AtInstr; decide +kernel,
   by unfold AtInstr; decide +kernel,
   by decide +kernel,
   by decide +kernel,
   by decide +kernel⟩

def serving (b : Body) : Body := let c := regs [(0x0220, 1, 1), (0x0220, 32, 1), (0x0221, 1, 4), (0x0221, 32, 2)] b; { c with dev := { c.dev with fw := true } }
def hand1 (cred tb : Nat) : Handshake := ⟨8, 0, cred, .ipv4, [1], 30, [1, 2], [3, 4], tb⟩
def proving (cred tb : Nat) : Body := let b := regs [(0x0224, 32, 4)] (serving (inState 5 Body.reset)); { b with dict := { b.dict with hand := [hand1 cred tb] } }

def wSessionsOpenAndEnd1 : State := stOf (serving (inState 5 Body.reset))

def wSessionsOpenAndEnd3 : State := stOf (proving 31 9999999999999)

def wSessionsOpenAndEnd5 : State := stOf (proving 31 5)

def wSessionsOpenAndEnd6 : State := stOf (let b := regs [(0x0224, 32, 5), (0x0226, 32, 6)] (serving (inState 5 Body.reset)); { b with dict := { b.dict with lockEnd := [(31, 10000000000000)], lastFail := [(31, 5)] } })

def wSessionsOpenAndEnd7 : State := { stOf (let b := regs [(0x0226, 32, 6)] (serving (inState 5 Body.reset)); { b with dict := { b.dict with lastFail := [(31, 5)] } }) with clk := ⟨10, 0, 0, 2 ^ 41, 100000000000000⟩ }

def wSessionsOpenAndEnd8 : State := stOf (withSess (user 4) (serving (inState 5 Body.reset)))

def wSessionsOpenAndEnd12 : State := stOf (proving 31 9999999999999)

theorem witness_SessionsOpenAndEnd :
    ((wSessionsOpenAndEnd1.b.serves .ipv4 = true ∧ wSessionsOpenAndEnd1.b.helloBad wSessionsOpenAndEnd1.env .ipv4 1 31 = none ∧ wSessionsOpenAndEnd1.b.freeSlot = some 0) ∧
     (wSessionsOpenAndEnd1.b.serves .ipv4 = true ∧ wSessionsOpenAndEnd1.b.helloBad wSessionsOpenAndEnd1.env .ipv4 2 31 = some (6, 0)) ∧
     (wSessionsOpenAndEnd3.b.serves .ipv4 = true ∧ wSessionsOpenAndEnd3.b.dict.hand.find? (fun h => h.sid == 8 && h.via == .ipv4 && h.peer == [1]) = some (hand1 31 9999999999999) ∧ wSessionsOpenAndEnd3.env.beyond (hand1 31 9999999999999).tb 5000000000 = false)) ∧
    ((hmac (wSessionsOpenAndEnd3.b.credOf 31).1 (ascii "IDP prove" ++ [1, 2] ++ [3, 4] ++ paramBlock 8 31 30) ≠ [7] ∧ wSessionsOpenAndEnd3.b.regN 0x0224 (31 + 1) = 4) ∧
     (hand1 31 5 ∈ wSessionsOpenAndEnd5.b.dict.hand ∧ wSessionsOpenAndEnd5.env.beyond (hand1 31 5).tb 5000000000 = true) ∧
     (mfind 31 wSessionsOpenAndEnd6.b.dict.lockEnd = some 10000000000000 ∧ 10000000000000 ≤ wSessionsOpenAndEnd6.clk.tb)) ∧
    ((mfind 31 wSessionsOpenAndEnd7.b.dict.lastFail = some 5 ∧ wSessionsOpenAndEnd7.env.after 5 86400000000000 = true) ∧
     (wSessionsOpenAndEnd8.b.sess? 0 = some (user 4) ∧ wSessionsOpenAndEnd8.env.after (user 4).last ((user 4).idle * 1000000000) = true)) ∧
    (Grants wSessionsOpenAndEnd8 (askWrite 0x0206 (0 + 1) (.n 1)) 0x0206 (0 + 1) (.n 1) (user 4) ∧ (wSessionsOpenAndEnd8.b.sess? 0).isSome = true) ∧
    (Takes wSessionsOpenAndEnd8 (ask 0x3F ([9])) 0x3F ([9]) (user 4)) ∧
    (Takes wSessionsOpenAndEnd8 (ask 0x3E ([9])) 0x3E ([9]) (user 4)) ∧
    (2 ≠ 1 ∧ wSessionsOpenAndEnd12.b.serves .ipv4 = true ∧ wSessionsOpenAndEnd12.b.dict.hand.find? (fun h => h.sid == 8 && h.via == .ipv4 && h.peer == [1]) = some (hand1 31 9999999999999)) :=
  ⟨by decide +kernel,
   by decide +kernel,
   by decide +kernel,
   ⟨grants_ask _ _ _ rfl (by decide +kernel), by decide +kernel⟩,
   takes_ask _ _ rfl (by decide +kernel),
   takes_ask _ _ rfl (by decide +kernel),
   by decide +kernel⟩


def wEntriesAreReadAndWritten1 : State := stOf (withSess (user 4) (inState 5 Body.reset))

def wEntriesAreReadAndWritten4 : State := stOf (withSess (user 3) (inState 5 Body.reset))

def wEntriesAreReadAndWritten7 : State := stOf (withSess (user 3) (inState 5 Body.reset))

def wEntriesAreReadAndWritten8 : State := stOf (withSess (user 2) (regs [(0x030F, 107, 2 ^ 31 + 9)] (inState 5 Body.reset)))

def wEntriesAreReadAndWritten9 : State := stOf { inState 5 Body.reset with ev := { Body.reset.ev with linePending := 7 } }

def wEntriesAreReadAndWritten10 : State := stOf (withSess { user 4 with cred := 5 } (serving (inState 5 Body.reset)))

def wEntriesAreReadAndWritten13 : State := stOf (withSess (user 4) (withOp 0x0416 [] (withOp 0x041B [] (inState 5 Body.reset))))

def wEntriesAreReadAndWritten15 : State := stOf (withSess (user 4) (regs [(0x0410, 2, 2)] (withOp 0x0410 [] (inState 5 Body.reset))))

def wEntriesAreReadAndWritten17 : State := stOf (withSess (user 4) (withOp 0x041A [] (inState 5 Body.reset)))

def wEntriesAreReadAndWritten18 : State := stOf (withSess (user 3) (regs [(0x1410, 2, 5)] (inState 5 Body.reset)))

def wEntriesAreReadAndWritten19 : State := stOf (withSess (user 4) (withOp 0x0410 [] (inState 5 Body.reset)))

def wEntriesAreReadAndWritten20 : State := stOf (withSess (user 4) (withOp 0x0417 [] (inState 5 Body.reset)))

def wEntriesAreReadAndWritten21 : State := stOf (withSess (user 4) (withOp 0x0413 [] (inState 5 Body.reset)))

def wEntriesAreReadAndWritten22 : State := stOf (withSess (user 4) (withOp 0x0414 [] (inState 5 Body.reset)))

def wEntriesAreReadAndWritten23 : State := stOf (regs [(0x0410, 2, 3)] (withOp 0x0410 [] (inState 5 Body.reset)))

def wEntriesAreReadAndWritten24 : State := stOf (regs [(0x0411, 2, 3)] (withOp 0x0411 [] (inState 5 Body.reset)))

def wEntriesAreReadAndWritten25 : State := stOf (regs [(0x0415, 2, 3)] (withOp 0x0415 [] (inState 5 Body.reset)))

def wEntriesAreReadAndWritten26 : State := stOf (regs [(0x0416, 2, 3)] (withOp 0x0416 [] (inState 5 Body.reset)))

def wEntriesAreReadAndWritten27 : State := stOf (regs [(0x0417, 2, 3)] (withOp 0x0417 [] (inState 5 Body.reset)))

def wEntriesAreReadAndWritten28 : State := stOf (regs [(0x041b, 2, 3)] (withOp 0x041b [] (inState 5 Body.reset)))

def wEntriesAreReadAndWritten29 : State := stOf (let b := withSess (user 4) (withOp 0x041B [] (inState 5 Body.reset)); { b with si := { b.si with run := some ⟨[0], 0, false, false, false⟩ } })

def wEntriesAreReadAndWritten30 : State := stOf (let b := withSess (user 4) (withOp 0x041B [] (inState 5 Body.reset)); { b with si := { b.si with run := some ⟨[0], 0, false, true, false⟩ } })

theorem witness_EntriesAreReadAndWritten :
    (Takes wEntriesAreReadAndWritten1 (ask 0x10 (readBody 0x0001 0 64)) 0x10 (readBody 0x0001 0 64) (user 4) ∧ lookup 0x0001 0 = none) ∧
    (Takes wEntriesAreReadAndWritten1 (ask 0x10 (readBody 0x0803 0 1)) 0x10 (readBody 0x0803 0 1) (user 4) ∧ (lookup 0x0803 0).isSome = true ∧ lookup 0x0803 1 = none) ∧
    (Takes wEntriesAreReadAndWritten1 (ask 0x10 (readBody 0x0A05 4 1)) 0x10 (readBody 0x0A05 4 1) (user 4) ∧ (lookup 0x0A05 4).isSome = true ∧ 1 ≤ 4) ∧
    (Grants wEntriesAreReadAndWritten4 (askWrite 0x0803 (0) (.n 1000)) 0x0803 (0) (.n 1000) (user 3)) ∧
    (Grants wEntriesAreReadAndWritten1 (askWrite 0x0C58 (0) (.n 5)) 0x0C58 (0) (.n 5) (user 4)) ∧
    (Takes wEntriesAreReadAndWritten1 (ask 0x14 (describeBody 0x0C58 0)) 0x14 (describeBody 0x0C58 0) (user 4)) ∧
    (Grants wEntriesAreReadAndWritten7 (askWrite (0x0300 + 352 / 128) (352 % 128 + 1) (.n ((3 * 2 ^ 20 : Nat) : Int))) (0x0300 + 352 / 128) (352 % 128 + 1) (.n ((3 * 2 ^ 20 : Nat) : Int)) (user 3) ∧ field (evtConfigDefault 352) 27 26 ≠ 3 ∧ field (3 * 2 ^ 20) 27 26 ≠ 3 ∧ (user 3).role = 3) ∧
    (Grants wEntriesAreReadAndWritten8 (askWrite (0x0308 + 1002 / 128) (1002 % 128 + 1) (.n ((1 : Nat) : Int))) (0x0308 + 1002 / 128) (1002 % 128 + 1) (.n ((1 : Nat) : Int)) (user 2) ∧ 2 ^ 31 + 9 = wEntriesAreReadAndWritten8.b.regN (0x0308 + 1002 / 128) (1002 % 128 + 1)) ∧
    (Grants wEntriesAreReadAndWritten10 (askWrite 0x0223 (31 + 1) (.b (List.replicate 32 0))) 0x0223 (31 + 1) (.b (List.replicate 32 0)) ({ user 4 with cred := 5 }) ∧ (List.replicate 32 (0 : Byte)).length = 32 ∧ ((List.replicate 32 (0 : Byte)).zip (hkdf [] [] (ascii "IDP wrap" ++ be 1 31 ++ be 4 1) 32)).map (fun p => p.1 ^^^ p.2) ≠ List.replicate 32 0) ∧
    (Grants wEntriesAreReadAndWritten10 (askWrite 0x0221 (31 + 1) (.n ((3 : Nat) : Int))) 0x0221 (31 + 1) (.n ((3 : Nat) : Int)) ({ user 4 with cred := 5 }) ∧ (wEntriesAreReadAndWritten10.b.setReg 0x0221 (31 + 1) (3 : Nat)).custodians ≠ []) ∧
    (Grants wEntriesAreReadAndWritten10 (askWrite 0x0220 (0 + 1) (.n ((0 : Nat) : Int))) 0x0220 (0 + 1) (.n ((0 : Nat) : Int)) ({ user 4 with cred := 5 }) ∧ wEntriesAreReadAndWritten10.b.custodians ≠ [] ∧ (wEntriesAreReadAndWritten10.b.setReg 0x0220 (0 + 1) (0 : Nat)).custodians = []) ∧
    (Grants wEntriesAreReadAndWritten13 (askWrite 0x0416 (1) (.n 2)) 0x0416 (1) (.n 2) (user 4) ∧ 0x0416 ∈ [0x0410, 0x0411, 0x0415, 0x0416] ∧ wEntriesAreReadAndWritten13.b.opState 0x0416 = 1) ∧
    (Grants wEntriesAreReadAndWritten13 (askWrite 0x041B (1) (.n 2)) 0x041B (1) (.n 2) (user 4) ∧ 0x041B ∈ [0x0412, 0x0413, 0x0414, 0x0417, 0x0418, 0x0419, 0x041A, 0x041B] ∧ wEntriesAreReadAndWritten13.b.opState 0x041B = 1) ∧
    (Grants wEntriesAreReadAndWritten15 (askWrite 0x0410 (1) (.n 3)) 0x0410 (1) (.n 3) (user 4) ∧ wEntriesAreReadAndWritten15.b.opState 0x0410 = 2) ∧
    (Grants wEntriesAreReadAndWritten15 (askWrite 0x0410 (1) (.n 4)) 0x0410 (1) (.n 4) (user 4) ∧ 0x0410 ∈ [0x0410, 0x0411, 0x0415, 0x0416] ∧ wEntriesAreReadAndWritten15.b.opState 0x0410 = 2) ∧
    (Grants wEntriesAreReadAndWritten17 (askWrite 0x041A (1) (.n 4)) 0x041A (1) (.n 4) (user 4) ∧ 0x041A ∈ [0x0418, 0x0419, 0x041A] ∧ wEntriesAreReadAndWritten17.b.opState 0x041A = 1) ∧
    (Grants wEntriesAreReadAndWritten18 (askWrite 0x1410 (1) (.n 3)) 0x1410 (1) (.n 3) (user 3) ∧ (wEntriesAreReadAndWritten18.b.pan (1 - 1)).queue = []) ∧
    (Grants wEntriesAreReadAndWritten19 (askWrite 0x0410 (1) (.n 4)) 0x0410 (1) (.n 4) (user 4) ∧ 0x0410 ∈ [0x0410, 0x0411, 0x0415, 0x0416, 0x0417] ∧ wEntriesAreReadAndWritten19.b.opState 0x0410 = 1) ∧
    (Grants wEntriesAreReadAndWritten20 (askWrite 0x0417 (1) (.n 4)) 0x0417 (1) (.n 4) (user 4) ∧ 0x0417 ∈ [0x0410, 0x0411, 0x0415, 0x0416, 0x0417] ∧ wEntriesAreReadAndWritten20.b.opState 0x0417 = 1) ∧
    (Grants wEntriesAreReadAndWritten21 (askWrite 0x0413 (1) (.n 4)) 0x0413 (1) (.n 4) (user 4) ∧ 0x0413 ∈ [0x0413, 0x0414] ∧ wEntriesAreReadAndWritten21.b.opState 0x0413 = 1) ∧
    (Grants wEntriesAreReadAndWritten22 (askWrite 0x0414 (1) (.n 4)) 0x0414 (1) (.n 4) (user 4) ∧ 0x0414 ∈ [0x0413, 0x0414] ∧ wEntriesAreReadAndWritten22.b.opState 0x0414 = 1) ∧
    ((wEntriesAreReadAndWritten23.b.opState 0x0410 = 3) ∧
     (wEntriesAreReadAndWritten24.b.opState 0x0411 = 3) ∧
     (wEntriesAreReadAndWritten25.b.opState 0x0415 = 3)) ∧
    ((wEntriesAreReadAndWritten26.b.opState 0x0416 = 3) ∧
     (wEntriesAreReadAndWritten27.b.opState 0x0417 = 3) ∧
     (wEntriesAreReadAndWritten28.b.opState 0x041b = 3)) ∧
    (Grants wEntriesAreReadAndWritten29 (askWrite 0x041B (1) (.n 4)) 0x041B (1) (.n 4) (user 4) ∧ wEntriesAreReadAndWritten29.b.opState 0x041B = 1 ∧ wEntriesAreReadAndWritten29.b.si.run = some ⟨[0], 0, false, false, false⟩) ∧
    (Grants wEntriesAreReadAndWritten30 (askWrite 0x041B (1) (.n 4)) 0x041B (1) (.n 4) (user 4) ∧ wEntriesAreReadAndWritten30.b.opState 0x041B = 1 ∧ wEntriesAreReadAndWritten30.b.si.run = some ⟨[0], 0, false, true, false⟩) :=
  ⟨⟨takes_ask _ _ rfl (by decide +kernel), by decide +kernel⟩,
   ⟨takes_ask _ _ rfl (by decide +kernel), by decide +kernel⟩,
   ⟨takes_ask _ _ rfl (by decide +kernel), by decide +kernel⟩,
   grants_ask _ _ _ rfl (by decide +kernel),
   grants_ask _ _ _ rfl (by decide +kernel),
   takes_ask _ _ rfl (by decide +kernel),
   ⟨grants_ask _ _ _ rfl (by decide +kernel), by decide +kernel⟩,
   ⟨grants_ask _ _ _ rfl (by decide +kernel), by decide +kernel⟩,
   ⟨grants_ask _ _ _ rfl (by decide +kernel), by decide +kernel⟩,
   ⟨grants_ask _ _ _ rfl (by decide +kernel), by decide +kernel⟩,
   ⟨grants_ask _ _ _ rfl (by decide +kernel), by decide +kernel⟩,
   ⟨grants_ask _ _ _ rfl (by decide +kernel), by decide +kernel⟩,
   ⟨grants_ask _ _ _ rfl (by decide +kernel), by decide +kernel⟩,
   ⟨grants_ask _ _ _ rfl (by decide +kernel), by decide +kernel⟩,
   ⟨grants_ask _ _ _ rfl (by decide +kernel), by decide +kernel⟩,
   ⟨grants_ask _ _ _ rfl (by decide +kernel), by decide +kernel⟩,
   ⟨grants_ask _ _ _ rfl (by decide +kernel), by decide +kernel⟩,
   ⟨grants_ask _ _ _ rfl (by decide +kernel), by decide +kernel⟩,
   ⟨grants_ask _ _ _ rfl (by decide +kernel), by decide +kernel⟩,
   ⟨grants_ask _ _ _ rfl (by decide +kernel), by decide +kernel⟩,
   ⟨grants_ask _ _ _ rfl (by decide +kernel), by decide +kernel⟩,
   by decide +kernel,
   by decide +kernel,
   ⟨grants_ask _ _ _ rfl (by decide +kernel), by decide +kernel⟩,
   ⟨grants_ask _ _ _ rfl (by decide +kernel), by decide +kernel⟩⟩

def mover (wr rd : Option Transfer) : Session := { user 3 with wr := wr, rd := rd }
def wr1 : Transfer := ⟨9, 0x1508, 0, 2048, List.replicate 1024 7, [], 0, 1024, 5, []⟩
def wr2 : Transfer := ⟨9, 0x1010, 0, 4, [], [], 4, 4, 5, []⟩
def rd1 : Transfer := ⟨9, 0x1508, 0, 3, [1, 2, 3], [], 3, 0, 5, [(0, 5)]⟩
def rec1 : EvRec := ⟨5, 352, 1, 0, 0, 1⟩
def gathering : Session := { user 3 with gather := [rec1], gatherTb := some 5, sent := [⟨4, 2, [rec1], 2, 5⟩, ⟨5, 0, [rec1], 3, 5⟩] }

def wTransfersAndNotificationsFlow1 : State := stOf (withSess (user 3) (inState 5 Body.reset))

def wTransfersAndNotificationsFlow2 : State := stOf (withSess (user 3) (strs [(0x1508, 0, [1, 2, 3])] (inState 5 Body.reset)))

def wTransfersAndNotificationsFlow3 : State := stOf (withSess (mover (some wr1) none) (inState 5 Body.reset))

def wTransfersAndNotificationsFlow5 : State := stOf (let b := withSess (mover (some wr2) none) (withOp 0x0410 [] (inState 5 Body.reset)); { b with cor := { b.cor with loads := [(0, ⟨[1, 2, 3, 4], false⟩)] } })

def wTransfersAndNotificationsFlow6 : State := stOf (withSess (mover none (some rd1)) (inState 5 Body.reset))

def wTransfersAndNotificationsFlow9 : State := stOf (withSess (mover (some wr1) none) (inState 5 Body.reset))

def wTransfersAndNotificationsFlow10 : State := stOf (withSess gathering (inState 5 Body.reset))

def wTransfersAndNotificationsFlow14 : State := stOf (inState 5 { Body.reset with mbox := { Body.reset.mbox with tdWrite := 15 } })

def wTransfersAndNotificationsFlow15 : State := stOf (serving (inState 5 { Body.reset with mbox := { Body.reset.mbox with tdWrite := 15 } }))

def wTransfersAndNotificationsFlow16 : State := stOf (inState 5 { Body.reset with mbox := { Body.reset.mbox with fdWrite := 3, fdRing := [[1], [2], [3]] } })

theorem witness_TransfersAndNotificationsFlow :
    (Takes wTransfersAndNotificationsFlow1 (ask 0x20 (blobOpenBody 0x1508 0 0 408)) 0x20 (blobOpenBody 0x1508 0 0 408) (user 3) ∧ (wTransfersAndNotificationsFlow1.b.setSess 0 ((user 3).accept 1 wTransfersAndNotificationsFlow1.clk.tb)).openWriteBad 0 0x1508 0 = stOK) ∧
    (Takes wTransfersAndNotificationsFlow2 (ask 0x20 (blobOpenBody 0x1508 0 1 0)) 0x20 (blobOpenBody 0x1508 0 1 0) (user 3) ∧ (wTransfersAndNotificationsFlow2.b.setSess 0 ((user 3).accept 1 wTransfersAndNotificationsFlow2.clk.tb)).snapshot 0 0x1508 0 = .inr [1, 2, 3]) ∧
    (Takes wTransfersAndNotificationsFlow3 (ask 0x22 ((be 2 9 ++ be 8 wr1.done ++ be 2 ([1, 2] : Bytes).length ++ [1, 2]))) 0x22 ((be 2 9 ++ be 8 wr1.done ++ be 2 ([1, 2] : Bytes).length ++ [1, 2])) ((mover (some wr1) none)) ∧ (mover (some wr1) none).wr = some wr1 ∧ wr1.done % 1024 = 0 ∧ isStreamed wr1.idx = false ∧ wr1.segs = []) ∧
    (Takes wTransfersAndNotificationsFlow3 (ask 0x24 ((be 2 9 ++ be 4 5))) 0x24 ((be 2 9 ++ be 4 5)) ((mover (some wr1) none)) ∧ (mover (some wr1) none).wr = some wr1 ∧ wr1.data.length ≠ wr1.len) ∧
    (Takes wTransfersAndNotificationsFlow5 (ask 0x24 ((be 2 9 ++ be 4 (crc32c [1, 2, 3, 4])))) 0x24 ((be 2 9 ++ be 4 (crc32c [1, 2, 3, 4]))) ((mover (some wr2) none)) ∧ wr2.idx = 0x1010 + 0 ∧ (wTransfersAndNotificationsFlow5.b.brought wr2).length = wr2.len ∧ crc32c (wTransfersAndNotificationsFlow5.b.brought wr2) = crc32c [1, 2, 3, 4] ∧ wTransfersAndNotificationsFlow5.b.opState (loadOp 0) = 1) ∧
    (Takes wTransfersAndNotificationsFlow6 (ask 0x23 ((be 2 9 ++ be 2 0 ++ be 8 3))) 0x23 ((be 2 9 ++ be 2 0 ++ be 8 3)) ((mover none (some rd1))) ∧ rd1.done < rd1.len ∧ rd1.len ≤ rd1.sent) ∧
    ((wTransfersAndNotificationsFlow6.b.sess? 0 = some (mover none (some rd1)) ∧ mfind 0 rd1.air = some 5 ∧ wTransfersAndNotificationsFlow6.env.after 5 100000000 = true) ∧
     (wTransfersAndNotificationsFlow6.b.sess? 0 = some (mover none (some rd1)) ∧ wTransfersAndNotificationsFlow6.env.after rd1.tb 10000000000 = true) ∧
     (wTransfersAndNotificationsFlow9.b.sess? 0 = some (mover (some wr1) none) ∧ isStreamed wr1.idx = false ∧ wTransfersAndNotificationsFlow9.env.after wr1.tb 10000000000 = true)) ∧
    (wTransfersAndNotificationsFlow10.b.sess? 0 = some gathering ∧ gathering.gatherTb = some 5 ∧ wTransfersAndNotificationsFlow10.env.after 5 1000000 = true ∧ gathering.gather ≠ []) ∧
    (Takes wTransfersAndNotificationsFlow10 (ask 0x31 ((be 4 4))) 0x31 ((be 4 4)) (gathering)) ∧
    ((wTransfersAndNotificationsFlow10.b.sess? 0 = some gathering ∧ gathering.sent.find? (fun v => v.nseq == 4) = some ⟨4, 2, [rec1], 2, 5⟩ ∧ wTransfersAndNotificationsFlow10.env.after 5 100000000 = true) ∧
     (wTransfersAndNotificationsFlow10.b.sess? 0 = some gathering ∧ gathering.sent.find? (fun v => v.nseq == 5) = some ⟨5, 0, [rec1], 3, 5⟩ ∧ wTransfersAndNotificationsFlow10.env.after 5 100000000 = true) ∧
     (wTransfersAndNotificationsFlow14.b.serves .mailbox = false)) ∧
    ((wTransfersAndNotificationsFlow15.b.serves .mailbox = true ∧ wTransfersAndNotificationsFlow15.b.mbox.waiting ≤ 16) ∧
     (wTransfersAndNotificationsFlow16.b.mbox.held = [] ∧ 2 = Nat.min ((2 + 2 ^ 32 - wTransfersAndNotificationsFlow16.b.mbox.fdRead % 2 ^ 32) % 2 ^ 32) (wTransfersAndNotificationsFlow16.b.mbox.fdWrite - wTransfersAndNotificationsFlow16.b.mbox.fdRead))) :=
  ⟨⟨takes_ask _ _ rfl (by decide +kernel), by decide +kernel⟩,
   ⟨takes_ask _ _ rfl (by decide +kernel), by decide +kernel⟩,
   ⟨takes_ask _ _ rfl (by decide +kernel), by decide +kernel⟩,
   ⟨takes_ask _ _ rfl (by decide +kernel), by decide +kernel⟩,
   ⟨takes_ask _ _ rfl (by decide +kernel), by decide +kernel⟩,
   ⟨takes_ask _ _ rfl (by decide +kernel), by decide +kernel⟩,
   by decide +kernel,
   by decide +kernel,
   takes_ask _ _ rfl (by decide +kernel),
   by decide +kernel,
   by decide +kernel⟩

theorem pairTime_near (s : State) : ∃ d : Int, -2 ≤ d ∧ d ≤ 2 ∧ s.env.pairTime = (((s.env.wt : Int) + d).toNat) % 2 ^ 64 :=
  ⟨_, by have := Int.le_bmod (x := Config.followerSkew 53 s.env.tb) (m := 5) (by decide); omega,
    by have := Int.bmod_lt (x := Config.followerSkew 53 s.env.tb) (m := 5) (by decide); omega, rfl⟩
theorem offset_near {s : State} (h : s.env.wt = 10000000000) :
    (80 < (2 * (tdiff 2000 1000 + tdiff 10000000000 (s.env.pairTime : Nat))).natAbs ∧
      (2 * (tdiff 2000 1000 + tdiff 10000000000 (s.env.pairTime : Nat))).natAbs ≤ 10000000000) ∧
    (2 * (tdiff 2000 2000 + tdiff 10000000000 (s.env.pairTime : Nat))).natAbs ≤ 80 := by
  obtain ⟨d, h1, h2, h3⟩ := pairTime_near s
  rw [h3, h]
  obtain rfl | rfl | rfl | rfl | rfl : d = -2 ∨ d = -1 ∨ d = 0 ∨ d = 1 ∨ d = 2 := by omega
  all_goals decide
def hdr (n : Nat) : PairHdr := ⟨n, true, 10000000000⟩
def paired (ps : Nat) (b : Body) : Body := regs [(0x1A02, 0, (ps : Nat)), (0x1A05, 0, 1)] b
def linked (ps dev : Nat) (f : Pair → Pair) : Body := let b := paired ps (inState dev Body.reset); { b with pair := f b.pair }
def unacked1 : PairSent := ⟨5, .join 9, 5⟩

def wPairLinkIsSupervised1 : State := stOf (linked 1 6 (fun p => p))

def wPairLinkIsSupervised2 : State := stOf (linked 4 6 (fun p => { p with timeRx := some (7, 8) }))

def wPairLinkIsSupervised4 : State := stOf (linked 4 6 (fun p => { p with unacked := [unacked1] }))

def wPairLinkIsSupervised5 : State := stOf (regs [(0x1A04, 0, 3)] (linked 2 5 (fun p => { p with snapOut := 1, unacked := [unacked1] })))

def wPairLinkIsSupervised6 : State := stOf (linked 4 6 (fun p => p))

def wPairLinkIsSupervised7 : State := stOf (linked 4 6 (fun p => { p with offBad := some 5 }))

def wPairLinkIsSupervised9 : State := stOf (linked 0 6 (fun p => p))

def wPairLinkIsSupervised14 : State := stOf (linked 2 6 (fun p => p))

def wPairLinkIsSupervised16 : State := stOf (linked 2 6 (fun p => { p with unacked := [unacked1] }))

def wPairLinkIsSupervised17 : State := stOf (linked 2 6 (fun p => { p with unacked := [{ unacked1 with tb := 9999999999999 }], lastRx := 9999999999999 }))

def wPairLinkIsSupervised19 : State := stOf (linked 2 6 (fun p => p))

def wPairLinkIsSupervised20 : State := stOf (linked 4 6 (fun p => { p with gap := some 5, latchWait := some (7, 5), offBad := some 5 }))

theorem witness_PairLinkIsSupervised :
    ((wPairLinkIsSupervised1.b.pairHears = true) ∧
     (wPairLinkIsSupervised2.b.pairHears = true ∧ wPairLinkIsSupervised2.b.pair.timeRx = some (7, 8)) ∧
     (wPairLinkIsSupervised1.b.pairHears = true ∧ wPairLinkIsSupervised1.b.pairState = pairSeeking ∧ wPairLinkIsSupervised1.b.mayPair = true ∧ wPairLinkIsSupervised1.b.pair.twinDoubt = 0)) ∧
    ((wPairLinkIsSupervised4.b.pairHears = true ∧ wPairLinkIsSupervised4.b.pair.backlog = [] ∧ wPairLinkIsSupervised4.b.pairState ≠ pairActive) ∧
     (wPairLinkIsSupervised5.b.pairHears = true ∧ wPairLinkIsSupervised5.b.pair.backlog = [] ∧ wPairLinkIsSupervised5.b.pairState = pairActive ∧ wPairLinkIsSupervised5.b.pair.snapOut = 1 ∧ wPairLinkIsSupervised5.b.regN 0x1A04 0 = pairJoining ∧ ∀ m ∈ wPairLinkIsSupervised5.b.pair.unacked, Int.bmod ((m.seq : Int) - (5 : Nat)) (2 ^ 32) ≤ 0)) ∧
    ((wPairLinkIsSupervised6.b.pairHears = true ∧ wPairLinkIsSupervised6.b.follows = true ∧ wPairLinkIsSupervised6.b.tu.changes = [] ∧ wPairLinkIsSupervised6.env.wt = 10000000000) ∧ 80 < (2 * (tdiff 2000 1000 + tdiff 10000000000 (wPairLinkIsSupervised6.env.pairTime : Nat))).natAbs ∧ (2 * (tdiff 2000 1000 + tdiff 10000000000 (wPairLinkIsSupervised6.env.pairTime : Nat))).natAbs ≤ 10000000000) ∧
    ((wPairLinkIsSupervised7.b.pairHears = true ∧ wPairLinkIsSupervised7.b.follows = true) ∧ (2 * (tdiff 2000 2000 + tdiff 10000000000 (wPairLinkIsSupervised7.env.pairTime : Nat))).natAbs ≤ 80) ∧
    ((wPairLinkIsSupervised7.b.pairHears = true) ∧
     (wPairLinkIsSupervised9.b.pairHears = false) ∧
     (wPairLinkIsSupervised14.b.pairHears = true ∧ wPairLinkIsSupervised14.b.follows = false)) ∧
    (InTurn wPairLinkIsSupervised14 (hdr 1) ∧ wPairLinkIsSupervised14.b.pairState ≠ pairStandby ∧ wPairLinkIsSupervised14.b.pairState ≠ pairOut ∧ wPairLinkIsSupervised14.b.pair.twinDoubt = 0) ∧
    ((wPairLinkIsSupervised16.b.pair.unacked.find? (fun x => x.seq == 5) = some unacked1 ∧ wPairLinkIsSupervised16.env.after unacked1.tb 20000 = true) ∧
     (wPairLinkIsSupervised17.b.pair.unacked.find? (fun x => x.seq == 5) = some { unacked1 with tb := 9999999999999 } ∧ wPairLinkIsSupervised17.env.after 9999999999999 20000 = false ∧ wPairLinkIsSupervised17.env.after wPairLinkIsSupervised17.b.pair.lastRx 150000 = false) ∧
     (wPairLinkIsSupervised19.env.after wPairLinkIsSupervised19.b.pair.lastRx 150000 = true ∧ wPairLinkIsSupervised19.b.regN 0x1A05 0 ≠ 0 ∧ wPairLinkIsSupervised19.b.pair.commits = [])) ∧
    ((wPairLinkIsSupervised20.b.pair.gap = some 5 ∧ wPairLinkIsSupervised20.env.after 5 100000 = true ∧ wPairLinkIsSupervised20.b.follows = true ∧ wPairLinkIsSupervised20.b.pair.commits = []) ∧
     (wPairLinkIsSupervised20.b.pair.latchWait = some (7, 5) ∧ wPairLinkIsSupervised20.env.after 5 100000 = true ∧ wPairLinkIsSupervised20.b.latchRec 7 = none ∧ wPairLinkIsSupervised20.b.follows = true ∧ wPairLinkIsSupervised20.b.pair.commits = []) ∧
     (wPairLinkIsSupervised20.b.pair.offBad = some 5 ∧ wPairLinkIsSupervised20.env.after 5 10000000 = true ∧ wPairLinkIsSupervised20.b.follows = true ∧ wPairLinkIsSupervised20.b.pair.commits = [])) :=
  ⟨by decide +kernel,
   by decide +kernel,
   ⟨by decide +kernel, (offset_near rfl).1⟩,
   ⟨by decide +kernel, (offset_near rfl).2⟩,
   by decide +kernel,
   by unfold InTurn; decide +kernel,
   by decide +kernel,
   by decide +kernel⟩


def wUnitsArePromoted1 : State := stOf (linked 1 6 (fun p => { p with released := some 5 }))

def wUnitsArePromoted2 : State := stOf (linked 4 6 (fun p => p))

def wUnitsArePromoted3 : State := stOf (linked 5 6 (fun p => p))

def wUnitsArePromoted6 : State := stOf (linked 2 6 (fun p => { p with drive := true }))

def wUnitsArePromoted7 : State := stOf (withSess (user 3) (withBeads [] [] [sub1 7 10001000000] (regs [(0x1A04, 0, 4)] (linked 2 6 (fun p => p)))))

def wUnitsArePromoted8 : State := stOf (linked 4 6 (fun p => p))

def wUnitsArePromoted9 : State := stOf (withSess (user 3) (regs [(0x1A04, 0, 4)] (linked 2 5 (fun p => p))))

def wUnitsArePromoted10 : State := stOf (withSess (user 3) (linked 2 6 (fun p => p)))

def wUnitsArePromoted11 : State := stOf (withSess (user 3) (linked 5 6 (fun p => p)))

theorem witness_UnitsArePromoted :
    ((wUnitsArePromoted1.b.activeLow = false ∧ wUnitsArePromoted1.b.pairState = pairSeeking) ∧
     (wUnitsArePromoted2.b.activeLow = false ∧ wUnitsArePromoted2.b.pairState = pairStandby ∧ wUnitsArePromoted2.b.devState ≠ devSafe ∧ wUnitsArePromoted2.b.devState ≠ devFrozen ∧ wUnitsArePromoted2.b.regN 0x1A10 0 = 0 ∧ wUnitsArePromoted2.b.pair.commits = [])) ∧
    (InTurn wUnitsArePromoted3 (hdr 1) ∧ wUnitsArePromoted3.b.pairState = pairOut ∧ wUnitsArePromoted3.b.devState ≠ devSafe ∧ wUnitsArePromoted3.b.devState ≠ devFrozen ∧ wUnitsArePromoted3.b.regN 0x1A10 0 = 0 ∧ wUnitsArePromoted3.b.pair.commits = []) ∧
    ((wUnitsArePromoted1.b.pair.released = some 5 ∧ wUnitsArePromoted1.b.pairState = pairSeeking ∧ wUnitsArePromoted1.b.mayPair = true ∧ wUnitsArePromoted1.b.dev.role = 0 ∧ wUnitsArePromoted1.b.pair.commits = []) ∧
     (wUnitsArePromoted2.b.pairState ≠ pairSeeking) ∧
     (wUnitsArePromoted6.b.activeLow = true)) ∧
    (Grants wUnitsArePromoted7 (askWrite 0x1A06 (0) (.n 1)) 0x1A06 (0) (.n 1) (user 3) ∧ wUnitsArePromoted7.b.pairState = pairActive ∧ wUnitsArePromoted7.b.regN 0x1A04 0 = pairStandby ∧ wUnitsArePromoted7.b.firstConfirm ((wUnitsArePromoted7.env.wt : Int) + 1000000) = some 7) ∧
    (InTurn wUnitsArePromoted8 (hdr 1) ∧ wUnitsArePromoted8.b.pairState = pairStandby ∧ wUnitsArePromoted8.b.devState ≠ devSafe ∧ wUnitsArePromoted8.b.devState ≠ devFrozen ∧ wUnitsArePromoted8.b.regN 0x1A10 0 = 0 ∧ wUnitsArePromoted8.b.pair.commits = []) ∧
    (Grants wUnitsArePromoted9 (askWrite 0x1A06 (0) (.n 1)) 0x1A06 (0) (.n 1) (user 3) ∧ wUnitsArePromoted9.b.pairState = pairActive ∧ wUnitsArePromoted9.b.regN 0x1A04 0 = pairStandby ∧ wUnitsArePromoted9.b.firstConfirm ((wUnitsArePromoted9.env.wt : Int) + 1000000) = none) ∧
    (Grants wUnitsArePromoted10 (askWrite 0x1A06 (0) (.n 1)) 0x1A06 (0) (.n 1) (user 3) ∧ wUnitsArePromoted10.b.pairState = pairActive ∧ wUnitsArePromoted10.b.regN 0x1A04 0 ≠ pairStandby) ∧
    (Grants wUnitsArePromoted11 (askWrite 0x1A06 (0) (.n 1)) 0x1A06 (0) (.n 1) (user 3) ∧ wUnitsArePromoted11.b.pairState ≠ pairActive) :=
  ⟨by decide +kernel,
   by unfold InTurn; decide +kernel,
   by decide +kernel,
   ⟨grants_ask _ _ _ rfl (by decide +kernel), by decide +kernel⟩,
   by unfold InTurn; decide +kernel,
   ⟨grants_ask _ _ _ rfl (by decide +kernel), by decide +kernel⟩,
   ⟨grants_ask _ _ _ rfl (by decide +kernel), by decide +kernel⟩,
   ⟨grants_ask _ _ _ rfl (by decide +kernel), by decide +kernel⟩⟩

theorem nothing_due_of {s : State} (h1 : ∀ y ∈ s.b.beads.subs, y.retired = true ∨ s.env.reached y.c = false) (h2 : s.b.nextLatch = none)
    (h3 : s.b.pair.commits = []) : NothingDue s :=
  ⟨h1, fun n m h => (by rw [h2] at h; cases h), fun _ => h3⟩
def standby (f : Pair → Pair) : Body := linked 4 6 f
def joining (f : Pair → Pair) : Body := linked 3 6 f
def attrib1 (own twin : Option Nat) : Attrib := ⟨7, 0, own, twin, 0, false, 5⟩
def dec1 : DecisionMsg := ⟨7, 0, 0, 1, 1, 1, 0, 0, 0⟩
def seamless1 : Switch := ⟨Mode.reset, Mode.reset, true, false, none, 480, 20000000000, 20000000500, some 600, 20000000500, false, false, []⟩
def agreeing : List (Nat × Val) := ((upFrom 0 3).zip (joining (fun p => p)).forceIds).map (fun p => (snapForce + p.1, Val.n p.2))

def wOrdersAreFollowed1 : State := stOf (standby (fun p => p))

def wOrdersAreFollowed3 : State := stOf (standby (fun p => { p with shadow := [(key 0x0C08 31, 5)] }))

def wOrdersAreFollowed4 : State := stOf (standby (fun p => { p with shadow := [(key 0x0C08 31, 5)], latches := [⟨8, 3, 0⟩] }))

def wOrdersAreFollowed5 : State := stOf (regs [(0x1A0D, 0, 7)] (joining (fun p => { p with joined := true })))

def wOrdersAreFollowed7 : State := stOf (withBeads [] [] [sub1 7 10000500000] (standby (fun p => p)))

def wOrdersAreFollowed9 : State := stOf (withOp 0x0415 [] (standby (fun p => p)))

def wOrdersAreFollowed10 : State := stOf (regs [(0x0415, 2, 2)] (withOp 0x0415 [] (standby (fun p => p))))

def wOrdersAreFollowed11 : State := stOf (let b := { reckoning (corrBytes1 1) with blob := [(key 0x1508 0, List.replicate 6 0 ++ [1] ++ List.replicate 401 0)] }; paired 4 b)

def wOrdersAreFollowed13 : State := stOf (standby (fun p => p))

def wOrdersAreFollowed15 : State := stOf (withTile 191 62 { Tile.reset with awake := true } (withPan 255 ⟨[⟨191, 62, 5⟩], [⟨191, 62, 4, true⟩], false, 0, none⟩ (standby (fun p => p))))

def wOrdersAreFollowed16 : State := stOf (let b := standby (fun p => p); { b with cor := { b.cor with overrides := [⟨17, 2, 3, none⟩] } })

def wOrdersAreFollowed17 : State := stOf (withMap (standby (fun p => p)))

def wOrdersAreFollowed18 : State := stOf (withBeads [] [] [sub1 7 10000500000] (withMap (standby (fun p => { p with sigOwn := [(sigKey 7 0, (5, 0))] }))))

def wOrdersAreFollowed19 : State := stOf (standby (fun p => { p with attribs := [attrib1 none none] }))

def wOrdersAreFollowed20 : State := stOf (linked 2 6 (fun p => { p with attribs := [attrib1 (some 0) none] }))

def wOrdersAreFollowed22 : State := stOf (joining (fun p => { p with snap := [(key 0x0803 0, .n 5)] }))

def wOrdersAreFollowed24 : State := stOf (joining (fun p => p))

def wOrdersAreFollowed25 : State := stOf (joining (fun p => { p with applied := true }))

def wOrdersAreFollowed26 : State := stOf (standby (fun p => { p with rxNext := 4294967294 }))

def wOrdersAreFollowed28 : State := stOf (standby (fun p => { p with part := [1] }))

def wOrdersAreFollowed30 : State := stOf (linked 4 5 (fun p => { p with shadow := [(key 0x0C08 31, 5)] }))

def wOrdersAreFollowed31 : State := stOf (withBeads [] [] [sub1 7 10000500000] (standby (fun p => p)))

def wOrdersAreFollowed32 : State := stOf (standby (fun p => p))

def wOrdersAreFollowed34 : State := stOf (withOp 0x0415 [] (standby (fun p => p)))

def wOrdersAreFollowed35 : State := stOf (linked 4 5 (fun p => p))

def wOrdersAreFollowed36 : State := stOf (let b := withOp 0x0412 [] (standby (fun p => p)); { b with seq := { b.seq with sw := some seamless1 } })

def wOrdersAreFollowed37 : State := stOf (standby (fun p => p))

def wOrdersAreFollowed39 : State := stOf (withPan 255 ⟨[⟨191, 62, 5⟩], [⟨191, 62, 4, true⟩, ⟨191, 61, 4, true⟩], false, 0, none⟩ (standby (fun p => p)))

def wOrdersAreFollowed40 : State := stOf (withBeads [] [] [sub1 7 10000500000] (withMap (standby (fun p => { p with sigOwn := [(sigKey 7 0, (5, 0))] }))))

def wOrdersAreFollowed42 : State := stOf (linked 2 6 (fun p => { p with attribs := [attrib1 (some 0) none] }))

def wOrdersAreFollowed43 : State := stOf (standby (fun p => { p with attribs := [attrib1 (some 0) none] }))

def wOrdersAreFollowed45 : State := stOf (standby (fun p => { p with attribs := [{ attrib1 (some 0) none with tb := 9999999999999 }] }))

def wOrdersAreFollowed46 : State := stOf (joining (fun p => p))

def wOrdersAreFollowed48 : State := stOf (withBeads [] [] [{ sub1 7 10000500000 with retired := true }] (standby (fun p => p)))

def wOrdersAreFollowed49 : State := stOf (let b := regs [(0x0415, 2, 2)] (withOp 0x0415 [] (standby (fun p => p))); b.setReg 0x1000 (b.nonActive 0 + 1) 1)

def wOrdersAreFollowed50 : State := stOf (withPan 255 ⟨[⟨191, 61, 5⟩], [⟨191, 62, 9999999999999, true⟩], false, 0, none⟩ (standby (fun p => p)))

theorem witness_OrdersAreFollowed :
    ((InTurn wOrdersAreFollowed1 (hdr 1) ∧ wOrdersAreFollowed1.b.follows = true) ∧
     (InTurn wOrdersAreFollowed1 (hdr 1) ∧ wOrdersAreFollowed1.b.follows = true ∧ isRws (key 0x0C08 31) = true)) ∧
    (InTurn wOrdersAreFollowed3 (hdr 1) ∧ wOrdersAreFollowed3.b.follows = true ∧ wOrdersAreFollowed3.b.pair.commits = [] ∧ wOrdersAreFollowed3.b.pair.latches = [] ∧ wOrdersAreFollowed3.b.live = true ∧ NothingDue wOrdersAreFollowed3) ∧
    (InTurn wOrdersAreFollowed4 (hdr 1) ∧ wOrdersAreFollowed4.b.follows = true ∧ wOrdersAreFollowed4.b.pair.commits = [] ∧ (⟨8, 3, 0⟩ : LatchRec) ∈ wOrdersAreFollowed4.b.pair.latches ∧ (⟨8, 3, 0⟩ : LatchRec).order < 4 ∧ NothingDue wOrdersAreFollowed4) ∧
    ((InTurn wOrdersAreFollowed5 (hdr 1) ∧ wOrdersAreFollowed5.b.mustFollow 7 = true ∧ wOrdersAreFollowed5.b.sub? 7 = none) ∧
     (InTurn wOrdersAreFollowed5 (hdr 1) ∧ wOrdersAreFollowed5.b.mustFollow dec1.n = true ∧ wOrdersAreFollowed5.b.sub? dec1.n = none) ∧
     (InTurn wOrdersAreFollowed7 (hdr 1) ∧ wOrdersAreFollowed7.b.mustFollow 7 = true ∧ wOrdersAreFollowed7.b.sub? 7 = some (sub1 7 10000500000) ∧ (sub1 7 10000500000).decCount = 0)) ∧
    ((InTurn wOrdersAreFollowed7 (hdr 1) ∧ wOrdersAreFollowed7.b.mustFollow 7 = true ∧ (sub1 7 10000500000).decCount ≠ 1 ∧ wOrdersAreFollowed7.b.pair.commits = []) ∧
     (InTurn wOrdersAreFollowed9 (hdr 1) ∧ wOrdersAreFollowed9.b.follows = true ∧ wOrdersAreFollowed9.b.opState 0x0415 = 1) ∧
     (InTurn wOrdersAreFollowed10 (hdr 1) ∧ wOrdersAreFollowed10.b.follows = true ∧ wOrdersAreFollowed10.b.opState 0x0415 = 2)) ∧
    ((InTurn wOrdersAreFollowed11 (hdr 1) ∧ wOrdersAreFollowed11.b.follows = true ∧ wOrdersAreFollowed11.b.opState 0x0415 = 1 ∧ wOrdersAreFollowed11.b.gen 0 (wOrdersAreFollowed11.b.nonActive 0) = 1 ∧ wOrdersAreFollowed11.b.reckonImage = .inr (corrBytes1 1)) ∧
     (InTurn wOrdersAreFollowed13 (hdr 1) ∧ wOrdersAreFollowed13.b.follows = true) ∧
     (InTurn wOrdersAreFollowed16 (hdr 1) ∧ wOrdersAreFollowed16.b.follows = true)) ∧
    ((InTurn wOrdersAreFollowed17 (hdr 1) ∧ wOrdersAreFollowed17.b.follows = true ∧ 0 ∈ wOrdersAreFollowed17.b.rodsInUse ∧ mfind (sigKey 7 0) wOrdersAreFollowed17.b.pair.sigOwn = none) ∧
     (InTurn wOrdersAreFollowed18 (hdr 1) ∧ wOrdersAreFollowed18.b.pairState = pairStandby ∧ 0 ∈ wOrdersAreFollowed18.b.rodsInUse ∧ mfind (sigKey 7 0) wOrdersAreFollowed18.b.pair.sigOwn = some (5, 0) ∧ wOrdersAreFollowed18.b.pair.attribs = [] ∧ (wOrdersAreFollowed18.b.sub? 7).isSome = true) ∧
     (InTurn wOrdersAreFollowed19 (hdr 1) ∧ ∀ a ∈ wOrdersAreFollowed19.b.pair.attribs, a.n = 7 → a.rod = 0 → a.own = none)) ∧
    (InTurn wOrdersAreFollowed20 (hdr 1) ∧ wOrdersAreFollowed20.b.pair.attribs = [attrib1 (some 0) none] ∧ MayDoubt wOrdersAreFollowed20) ∧
    (wOrdersAreFollowed20.b.pair.attribs.find? (fun x => x.n == 7 && x.rod == 0) = some (attrib1 (some 0) none) ∧ wOrdersAreFollowed20.env.after 5 250000 = true ∧ wOrdersAreFollowed20.b.pairState = pairActive) ∧
    ((InTurn wOrdersAreFollowed22 (hdr 1) ∧ wOrdersAreFollowed22.b.pairState = pairJoining) ∧
     (InTurn wOrdersAreFollowed24 (hdr 1) ∧ wOrdersAreFollowed24.b.pairState = pairJoining ∧ wOrdersAreFollowed24.b.pair.applied = false) ∧
     (InTurn wOrdersAreFollowed25 (hdr 1) ∧ wOrdersAreFollowed25.b.pairState = pairJoining ∧ wOrdersAreFollowed25.b.pair.applied = true)) ∧
    (InTurn wOrdersAreFollowed26 (hdr 4294967294) ∧ wOrdersAreFollowed26.b.pairState = pairStandby ∧ (hdr 4294967294).seq + 1 < 2 ^ 32) ∧
    (wOrdersAreFollowed26.b.pairHears = true ∧ (hdr 4294967295).seq ≠ 0 ∧ 0 < Int.bmod (((hdr 4294967295).seq : Int) - wOrdersAreFollowed26.b.pair.rxNext) (2 ^ 32) ∧ wOrdersAreFollowed26.b.pair.early.any (fun q => q.1.seq == (hdr 4294967295).seq) = false) ∧
    ((InTurn wOrdersAreFollowed28 (hdr 1) ∧ wOrdersAreFollowed28.b.follows = true ∧ (List.replicate 8192 (0 : Byte)).length = writePiece) ∧
     (InTurn wOrdersAreFollowed28 (hdr 1) ∧ wOrdersAreFollowed28.b.follows = true ∧ [(7 : Byte)].length ≠ writePiece ∧ isRws (key 0x0D02 16) = true ∧ 0x0D02 ≠ 0x0C50)) ∧
    ((InTurn wOrdersAreFollowed30 (hdr 1) ∧ wOrdersAreFollowed30.b.follows = true ∧ wOrdersAreFollowed30.b.pair.commits = [] ∧ wOrdersAreFollowed30.b.pair.latches = [] ∧ wOrdersAreFollowed30.b.live = false) ∧ mrising 0 wOrdersAreFollowed30.b.pair.shadow = true ∧ (∀ p ∈ wOrdersAreFollowed30.b.pair.shadow, isRws p.1 = true) ∧ NothingDue wOrdersAreFollowed30) ∧
    ((InTurn wOrdersAreFollowed31 (hdr 1) ∧ wOrdersAreFollowed31.b.mustFollow dec1.n = true ∧ wOrdersAreFollowed31.b.sub? dec1.n = some (sub1 7 10000500000) ∧ (sub1 7 10000500000).retired = false) ∧
     (InTurn wOrdersAreFollowed32 (hdr 1) ∧ wOrdersAreFollowed32.b.sub? 7 = none) ∧
     (InTurn wOrdersAreFollowed32 (hdr 1) ∧ wOrdersAreFollowed32.b.follows = true ∧ wOrdersAreFollowed32.b.opBusy 0x0415 = false ∧ wOrdersAreFollowed32.b.devState ≠ devFrozen ∧ wOrdersAreFollowed32.b.genFree 0 = true)) ∧
    (InTurn wOrdersAreFollowed34 (hdr 1) ∧ wOrdersAreFollowed34.b.follows = true ∧ wOrdersAreFollowed34.b.opState 0x0415 = 1) ∧
    ((InTurn wOrdersAreFollowed35 (hdr 1) ∧ wOrdersAreFollowed35.b.follows = true ∧ wOrdersAreFollowed35.b.opBusy 0x0412 = false ∧ wOrdersAreFollowed35.b.live = false) ∧ ∀ p ∈ [(0x10, (7 : Int)), (0x26, 8)], 0x10 ≤ p.1 ∧ p.1 ≤ 0x26) ∧
    (((InTurn wOrdersAreFollowed36 (hdr 1) ∧ wOrdersAreFollowed36.b.follows = true ∧ wOrdersAreFollowed36.b.seq.sw = some seamless1) ∧ seamless1.latched = false ∧ seamless1.dark = false ∧ seamless1.leave = false ∧ seamless1.step = none ∧ seamless1.seamless = true) ∧
     (InTurn wOrdersAreFollowed37 (hdr 1) ∧ wOrdersAreFollowed37.b.follows = true ∧ wOrdersAreFollowed37.b.live = true ∧ wOrdersAreFollowed37.b.seq.sw = none) ∧
     (InTurn wOrdersAreFollowed37 (hdr 1) ∧ wOrdersAreFollowed37.b.follows = true)) ∧
    ((InTurn wOrdersAreFollowed39 (hdr 1) ∧ wOrdersAreFollowed39.b.follows = true) ∧
     (InTurn wOrdersAreFollowed40 (hdr 1) ∧ wOrdersAreFollowed40.b.pairState = pairStandby ∧ 0 ∈ wOrdersAreFollowed40.b.rodsInUse ∧ mfind (sigKey 7 0) wOrdersAreFollowed40.b.pair.sigOwn = some (5, 0)) ∧
     (InTurn wOrdersAreFollowed40 (hdr 1) ∧ wOrdersAreFollowed40.b.pairState = pairStandby ∧ 0 ∈ wOrdersAreFollowed40.b.rodsInUse ∧ mfind (sigKey 7 0) wOrdersAreFollowed40.b.pair.sigOwn = some (5, 0) ∧ 2 ≠ 0)) ∧
    ((InTurn wOrdersAreFollowed42 (hdr 1) ∧ wOrdersAreFollowed42.b.pair.attribs = [attrib1 (some 0) none] ∧ wOrdersAreFollowed42.b.pair.commits = [] ∧ wOrdersAreFollowed42.b.pairState = pairActive) ∧
     (InTurn wOrdersAreFollowed43 (hdr 1) ∧ wOrdersAreFollowed43.b.pair.attribs = [attrib1 (some 0) none] ∧ wOrdersAreFollowed43.b.pair.commits = [] ∧ wOrdersAreFollowed43.b.pairState = pairStandby ∧ wOrdersAreFollowed43.b.devState ≠ devSafe ∧ wOrdersAreFollowed43.b.devState ≠ devFrozen ∧ wOrdersAreFollowed43.b.regN 0x1A10 0 = 0)) ∧
    ((wOrdersAreFollowed43.b.pair.attribs.find? (fun x => x.n == 7 && x.rod == 0) = some (attrib1 (some 0) none) ∧ wOrdersAreFollowed43.env.after 5 250000 = true ∧ wOrdersAreFollowed43.b.pairState = pairStandby ∧ wOrdersAreFollowed43.b.pair.commits = []) ∧
     (wOrdersAreFollowed45.b.pair.attribs.find? (fun x => x.n == 7 && x.rod == 0) = some { attrib1 (some 0) none with tb := 9999999999999 } ∧ wOrdersAreFollowed45.env.after 9999999999999 250000 = false)) ∧
    ((InTurn wOrdersAreFollowed46 (hdr 1) ∧ wOrdersAreFollowed46.b.pairState = pairJoining ∧ 64 ≠ 0 ∧ wOrdersAreFollowed46.b.snapAgrees (agreeing.foldl snapTake wOrdersAreFollowed46.b.pair.snap) = true) ∧
     (InTurn wOrdersAreFollowed46 (hdr 1) ∧ wOrdersAreFollowed46.b.pairState = pairJoining ∧ 64 ≠ 0 ∧ wOrdersAreFollowed46.b.snapAgrees (([] : List (Nat × Val)).foldl snapTake wOrdersAreFollowed46.b.pair.snap) = false ∧ wOrdersAreFollowed46.b.pair.commits = []) ∧
     (InTurn wOrdersAreFollowed48 (hdr 1) ∧ wOrdersAreFollowed48.b.mustFollow dec1.n = true ∧ wOrdersAreFollowed48.b.sub? dec1.n = some { sub1 7 10000500000 with retired := true })) ∧
    ((InTurn wOrdersAreFollowed49 (hdr 1) ∧ wOrdersAreFollowed49.b.follows = true ∧ wOrdersAreFollowed49.b.opState 0x0415 = 2 ∧ wOrdersAreFollowed49.b.gen 0 (wOrdersAreFollowed49.b.nonActive 0) = 1) ∧
     (InTurn wOrdersAreFollowed50 (hdr 1) ∧ wOrdersAreFollowed50.b.follows = true ∧ (wOrdersAreFollowed50.b.pan 255).slots.find? (fun w => w.rod == 191 && w.pos == 62) = some ⟨191, 62, 9999999999999, true⟩ ∧ wOrdersAreFollowed50.env.after 9999999999999 ((wOrdersAreFollowed50.b.panReg 0x1412 255 + wOrdersAreFollowed50.b.panReg 0x1414 255) * 1000000) = false)) :=
  ⟨by unfold InTurn; decide +kernel,
   ⟨by unfold InTurn; decide +kernel, by decide +kernel, by decide +kernel, by decide +kernel, by decide +kernel, nothing_due_of (by decide +kernel) (by decide +kernel) (by decide +kernel)⟩,
   ⟨by unfold InTurn; decide +kernel, by decide +kernel, by decide +kernel, by decide +kernel, by decide, nothing_due_of (by decide +kernel) (by decide +kernel) (by decide +kernel)⟩,
   by unfold InTurn; decide +kernel,
   by unfold InTurn; decide +kernel,
   by unfold InTurn; decide +kernel,
   by unfold InTurn; decide +kernel,
   by unfold InTurn MayDoubt; decide +kernel,
   by decide +kernel,
   by unfold InTurn; decide +kernel,
   by unfold InTurn; decide +kernel,
   by decide +kernel,
   by unfold InTurn; decide +kernel,
   ⟨by unfold InTurn; decide +kernel, by decide +kernel, by decide +kernel, nothing_due_of (by decide +kernel) (by decide +kernel) (by decide +kernel)⟩,
   by unfold InTurn; decide +kernel,
   by unfold InTurn; decide +kernel,
   ⟨by unfold InTurn; decide +kernel, by decide⟩,
   by unfold InTurn; decide +kernel,
   by unfold InTurn; decide +kernel,
   by unfold InTurn; decide +kernel,
   by decide +kernel,
   by unfold InTurn; decide +kernel,
   by unfold InTurn; decide +kernel⟩

def attesting : Session := { user 3 with attest := ⟨some [1], 5, some [2], none⟩ }
def avs1 (tries : Nat) : AvsChange := ⟨1, 850, 860, 5, tries, none⟩
def withAvs (c : AvsChange) : Body := { inState 5 Body.reset with si := { Silicon.reset with busy := some c } }

def wLifetimeIsKept1 : State := stOf (withSess (user 3) (inState 5 Body.reset))

def wLifetimeIsKept2 : State := stOf (withSess attesting (inState 5 Body.reset))

def wLifetimeIsKept3 : State := stOf (regs [(0x1C00, 0, 2 ^ 64 - 1)] (inState 5 Body.reset))

def wLifetimeIsKept5 : State := stOf (withSess (user 3) (withOp 0x041A [] (inState 5 Body.reset)))

def wLifetimeIsKept6 : State := stOf { withOp 0x041A [] (inState 5 Body.reset) with si := { Silicon.reset with harvest := [1, 2, 3] } }

def wLifetimeIsKept7 : State := stOf { withOp 0x041A [(key 0x041A 0x10, 1), (key 0x041A 0x11, (app : Nat))] (inState 5 Body.reset) with si := { Silicon.reset with harvest := [1, 2, 3] } }

def wLifetimeIsKept8 : State := stOf (inState 5 Body.reset)

def wLifetimeIsKept10 : State := stOf (withSess (user 3) (withOp 0x041B [] (inState 5 Body.reset)))

def wLifetimeIsKept11 : State := stOf (regs [(0x1D07, 0, 24)] (inState 2 Body.reset))

def wLifetimeIsKept12 : State := stOf (regs [(0x1D07, 0, 0)] (inState 5 Body.reset))

def wLifetimeIsKept13 : State := stOf (withAvs (avs1 0))

def wLifetimeIsKept15 : State := stOf (withAvs { avs1 0 with sample := some 865 })

def wLifetimeIsKept16 : State := stOf (withAvs { avs1 0 with sample := some 866 })

def wLifetimeIsKept17 : State := stOf (withAvs (avs1 1))

def wLifetimeIsKept18 : State := stOf { withOp 0x041B [] (inState 5 Body.reset) with si := { Silicon.reset with run := some ⟨[], 1, false, false, false⟩ } }

def wLifetimeIsKept19 : State := stOf (withSess (user 3) (regs [(0x041A, 0x10, 1), (0x041A, 0x11, (((inState 5 Body.reset).base 8 : Nat) : Int))] (inState 5 Body.reset)))

def wLifetimeIsKept20 : State := stOf (withSess (user 3) (regs [(0x041A, 0x10, 1), (0x041A, 0x11, 5)] (inState 8 Body.reset)))

def wLifetimeIsKept21 : State := stOf (withSess (user 3) (regs [(0x041A, 0x10, 1), (0x041A, 0x11, 5)] (inState 5 Body.reset)))

def wLifetimeIsKept22 : State := stOf (inState 5 Body.reset)

def wLifetimeIsKept24 : State := stOf (inState 0 Body.reset)

def wLifetimeIsKept27 : State := stOf (regs [(0x1D0D, 1, 50)] { inState 5 Body.reset with si := { Silicon.reset with seen := [0] } })

def wLifetimeIsKept28 : State := stOf (withOp 0x041B [] (inState 5 Body.reset))

def wLifetimeIsKept29 : State := stOf (withAvs { avs1 0 with tb := 9999999999999 })

def wLifetimeIsKept31 : State := stOf { regs [(0x041B, 2, 3)] (withOp 0x041B [] (inState 5 Body.reset)) with si := { Silicon.reset with run := some ⟨[1], 0, false, false, false⟩ } }

def wLifetimeIsKept32 : State := stOf { withOp 0x041B [] (inState 5 Body.reset) with si := { Silicon.reset with run := some ⟨[1], 0, false, false, false⟩ } }

theorem witness_LifetimeIsKept :
    (Grants wLifetimeIsKept1 (askWrite 0x0108 (0) (.b (List.replicate 32 9))) 0x0108 (0) (.b (List.replicate 32 9)) (user 3) ∧ (List.replicate 32 (9 : Byte)).length = 32) ∧
    ((wLifetimeIsKept2.b.sess? 0 = some attesting ∧ attesting.attest.forming = some [2]) ∧
     (wLifetimeIsKept3.b.devState ≠ devOff ∧ [(800 : Int), 900][1]? = some 900 ∧ [850, 900][1]? = some 900)) ∧
    (Grants wLifetimeIsKept1 (askWrite 0x041A (1) (.n 1)) 0x041A (1) (.n 1) (user 3) ∧ wLifetimeIsKept1.b.opBusy 0x041A = false ∧ wLifetimeIsKept1.b.reg 0x041A 0x10 ≠ 1) ∧
    (Grants wLifetimeIsKept5 (askWrite 0x041A (1) (.n 1)) 0x041A (1) (.n 1) (user 3) ∧ wLifetimeIsKept5.b.opBusy 0x041A = true) ∧
    ((wLifetimeIsKept6.b.opState 0x041A = 1 ∧ wLifetimeIsKept6.b.opArg 0x041A 0x10 ≠ 1) ∧
     (wLifetimeIsKept7.b.opState 0x041A = 1 ∧ wLifetimeIsKept7.b.opArg 0x041A 0x10 = 1 ∧ wLifetimeIsKept7.b.memUp = true ∧ app = (wLifetimeIsKept7.b.opArg 0x041A 0x11).toNat ∧ 3 = wLifetimeIsKept7.b.si.harvest.length) ∧
     (wLifetimeIsKept8.b.devState ≠ devOff ∧ (List.replicate 95 (100 : Int) ++ [77])[95]? = some 77)) ∧
    (Grants wLifetimeIsKept1 (askWrite 0x041B (1) (.n 1)) 0x041B (1) (.n 1) (user 3) ∧ wLifetimeIsKept1.b.opBusy 0x041B = false) ∧
    (Grants wLifetimeIsKept10 (askWrite 0x041B (1) (.n 1)) 0x041B (1) (.n 1) (user 3) ∧ wLifetimeIsKept10.b.opBusy 0x041B = true) ∧
    ((wLifetimeIsKept11.b.regN 0x1D07 0 ≠ 0 ∧ devVerified ≤ wLifetimeIsKept11.b.devState ∧ wLifetimeIsKept11.b.opBusy 0x041B = false) ∧
     (wLifetimeIsKept12.b.regN 0x1D07 0 = 0) ∧
     (wLifetimeIsKept13.b.si.busy = some (avs1 0) ∧ (avs1 0).rail = 1 ∧ wLifetimeIsKept13.env.after (avs1 0).tb 1000000 = true ∧ ((865 : Int) - (avs1 0).new).natAbs ≤ 5 ∧ (avs1 0).sample = none ∧ wLifetimeIsKept13.b.si.queue = [] ∧ wLifetimeIsKept13.b.si.run = none)) ∧
    ((wLifetimeIsKept13.b.si.busy = some (avs1 0) ∧ 5 < ((866 : Int) - (avs1 0).new).natAbs ∧ (avs1 0).tries = 0) ∧
     (wLifetimeIsKept15.b.si.busy = some { avs1 0 with sample := some 865 } ∧ ((855 : Int) - (avs1 0).new).natAbs ≤ 5 ∧ ((865 : Int) - (avs1 0).new).natAbs ≤ 5) ∧
     (wLifetimeIsKept16.b.si.busy = some { avs1 0 with sample := some 866 } ∧ 5 < ((866 : Int) - (avs1 0).new).natAbs ∧ (avs1 0).tries = 0)) ∧
    ((wLifetimeIsKept17.b.si.busy = some (avs1 1) ∧ 5 < ((854 : Int) - (avs1 1).new).natAbs ∧ (avs1 1).tries ≠ 0 ∧ wLifetimeIsKept17.b.si.queue = [] ∧ wLifetimeIsKept17.b.si.run = none) ∧
     (wLifetimeIsKept18.b.si.run = some ⟨[], 1, false, false, false⟩ ∧ (⟨[], 1, false, false, false⟩ : SiRun).todo = [] ∧ wLifetimeIsKept18.b.si.busy = none ∧ wLifetimeIsKept18.b.opState 0x041B = 1)) ∧
    (Grants wLifetimeIsKept19 (askWrite 0x041A (1) (.n 1)) 0x041A (1) (.n 1) (user 3) ∧ wLifetimeIsKept19.b.opBusy 0x041A = false ∧ wLifetimeIsKept19.b.devState ≠ devFrozen ∧ (wLifetimeIsKept19.b.appBytes (wLifetimeIsKept19.b.regN 0x041A 0x11) 5256).isSome = true) ∧
    (Grants wLifetimeIsKept20 (askWrite 0x041A (1) (.n 1)) 0x041A (1) (.n 1) (user 3) ∧ wLifetimeIsKept20.b.opBusy 0x041A = false ∧ wLifetimeIsKept20.b.reg 0x041A 0x10 = 1 ∧ wLifetimeIsKept20.b.devState = devFrozen) ∧
    (Grants wLifetimeIsKept21 (askWrite 0x041A (1) (.n 1)) 0x041A (1) (.n 1) (user 3) ∧ wLifetimeIsKept21.b.opBusy 0x041A = false ∧ wLifetimeIsKept21.b.reg 0x041A 0x10 = 1 ∧ wLifetimeIsKept21.b.devState ≠ devFrozen ∧ (wLifetimeIsKept21.b.appBytes (wLifetimeIsKept21.b.regN 0x041A 0x11) 5256).isNone = true) ∧
    ((wLifetimeIsKept22.b.opState 0x041A ≠ 1) ∧
     (wLifetimeIsKept22.b.opBusy 0x041B = false ∧ wLifetimeIsKept22.b.si.busy = none) ∧
     (wLifetimeIsKept24.b.devState = devOff)) ∧
    ((wLifetimeIsKept24.b.devState = devOff ∧ wLifetimeIsKept24.b.devState < devVerified) ∧
     (wLifetimeIsKept24.b.devState < devVerified) ∧
     (wLifetimeIsKept27.b.devState ≠ devOff ∧ [(60 : Int)][0]? = some 60 ∧ wLifetimeIsKept27.b.si.seen.contains 0 = true)) ∧
    ((wLifetimeIsKept28.b.opBusy 0x041B = true) ∧
     (wLifetimeIsKept29.b.si.busy = some { avs1 0 with tb := 9999999999999 } ∧ wLifetimeIsKept29.env.after 9999999999999 1000000 = false) ∧
     (wLifetimeIsKept29.b.si.busy = some { avs1 0 with tb := 9999999999999 } ∧ 1 ≠ 0)) ∧
    ((wLifetimeIsKept31.b.opState 0x041B = 3) ∧
     (wLifetimeIsKept32.b.si.run = some ⟨[1], 0, false, false, false⟩ ∧ wLifetimeIsKept32.b.opState 0x041B ≠ 3 ∧ (⟨[1], 0, false, false, false⟩ : SiRun).todo ≠ [])) :=
  ⟨⟨grants_ask _ _ _ rfl (by decide +kernel), by decide +kernel⟩,
   by decide +kernel,
   ⟨grants_ask _ _ _ rfl (by decide +kernel), by decide +kernel⟩,
   ⟨grants_ask _ _ _ rfl (by decide +kernel), by decide +kernel⟩,
   by decide +kernel,
   ⟨grants_ask _ _ _ rfl (by decide +kernel), by decide +kernel⟩,
   ⟨grants_ask _ _ _ rfl (by decide +kernel), by decide +kernel⟩,
   by decide +kernel,
   by decide +kernel,
   by decide +kernel,
   ⟨grants_ask _ _ _ rfl (by decide +kernel), by decide +kernel⟩,
   ⟨grants_ask _ _ _ rfl (by decide +kernel), by decide +kernel⟩,
   ⟨grants_ask _ _ _ rfl (by decide +kernel), by decide +kernel⟩,
   by decide +kernel,
   by decide +kernel,
   by decide +kernel,
   by decide +kernel⟩

def goodPart (owner : Bool) : BootPart :=
  ⟨if owner then 0x4357424F else 0x43574256, 1, 64, 5, if owner then 1 else 2, true, true, true,
    if owner then [(2, 2, 25165824, true, [3])] else [(0, 0, 1572864, true, [1]), (1, 1, 8388608, true, [2])]⟩
def goodImage : BootImage := ⟨some (goodPart false), some (goodPart true), 33554432, some ⟨67108864, true⟩⟩
def badImage : BootImage := { goodImage with vendor := some { goodPart false with sigOk := false } }
def longImage : BootImage := { goodImage with span := 33554433 }
def inDev (n : Nat) (f : Device → Device) : Body := let b := inState n Body.reset; { b with dev := f { b.dev with cause := none } }

def wDoubtResetAndBoot1 : State := stOf { inDev 6 (fun d => d) with tu := { Body.reset.tu with trig := [(15, ⟨none, 0, none, true, [], []⟩)] } }

def wDoubtResetAndBoot2 : State := stOf (regs [(0x1A10, 0, 7)] (inDev 7 (fun d => { d with bootSel := 2, failed := some 0, bootTb := 5 })))

def wDoubtResetAndBoot3 : State := stOf (inDev 6 (fun d => d))

def wDoubtResetAndBoot4 : State := stOf { inDev 6 (fun d => d) with flt := { Body.reset.flt with railBad := [(7, 1)], tempBad := [(11, 1)] } }

def wDoubtResetAndBoot7 : State := stOf (withSess (user 3) (inDev 6 (fun d => d)))

def wDoubtResetAndBoot10 : State := stOf (withSess (user 3) (withRod 0 { Rod.reset with phase := .service, lock := true } (withMap (regs [(0x1300, 1, 4), (0x1A10, 0, 11)] (inDev 7 (fun d => d))))))

def wDoubtResetAndBoot12 : State := stOf (withOp 0x0419 [] (regs [(0x1A10, 0, 11), (0x010B, 0, 4), (0x1A02, 0, 6)] (inDev 7 (fun d => d))))

def wDoubtResetAndBoot13 : State := stOf (withSess (user 3) { regs [(0x1A00, 0, 1), (0x0803, 0, 5), (0x1C00, 0, 77)] (inDev 6 (fun d => d)) with mem := [(5, 5)] })

def wDoubtResetAndBoot15 : State := stOf (regs [(0x1A00, 0, 1)] Body.reset)

def wDoubtResetAndBoot17 : State := stOf { Body.reset with dev := { Body.reset.dev with resetDue := some 10000000000001 } }

def wDoubtResetAndBoot18 : State := stOf (regs [(0x0123, 0, 1)] (inDev 1 (fun d => { d with sources := [2], bootTb := 5, bootSel := 1 })))

def wDoubtResetAndBoot20 : State := stOf (inDev 1 (fun d => { d with sources := [1, 2], bootTb := 5, bootSel := 2 }))

def wDoubtResetAndBoot21 : State := stOf (regs [(0x0123, 0, 0)] (inDev 1 (fun d => { d with sources := [2], bootTb := 5, bootSel := 1 })))

def wDoubtResetAndBoot22 : State := { stOf (inDev 1 (fun d => { d with sources := [3], bootTb := 5, bootSel := 1 })) with clk := ⟨70, 0, 0, 2 ^ 41, 40000000000⟩ }

def wDoubtResetAndBoot23 : State := stOf (inDev 1 (fun d => { d with sources := [3], bootTb := 5, bootSel := 2 }))

def wDoubtResetAndBoot25 : State := stOf (withSess (user 3) (regs [(0x010B, 0, 6)] (inDev 5 (fun d => d))))

def wDoubtResetAndBoot26 : State := stOf (withSess (user 3) (regs [(0x010B, 0, 5)] (inDev 5 (fun d => d))))

def wDoubtResetAndBoot27 : State := stOf (withSess (user 3) (regs [(0x010B, 0, 6), (0x0909, 0, 1)] (inDev 5 (fun d => d))))

def wDoubtResetAndBoot28 : State := stOf (withSess (user 3) (inDev 8 (fun d => d)))

def wDoubtResetAndBoot30 : State := stOf (withOp 0x0418 [] (regs [(0x1805, 0, 4), (0x1A10, 0, 2)] { inDev 8 (fun d => d) with mem := [(5, 5)] }))

def wDoubtResetAndBoot32 : State := stOf (regs [(0x1805, 0, 1)] (inDev 2 (fun d => d)))

def wDoubtResetAndBoot34 : State := stOf (inDev 0 (fun d => d))

def wDoubtResetAndBoot36 : State := stOf (withSess (user 3) { regs [(0x1A10, 0, 4)] (inDev 7 (fun d => d)) with flt := { Body.reset.flt with cleared := [(4, 5)] } })

def wDoubtResetAndBoot37 : State := stOf (withSess (user 3) { regs [(0x1A10, 0, 4)] (inDev 7 (fun d => d)) with flt := { Body.reset.flt with cleared := [(4, 9999999999999)] } })

def wDoubtResetAndBoot38 : State := stOf (withSess (user 3) (regs [(0x1A10, 0, 1)] (inDev 7 (fun d => d))))

def wDoubtResetAndBoot39 : State := stOf (withSess (user 3) (withOp 0x0419 [] (regs [(0x1A10, 0, 11)] (inDev 7 (fun d => { d with recoverRods := [0] })))))

def wDoubtResetAndBoot41 : State := stOf (withOp 0x0419 [] (regs [(0x1A10, 0, 11), (0x010B, 0, 6)] (inDev 7 (fun d => d))))

def wDoubtResetAndBoot42 : State := stOf (inDev 7 (fun d => d))

def wDoubtResetAndBoot43 : State := stOf (inDev 6 (fun d => d))

def wDoubtResetAndBoot46 : State := stOf (withSess (user 3) { (inDev 7 (fun d => d)) with mem := [(5, 5)] })

def wDoubtResetAndBoot47 : State := stOf (inDev 1 (fun d => { d with sources := [], bootTb := 9999999999999 }))

def wDoubtResetAndBoot50 : State := stOf (inDev 3 (fun d => { d with sources := [1] }))

def wDoubtResetAndBoot51 : State := stOf (regs [(0x1A10, 0, 7)] (inDev 7 (fun d => { d with sources := [2], bootTb := 5, bootSel := 1 })))

def wDoubtResetAndBoot52 : State := stOf (inDev 1 (fun d => { d with sources := [3, 1], bootTb := 5, bootSel := 3 }))

def wDoubtResetAndBoot53 : State := stOf (withSess (user 3) (withOp 0x0418 [] (inDev 8 (fun d => d))))

def wDoubtResetAndBoot55 : State := stOf (withOp 0x0418 [] (regs [(0x1805, 0, 4), (0x1A10, 0, 2), (0x0120, 55, 3)] (inDev 8 (fun d => d))))

def wDoubtResetAndBoot56 : State := stOf (withOp 0x0418 [] (regs [(0x1805, 0, 4), (0x1A10, 0, 2)] { inDev 8 (fun d => d) with mem := [(5, 5)] }))

def wDoubtResetAndBoot57 : State := stOf (regs [(0x1805, 0, 2)] (inDev 2 (fun d => d)))

def wDoubtResetAndBoot58 : State := stOf (regs [(0x1805, 0, 1)] (inDev 2 (fun d => d)))

theorem witness_DoubtResetAndBoot :
    (MayDoubt wDoubtResetAndBoot1) ∧
    ((wDoubtResetAndBoot2.b.devState = devSafe ∧ wDoubtResetAndBoot2.b.dev.cause = none) ∧
     (wDoubtResetAndBoot3.b.devState ≠ devOff ∧ ∀ k, k < 8 → ∀ v ∈ ([850, 850] : List Nat)[k]?, wDoubtResetAndBoot3.b.railOk wDoubtResetAndBoot3.env k v = true ∨ mgetD 0 k wDoubtResetAndBoot3.b.flt.railBad ≠ 1)) ∧
    (MayDoubt wDoubtResetAndBoot4 ∧ ([850, 850, 800, 850, 1200, 1100, 400, 2000] : List Nat)[7]? = some 2000 ∧ wDoubtResetAndBoot4.b.railOk wDoubtResetAndBoot4.env 7 2000 = false ∧ mgetD 0 7 wDoubtResetAndBoot4.b.flt.railBad = 1) ∧
    (wDoubtResetAndBoot3.b.devState ≠ devOff ∧ ∀ k, k < 12 → ∀ v ∈ [(1760 : Int), -5][k]?, v ≤ 1760 ∨ mgetD 0 k wDoubtResetAndBoot3.b.flt.tempBad ≠ 1) ∧
    (MayDoubt wDoubtResetAndBoot4 ∧ (List.replicate 11 (0 : Int) ++ [1761])[11]? = some 1761 ∧ mgetD 0 11 wDoubtResetAndBoot4.b.flt.tempBad = 1) ∧
    (Grants wDoubtResetAndBoot7 (askWrite 0x1A13 (0) (.n 1)) 0x1A13 (0) (.n 1) (user 3) ∧ MayDoubt wDoubtResetAndBoot7) ∧
    ((MayDoubt wDoubtResetAndBoot3) ∧
     (¬ MayDoubt wDoubtResetAndBoot2)) ∧
    (Grants wDoubtResetAndBoot10 (askWrite 0x0419 (1) (.n 1)) 0x0419 (1) (.n 1) (user 3) ∧ wDoubtResetAndBoot10.b.opBusy 0x0419 = false ∧ wDoubtResetAndBoot10.b.devState = devSafe ∧ wDoubtResetAndBoot10.b.regN 0x1A10 0 ≠ 1 ∧ wDoubtResetAndBoot10.b.regN 0x1A10 0 ≠ 7 ∧ wDoubtResetAndBoot10.b.regN 0x1A10 0 = 11 ∧ wDoubtResetAndBoot10.b.recoverable = [0]) ∧
    (Grants wDoubtResetAndBoot7 (askWrite 0x0419 (1) (.n 1)) 0x0419 (1) (.n 1) (user 3) ∧ wDoubtResetAndBoot7.b.opBusy 0x0419 = false ∧ wDoubtResetAndBoot7.b.devState ≠ devSafe) ∧
    ((wDoubtResetAndBoot12.b.opState 0x0419 = 1 ∧ wDoubtResetAndBoot12.b.dev.recoverRods = [] ∧ wDoubtResetAndBoot12.b.devState = devSafe ∧ wDoubtResetAndBoot12.b.regN 0x010B 0 = 4 ∧ wDoubtResetAndBoot12.b.pairState = pairDemoted) ∧
     ((2 : Nat) = 1 ∨ (2 : Nat) = 2)) ∧
    (Grants wDoubtResetAndBoot7 (askWrite 0x010D (0) (.n 1)) 0x010D (0) (.n 1) (user 3) ∧ wDoubtResetAndBoot7.b.dev.cause = none) ∧
    ((wDoubtResetAndBoot15.b.dev.cause = some 1 ∧ wDoubtResetAndBoot15.b.dev.resetDue = none ∧ wDoubtResetAndBoot15.b.regN 0x1A00 0 = 1) ∧
     (wDoubtResetAndBoot17.b.dev.resetDue = some 10000000000001 ∧ wDoubtResetAndBoot17.clk.tb < 10000000000001) ∧
     (wDoubtResetAndBoot18.b.dev.sources = 2 :: [] ∧ wDoubtResetAndBoot18.b.booting = true ∧ wDoubtResetAndBoot18.b.containerBad 2 goodImage = [] ∧ bit (wDoubtResetAndBoot18.b.regN 0x0123 0) 0 = true)) ∧
    ((wDoubtResetAndBoot18.b.booting = true ∧ wDoubtResetAndBoot18.b.containerBad 2 badImage = 0 :: [1] ∧ wDoubtResetAndBoot18.b.devState = devBoot) ∧
     (wDoubtResetAndBoot20.b.dev.sources = 1 :: [2] ∧ wDoubtResetAndBoot20.b.booting = true ∧ wDoubtResetAndBoot20.b.containerBad 1 longImage = 0 :: [1, 2]) ∧
     (wDoubtResetAndBoot21.b.dev.sources = 2 :: [] ∧ wDoubtResetAndBoot21.b.booting = true ∧ wDoubtResetAndBoot21.b.containerBad 2 goodImage = [] ∧ bit (wDoubtResetAndBoot21.b.regN 0x0123 0) 0 = false)) ∧
    ((wDoubtResetAndBoot22.b.dev.sources = 3 :: [] ∧ wDoubtResetAndBoot22.b.booting = true ∧ wDoubtResetAndBoot22.env.after wDoubtResetAndBoot22.b.dev.bootTb 60000000000 = true ∧ wDoubtResetAndBoot22.b.dev.bootSel = 1) ∧
     (wDoubtResetAndBoot23.b.dev.sources = 3 :: [] ∧ wDoubtResetAndBoot23.b.booting = true ∧ wDoubtResetAndBoot23.env.after wDoubtResetAndBoot23.b.dev.bootTb 60000000000 = true ∧ wDoubtResetAndBoot23.b.dev.bootSel ≠ 1 ∧ wDoubtResetAndBoot23.b.devState = devBoot) ∧
     (wDoubtResetAndBoot2.b.booting = true ∧ wDoubtResetAndBoot2.b.devState = devSafe ∧ wDoubtResetAndBoot2.b.dev.sources = [] ∧ wDoubtResetAndBoot2.b.dev.failed.isSome = true ∧ wDoubtResetAndBoot2.b.dev.bootSel = 2 ∧ wDoubtResetAndBoot2.env.after wDoubtResetAndBoot2.b.dev.bootTb 10000000000 = true)) ∧
    (Grants wDoubtResetAndBoot25 (askWrite 0x010B (0) (.n ((5 : Nat) : Int))) 0x010B (0) (.n ((5 : Nat) : Int)) (user 3) ∧ NothingDue wDoubtResetAndBoot25 ∧ ¬ (5 < 6 ∧ wDoubtResetAndBoot25.b.regN 0x010B 0 = 6 ∧ wDoubtResetAndBoot25.b.regN 0x0909 0 ≠ 0)) ∧
    (Grants wDoubtResetAndBoot26 (askWrite 0x010B (0) (.n ((6 : Nat) : Int))) 0x010B (0) (.n ((6 : Nat) : Int)) (user 3) ∧ NothingDue wDoubtResetAndBoot26 ∧ ¬ (6 < 6 ∧ wDoubtResetAndBoot26.b.regN 0x010B 0 = 6 ∧ wDoubtResetAndBoot26.b.regN 0x0909 0 ≠ 0)) ∧
    (Grants wDoubtResetAndBoot27 (askWrite 0x010B (0) (.n ((5 : Nat) : Int))) 0x010B (0) (.n ((5 : Nat) : Int)) (user 3) ∧ NothingDue wDoubtResetAndBoot27 ∧ wDoubtResetAndBoot27.b.regN 0x010B 0 = 6 ∧ wDoubtResetAndBoot27.b.regN 0x0909 0 ≠ 0) ∧
    (Grants wDoubtResetAndBoot28 (askWrite 0x0418 (1) (.n 1)) 0x0418 (1) (.n 1) (user 3) ∧ wDoubtResetAndBoot28.b.opBusy 0x0418 = false ∧ wDoubtResetAndBoot28.b.devState = devFrozen) ∧
    (Grants wDoubtResetAndBoot7 (askWrite 0x0418 (1) (.n 1)) 0x0418 (1) (.n 1) (user 3) ∧ wDoubtResetAndBoot7.b.opBusy 0x0418 = false ∧ wDoubtResetAndBoot7.b.devState ≠ devFrozen) ∧
    ((wDoubtResetAndBoot30.b.regN 0x1805 0 = 4 ∧ wDoubtResetAndBoot30.b.opState 0x0418 = 1 ∧ wDoubtResetAndBoot30.b.clkLost 54 = false ∧ wDoubtResetAndBoot30.b.clkLost 55 = false) ∧
     (wDoubtResetAndBoot32.b.regN 0x1805 0 = 1 ∧ wDoubtResetAndBoot32.b.devState = devVerified ∧ ∀ v ∈ [true, true], v = true) ∧
     (wDoubtResetAndBoot34.b.devState = devOff)) ∧
    (Grants wDoubtResetAndBoot36 (askWrite 0x0419 (1) (.n 1)) 0x0419 (1) (.n 1) (user 3) ∧ wDoubtResetAndBoot36.b.opBusy 0x0419 = false ∧ wDoubtResetAndBoot36.b.devState = devSafe ∧ wDoubtResetAndBoot36.b.regN 0x1A10 0 = 4 ∧ wDoubtResetAndBoot36.b.faultGone wDoubtResetAndBoot36.env (wDoubtResetAndBoot36.b.regN 0x1A10 0) = true ∧ wDoubtResetAndBoot36.b.recoverable = []) ∧
    (Grants wDoubtResetAndBoot37 (askWrite 0x0419 (1) (.n 1)) 0x0419 (1) (.n 1) (user 3) ∧ wDoubtResetAndBoot37.b.opBusy 0x0419 = false ∧ 3 ≤ wDoubtResetAndBoot37.b.regN 0x1A10 0 ∧ wDoubtResetAndBoot37.b.regN 0x1A10 0 ≤ 5 ∧ wDoubtResetAndBoot37.b.faultGone wDoubtResetAndBoot37.env (wDoubtResetAndBoot37.b.regN 0x1A10 0) = false) ∧
    (Grants wDoubtResetAndBoot38 (askWrite 0x0419 (1) (.n 1)) 0x0419 (1) (.n 1) (user 3) ∧ wDoubtResetAndBoot38.b.opBusy 0x0419 = false ∧ wDoubtResetAndBoot38.b.regN 0x1A10 0 = 1) ∧
    (Grants wDoubtResetAndBoot39 (askWrite 0x0419 (1) (.n 1)) 0x0419 (1) (.n 1) (user 3) ∧ wDoubtResetAndBoot39.b.opBusy 0x0419 = true ∧ wDoubtResetAndBoot39.b.dev.recoverRods ≠ []) ∧
    ((wDoubtResetAndBoot39.b.dev.recoverRods ≠ []) ∧
     (wDoubtResetAndBoot41.b.opState 0x0419 = 1 ∧ wDoubtResetAndBoot41.b.dev.recoverRods = [] ∧ wDoubtResetAndBoot41.b.devState = devSafe ∧ wDoubtResetAndBoot41.b.regN 0x010B 0 = 6) ∧
     (wDoubtResetAndBoot42.b.opState 0x0419 ≠ 1)) ∧
    (((4 : Nat) ≠ 1 ∧ (4 : Nat) ≠ 2 ∧ wDoubtResetAndBoot43.b.devState ≠ devSafe) ∧
     (wDoubtResetAndBoot43.b.dev.cause = none) ∧
     (wDoubtResetAndBoot46.b.devState = devSafe)) ∧
    ((wDoubtResetAndBoot47.b.dev.sources = [] ∧ wDoubtResetAndBoot47.env.after wDoubtResetAndBoot47.b.dev.bootTb 60000000000 = false ∧ wDoubtResetAndBoot47.env.after wDoubtResetAndBoot47.b.dev.bootTb 10000000000 = false) ∧
     (wDoubtResetAndBoot50.b.booting = false) ∧
     (wDoubtResetAndBoot51.b.dev.sources = 2 :: [] ∧ wDoubtResetAndBoot51.b.booting = true ∧ wDoubtResetAndBoot51.b.containerBad 2 badImage = 0 :: [1] ∧ wDoubtResetAndBoot51.b.devState = devSafe)) ∧
    (wDoubtResetAndBoot52.b.dev.sources = 3 :: [1] ∧ wDoubtResetAndBoot52.b.booting = true ∧ wDoubtResetAndBoot52.env.after wDoubtResetAndBoot52.b.dev.bootTb 60000000000 = true ∧ wDoubtResetAndBoot52.b.dev.bootSel ≠ 1 ∧ ([1] : List Nat) ≠ []) ∧
    (Grants wDoubtResetAndBoot53 (askWrite 0x0418 (1) (.n 1)) 0x0418 (1) (.n 1) (user 3) ∧ wDoubtResetAndBoot53.b.opBusy 0x0418 = true ∧ wDoubtResetAndBoot53.b.regN 0x1805 0 ≠ 4) ∧
    ((wDoubtResetAndBoot53.b.regN 0x1805 0 ≠ 4) ∧
     (wDoubtResetAndBoot55.b.regN 0x1805 0 = 4 ∧ wDoubtResetAndBoot55.b.opState 0x0418 = 1 ∧ wDoubtResetAndBoot55.b.clkLost 54 = true) ∧
     (wDoubtResetAndBoot56.b.regN 0x1805 0 = 4 ∧ wDoubtResetAndBoot56.b.opState 0x0418 = 1 ∧ wDoubtResetAndBoot56.b.clkLost 54 = false ∧ wDoubtResetAndBoot56.b.clkLost 55 = false)) ∧
    ((wDoubtResetAndBoot57.b.regN 0x1805 0 ≠ 1) ∧
     (wDoubtResetAndBoot58.b.regN 0x1805 0 = 1 ∧ wDoubtResetAndBoot58.b.devState = devVerified ∧ (([true, false].zip [1, 2]).find? (fun q => !q.1)).map (fun q => q.2) = some 2)) :=
  ⟨by unfold MayDoubt; decide +kernel,
   by decide +kernel,
   by unfold MayDoubt; decide +kernel,
   by decide +kernel,
   by unfold MayDoubt; decide +kernel,
   ⟨grants_ask _ _ _ rfl (by decide +kernel), by unfold MayDoubt; decide +kernel⟩,
   by unfold MayDoubt; decide +kernel,
   ⟨grants_ask _ _ _ rfl (by decide +kernel), by decide +kernel⟩,
   ⟨grants_ask _ _ _ rfl (by decide +kernel), by decide +kernel⟩,
   by decide +kernel,
   ⟨grants_ask _ _ _ rfl (by decide +kernel), by decide +kernel⟩,
   by decide +kernel,
   by decide +kernel,
   by decide +kernel,
   ⟨grants_ask _ _ _ rfl (by decide +kernel), ⟨nothing_due_of (by decide +kernel) (by decide +kernel) (by decide +kernel), by decide +kernel⟩⟩,
   ⟨grants_ask _ _ _ rfl (by decide +kernel), ⟨nothing_due_of (by decide +kernel) (by decide +kernel) (by decide +kernel), by decide +kernel⟩⟩,
   ⟨grants_ask _ _ _ rfl (by decide +kernel), ⟨nothing_due_of (by decide +kernel) (by decide +kernel) (by decide +kernel), by decide +kernel⟩⟩,
   ⟨grants_ask _ _ _ rfl (by decide +kernel), by decide +kernel⟩,
   ⟨grants_ask _ _ _ rfl (by decide +kernel), by decide +kernel⟩,
   by decide +kernel,
   ⟨grants_ask _ _ _ rfl (by decide +kernel), by decide +kernel⟩,
   ⟨grants_ask _ _ _ rfl (by decide +kernel), by decide +kernel⟩,
   ⟨grants_ask _ _ _ rfl (by decide +kernel), by decide +kernel⟩,
   ⟨grants_ask _ _ _ rfl (by decide +kernel), by decide +kernel⟩,
   by decide +kernel,
   by decide +kernel,
   by decide +kernel,
   by decide +kernel,
   ⟨grants_ask _ _ _ rfl (by decide +kernel), by decide +kernel⟩,
   by decide +kernel,
   by decide +kernel⟩
end Sys2Proof.Tests
end

namespace Sys2Proof.Machine

/-! ## The wall clock along WALL_CLOCK_TICK (R11, R33, R36, R44)

Ticks reduce every field of the clock, so they need nothing of the clock they start from; and whatever changes and forced steps a tick
command takes on its way, its last act is a run of ticks. -/

theorem Clock.ticks_inRange (c : Clock) (n : Nat) : Clock.InRange (c.ticks n) :=
  ⟨Nat.mod_lt _ (by decide), Nat.mod_lt _ (by decide), Nat.mod_lt _ (by decide)⟩

/-- All four ways through a run end with ticks: a forced step at E_d, one that is not due, no forced step, no switch. -/
theorem State.run_inRange (s : State) (n : Nat) : Clock.InRange (s.run n).clk := by
  simp only [State.run]
  repeat' split
  all_goals exact Clock.ticks_inRange _ _

theorem State.advance_inRange (s : State) (n : Nat) : Clock.InRange (s.advance n).clk :=
  State.run_inRange _ _

/-! ## The wall clock along every other command (R34, R500) -/

/-- The clock a reset leaves: zero, the tick count going on. -/
theorem Clock.reset_inRange (tb : Nat) : Clock.InRange { Clock.reset with tb := tb } :=
  (by decide : Clock.reset.sec < 2 ^ 48 ∧ Clock.reset.ns < 1000000000 ∧ Clock.reset.frac < 2 ^ 40)

/-- The outcome is a next state with the queue of s, and its clock is that of s or the one a reset leaves. -/
def KeepsOrResetsClock (s : State) (o : Host.Outcome State Fault Refusal) : Prop :=
  ∃ t, o = .next t ∧ t.pending = s.pending ∧ (t.clk = s.clk ∨ t.clk = { Clock.reset with tb := s.clk.tb })

theorem State.act_keepsOrResetsClock (s : State) (f : Body → Body) : KeepsOrResetsClock s (s.act f) :=
  ⟨_, rfl, rfl, .inl rfl⟩

theorem State.actR_keepsOrResetsClock (s : State) (f : Body → Body) : KeepsOrResetsClock s (s.actR f) := by
  unfold State.actR State.settle
  split
  · exact ⟨_, rfl, rfl, .inr rfl⟩
  · exact ⟨_, rfl, rfl, .inl rfl⟩

theorem execResetAssert_keepsOrResetsClock (cause : Nat) (s : State) : KeepsOrResetsClock s (execResetAssert cause s) := by
  refine ⟨_, rfl, rfl, ?_⟩
  dsimp only
  split
  · exact .inr rfl
  · exact .inl rfl

/-- Only WALL_CLOCK_TICK runs the clock. Six commands may assert a reset in their effect on the body, RESET_ASSERT is one, and every
other acts on the body alone. -/
theorem exec_keepsOrResetsClock {c : Instr} (s : State) (hc : ∀ n, c ≠ .wallClockTick n) : KeepsOrResetsClock s (exec c s) := by
  cases c with
  | wallClockTick n => exact absurd rfl (hc n)
  | resetAssert cause => exact execResetAssert_keepsOrResetsClock cause s
  | devResetWrite | write | shadowWrite | mailboxDoorbell | hbmRequest | lockstepMismatch => exact s.actR_keepsOrResetsClock _
  | upWordLockLost x | upWordLockGained x => exact s.act_keepsOrResetsClock (fun b => b.hear s.env x.rod x.words)
  | wakeSlotRelease n p => exact s.act_keepsOrResetsClock (fun b => (slotRelease s.env n p b).progress s.env)
  | _ => exact s.act_keepsOrResetsClock _

/-! ## Every step -/

theorem KeepsOrResetsClock.inRange {s t : State} (h : KeepsOrResetsClock s (.next t)) (hs : Clock.InRange s.clk) :
    Clock.InRange t.clk := by
  obtain ⟨t', ht, -, hclk⟩ := h
  cases ht
  rcases hclk with hkept | hreset
  · rw [hkept]; exact hs
  · rw [hreset]; exact Clock.reset_inRange s.clk.tb

theorem exec_inRange {c : Instr} {s t : State} (hs : Clock.InRange s.clk) (h : exec c s = .next t) : Clock.InRange t.clk := by
  by_cases hc : ∃ n, c = .wallClockTick n
  · obtain ⟨n, rfl⟩ := hc
    cases h
    exact s.advance_inRange n
  · exact (h ▸ exec_keepsOrResetsClock s (not_exists.mp hc)).inRange hs

/-- Settles O4: a tick command leaves the clock in range from any state, and every other keeps the clock or resets it. -/
theorem clockStaysInRange : Obligations.ClockStaysInRange := by
  unfold Obligations.ClockStaysInRange
  intro s t hs h
  cases hp : s.pending with
  | nil =>
    simp only [step, hp] at h
    cases h
    exact hs
  | cons c cs =>
    simp only [step, hp] at h
    exact exec_inRange (s := { s with pending := cs }) hs h

end Sys2Proof.Machine

namespace Sys2Proof.Machine

/-! ## Registers that an update spares

`RegsAgree K b c` says of two bodies that registers with a key in K read alike. Each lemma carries such an agreement through one update, so
the proof for an operation follows the chain of updates the operation is made of. Two sets of keys serve: those of the clock domains and the references,
which lie below almost everything that is written, and these with the record of a doubt. -/

/-- `dev.clk_state` to `dev.refclk_ok`: indices 0x0120 to 0x0123 (R25, R27). -/
def ClockKey (k : Nat) : Prop := 0x012000 ≤ k ∧ k < 0x012400

/-- The clock registers, and cause, time and detail of a doubt: indices 0x1A10 to 0x1A12 (R443). -/
def ClockOrDoubtKey (k : Nat) : Prop := ClockKey k ∨ 0x1A1000 ≤ k ∧ k < 0x1A1300

/-- Every register whose key lies in K reads in c as in b. -/
def RegsAgree (K : Nat → Prop) (b c : Body) : Prop := ∀ i j, K (key i j) → c.reg i j = b.reg i j

section
variable {K : Nat → Prop} {b c d : Body}

theorem RegsAgree.refl (K : Nat → Prop) (b : Body) : RegsAgree K b b := fun _ _ _ => rfl

theorem RegsAgree.trans (h : RegsAgree K b c) (k : RegsAgree K c d) : RegsAgree K b d :=
  fun i j hk => (k i j hk).trans (h i j hk)

theorem RegsAgree.mono {L : Nat → Prop} (h : RegsAgree K b c) (hL : ∀ k, L k → K k) : RegsAgree L b c :=
  fun i j hk => h i j (hL _ hk)

theorem RegsAgree.regN (h : RegsAgree K b c) {i j : Nat} (hk : K (key i j)) : c.regN i j = b.regN i j := by
  simp [Body.regN, h i j hk]

theorem RegsAgree.of_num (h : RegsAgree K b c) (hd : d.num = c.num) : RegsAgree K b d :=
  fun i j hk => (Body.reg_congr hd i j).trans (h i j hk)

theorem RegsAgree.ite {p : Prop} [Decidable p] (hc : RegsAgree K b c) (hd : RegsAgree K b d) :
    RegsAgree K b (if p then c else d) := by
  split <;> assumption

theorem RegsAgree.foldl {α : Type} {f : Body → α → Body} (h : RegsAgree K b c) (l : List α)
    (hf : ∀ x, RegsAgree K b x → ∀ a ∈ l, RegsAgree K b (f x a)) : RegsAgree K b (l.foldl f c) :=
  List.foldlRecOn l f h hf

theorem RegsAgree.setReg (h : RegsAgree K b c) (i j : Nat) {v : Int}
    (hk : ¬ K (key i j) := by simp only [ClockOrDoubtKey, ClockKey, key]; omega) : RegsAgree K b (c.setReg i j v) := by
  intro i' j' hk'
  have hne : key i' j' ≠ key i j := fun heq => hk (heq ▸ hk')
  rw [c.reg_setReg_ne v hne, h i' j' hk']

theorem RegsAgree.raise (h : RegsAgree K b c) (e : Env) (s det : Nat)
    (hK : ∀ k, K k → k < 0x030800 ∨ 0x031000 ≤ k := by simp only [ClockOrDoubtKey, ClockKey]; omega) :
    RegsAgree K b (c.raise e s det) :=
  fun i j hk => (c.reg_raise e s det (hK _ hk)).trans (h i j hk)

/-- The lifetime counters lie from 0x1C00, their full bits at 0x1C10 (R474). -/
theorem RegsAgree.tally (h : RegsAgree K b c) (e : Env) (rec sub n : Nat)
    (hk : ∀ k, 0x1C0000 ≤ k → ¬ K k := by simp only [ClockOrDoubtKey, ClockKey]; omega)
    (hK : ∀ k, K k → k < 0x030800 ∨ 0x031000 ≤ k := by simp only [ClockOrDoubtKey, ClockKey]; omega) :
    RegsAgree K b (c.tally e rec sub n) := by
  have hstored (v : Int) : RegsAgree K b (c.setReg (0x1C00 + rec) sub v) := h.setReg _ _ (hk _ (by unfold key; omega))
  unfold Body.tally
  exact (hstored _).ite ((hstored _).ite (((hstored _).setReg 0x1C10 0 (hk _ (by decide))).raise e 976 rec hK))

theorem RegsAgree.modRod (h : RegsAgree K b c) (n : Nat) (f : Rod → Rod) : RegsAgree K b (c.modRod n f) := h.of_num rfl

theorem RegsAgree.setTrig (h : RegsAgree K b c) (t : Nat) (x : Trig) : RegsAgree K b (c.setTrig t x) := h.of_num rfl

theorem RegsAgree.tookFree (h : RegsAgree K b c) (n : Nat) : RegsAgree K b (c.tookFree n) := h.of_num rfl

theorem RegsAgree.withOps (h : RegsAgree K b c) (o : Map OpRun) : RegsAgree K b { c with ops := o } := h.of_num rfl

theorem RegsAgree.withSeq (h : RegsAgree K b c) (q : Seq) : RegsAgree K b { c with seq := q } := h.of_num rfl

theorem RegsAgree.withBeads (h : RegsAgree K b c) (x : Beads) : RegsAgree K b { c with beads := x } := h.of_num rfl

theorem RegsAgree.withPair (h : RegsAgree K b c) (x : Pair) : RegsAgree K b { c with pair := x } := h.of_num rfl

theorem RegsAgree.withDev (h : RegsAgree K b c) (x : Device) : RegsAgree K b { c with dev := x } := h.of_num rfl

theorem RegsAgree.withFlt (h : RegsAgree K b c) (x : Fault1) : RegsAgree K b { c with flt := x } := h.of_num rfl

theorem RegsAgree.withHbm (h : RegsAgree K b c) (x : Hbm) : RegsAgree K b { c with hbm := x } := h.of_num rfl

theorem RegsAgree.pairSend (h : RegsAgree K b c) (e : Env) (m : PairMsg) : RegsAgree K b (c.pairSend e m) := h.of_num (by simp)

theorem RegsAgree.withCor (h : RegsAgree K b c) (x : Corr) : RegsAgree K b { c with cor := x } := h.of_num rfl

/-- An operation writes seven of its own values as it ends (R427). -/
theorem RegsAgree.opEnd (h : RegsAgree K b c) (e : Env) (idx : Nat) (ok : Bool) (code det : Nat)
    (hk : ∀ j, j < 8 → ¬ K (key idx j) := by simp only [ClockOrDoubtKey, ClockKey, key]; omega)
    (hK : ∀ k, K k → k < 0x030800 ∨ 0x031000 ≤ k := by simp only [ClockOrDoubtKey, ClockKey]; omega) :
    RegsAgree K b (c.opEnd e idx ok code det) := by
  have finish (ok : Bool) (code det : Nat) : RegsAgree K b (c.opFinish e idx ok code det) := by
    have written (st : Int) : RegsAgree K b
        ((((c.setReg idx 2 st).setReg idx 4 (code : Nat)).setReg idx 5 (det : Nat)).setReg idx 7 (e.wt : Nat)) :=
      (((h.setReg idx 2 (hk 2 (by decide))).setReg idx 4 (hk 4 (by decide))).setReg idx 5 (hk 5 (by decide))).setReg idx 7 (hk 7 (by decide))
    refine RegsAgree.raise (RegsAgree.withOps ?_ _) e _ _ hK
    split
    · exact (written _).setReg idx 3 (hk 3 (by decide))
    · exact ((written _).setReg idx 3 (hk 3 (by decide))).tookFree 1
  unfold Body.opEnd
  split
  · exact finish _ _ _
  · exact finish _ _ _

theorem RegsAgree.applyTaps (h : RegsAgree K b c) (n : Nat)
    (hk : ¬ K (key 0x130B (n + 1)) := by simp only [ClockOrDoubtKey, ClockKey, key]; omega) : RegsAgree K b (c.applyTaps n) := by
  unfold Body.applyTaps
  split
  · exact h
  · exact h.setReg _ _ hk

theorem RegsAgree.endSet (h : RegsAgree K b c) (n : Nat)
    (hk : ¬ K (key 0x130B (n + 1)) := by simp only [ClockOrDoubtKey, ClockKey, key]; omega) : RegsAgree K b (c.endSet n) := by
  unfold Body.endSet
  split
  · exact (h.modRod n _).applyTaps n hk
  · exact h

theorem RegsAgree.lostFrames (h : RegsAgree K b c) (n : Nat) : RegsAgree K b (c.lostFrames n) :=
  h.foldl _ fun x hx p _ => by
    split
    · exact hx
    · exact hx.of_num rfl

theorem RegsAgree.drive (h : RegsAgree K b c) (t : Nat) (level : Bool) : RegsAgree K b (c.drive t level) := by
  unfold Body.drive
  dsimp only
  split
  · exact h
  · exact h.of_num rfl

end

theorem mem_upFrom {m lo n : Nat} (h : m ∈ upFrom lo n) : lo ≤ m ∧ m < lo + n := by
  induction n generalizing lo with
  | zero => cases h
  | succ n ih =>
    cases h with
    | head => omega
    | tail _ h => have := ih h; omega

/-! ## What a doubt does after its record is made (R443)

The steps spare the clock registers and the record; a rod's or a trigger's own registers lie at its number above the index of the array. -/

section
variable {b c : Body}

theorem RegsAgree.enter (h : RegsAgree ClockOrDoubtKey b c) (e : Env) (st : Nat) : RegsAgree ClockOrDoubtKey b (c.enter e st) :=
  ((h.setReg 0x010A 0).setReg 0x010C 0).raise e 0 st

theorem RegsAgree.endStall (h : RegsAgree ClockOrDoubtKey b c) (e : Env) : RegsAgree ClockOrDoubtKey b (c.endStall e) := by
  unfold Body.endStall
  split
  · exact h
  · exact (h.setReg 0x0E04 0).withBeads _

theorem RegsAgree.darkAll (h : RegsAgree ClockOrDoubtKey b c) (ed : Int) : RegsAgree ClockOrDoubtKey b (c.darkAll ed) :=
  h.foldl _ fun x hx n hn => by
    have := mem_upFrom hn
    split
    · exact ((hx.lostFrames n).modRod n _).endSet n
    · exact hx

theorem RegsAgree.trigsLow (h : RegsAgree ClockOrDoubtKey b c) : RegsAgree ClockOrDoubtKey b c.trigsLow :=
  h.foldl _ fun x hx t ht => by
    have := mem_upFrom ht
    exact ((hx.setReg 0x0819 (t + 1)).setTrig t _).drive t false

theorem RegsAgree.dropSwitch (h : RegsAgree ClockOrDoubtKey b c) (e : Env) : RegsAgree ClockOrDoubtKey b (c.dropSwitch e) := by
  have hseq := h.withSeq { c.seq with sw := none, next := none, entering := false }
  unfold Body.dropSwitch
  dsimp only
  split
  · exact hseq
  · split
    · exact (hseq.setReg 0x0909 0).opEnd e 0x0412 false 2 0
    · exact hseq.setReg 0x0909 0

theorem RegsAgree.allEnded (h : RegsAgree ClockOrDoubtKey b c) : RegsAgree ClockOrDoubtKey b c.allEnded := by
  refine (RegsAgree.foldl h _ fun x hx p hp => ?_).withCor _
  have hfree : ¬ ClockOrDoubtKey (key p.1 p.2) := by
    simp only [List.mem_cons, List.not_mem_nil, or_false] at hp
    rcases hp with rfl | rfl | rfl | rfl <;> (simp only [ClockOrDoubtKey, ClockKey, key]; omega)
  split
  · exact hx.setReg _ _ hfree
  · exact hx

/-- What a doubt writes of itself: cause, time and detail (R443). -/
def Body.doubtRecord (b : Body) (e : Env) (cause det : Nat) : Body :=
  ((b.setReg 0x1A10 0 (cause : Nat)).setReg 0x1A11 0 (e.wt : Nat)).setReg 0x1A12 0 ((det % 2 ^ 32 : Nat))

end

/-- A doubt that is taken makes its record, and its further steps spare the record and the clock registers. -/
theorem Body.doubt_keepsRecord (b : Body) (e : Env) (cause det : Nat)
    (hs : ¬ (b.devState = devSafe ∨ b.devState = devFrozen ∨ b.devState = devOff)) :
    RegsAgree ClockOrDoubtKey (b.doubtRecord e cause det) (b.doubt e cause det) := by
  unfold Body.doubt
  rw [if_neg hs]
  have h2 := ((RegsAgree.refl ClockOrDoubtKey (b.doubtRecord e cause det)).raise e 896 cause).tally e 12 cause 1
  refine (((((((RegsAgree.withBeads ?_ _).endStall e).setReg 0x0E03 0).setReg 0x0E0A 0).darkAll _).trigsLow.dropSwitch e).allEnded).enter e _
  refine RegsAgree.ite (RegsAgree.setReg ?_ 0x1A02 0) ?_
  all_goals exact ((h2.pairSend e (.demote cause)).ite h2).withPair _

theorem Body.devState_enter (b : Body) (e : Env) (st : Nat) : (b.enter e st).devState = st := by
  unfold Body.enter Body.devState
  rw [Body.regN_raise _ _ _ _ (by decide), Body.regN_setReg_ne _ _ (by decide), Body.regN_setReg_same]

theorem Body.devState_doubt (b : Body) (e : Env) (cause det : Nat)
    (hs : ¬ (b.devState = devSafe ∨ b.devState = devFrozen ∨ b.devState = devOff)) :
    (b.doubt e cause det).devState = if cause = 2 then devFrozen else devSafe := by
  unfold Body.doubt
  rw [if_neg hs]
  exact Body.devState_enter _ _ _

/-- Taken or not, a doubt spares the clock registers. -/
theorem RegsAgree.doubt {b c : Body} (h : RegsAgree ClockKey b c) (e : Env) (cause det : Nat) :
    RegsAgree ClockKey b (c.doubt e cause det) := by
  by_cases hs : c.devState = devSafe ∨ c.devState = devFrozen ∨ c.devState = devOff
  · rw [Body.doubt, if_pos hs]
    exact h
  · have hrecord : RegsAgree ClockKey b (c.doubtRecord e cause det) := ((h.setReg 0x1A10 0).setReg 0x1A11 0).setReg 0x1A12 0
    exact hrecord.trans ((c.doubt_keepsRecord e cause det hs).mono fun _ => .inl)

end Sys2Proof.Machine

namespace Sys2Proof.Machine

/-! ## What the loss and the return of a PLL do, beside the clock registers (R27)

None of it writes one: a quad's rods stop, a port or the pairing link goes down, memory freezes, a doubt begins; a quad's rods begin
bring-up, sessions of the mailbox close. -/

section
variable {b c : Body}

theorem RegsAgree.setCause (h : RegsAgree ClockKey b c) (e : Env) (idx sub bits ev : Nat) (hi : 0x0124 ≤ idx := by decide) :
    RegsAgree ClockKey b (c.setCause e idx sub bits ev) := by
  unfold Body.setCause
  exact h.ite ((h.setReg idx sub).raise e ev _)

/-! ### A rod stops or begins bring-up -/

theorem RegsAgree.settle (h : RegsAgree ClockKey b c) (e : Env) (n rod : Nat) : RegsAgree ClockKey b (c.settle e n rod) := by
  unfold Body.settle
  split
  · exact h
  · split
    · exact h
    · exact h.ite ((h.setReg 0x0E0A 0).of_num rfl)

theorem RegsAgree.dropInStep (h : RegsAgree ClockKey b c) (n : Nat) : RegsAgree ClockKey b (c.dropInStep n) :=
  (h.modRod n _).endSet n

theorem RegsAgree.flushData (h : RegsAgree ClockKey b c) (e : Env) (n : Nat) : RegsAgree ClockKey b (c.flushData e n) :=
  ((h.dropInStep n).modRod n _).foldl _ fun _ hx s _ => hx.settle e s.n n

theorem RegsAgree.cancelPasses (h : RegsAgree ClockKey b c) (n : Nat) (all : Bool) : RegsAgree ClockKey b (c.cancelPasses n all) := by
  have hpartial {x : Body} (hx : RegsAgree ClockKey b x) : RegsAgree ClockKey b x.calPartial := by
    unfold Body.calPartial
    split
    · exact hx.withOps _
    · exact hx
  have htaps {p : Prop} [Decidable p] {x : Body} (hx : RegsAgree ClockKey b x) : RegsAgree ClockKey b (if p then x.applyTaps n else x) :=
    (hx.applyTaps n).ite hx
  unfold Body.cancelPasses
  exact (hpartial (htaps (h.modRod n _))).ite (htaps (h.modRod n _))

theorem RegsAgree.endSleep (h : RegsAgree ClockKey b c) (e : Env) (n : Nat) : RegsAgree ClockKey b (c.endSleep e n) := by
  unfold Body.endSleep
  split
  · exact h.modRod n _
  · exact (h.modRod n _).setReg 0x1310 (n + 1)

theorem RegsAgree.enumLost (h : RegsAgree ClockKey b c) (e : Env) (n : Nat) : RegsAgree ClockKey b (c.enumLost e n) := by
  unfold Body.enumLost
  split
  · exact h
  · have hlost := ((h.setReg 0x1202 (n + 1) (v := 1)).modRod n (fun x => { x with enumr := none, enumq := [] })).setCause e 0x1209 (n + 1)
      (2 ^ 0) (384 + n)
    exact (hlost.withDev _).ite hlost

theorem RegsAgree.forgetFresh (h : RegsAgree ClockKey b c) (n : Nat) : RegsAgree ClockKey b (c.forgetFresh n) :=
  h.foldl _ fun _ hx _ _ => (hx.of_num (by rfl)).ite hx

theorem RegsAgree.ringUpdate (h : RegsAgree ClockKey b c) (e : Env) (n : Nat) : RegsAgree ClockKey b (c.ringUpdate e n) := by
  unfold Body.ringUpdate
  dsimp only
  refine RegsAgree.withFlt (RegsAgree.ite (RegsAgree.ite (RegsAgree.raise (RegsAgree.withFlt ?_ _) e 908 0) ?_) ?_) _
  · exact (h.setReg 0x1208 (n + 1)).setCause e 0x1209 (n + 1) _ _
  · exact (h.setReg 0x1208 (n + 1)).setCause e 0x1209 (n + 1) _ _
  · exact h.setReg 0x1208 (n + 1)

theorem RegsAgree.rodStop (h : RegsAgree ClockKey b c) (e : Env) (n causeBit : Nat) : RegsAgree ClockKey b (c.rodStop e n causeBit) :=
  ((((((((((h.enumLost e n).cancelPasses n true).flushData e n).endSleep e n).modRod n _).lostFrames n).forgetFresh n).setReg 0x1300
    (n + 1)).setReg 0x1200 (n + 1)).setReg 0x1204 (n + 1)).setCause e 0x130F (n + 1) _ _ |>.ringUpdate e n

theorem RegsAgree.quadLost (h : RegsAgree ClockKey b c) (e : Env) (n : Nat) : RegsAgree ClockKey b (c.quadLost e n) := by
  have hdown : RegsAgree ClockKey b (if c.laneState n = 0 then c.laneCause e n 7 else c.rodStop e n 7) :=
    (h.setCause e 0x130F (n + 1) _ _).ite (h.rodStop e n 7)
  exact (hdown.raise e (576 + n) 0).ite hdown

theorem RegsAgree.bringup (h : RegsAgree ClockKey b c) (e : Env) (n : Nat) : RegsAgree ClockKey b (c.bringup e n) :=
  ((((((((((((h.enumLost e n).cancelPasses n true).flushData e n).lostFrames n).forgetFresh n).endSleep e n).modRod n _).setReg 0x1300
    (n + 1)).setReg 0x1200 (n + 1)).setReg 0x1204 (n + 1)).setReg 0x1308 (n + 1)).setReg 0x130A (n + 1))

/-! ### The pairing link goes down (R453) -/

theorem RegsAgree.endCompares (h : RegsAgree ClockKey b c) (e : Env) : RegsAgree ClockKey b (c.endCompares e) := by
  have hended : RegsAgree ClockKey b (c.beads.subs.foldl (fun x s => s.await.foldl (fun y r => y.endCompare e s.n r) x) c) :=
    h.foldl _ fun _ hx s _ => hx.foldl _ fun _ hy r _ => RegsAgree.settle (hy.of_num (by rfl)) e s.n r
  exact hended.foldl _ fun _ hx s _ => hx.foldl _ fun _ hy p _ => hy.settle e s.n p.1

theorem RegsAgree.outOfStep (h : RegsAgree ClockKey b c) (e : Env) (det : Nat) : RegsAgree ClockKey b (c.outOfStep e det) := by
  unfold Body.outOfStep
  refine RegsAgree.ite (RegsAgree.endCompares (RegsAgree.withPair ?_ _) e) h
  exact ((h.setReg 0x1A02 0).raise e 902 det).foldl _ fun _ hx n _ => hx.dropInStep n

theorem RegsAgree.pairLinkLost (h : RegsAgree ClockKey b c) (e : Env) : RegsAgree ClockKey b (c.pairLinkLost e) := by
  unfold Body.pairLinkLost
  exact h.ite (((((h.setReg 0x1A05 0).raise e 899 0).withPair _).outOfStep e 0).endCompares e)

/-! ### Memory freezes (R376) -/

theorem RegsAgree.setGen (h : RegsAgree ClockKey b c) (kind g st : Nat) : RegsAgree ClockKey b (c.setGen kind g st) := by
  have hidx : 0x0124 ≤ genIdx kind := by unfold genIdx; split <;> decide
  exact h.setReg (genIdx kind) (g + 1)

theorem RegsAgree.voidGen (h : RegsAgree ClockKey b c) (kind : Nat) : RegsAgree ClockKey b (c.voidGen kind) := by
  unfold Body.voidGen
  exact (h.setGen kind _ 6).ite h

theorem RegsAgree.loadFail (h : RegsAgree ClockKey b c) (e : Env) (kind code det : Nat) :
    RegsAgree ClockKey b (c.loadFail e kind code det) := by
  have hset : RegsAgree ClockKey b ((c.voidGen kind).setLoad kind ⟨[], false⟩) := (h.voidGen kind).of_num rfl
  exact (hset.raise e (336 + 2 * kind) 0).opEnd e (0x0410 + kind) false code det

theorem RegsAgree.memOpsFail (h : RegsAgree ClockKey b c) (e : Env) : RegsAgree ClockKey b (c.memOpsFail e) := by
  have hloads : RegsAgree ClockKey b ([0, 1].foldl (fun x k =>
      if x.opState (loadOp k) == 1 || x.opState (loadOp k) == 2 || x.opState (loadOp k) == 3 then x.loadFail e k stSource 0 else x) c) :=
    h.foldl _ fun _ hx k _ => (hx.loadFail e k _ 0).ite hx
  have hreckon {p : Prop} [Decidable p] {x : Body} (hx : RegsAgree ClockKey b x) :
      RegsAgree ClockKey b (if p then x.reckonFail e stSource 0 else x) :=
    ((((hx.voidGen 0).raise e 336 0).raise e 961 0).opEnd e 0x0415 false _ 0).ite hx
  have hdone {p : Prop} [Decidable p] {x : Body} (hx : RegsAgree ClockKey b x) :
      RegsAgree ClockKey b (if p then x.opEnd e 0x0416 false stFrozen 0 else x) :=
    (hx.opEnd e 0x0416 false _ 0).ite hx
  have hdose {p : Prop} [Decidable p] {x : Body} (hx : RegsAgree ClockKey b x) : RegsAgree ClockKey b (if p then x.clearDose else x) :=
    RegsAgree.ite (RegsAgree.setReg (RegsAgree.of_num hx (by rfl)) 0x1500 0) hx
  unfold Body.memOpsFail
  exact ((((hdose (hdone (hreckon hloads))).tookFree 1).raise e 964 0).opEnd e 0x0417 false _ 0).ite (hdone (hreckon hloads))

theorem Body.num_spoil (b : Body) (c : Nat) (r : DmaReq) : (b.spoil c r).num = b.num := by
  unfold Body.spoil Body.dmaStore
  dsimp only
  repeat' split
  all_goals rfl

theorem RegsAgree.chFaults (h : RegsAgree ClockKey b c) (e : Env) (ch code : Nat) : RegsAgree ClockKey b (c.chFaults e ch code) := by
  have hspoilt : RegsAgree ClockKey b (((c.ch ch).reqs.filter (c.mayHaveWritten ch)).foldl (fun y r => y.spoil ch r) c) :=
    h.foldl _ fun x hx r _ => hx.of_num (x.num_spoil ch r)
  have hset := hspoilt.of_num (d := Body.setCh _ ch { c.ch ch with reqs := [], work := none, wait := none }) rfl
  have hcode := (hset.setReg 0x1902 (ch + 1) (v := (chFault : Nat))).setReg 0x1903 (ch + 1) (v := (code : Nat))
  exact (RegsAgree.raise (hcode.of_num (by rfl)) e 848 0).raise e (864 + ch) 0

theorem RegsAgree.dropRequests (h : RegsAgree ClockKey b c) (e : Env) : RegsAgree ClockKey b (c.dropRequests e) := by
  have hanswer {x : Body} (hx : RegsAgree ClockKey b x) (q : MemEntry) : RegsAgree ClockKey b (x.memAnswer q false []) := by
    unfold Body.memAnswer
    exact hx.ite (hx.of_num (by rfl))
  unfold Body.dropRequests
  refine RegsAgree.memOpsFail ?_ e
  refine RegsAgree.foldl ?_ _ fun _ hx ch _ => hx.chFaults e ch 5
  exact RegsAgree.foldl (h.withHbm _) _ fun _ hx q _ => hanswer hx q

theorem RegsAgree.freeze (h : RegsAgree ClockKey b c) (e : Env) (f : FreezeAt) : RegsAgree ClockKey b (c.freeze e f) := by
  have hlog : RegsAgree ClockKey b (c.logFreeze e f) := (h.of_num (c.setStr_num 0x1820 0 (c.freezeLog e f))).withHbm _
  unfold Body.freeze
  refine h.ite (RegsAgree.doubt (RegsAgree.dropRequests (RegsAgree.tally (RegsAgree.raise ?_ e 834 0) e 11 0 1) e) e 2 f.cause)
  exact (hlog.setReg 0x1805 0 (v := 3)).of_num rfl

/-! ### Sessions close (R417) -/

theorem RegsAgree.cutStream (h : RegsAgree ClockKey b c) (e : Env) (kind : Nat) : RegsAgree ClockKey b (c.cutStream e kind) := by
  unfold Body.cutStream
  exact (h.loadFail e kind _ 0).ite h

theorem RegsAgree.closeSession (h : RegsAgree ClockKey b c) (e : Env) (slot detail : Nat) :
    RegsAgree ClockKey b (c.closeSession e slot detail) := by
  have hended : RegsAgree ClockKey b (c.endSession e slot detail) := by
    unfold Body.endSession
    split
    · exact h
    · exact RegsAgree.raise (h.of_num (by rfl)) e 33 detail
  have hswept (l : Layers) : RegsAgree ClockKey b ({ c.endSession e slot detail with lay := l }).sweepStills := hended.of_num rfl
  unfold Body.closeSession
  split
  · exact h
  · dsimp only
    split
    · exact ((hswept _).cutStream e 0).ite (((hswept _).cutStream e 1).ite (hswept _))
    · exact hswept _

theorem RegsAgree.closeWhere (h : RegsAgree ClockKey b c) (e : Env) (p : Nat → Session → Bool) (detail : Nat) :
    RegsAgree ClockKey b (c.closeWhere e p detail) :=
  h.foldl _ fun _ hx s _ => hx.closeSession e s detail

end

/-! ## A PLL loses lock and locks again (R27, R28) -/

/-- The loss itself: `dev.clk_state` is LOST, `dev.clk_lost` counts, event 4. -/
def Body.lockLostRecord (b : Body) (e : Env) (d : Nat) : Body := ((b.setReg 0x0120 (d + 1) 3).bump 0x0122 (d + 1) 1).raise e 4 d

theorem Body.reg_lockLostRecord (b : Body) (e : Env) {d : Nat} (hd : d < 60) : (b.lockLostRecord e d).reg 0x0120 (d + 1) = 3 := by
  unfold Body.lockLostRecord Body.bump
  rw [Body.reg_raise _ _ _ _ (by unfold key; omega), Body.reg_setReg_ne _ _ (by unfold key; omega), Body.reg_setReg_same]

theorem Body.regN_lockLostRecord (b : Body) (e : Env) {d : Nat} (hd : d < 60) :
    (b.lockLostRecord e d).regN 0x0122 (d + 1) = (b.regN 0x0122 (d + 1) + 1) % 2 ^ 32 := by
  unfold Body.lockLostRecord Body.bump
  rw [Body.regN_raise _ _ _ _ (by unfold key; omega), Body.regN_setReg_same, Body.regN_setReg_ne _ _ (by unfold key; omega)]

theorem pllLost_unlocked (e : Env) {d : Nat} {b : Body} (h : b.reg 0x0120 (d + 1) ≠ 2) : pllLost e d b = b :=
  if_pos (by unfold Body.regN; omega)

/-- What follows from a loss, whatever the domain drives, leaves the loss on record. -/
theorem pllLost_keepsRecord (e : Env) {d : Nat} {b : Body} (h : b.reg 0x0120 (d + 1) = 2) :
    RegsAgree ClockKey (b.lockLostRecord e d) (pllLost e d b) := by
  have hrec := RegsAgree.refl ClockKey (b.lockLostRecord e d)
  have hlocked : ¬ b.regN 0x0120 (d + 1) ≠ 2 := by simp [Body.regN, h]
  unfold pllLost
  rw [if_neg hlocked]
  have hquad := hrec.foldl (upFrom (4 * d) 4) (f := fun x n => x.quadLost e n) fun _ hx n _ => hx.quadLost e n
  have hport : RegsAgree ClockKey (b.lockLostRecord e d) (portDown e (d - 48) (b.lockLostRecord e d)) := by
    unfold portDown
    exact ((hrec.setReg 0x0A00 _).setCause e 0x0A09 _ _ _).ite hrec
  have hmemory := (hrec.freeze e ⟨4, 32 * (d - 54), 0, 0, 0, 255, 0, [], 0⟩).ite
    (p := (b.lockLostRecord e d).regN 0x1805 0 = 1 ∨ (b.lockLostRecord e d).regN 0x1805 0 = 2) hrec
  have hengines := hrec.doubt e 8 d
  have hcores := hrec.withDev { (b.lockLostRecord e d).dev with coresHalted := true }
  have hisland := ((hrec.of_num (d := (b.lockLostRecord e d).faultOn 3 2) rfl).raise e 5 1).doubt e 3 1
  exact hquad.ite (hport.ite (hrec.ite ((hrec.pairLinkLost e).ite (hmemory.ite (hengines.ite (hcores.ite hisland))))))

theorem pllRelock_locked (e : Env) {d : Nat} (ok : Bool) {b : Body} (h : b.reg 0x0120 (d + 1) ≠ 3) : pllRelock e d ok b = b :=
  if_pos (by unfold Body.regN; omega)

/-- What follows from the return, whatever the domain drives, leaves the domain locked. -/
theorem pllRelock_keepsLocked (e : Env) {d : Nat} (ok : Bool) {b : Body} (h : b.reg 0x0120 (d + 1) = 3) :
    RegsAgree ClockKey (b.setReg 0x0120 (d + 1) 2) (pllRelock e d ok b) := by
  have hset := RegsAgree.refl ClockKey (b.setReg 0x0120 (d + 1) 2)
  have hlost : ¬ b.regN 0x0120 (d + 1) ≠ 3 := by simp [Body.regN, h]
  have hisland : RegsAgree ClockKey (b.setReg 0x0120 (d + 1) 2) ((b.setReg 0x0120 (d + 1) 2).faultOff e 3 2) := by
    unfold Body.faultOff
    exact (hset.withFlt _).ite hset
  unfold pllRelock
  rw [if_neg hlost]
  refine RegsAgree.ite ?_ (RegsAgree.ite (hset.ite (RegsAgree.ite ?_ (hset.raise e 3 2))) (hisland.ite hset))
  · exact hset.foldl _ fun _ hx n _ => (hx.bringup e n).ite hx
  · exact RegsAgree.closeWhere (hset.of_num (by rfl)) e _ 4

/-- Settles O9: the clock registers after a loss or a return are those of its record, which all that follows from it spares. -/
theorem domainsLoseAndRegainLock : Obligations.DomainsLoseAndRegainLock := by
  unfold Obligations.DomainsLoseAndRegainLock
  intro s d ok hd
  have hstate : ClockKey (key 0x0120 (d + 1)) := by unfold ClockKey key; omega
  have hcount : ClockKey (key 0x0122 (d + 1)) := by unfold ClockKey key; omega
  refine ⟨fun hlocked => ?_, fun hlost => ?_, fun hne => ?_, fun hne => ?_⟩
  · have hkeeps := pllLost_keepsRecord s.env hlocked
    refine ⟨_, rfl, ?_, ?_, rfl⟩
    · exact (hkeeps _ _ hstate).trans (s.b.reg_lockLostRecord s.env hd)
    · exact (hkeeps.regN hcount).trans (s.b.regN_lockLostRecord s.env hd)
  · have hkeeps := pllRelock_keepsLocked s.env ok hlost
    exact ⟨_, rfl, (hkeeps _ _ hstate).trans (s.b.reg_setReg_same _ _ _), rfl⟩
  · exact congrArg (fun b => Host.Outcome.next { s with b := b }) (pllLost_unlocked s.env hne)
  · exact congrArg (fun b => Host.Outcome.next { s with b := b }) (pllRelock_locked s.env ok hne)

end Sys2Proof.Machine

namespace Sys2Proof.Machine

/-! ## One reference in one window (R25) -/

theorem bit_setBit_same (v i : Nat) (on : Bool) : bit (setBit v i on) i = on := by
  have hpos : 0 < 2 ^ i := Nat.two_pow_pos i
  cases on with
  | true =>
    by_cases hset : bit v i = true
    · rw [setBit, if_pos rfl, if_pos hset, hset]
    · have hclear : v / 2 ^ i % 2 = 0 := by simpa [bit] using hset
      rw [setBit, if_pos rfl, if_neg hset]
      simp [bit, Nat.add_div_right _ hpos, Nat.add_mod, hclear]
  | false =>
    by_cases hset : bit v i = true
    · have hodd : v / 2 ^ i % 2 = 1 := by simpa [bit] using hset
      have hle : 2 ^ i ≤ v := (Nat.div_pos_iff.mp (Nat.pos_of_ne_zero fun h0 => by simp [h0] at hodd)).2
      obtain ⟨w, rfl⟩ := Nat.exists_eq_add_of_le' hle
      rw [Nat.add_div_right _ hpos] at hodd
      have hclear : w / 2 ^ i % 2 = 0 := by omega
      rw [setBit, if_neg (by decide), if_pos hset, Nat.add_sub_cancel]
      simp [bit, hclear]
    · rw [setBit, if_neg (by decide), if_neg hset]
      exact Bool.eq_false_iff.mpr hset

theorem bit_zero_setBit_one (v : Nat) (on : Bool) : bit (setBit v 1 on) 0 = bit v 0 := by
  have heven (w : Nat) (hw : w % 2 = v % 2) : bit w 0 = bit v 0 := by simp [bit, hw]
  unfold setBit
  cases on with
  | true =>
    by_cases hset : bit v 1 = true
    · simp [hset]
    · simp [hset, heven (v + 2) (by omega)]
  | false =>
    by_cases hset : bit v 1 = true
    · have hodd : v / 2 % 2 = 1 := by simpa [bit] using hset
      simp [hset, heven (v - 2) (by omega)]
    · simp [hset]

theorem Body.num_faultOff (b : Body) (e : Env) (c k : Nat) : (b.faultOff e c k).num = b.num := by
  unfold Body.faultOff
  dsimp only
  split <;> rfl

theorem Body.refBad_faultOff (b : Body) (e : Env) (c k : Nat) : (b.faultOff e c k).flt.refBad = b.flt.refBad := by
  unfold Body.faultOff
  dsimp only
  split <;> rfl

/-- A reference within its bounds is verified, and its count of bad windows begins again; the device state is as it was. -/
theorem Body.refWindow_good (b : Body) (e : Env) (k : Nat) {hz : Nat} (hg : refGood hz = true) :
    (b.refWindow e k hz).2 = false ∧ (b.refWindow e k hz).1.regN 0x0123 0 = setBit (b.regN 0x0123 0) k true ∧
      (b.refWindow e k hz).1.flt.refBad = mputD 0 k 0 b.flt.refBad ∧ (b.refWindow e k hz).1.devState = b.devState := by
  have hstate (x : Body) (v : Int) (hx : x.num = b.num) : (x.setReg 0x0123 0 v).devState = b.devState :=
    (x.regN_setReg_ne v (by decide)).trans (Body.regN_congr hx 0x010A 0)
  simp only [Body.refWindow, if_pos hg]
  refine ⟨trivial, ?_⟩
  split
  · refine ⟨?_, ?_, ?_⟩
    · rw [Body.regN_setReg_ne _ _ (by decide), Body.regN_setReg_same]
    · exact congrArg _ (b.refBad_faultOff e 3 k)
    · exact (Body.regN_setReg_ne _ _ (by decide)).trans (hstate _ _ (b.num_faultOff e 3 k))
  · exact ⟨Body.regN_setReg_same _ _ _ _, congrArg _ (b.refBad_faultOff e 3 k), hstate _ _ (b.num_faultOff e 3 k)⟩

/-- A third bad window in a row loses the reference. -/
theorem Body.refWindow_thirdBad (b : Body) (e : Env) (k : Nat) {hz : Nat} (hg : refGood hz = false) (hn : mgetD 0 k b.flt.refBad = 2) :
    (b.refWindow e k hz).2 = true ∧ (b.refWindow e k hz).1.regN 0x0123 0 = setBit (b.regN 0x0123 0) k false ∧
      (b.refWindow e k hz).1.devState = b.devState := by
  simp only [Body.refWindow, hg, hn, Bool.false_eq_true, if_false, if_true]
  exact ⟨trivial, Body.regN_setReg_same _ _ _ _, Body.regN_setReg_ne _ _ (by decide)⟩

/-! ## The entry to VERIFIED (R509) -/

theorem RegsAgree.clocks {K : Nat → Prop} {b c : Body} (h : RegsAgree K b c) (ds : List Nat) (st : Nat)
    (hds : ∀ d ∈ ds, ¬ K (key 0x0120 (d + 1))) : RegsAgree K b (c.clocks ds st) :=
  h.foldl ds fun _ hx d hd => hx.ite (hx.setReg 0x0120 (d + 1) (hds d hd))

theorem RegsAgree.trigsIdle {K : Nat → Prop} {b c : Body} (h : RegsAgree K b c) : RegsAgree K b c.trigsIdle :=
  h.foldl _ fun _ hx t _ => hx.ite (hx.drive t _)

/-- The entry writes states of clock domains, and of the clock registers nothing else. -/
theorem Body.regN_bootEnter_refclkOk (b : Body) (e : Env) : (b.bootEnter e).regN 0x0123 0 = b.regN 0x0123 0 := by
  have hfree (d : Nat) (hd : d < 60) : ¬ key 0x0120 (d + 1) = key 0x0123 0 := by unfold key; omega
  have hkeep : RegsAgree (· = key 0x0123 0) b (b.bootEnter e) := by
    have hb := RegsAgree.refl (· = key 0x0123 0) b
    unfold Body.bootEnter
    refine RegsAgree.ite ?_ hb
    have hclocks := ((hb.withDev { b.dev with fw := true, sources := [] }).clocks (upFrom 0 56) 2 fun d hd =>
      hfree d (by have := mem_upFrom hd; omega)).clocks [56, 57, 58] 1 fun d hd => hfree d (by simp at hd; omega)
    exact ((((hclocks.trigsIdle.setReg 0x1A10 0 (by decide)).setReg 0x1805 0 (by decide)).setReg 0x010A 0 (by decide)).setReg 0x010C 0
      (by decide)).raise e 0 _ (by rintro _ rfl; decide)
  exact hkeep.regN rfl

/-- A part of the body that every update of a fold leaves is left by the fold. -/
theorem foldl_keeps {α β : Type} (part : Body → β) {f : Body → α → Body} (hf : ∀ x a, part (f x a) = part x) (l : List α) (b : Body) :
    part (l.foldl f b) = part b :=
  List.foldlRecOn (motive := fun x : Body => part x = part b) l f rfl fun x hx a _ => (hf x a).trans hx

theorem Body.flt_clocks (b : Body) (ds : List Nat) (st : Nat) : (b.clocks ds st).flt = b.flt :=
  foldl_keeps Body.flt (fun x d => by split <;> rfl) ds b

theorem Body.flt_drive (b : Body) (t : Nat) (level : Bool) : (b.drive t level).flt = b.flt := by
  unfold Body.drive
  dsimp only
  split <;> rfl

theorem Body.flt_trigsIdle (b : Body) : b.trigsIdle.flt = b.flt :=
  foldl_keeps Body.flt (fun x t => by
    split
    · rfl
    · exact x.flt_drive t _) _ b

theorem Body.flt_bootEnter (b : Body) (e : Env) : (b.bootEnter e).flt = b.flt := by
  unfold Body.bootEnter
  split
  · simp only [Body.enter_flt, Body.setReg_flt, Body.clearDoubt, Body.flt_trigsIdle, Body.flt_clocks]
  · rfl

/-! ## Both references in one window (R25, R442) -/

theorem refWindow_bothGood (e : Env) {hz0 hz1 : Nat} {b : Body} (hoff : b.devState ≠ devOff) (h0 : refGood hz0 = true)
    (h1 : refGood hz1 = true) : refWindow e hz0 hz1 b = ((b.refWindow e 0 hz0).1.refWindow e 1 hz1).1.bootEnter e := by
  unfold refWindow
  rw [if_neg hoff]
  simp [(b.refWindow_good e 0 h0).1, (Body.refWindow_good _ e 1 h1).1, b2n]

theorem refWindow_firstLost (e : Env) {hz0 hz1 : Nat} {b : Body} (hoff : b.devState ≠ devOff) (h0 : refGood hz0 = false)
    (h1 : refGood hz1 = true) (hn : mgetD 0 0 b.flt.refBad = 2) :
    refWindow e hz0 hz1 b = (((b.refWindow e 0 hz0).1.refWindow e 1 hz1).1.raise e 5 1).doubt e 3 1 := by
  unfold refWindow
  rw [if_neg hoff]
  simp [(b.refWindow_thirdBad e 0 h0 hn).1, (Body.refWindow_good _ e 1 h1).1, b2n]

/-- Two good references are both verified, and neither has a bad window. -/
theorem refWindow_verifies (e : Env) {hz0 hz1 : Nat} {b : Body} (hoff : b.devState ≠ devOff) (h0 : refGood hz0 = true)
    (h1 : refGood hz1 = true) :
    bit ((refWindow e hz0 hz1 b).regN 0x0123 0) 0 = true ∧ bit ((refWindow e hz0 hz1 b).regN 0x0123 0) 1 = true ∧
      mgetD 0 0 (refWindow e hz0 hz1 b).flt.refBad = 0 ∧ mgetD 0 1 (refWindow e hz0 hz1 b).flt.refBad = 0 := by
  obtain ⟨-, hok0, hbad0, -⟩ := b.refWindow_good e 0 h0
  obtain ⟨-, hok1, hbad1, -⟩ := (b.refWindow e 0 hz0).1.refWindow_good e 1 h1
  rw [refWindow_bothGood e hoff h0 h1, Body.regN_bootEnter_refclkOk, Body.flt_bootEnter, hok1, hbad1, hok0, hbad0]
  refine ⟨?_, bit_setBit_same _ 1 true, ?_, mgetD_mputD_same 0 1 0 _⟩
  · rw [bit_zero_setBit_one, bit_setBit_same]
  · rw [mgetD_mputD_ne (by decide), mgetD_mputD_same]

/-- REFCLK0 lost is doubt 3 with detail 1, and SAFE. -/
theorem refWindow_losesFirst (e : Env) {hz0 hz1 : Nat} {b : Body} (hoff : b.devState ≠ devOff) (hsafe : b.devState ≠ devSafe)
    (hfrozen : b.devState ≠ devFrozen) (h0 : refGood hz0 = false) (h1 : refGood hz1 = true) (hn : mgetD 0 0 b.flt.refBad = 2) :
    (refWindow e hz0 hz1 b).devState = devSafe ∧ (refWindow e hz0 hz1 b).regN 0x1A10 0 = 3 ∧
      (refWindow e hz0 hz1 b).regN 0x1A12 0 = 1 ∧ bit ((refWindow e hz0 hz1 b).regN 0x0123 0) 0 = false := by
  obtain ⟨-, hok0, hstate0⟩ := b.refWindow_thirdBad e 0 h0 hn
  obtain ⟨-, hok1, -, hstate1⟩ := (b.refWindow e 0 hz0).1.refWindow_good e 1 h1
  rw [refWindow_firstLost e hoff h0 h1 hn]
  generalize ((b.refWindow e 0 hz0).1.refWindow e 1 hz1).1 = c at hok1 hstate1 ⊢
  have hstate : (c.raise e 5 1).devState = b.devState := (c.regN_raise e 5 1 (by decide)).trans (hstate1.trans hstate0)
  have htaken : ¬ ((c.raise e 5 1).devState = devSafe ∨ (c.raise e 5 1).devState = devFrozen ∨ (c.raise e 5 1).devState = devOff) := by
    simp [hstate, hoff, hsafe, hfrozen]
  have hkeeps := Body.doubt_keepsRecord (c.raise e 5 1) e 3 1 htaken
  refine ⟨Body.devState_doubt _ e 3 1 htaken, ?_, ?_, ?_⟩
  · rw [hkeeps.regN (.inr (by decide)), Body.doubtRecord, Body.regN_setReg_ne _ _ (by decide), Body.regN_setReg_ne _ _ (by decide),
      Body.regN_setReg_same]
  · exact (hkeeps.regN (.inr (by decide))).trans (Body.regN_setReg_same _ 0x1A12 0 (1 % 2 ^ 32))
  · rw [hkeeps.regN (.inl (by unfold ClockKey; decide)), Body.doubtRecord, Body.regN_setReg_ne _ _ (by decide),
      Body.regN_setReg_ne _ _ (by decide), Body.regN_setReg_ne _ _ (by decide), Body.regN_raise _ _ _ _ (by decide), hok1, hok0,
      bit_zero_setBit_one, bit_setBit_same]

/-- Settles O10: of two good windows VERIFIED may follow, and of a third bad one doubt; neither changes what the windows found. -/
theorem referencesAreSupervised : Obligations.ReferencesAreSupervised := by
  unfold Obligations.ReferencesAreSupervised
  intro s hz0 hz1 hoff
  refine ⟨fun h0 h1 => ?_, fun h0 h1 hn hsafe hfrozen => ?_⟩
  · obtain ⟨hok0, hok1, hbad0, hbad1⟩ := refWindow_verifies s.env hoff h0 h1
    exact ⟨_, rfl, hok0, hok1, hbad0, hbad1, rfl⟩
  · obtain ⟨hstate, hcause, hdetail, hok⟩ := refWindow_losesFirst s.env hoff hsafe hfrozen h0 h1 hn
    exact ⟨_, rfl, hstate, hcause, hdetail, hok, rfl⟩

end Sys2Proof.Machine

namespace Sys2Proof.Machine

/-! ## What reset leaves (R34, R500, R501) -/

theorem reg_reset (i j : Nat) : State.reset.b.reg i j = dflt i j := rfl

/-- The statuses of the event sources are 0 by default. -/
theorem dflt_evtStatus {i j : Nat} (hi : 0x0308 ≤ i ∧ i < 0x0310) (hj : j ≠ 0) : dflt i j = 0 := by
  have htable : ∀ t ∈ entries03, 0x0308 ≤ t.idx1 → t.idx0 < 0x0310 → t.sub1 ≠ 0 → t.dflt = 0 := by decide
  have hentry : ((lookup i j).map (fun t => t.dflt)).getD 0 = 0 := by
    cases hl : lookup i j with
    | none => rfl
    | some t =>
      unfold lookup at hl
      split at hl
      · cases hl
      · rw [show i / 256 = 3 by omega] at hl
        have hin := List.find?_some hl
        simp only [Bool.and_eq_true, decide_eq_true_eq] at hin
        exact htable t (List.mem_of_find?_eq_some hl) (by omega) (by omega) (by omega)
  unfold dflt
  rw [if_neg hj]
  repeat rw [if_neg (by omega)]
  exact hentry

/-- No event source is sticky at reset, so none asserts ALERT_N. -/
theorem reset_alertLow : State.reset.b.alertLow = false := by
  have hclear (s : Nat) (hs : s < 1024) : bit (State.reset.b.regN (0x0308 + s / 128) (s % 128 + 1)) 31 = false := by
    rw [Body.regN, reg_reset, dflt_evtStatus (by omega) (by omega)]
    rfl
  have hnone : (upFrom 0 1024).any (fun s => bit (State.reset.b.evCfg s) 31 && decide (2 ≤ field (State.reset.b.evCfg s) 27 26) &&
      bit (State.reset.b.regN (0x0308 + s / 128) (s % 128 + 1)) 31) = false := by
    rw [List.any_eq_false]
    intro s hs
    simp [hclear s (by have := mem_upFrom hs; omega)]
  unfold Body.alertLow
  rw [hnone]
  rfl

/-- Settles O2: every field is read off the reset state, ALERT_N off the statuses of the event sources. -/
theorem resetLeavesOff : Obligations.ResetLeavesOff :=
  ⟨rfl, rfl, rfl, rfl, rfl, rfl, rfl, rfl, reset_alertLow, rfl, fun _ => rfl, fun _ => rfl, rfl, fun _ => rfl, rfl⟩

/-- Settles O5: the clock of reset is the one any reset leaves, with the tick count at 0. -/
theorem clockInRangeAtReset : Obligations.ClockInRangeAtReset := Clock.reset_inRange 0

/-! ## Every command answers (R33, R34) -/

theorem State.pending_tickChange (s : State) (ch : ClockChange) (rest : List ClockChange) :
    (s.tickChange ch rest).pending = s.pending := by
  cases ch <;> rfl

theorem State.pending_tickChanges (l : List ClockChange) (n : Nat) (s : State) : (State.tickChanges l n s).1.pending = s.pending := by
  induction l generalizing n s with
  | nil => rfl
  | cons ch rest ih =>
    cases n with
    | zero => rfl
    | succ n => exact (ih n _).trans (s.pending_tickChange ch rest)

theorem State.pending_run (s : State) (n : Nat) : (s.run n).pending = s.pending := by
  simp only [State.run]
  repeat' split
  all_goals rfl

/-- A tick command takes the changes that wait and runs the clock; it leaves the queue. -/
theorem State.pending_advance (s : State) (n : Nat) : (s.advance n).pending = s.pending :=
  (State.pending_run _ _).trans (State.pending_tickChanges _ _ _)

/-- Settles O3: WALL_CLOCK_TICK answers and leaves the queue, and of every other command more is known already. -/
theorem everyCommandAnswers : Obligations.EveryCommandAnswers := by
  unfold Obligations.EveryCommandAnswers
  intro c s
  by_cases hc : ∃ n, c = .wallClockTick n
  · obtain ⟨n, rfl⟩ := hc
    exact ⟨s.advance n, rfl, s.pending_advance n, fun h => absurd rfl (h n)⟩
  · obtain ⟨t, ht, hp, hclk⟩ := exec_keepsOrResetsClock s (not_exists.mp hc)
    exact ⟨t, ht, hp, fun _ => hclk⟩

end Sys2Proof.Machine

namespace Sys2Proof.Machine

/-! ## Ticks of the wall clock (R33)

While the increment stays below 3 ns, a tick as the pseudocode of R33 states it carries at most one second, and n of them are the
n ticks that the model takes at once. -/

theorem Clock.tick1_eq_ticks {c : Clock} (hr : Clock.InRange c) (hi : c.incr < 3 * 2 ^ 40) : c.tick1 = c.ticks 1 := by
  obtain ⟨hsec, hns, hfrac⟩ := hr
  unfold Clock.tick1 Clock.ticks
  dsimp only
  split <;> simp only [Clock.mk.injEq, Nat.one_mul, and_true] <;> omega

theorem Clock.ticks_zero {c : Clock} (hr : Clock.InRange c) : c.ticks 0 = c := by
  obtain ⟨hsec, hns, hfrac⟩ := hr
  cases c
  simp only [Clock.ticks, Clock.mk.injEq, Nat.zero_mul, true_and] at *
  omega

theorem Clock.ticks_one_ticks (c : Clock) (n : Nat) : (c.ticks 1).ticks n = c.ticks (n + 1) := by
  simp only [Clock.ticks, Clock.mk.injEq, true_and, Nat.succ_mul]
  generalize n * c.incr = m
  omega

theorem tickTimes_eq_ticks {c : Clock} (n : Nat) (hr : Clock.InRange c) (hi : c.incr < 3 * 2 ^ 40) : tickTimes n c = c.ticks n := by
  induction n generalizing c with
  | zero => exact (Clock.ticks_zero hr).symm
  | succ n ih =>
    calc tickTimes n c.tick1
      _ = tickTimes n (c.ticks 1) := by rw [Clock.tick1_eq_ticks hr hi]
      _ = (c.ticks 1).ticks n := ih (c.ticks_inRange 1) hi
      _ = c.ticks (n + 1) := c.ticks_one_ticks n

/-! ## Tick commands without a forced step (R36, R44) -/

/-- No switch in progress steps the clock. -/
def Body.NoStep (b : Body) : Prop := ∀ w, b.seq.sw = some w → w.step = none

theorem State.run_of_noStep {s : State} (h : s.b.NoStep) (n : Nat) : s.run n = { s with clk := s.clk.ticks n } := by
  unfold State.run
  cases hsw : s.b.seq.sw with
  | none => rfl
  | some w => simp [h w hsw]

theorem Body.nextForce_of_none {b : Body} (h : b.seq.force = none) : b.nextForce = b := by
  unfold Body.nextForce
  rw [h]

/-- With no change waiting, a tick command runs the clock. -/
theorem State.advance_of_idle {s : State} (hf : s.b.seq.force = none) (hs : s.b.NoStep) (hc : s.b.tu.changes = []) (n : Nat) :
    s.advance n = { s with clk := s.clk.ticks n } := by
  simp only [State.advance, Body.nextForce_of_none hf, hc, State.tickChanges]
  exact State.run_of_noStep hs n

/-- One tick takes the oldest change that waits. -/
theorem State.advance_one {s : State} {ch : ClockChange} {rest : List ClockChange} (hf : s.b.seq.force = none)
    (hc : s.b.tu.changes = ch :: rest) : s.advance 1 = (s.tickChange ch rest).run 0 := by
  simp only [State.advance, Body.nextForce_of_none hf, hc, State.tickChanges]
  cases rest <;> rfl

/-! ## A write of `time.incr` out of range (R38) -/

/-- What a refused increment leaves: the clock's changes that wait, and the increment that `time.incr` holds. -/
def Body.increments (b : Body) : List ClockChange × Int := (b.tu.changes, b.reg 0x0801 0)

theorem Body.increments_congr {b c : Body} (ht : c.tu.changes = b.tu.changes) (hr : c.reg 0x0801 0 = b.reg 0x0801 0) :
    c.increments = b.increments := by
  rw [Body.increments, Body.increments, ht, hr]

/-- The range of R38: nominal ± 200 ppm. -/
def incrInRange (v : Nat) : Prop := 2198583450901 ≤ v ∧ v ≤ 2199463060203

theorem timeIncr_taken (e : Env) {v : Nat} {b : Body} (ht : (b.follows && b.regN 0x1A05 0 == 1) = false) (hv : incrInRange v) :
    timeIncr e v b = ((b.setReg 0x0801 0 (v : Nat)).change (.incr v), wrote stOK) := by
  obtain ⟨hlo, hhi⟩ := hv
  rw [timeIncr, ht, if_neg Bool.false_ne_true, if_neg (by omega)]

theorem timeIncr_refused (e : Env) {v : Nat} {b : Body} (ht : (b.follows && b.regN 0x1A05 0 == 1) = false) (hv : ¬ incrInRange v) :
    timeIncr e v b = ((b.refuseTime e 2 v).raise e 65 0, wrote stRange) := by
  unfold incrInRange at hv
  rw [timeIncr, ht, if_neg Bool.false_ne_true, if_pos (by omega)]

theorem timeIncr_increments (e : Env) {v : Nat} (hv : ¬ incrInRange v) (b : Body) :
    (timeIncr e v b).1.increments = b.increments := by
  cases ht : b.follows && b.regN 0x1A05 0 == 1 with
  | true => rw [timeIncr, if_pos ht]
  | false =>
    rw [timeIncr_refused e ht hv]
    refine Body.increments_congr (by simp [Body.refuseTime]) ?_
    rw [Body.reg_raise _ _ _ _ (by decide)]
    simp only [Body.refuseTime, Body.bump]
    repeat rw [Body.reg_setReg_ne _ _ (by decide)]

/-- Whatever becomes of a write, it leaves the increments where its handler does. -/
theorem serveWrite_increments (e : Env) (r : Req) (idx sub : Nat) (v : WireVal) {h : Nat → Body → Body × Rsp}
    (hh : ∀ slot b, (h slot b).1.increments = b.increments) (b : Body) :
    (serveWrite e r idx sub v h b).increments = b.increments := by
  have hanswer (c : Body) (slot seq : Nat) (m : Bytes) (rsp : Rsp) : (c.answer e slot seq m rsp).increments = c.increments :=
    Body.increments_congr (by simp) (Body.reg_answer _ _ _ _ _ _ (by decide))
  have hforward (c : Body) : (c.forwardWrite e idx sub v).increments = c.increments :=
    Body.increments_congr (by simp) (Body.reg_congr (by simp) _ _)
  have hslow (c : Body) (m s d : Nat) : (c.raiseSlow e m s d).increments = c.increments :=
    Body.increments_congr (by simp) (Body.reg_raiseSlow _ _ _ _ _ (by decide))
  have hrepeat (key : Option Bytes) (sid : Nat) (via : Transport) (peer : Bytes) (tx reply : Nat) (rsp : Rsp) :
      (b.sendRsp e key sid via peer tx reply rsp).increments = b.increments := by
    obtain ⟨mb, hq⟩ := b.sendRsp_quiet e key sid via peer tx reply rsp
    exact Body.increments_congr (hq.part fun c => c.tu.changes) (hq.reg 0x0801 0 (by decide))
  unfold serveWrite serve
  split
  · rfl
  · rw [hslow]
    exact Body.increments_congr rfl (Body.reg_setReg_ne _ _ (by decide))
  · rw [hslow]
    unfold Body.modSess
    split <;> rfl
  · split
    · exact hrepeat ..
    · rfl
  · simp only [hanswer]
    unfold checkedWrite
    split
    · dsimp only
      split
      · rw [hforward, hh]; rfl
      · rw [hh]; rfl
    · rfl

/-- Settles O11: with nothing waiting a tick command is a run of ticks, and an increment above 3 ns is out of the range of R38. -/
theorem ticksFollowThePseudocode : Obligations.TicksFollowThePseudocode := by
  unfold Obligations.TicksFollowThePseudocode
  refine ⟨fun s n hr hi hc hs hf => ?_, rfl, rfl, fun s t r v ht hv => ?_⟩
  · rw [tickTimes_eq_ticks n hr hi]
    exact congrArg Host.Outcome.next (State.advance_of_idle hf hs hc n)
  · cases ht
    have hout : ¬ incrInRange v := fun h => by unfold incrInRange at h; omega
    have hkept := serveWrite_increments s.env r 0x0801 0 (.n v) (fun _ => timeIncr_increments s.env hout) s.b
    exact ⟨congrArg Prod.snd hkept, congrArg Prod.fst hkept, rfl⟩

end Sys2Proof.Machine

namespace Sys2Proof.Machine

/-! ## An event delivered to the cores is an output of its own (R70, R433) -/

/-- A Sync over Ethernet of the unit's domain. -/
def syncOverEthernet : PtpMsg := ⟨.sync, .ethernet, 0, 2, 0x88F7, 127, false, 0, 0, 0, 0, []⟩

/-- Port 0 in service in W48 mode, event 97 configured to be delivered to the cores. -/
def w48WithDeliveredEvent : State :=
  ⟨Clock.reset, ((Body.reset.setReg 0x0A00 1 1).setReg 0x0830 1 2).setReg 0x0300 98 (2 ^ 31 + 2 ^ 19 : Nat), []⟩

/-- Refutes O17: a Sync that W48 mode cannot stamp raises event 97, and where that is delivered to the cores its line is an output
behind the message. -/
theorem not_ptpMessagesAreStamped : ¬ Obligations.PtpMessagesAreStamped := by
  unfold Obligations.PtpMessagesAreStamped
  intro h
  obtain ⟨-, -, -, -, hw48, -⟩ := h w48WithDeliveredEvent 0 syncOverEthernet (by decide) (by decide +kernel)
  obtain ⟨t, ht, hout, -⟩ := hw48 (by decide +kernel) (by decide +kernel) rfl (.inl (by decide))
  cases ht
  exact absurd (congrArg List.length hout) (by decide +kernel)

/-! ## Captures under a mode in force of 256 phases (R193) -/

/-- LIVE with the wall clock set and a mode in force of 256 phases; a rising edge on capture input 0 has been held since tick 0, within the last
phase of a base frame. -/
def captureInLastPhase : State :=
  let b := ((Body.reset.setReg 0x010A 0 6).setReg 0x0806 0 1).setReg 0x0820 1 3
  ⟨{ Clock.reset with tb := 10000000000 },
    { b with seq := { b.seq with mode := { Mode.reset with phases := 256 } } }.setCapt 0 ⟨true, false, some (16620900, 0), 0, 0⟩, []⟩

/-- Refutes O16: the statement asks nothing of the mode in force. Under one of 256 phases, which no write of the mode entries gives, the key of
the last phase's `phase.margin_clear` is that of entry 0x0915. -/
theorem not_capturesStampQualifiedEdges : ¬ Obligations.CapturesStampQualifiedEdges := by
  unfold Obligations.CapturesStampQualifiedEdges
  intro h
  obtain ⟨-, -, hstamped, -⟩ := h captureInLastPhase 0 true (by decide) (by decide +kernel)
  obtain ⟨t, ht, -, -, -, -, -, -, hregs, -⟩ :=
    hstamped 16620900 0 (by decide +kernel) (by decide +kernel) (by decide +kernel) (by decide +kernel)
  cases ht
  exact absurd (hregs 0x0915 0 (by decide) (.inr (by decide)) (by decide)) (by decide +kernel)

/-! ## A latch that ends following (R454, R455) -/

/-- LIVE and JOINING, with no join yet, a commit of the active's waiting, and the swap of the correction armed for the latch of sub-frame 599.
`corr.in_force` holds a number of which no generation exists: the state of that generation would lie at the key of `pair.state`. -/
def swapOverPairState : State :=
  let b := ((Body.reset.setReg 0x010A 0 6).setReg 0x1A02 0 3).setReg 0x1004 0 655871
  ⟨{ Clock.reset with sec := 10 },
    { b with
      seq := { b.seq with next := some 599 }
      lay := { b.lay with armed := ⟨[(key 0x1005 0, 1)], []⟩ }
      pair := { b.pair with commits := [(0, ⟨[], []⟩)] } }, []⟩

/-- Refutes O21: the statement asks nothing of `corr.in_force`. Where it holds a number out of its range, the swap at the latch overwrites
`pair.state`; the unit follows no longer while a commit waits, and so the latches due after this one happen with it. -/
theorem not_latchesIssueSubframes : ¬ Obligations.LatchesIssueSubframes := by
  unfold Obligations.LatchesIssueSubframes
  intro h
  obtain ⟨hlatch, -⟩ := h swapOverPairState 599 Mode.reset (fun y hy => absurd hy List.not_mem_nil) (.inl (by decide +kernel))
    (by decide +kernel)
  obtain ⟨t, y, ht, -, hnext, -⟩ := hlatch (by decide +kernel) (by decide +kernel) (by decide +kernel) (by decide +kernel)
    (by decide +kernel)
  cases ht
  exact absurd hnext (by decide +kernel)

end Sys2Proof.Machine

namespace Sys2Proof.Machine

/-! ## The status of an event source (R429)

A source raised counts in its own status; the raises that may follow from it are those of sources 38 and 39. -/

/-- The status of source n. -/
def Body.evStatus (b : Body) (n : Nat) : Nat := b.regN (0x0308 + n / 128) (n % 128 + 1)

/-- The status of a source raised once more. -/
def raisedStatus (v : Nat) : Nat := 2 ^ 31 + Nat.min (v % 65536 + 1) 0xFFFF

theorem Body.evStatus_congr {b c : Body} (h : b.num = c.num) (n : Nat) : b.evStatus n = c.evStatus n := Body.regN_congr h _ _

theorem Body.num_toCores (b : Body) (r : EvRec) : (b.toCores r).num = b.num := by
  unfold Body.toCores
  split <;> rfl

theorem Body.evStatus_setReg_evStatus (b : Body) (n s v : Nat) :
    (b.setReg (0x0308 + s / 128) (s % 128 + 1) (v : Nat)).evStatus n = if n = s then v else b.evStatus n := by
  unfold Body.evStatus
  split
  · next h => rw [h, Body.regN_setReg_same]
  · next h => exact Body.regN_setReg_ne _ _ (by unfold key; omega)

theorem raiseN_evStatus {n : Nat} (h38 : n ≠ 38) (h39 : n ≠ 39) (k : Nat) (e : Env) (s d : Nat) (b : Body) :
    (raiseN (k + 1) e s d b).evStatus n = if bit (b.evCfg s) 31 = true ∧ n = s then raisedStatus (b.evStatus s) else b.evStatus n := by
  have hfollow (s' : Nat) (hs : n ≠ s') (x : Body) : (raiseN k e s' 0 x).evStatus n = x.evStatus n := by
    cases k with
    | zero => rfl
    | succ k => rw [raiseN_evStatus h38 h39 k e s' 0 x, if_neg fun h => hs h.2]
  unfold raiseN
  extract_lets cfg v b1 rec b2 b3 full dict b4
  by_cases hc : bit cfg 31 = true
  · rw [if_pos hc]
    have hb1 : b1.evStatus n = if bit cfg 31 = true ∧ n = s then raisedStatus (b.evStatus s) else b.evStatus n := by
      simp only [hc, true_and]
      exact Body.evStatus_setReg_evStatus (b.waitSeen s) n s (2 ^ 31 + v)
    have hb2 : b2.evStatus n = b1.evStatus n := by
      unfold b2
      split <;> rfl
    have hcores : (b2.toCores rec).evStatus n = b2.evStatus n := Body.evStatus_congr (b2.num_toCores rec) n
    have hb3 : b3.evStatus n = b2.evStatus n := by
      unfold b3
      split
      · split
        · exact (hfollow 39 h39 _).trans hcores
        · exact hcores
      · rfl
    refine Eq.trans ?_ (hb3.trans (hb2.trans hb1))
    split
    · split
      · exact hfollow 38 h38 b4
      · rfl
    · rfl
  · rw [if_neg hc, if_neg fun h => hc h.1]
    rfl

/-- A source other than 38 and 39, enabled, counts the raise. -/
theorem Body.evStatus_raise_same (b : Body) (e : Env) {s : Nat} (d : Nat) (hc : bit (b.evCfg s) 31 = true)
    (hs : s < 1024 := by omega) (h38 : s ≠ 38 := by omega) (h39 : s ≠ 39 := by omega) :
    (b.raise e s d).evStatus s = raisedStatus (b.evStatus s) := by
  rw [Body.raise, if_pos hs, raiseN_evStatus h38 h39 2, if_pos ⟨hc, rfl⟩]

/-- The raise of a source leaves the statuses of others but 38 and 39. -/
theorem Body.evStatus_raise_ne (b : Body) (e : Env) {n s : Nat} (d : Nat) (hn : n ≠ s := by omega)
    (h38 : n ≠ 38 := by omega) (h39 : n ≠ 39 := by omega) : (b.raise e s d).evStatus n = b.evStatus n := by
  unfold Body.raise
  split
  · rw [raiseN_evStatus h38 h39 2, if_neg fun h => hn h.2]
  · rfl

/-! ## A write that is granted, from its handler to its answer (R404, R410) -/

/-- The body on which the handler of an accepted request runs. -/
def State.accepting (s : State) (r : Req) (x : Session) : Body := s.b.setSess (r.sid % 8) (x.accept r.seq s.env.tb)

/-- Request r is answered with rsp on c, which gives t: the way out, and sources 38 to 40, are all that changes beside the session. -/
structure Replies (c t : Body) (r : Req) (rsp : Rsp) : Prop where
  reg : ∀ i j, key i j < 0x030800 ∨ 0x031000 ≤ key i j → t.reg i j = c.reg i j
  evStatus : ∀ n, n ≠ 38 → n ≠ 39 → n ≠ 40 → t.evStatus n = c.evStatus n
  mem : t.mem = c.mem
  tu : t.tu = c.tu
  seq : t.seq = c.seq
  kept : ∃ y k, t.sess? (r.sid % 8) = some y ∧ k ∈ y.kept ∧ k.seq = r.seq ∧ k.rsp = some rsp ∧
    Out.rsp y.sid y.via y.peer k.tx r.seq rsp ∈ t.out

theorem Body.evStatus_leave (b : Body) (e : Env) (via : Transport) (peer m : Bytes) {n : Nat} (h38 : n ≠ 38) (h39 : n ≠ 39) (h40 : n ≠ 40) :
    (b.leave e via peer m).evStatus n = b.evStatus n := by
  unfold Body.leave Body.mboxPost
  split
  · split
    · exact Body.evStatus_raise_ne _ e 0 h40 h38 h39
    · rfl
  · rfl

theorem Body.answer_replies {c : Body} {r : Req} {y : Session} (e : Env) (m : Bytes) (rsp : Rsp) (hs : c.sess? (r.sid % 8) = some y) :
    Replies c (c.answer e (r.sid % 8) r.seq m rsp) r rsp where
  reg i j hk := c.reg_answer e _ _ _ _ hk
  evStatus n h38 h39 h40 := by
    simp only [Body.answer, hs]
    exact Body.evStatus_leave _ e _ _ _ h38 h39 h40
  mem := by simp
  tu := by simp
  seq := by simp
  kept := by
    simp only [Body.answer, hs]
    obtain ⟨mb, hq⟩ := Body.leave_quiet ((c.setSess (r.sid % 8) (y.answered r.seq m rsp)).emit
      (.rsp y.sid y.via y.peer (y.tx + 1) r.seq rsp)) e y.via y.peer
      (deviceMsg (some y.kd2c) (rsp.wire r.seq).1 y.sid (y.tx + 1) (rsp.wire r.seq).2)
    obtain ⟨f, hf, hcore⟩ := hq.sess
    obtain ⟨l, hl⟩ := hq.out
    have hopen : Body.sess? { ((c.setSess (r.sid % 8) (y.answered r.seq m rsp)).emit (.rsp y.sid y.via y.peer (y.tx + 1) r.seq rsp)) with
        mbox := mb } (r.sid % 8) = some (y.answered r.seq m rsp) := Body.sess_setSess_same c _ _
    have hsame := hcore (y.answered r.seq m rsp)
    have hkept : (f (y.answered r.seq m rsp)).kept = (y.answered r.seq m rsp).kept := (congrArg Session.kept hsame :)
    have hsid : (f (y.answered r.seq m rsp)).sid = y.sid := (congrArg Session.sid hsame :)
    have hvia : (f (y.answered r.seq m rsp)).via = y.via := (congrArg Session.via hsame :)
    have hpeer : (f (y.answered r.seq m rsp)).peer = y.peer := (congrArg Session.peer hsame :)
    refine ⟨f (y.answered r.seq m rsp), ⟨r.seq, m, y.tx + 1, some rsp⟩, (hf _).trans (congrArg (Option.map f) hopen), ?_, rfl, rfl, ?_⟩
    · rw [hkept]
      exact y.answered_kept r.seq m rsp
    · rw [hsid, hvia, hpeer]
      exact (congrArg (_ ∈ ·) hl).mpr (List.mem_append_left l (List.mem_append_right _ (List.mem_singleton.mpr rfl)))

theorem Replies.of_forwardWrite {c t : Body} {r : Req} {rsp : Rsp} {e : Env} {idx sub : Nat} {v : WireVal}
    (h : Replies (c.forwardWrite e idx sub v) t r rsp) : Replies c t r rsp where
  reg i j hk := (h.reg i j hk).trans (Body.reg_congr (by simp) i j)
  evStatus n h38 h39 h40 := (h.evStatus n h38 h39 h40).trans (Body.evStatus_congr (by simp) n)
  mem := h.mem.trans (by simp)
  tu := h.tu.trans (by simp)
  seq := h.seq.trans (by simp)
  kept := h.kept

/-- A granted write is answered with what its handler says, on the body its handler leaves. -/
theorem serveWrite_replies {s : State} {r : Req} {idx sub : Nat} {v : WireVal} {x : Session} {h : Nat → Body → Body × Rsp} {c : Body}
    {st : Nat} (hg : Grants s r idx sub v x) (hh : h (r.sid % 8) (s.accepting r x) = (c, wrote st))
    (hs : (c.sess? (r.sid % 8)).isSome = true) : Replies c (serveWrite s.env r idx sub v h s.b) r (wrote st) := by
  obtain ⟨htakes, hcheck⟩ := hg
  obtain ⟨y, hy⟩ := Option.isSome_iff_exists.mp hs
  have hforward : (c.forwardWrite s.env idx sub v).sess? (r.sid % 8) = some y := by
    rw [Body.sess?, Body.forwardWrite_dict]
    exact hy
  rw [serveWrite_granted s.env h htakes hcheck]
  unfold State.accepting at hh
  simp only [hh, wrote]
  cases st with
  | zero => exact (Body.answer_replies s.env _ _ hforward).of_forwardWrite
  | succ st => exact Body.answer_replies s.env _ _ hy

section
variable {s : State} {c t : Body} {r : Req} {rsp : Rsp}

theorem Replies.answered (h : Replies c t r rsp) : Answered { s with b := t } r rsp := h.kept

theorem Replies.regN (h : Replies c t r rsp) {i j : Nat} (hk : key i j < 0x030800 ∨ 0x031000 ≤ key i j) : t.regN i j = c.regN i j := by
  simp [Body.regN, h.reg i j hk]

/-- A source that the handler raises counts the raise; 38 to 40 may count more. -/
theorem Replies.raised (h : Replies c t r rsp) {n : Nat} (hc : bit (s.b.evCfg n) 31 = true → c.evStatus n = raisedStatus (s.b.evStatus n))
    (h38 : n ≠ 38 := by omega) (h39 : n ≠ 39 := by omega) (h40 : n ≠ 40 := by omega) : Raised s { s with b := t } n :=
  fun hcfg => (h.evStatus n h38 h39 h40).trans (hc hcfg)

end

/-! ## Frames from agreements (R404) -/

/-- Keys of entries whose index is none of `changed`, the event statuses apart. -/
def FrameKey (changed : List Nat) (k : Nat) : Prop := k / 256 ∉ changed ∧ (k < 0x030800 ∨ 0x031000 ≤ k)

theorem frameKey_key {changed : List Nat} {i j : Nat} (hi : i ∉ changed) (hs : i < 0x0308 ∨ 0x0310 ≤ i) (hj : j < 256) :
    FrameKey changed (key i j) := by
  refine ⟨?_, by unfold key; omega⟩
  rwa [show key i j / 256 = i by unfold key; omega]

theorem not_frameKey_key {changed : List Nat} {i j : Nat} (hi : i ∈ changed) (hj : j < 256) : ¬ FrameKey changed (key i j) := by
  rintro ⟨hk, -⟩
  rw [show key i j / 256 = i by unfold key; omega] at hk
  exact hk hi

theorem FrameKey.not_status {changed : List Nat} {k : Nat} (h : FrameKey changed k) : k < 0x030800 ∨ 0x031000 ≤ k := h.2

theorem RegsAgree.keepsRegs {changed : List Nat} {b c : Body} (h : RegsAgree (FrameKey changed) b c) : KeepsRegs b c changed :=
  fun i j hi hs hj => h i j (frameKey_key hi hs hj)

/-- An update of the body that writes no entry but those of `changed` and no memory. -/
theorem frame_of_regsAgree {s : State} {t : Body} {changed : List Nat} (h : RegsAgree (FrameKey changed) s.b t) (hm : t.mem = s.b.mem) :
    Frame s { s with b := t } changed :=
  ⟨h.keepsRegs, fun a => congrArg (mgetD 0 a) hm, rfl, rfl⟩

theorem Replies.frame {s : State} {c t : Body} {r : Req} {rsp : Rsp} {changed : List Nat} (h : Replies c t r rsp)
    (hc : RegsAgree (FrameKey changed) s.b c) (hm : c.mem = s.b.mem) : Frame s { s with b := t } changed :=
  frame_of_regsAgree (hc.trans fun i j hk => h.reg i j hk.not_status) (h.mem.trans hm)

end Sys2Proof.Machine

namespace Sys2Proof.Machine

/-! ## The body on which a handler runs -/

theorem State.accepting_mem (s : State) (r : Req) (x : Session) : (s.accepting r x).mem = s.b.mem := rfl
theorem State.accepting_tu (s : State) (r : Req) (x : Session) : (s.accepting r x).tu = s.b.tu := rfl

theorem State.sess_accepting (s : State) (r : Req) (x : Session) : ((s.accepting r x).sess? (r.sid % 8)).isSome = true := by
  unfold State.accepting
  rw [Body.sess_setSess_same]
  rfl

theorem RegsAgree.accepting (K : Nat → Prop) (s : State) (r : Req) (x : Session) : RegsAgree K s.b (s.accepting r x) :=
  (RegsAgree.refl K s.b).of_num rfl

theorem Body.isSome_sess_congr {b c : Body} {n : Nat} (h : (b.sess? n).isSome = true) (hd : c.dict = b.dict) :
    (c.sess? n).isSome = true := by
  rw [Body.sess?, hd]
  exact h

theorem Body.isSome_sess_raise {b c : Body} {n : Nat} (h : (b.sess? n).isSome = true) (hd : c.dict = b.dict) (e : Env) (s d : Nat) :
    ((c.raise e s d).sess? n).isSome = true := by
  obtain ⟨f, hf, -⟩ := (c.raise_quiet e s d).sess
  rw [hf, Option.isSome_map]
  exact Body.isSome_sess_congr h hd

theorem Body.isSome_sess_tally {b : Body} {n : Nat} (h : (b.sess? n).isSome = true) (e : Env) (rec sub k : Nat) :
    ((b.tally e rec sub k).sess? n).isSome = true := by
  unfold Body.tally
  dsimp only
  split
  · exact Body.isSome_sess_congr h (Body.setReg_dict ..)
  · split
    · exact Body.isSome_sess_congr h (Body.setReg_dict ..)
    · exact Body.isSome_sess_raise h (by simp) e 976 rec

/-! ## A source raised (R429) -/

/-- Keys of the configuration and of the status of source n. -/
def SourceKey (n k : Nat) : Prop := k = key (0x0300 + n / 128) (n % 128 + 1) ∨ k = key (0x0308 + n / 128) (n % 128 + 1)

/-- A source raised on a body that keeps its configuration and its status counts once more. -/
theorem RegsAgree.raised {b c : Body} {n : Nat} (h : RegsAgree (SourceKey n) b c) (e : Env) (d : Nat) (hn : n < 1024 := by omega)
    (h38 : n ≠ 38 := by omega) (h39 : n ≠ 39 := by omega) (hc : bit (b.evCfg n) 31 = true) :
    (c.raise e n d).evStatus n = raisedStatus (b.evStatus n) := by
  have hcfg : c.evCfg n = b.evCfg n := h.regN (.inl rfl)
  have hstatus : c.evStatus n = b.evStatus n := h.regN (.inr rfl)
  rw [← hcfg] at hc
  rw [← hstatus]
  exact c.evStatus_raise_same e d hc hn h38 h39

/-! ## What a refusal of a change of the clock writes (R38, R39, R42) -/

section
variable {K : Nat → Prop} {b c : Body}

theorem RegsAgree.bump (h : RegsAgree K b c) (i j n : Nat) (hk : ¬ K (key i j)) : RegsAgree K b (c.bump i j n) := h.setReg i j hk

theorem RegsAgree.change (h : RegsAgree K b c) (x : ClockChange) : RegsAgree K b (c.change x) := h.of_num rfl

theorem RegsAgree.refuseTime (h : RegsAgree K b c) (e : Env) (kind : Nat) (v : Int) (hk : ∀ j, j < 256 → ¬ K (key 0x0804 j)) :
    RegsAgree K b (c.refuseTime e kind v) :=
  (((h.setReg 0x0804 1 (hk 1 (by decide))).setReg 0x0804 2 (hk 2 (by decide))).setReg 0x0804 3 (hk 3 (by decide))).setReg 0x0804 5
    (hk 5 (by decide))

theorem RegsAgree.dropHeld (h : RegsAgree K b c) (hk : ¬ K (key 0x0804 4)) : RegsAgree K b c.dropHeld :=
  RegsAgree.setReg (h.of_num rfl) 0x0804 4 hk

end

theorem not_sourceKey_refused {n : Nat} (hn : n < 1024) : ∀ j, j < 256 → ¬ SourceKey n (key 0x0804 j) := by
  unfold SourceKey key
  omega

theorem not_frameKey_refused : ∀ j, j < 256 → ¬ FrameKey [0x0804] (key 0x0804 j) := fun _ => not_frameKey_key (by decide)

theorem Body.refuseTime_mem (b : Body) (e : Env) (kind : Nat) (v : Int) : (b.refuseTime e kind v).mem = b.mem := rfl
theorem Body.refuseTime_tu (b : Body) (e : Env) (kind : Nat) (v : Int) : (b.refuseTime e kind v).tu = b.tu := rfl

theorem Body.reg_refuseTime_kind (b : Body) (e : Env) (kind : Nat) (v : Int) : (b.refuseTime e kind v).reg 0x0804 1 = kind := by
  simp only [Body.refuseTime, Body.bump]
  repeat rw [Body.reg_setReg_ne _ _ (by decide)]
  exact Body.reg_setReg_same ..

theorem Body.reg_refuseTime_value (b : Body) (e : Env) (kind : Nat) (v : Int) : (b.refuseTime e kind v).reg 0x0804 2 = v := by
  simp only [Body.refuseTime, Body.bump]
  repeat rw [Body.reg_setReg_ne _ _ (by decide)]
  exact Body.reg_setReg_same ..

theorem Body.reg_refuseTime_time (b : Body) (e : Env) (kind : Nat) (v : Int) : (b.refuseTime e kind v).reg 0x0804 3 = e.wt := by
  simp only [Body.refuseTime, Body.bump]
  rw [Body.reg_setReg_ne _ _ (by decide)]
  exact Body.reg_setReg_same ..

/-! ## Increments (R38) -/

/-- An increment in range is stored, waits for its tick, and is answered OK. -/
theorem timeIncrWrite_taken {s : State} {r : Req} {v : Nat} {x : Session} (hg : Grants s r 0x0801 0 (.n v) x)
    (ht : (s.b.follows && s.b.regN 0x1A05 0 == 1) = false) (hv : incrInRange v) :
    Replies (((s.accepting r x).setReg 0x0801 0 (v : Nat)).change (.incr v))
      (serveWrite s.env r 0x0801 0 (.n v) (fun _ => timeIncr s.env v) s.b) r (wrote stOK) :=
  serveWrite_replies hg (timeIncr_taken (b := s.accepting r x) s.env ht hv) (s.sess_accepting r x)

/-- An increment out of range is recorded, raises event 65, and is answered RANGE. -/
theorem timeIncrWrite_refused {s : State} {r : Req} {v : Nat} {x : Session} (hg : Grants s r 0x0801 0 (.n v) x)
    (ht : (s.b.follows && s.b.regN 0x1A05 0 == 1) = false) (hv : ¬ incrInRange v) :
    Replies (((s.accepting r x).refuseTime s.env 2 v).raise s.env 65 0)
      (serveWrite s.env r 0x0801 0 (.n v) (fun _ => timeIncr s.env v) s.b) r (wrote stRange) :=
  serveWrite_replies hg (timeIncr_refused (b := s.accepting r x) s.env ht hv)
    (Body.isSome_sess_raise (s.sess_accepting r x) (by simp [Body.refuseTime]) _ _ _)

/-- Settles O13: in range the increment is stored and waits, out of range the refusal is recorded and raises event 65. -/
theorem incrementsAreBounded : Obligations.IncrementsAreBounded := by
  unfold Obligations.IncrementsAreBounded
  intro s r v x hg ht
  refine ⟨fun hlo hhi => ?_, fun hout => ?_⟩
  · have hr := timeIncrWrite_taken hg ht ⟨hlo, hhi⟩
    have hframe : RegsAgree (FrameKey [0x0801]) s.b (((s.accepting r x).setReg 0x0801 0 (v : Nat)).change (.incr v)) :=
      ((RegsAgree.accepting _ s r x).setReg 0x0801 0 (not_frameKey_key (by decide) (by decide))).change _
    refine ⟨_, rfl, hr.answered, ?_, congrArg TimeUnit.changes hr.tu, hr.frame hframe rfl⟩
    exact (hr.regN (.inr (by decide))).trans (Body.regN_setReg_same _ _ _ _)
  · have hr := timeIncrWrite_refused hg ht (fun h => by unfold incrInRange at h; omega)
    have hreg (j : Nat) : (((s.accepting r x).refuseTime s.env 2 v).raise s.env 65 0).regN 0x0804 j =
        ((s.accepting r x).refuseTime s.env 2 v).regN 0x0804 j := Body.regN_raise _ _ _ _ (.inr (by unfold key; omega))
    have hrecord (j : Nat) : Body.regN (serveWrite s.env r 0x0801 0 (.n v) (fun _ => timeIncr s.env v) s.b) 0x0804 j =
        ((s.accepting r x).refuseTime s.env 2 v).regN 0x0804 j := (hr.regN (.inr (by unfold key; omega))).trans (hreg j)
    have hmem := (Body.raise_mem ((s.accepting r x).refuseTime s.env 2 v) s.env 65 0).trans
      ((Body.refuseTime_mem _ _ _ _).trans (s.accepting_mem r x))
    refine ⟨_, rfl, hr.answered, ?_, ?_, ?_, ?_, hr.raised ?_, hr.frame ?_ hmem⟩
    · exact (hrecord 1).trans (congrArg Int.toNat (Body.reg_refuseTime_kind ..))
    · exact (hrecord 2).trans (congrArg Int.toNat (Body.reg_refuseTime_value ..))
    · exact (hrecord 3).trans (congrArg Int.toNat (Body.reg_refuseTime_time ..))
    · rw [hr.tu, Body.raise_tu, Body.refuseTime_tu, State.accepting_tu]
    · exact ((RegsAgree.accepting _ s r x).refuseTime s.env 2 v (not_sourceKey_refused (by decide))).raised s.env 0
    · exact ((RegsAgree.accepting _ s r x).refuseTime s.env 2 v not_frameKey_refused).raise s.env 65 0 fun k hk => hk.not_status

end Sys2Proof.Machine

namespace Sys2Proof.Machine

/-! ## Steps (R39 to R42) -/

/-- Keys of the entries of the wall time. -/
def TimeKey (k : Nat) : Prop := 0x080000 ≤ k ∧ k < 0x090000

/-- With no change waiting, a step meets the clock of the next tick. -/
theorem Body.wallSoon_of_idle {b : Body} (h : b.tu.changes = []) (e : Env) :
    b.wallSoon e = ((e.wt * 2 ^ 40 + e.frac + e.incr) / 2 ^ 40 : Nat) := by
  simp only [Body.wallSoon, h, List.foldl_nil]
  omega

theorem Body.held_dropHeld (b : Body) : b.dropHeld.tu.held = none := rfl

theorem Body.mem_dropHeld (b : Body) : b.dropHeld.mem = b.mem := rfl

theorem Body.dict_dropHeld (b : Body) : b.dropHeld.dict = b.dict := rfl

theorem Body.reg_dropHeld_flag (b : Body) : b.dropHeld.reg 0x0804 4 = 0 := Body.reg_setReg_same ..

theorem Body.changes_change_of_idle {b : Body} (h : b.tu.changes = []) (x : ClockChange) : (b.change x).tu.changes = [x] := by
  simp [Body.change, h]

theorem Body.reg_change (b : Body) (x : ClockChange) (i j : Nat) : (b.change x).reg i j = b.reg i j := rfl

/-- The body that holds a refused step. -/
def Body.holdStep (b : Body) (e : Env) (v : Int) : Body :=
  { ((b.refuseTime e 1 v).setReg 0x0804 4 1) with tu := { b.tu with held := some (v, e.tb) } }

theorem Body.dict_holdStep (b : Body) (e : Env) (v : Int) : (b.holdStep e v).dict = b.dict := rfl

theorem Body.held_holdStep (b : Body) (e : Env) (v : Int) : (b.holdStep e v).tu.held = some (v, e.tb) := rfl

theorem Body.changes_holdStep (b : Body) (e : Env) (v : Int) : (b.holdStep e v).tu.changes = b.tu.changes := rfl

theorem Body.reg_holdStep_flag (b : Body) (e : Env) (v : Int) : (b.holdStep e v).reg 0x0804 4 = 1 :=
  (b.refuseTime e 1 v).reg_setReg_same 0x0804 4 1

/-- A step held is recorded as any refusal is. -/
theorem Body.reg_holdStep_refused (b : Body) (e : Env) (v : Int) {j : Nat} (hj : key 0x0804 j ≠ key 0x0804 4) :
    (b.holdStep e v).reg 0x0804 j = (b.refuseTime e 1 v).reg 0x0804 j :=
  (b.refuseTime e 1 v).reg_setReg_ne 1 hj

theorem timeStep_early {e : Env} {v : Int} {b : Body} (ht : (b.follows && b.regN 0x1A05 0 == 1) = false)
    (hw : b.dropHeld.wallSoon e + v < 0) : timeStep e v b = ((b.dropHeld.refuseTime e 1 v).raise e 64 0, wrote stRange) := by
  rw [timeStep, ht, if_neg Bool.false_ne_true, if_pos hw]

theorem timeStep_held {e : Env} {v : Int} {b : Body} (ht : (b.follows && b.regN 0x1A05 0 == 1) = false)
    (hw : ¬ b.dropHeld.wallSoon e + v < 0) (hset : b.dropHeld.regN 0x0806 0 ≠ 0) (hfar : b.dropHeld.regN 0x0803 0 < v.natAbs) :
    timeStep e v b = (((b.dropHeld.holdStep e v).tally e 15 1 1).raise e 64 0, wrote stRange) := by
  rw [timeStep, ht, if_neg Bool.false_ne_true, if_neg hw, if_pos ⟨hset, hfar⟩]
  rfl

theorem timeStep_first {e : Env} {v : Int} {b : Body} (ht : (b.follows && b.regN 0x1A05 0 == 1) = false)
    (hw : ¬ b.dropHeld.wallSoon e + v < 0) (hunset : b.dropHeld.regN 0x0806 0 = 0) :
    timeStep e v b = (((b.dropHeld.setReg 0x0806 0 1).raise e 69 0).change (.step v), wrote stOK) := by
  rw [timeStep, ht, if_neg Bool.false_ne_true, if_neg hw, if_neg fun h => h.1 hunset, if_pos hunset]

theorem timeForce_taken {e : Env} {v : Int} {tb : Nat} {b : Body} (ht : (b.follows && b.regN 0x1A05 0 == 1) = false)
    (hheld : b.tu.held = some (v, tb)) (hfresh : e.after tb 10000000000 = false) (hw : ¬ b.wallSoon e + v < 0) (hsw : b.seq.sw = none) :
    timeForce e b = (((b.dropHeld.raise e 66 0).tally e 15 2 1).applyForce v, wrote stOK) := by
  rw [timeForce, ht, if_neg Bool.false_ne_true]
  simp [hheld, hfresh, hw, hsw]

theorem Body.applyForce_of_not_live {b : Body} (h : b.live = false) (v : Int) : b.applyForce v = b.change (.force v) := by
  rw [Body.applyForce, h, if_neg Bool.false_ne_true]

/-- The state of the device lies outside the statuses and the tallies. -/
theorem Body.live_congr {b c : Body} (h : RegsAgree (· = key 0x010A 0) b c) : c.live = b.live := by
  unfold Body.live Body.devState
  rw [h.regN rfl]

theorem stepHoldExpiry_of_expired {e : Env} {b : Body} {v : Int} {tb : Nat} (hheld : b.tu.held = some (v, tb))
    (h : e.after tb 10000000000 = true) : stepHoldExpiry e b = b.dropHeld := by
  simp [stepHoldExpiry, hheld, h]

theorem stepHoldExpiry_of_fresh {e : Env} {b : Body} {v : Int} {tb : Nat} (hheld : b.tu.held = some (v, tb))
    (h : e.after tb 10000000000 = false) : stepHoldExpiry e b = b := by
  simp [stepHoldExpiry, hheld, h]

/-- A step below zero: refused, recorded, not held, and nothing waits. -/
theorem timeStepWrite_early {s : State} {r : Req} {v : Int} {x : Session} (hg : Grants s r 0x0802 0 (.n v) x)
    (ht : (s.b.follows && s.b.regN 0x1A05 0 == 1) = false) (hw : s.b.wallSoon s.env + v < 0) :
    Replies (((s.accepting r x).dropHeld.refuseTime s.env 1 v).raise s.env 64 0)
      (serveWrite s.env r 0x0802 0 (.n v) (fun _ => timeStep s.env v) s.b) r (wrote stRange) :=
  serveWrite_replies hg (timeStep_early (b := s.accepting r x) ht hw)
    (Body.isSome_sess_raise (s.sess_accepting r x) (by simp [Body.refuseTime, Body.dict_dropHeld]) _ _ _)

theorem timeStepWrite_held {s : State} {r : Req} {v : Int} {x : Session} (hg : Grants s r 0x0802 0 (.n v) x)
    (ht : (s.b.follows && s.b.regN 0x1A05 0 == 1) = false) (hw : ¬ s.b.wallSoon s.env + v < 0)
    (hset : s.b.regN 0x0806 0 ≠ 0) (hfar : s.b.regN 0x0803 0 < v.natAbs) :
    Replies ((((s.accepting r x).dropHeld.holdStep s.env v).tally s.env 15 1 1).raise s.env 64 0)
      (serveWrite s.env r 0x0802 0 (.n v) (fun _ => timeStep s.env v) s.b) r (wrote stRange) := by
  have hsame : RegsAgree (fun k => k = key 0x0806 0 ∨ k = key 0x0803 0) s.b (s.accepting r x).dropHeld :=
    (RegsAgree.accepting _ s r x).dropHeld (by decide)
  refine serveWrite_replies hg (timeStep_held (b := s.accepting r x) ht hw ?_ ?_) ?_
  · rwa [hsame.regN (.inl rfl)]
  · rwa [hsame.regN (.inr rfl)]
  · have hopen := Body.isSome_sess_congr (s.sess_accepting r x) (Body.dict_dropHeld _)
    exact Body.isSome_sess_raise (Body.isSome_sess_tally (Body.isSome_sess_congr hopen (Body.dict_holdStep _ _ _)) ..) rfl _ _ _

theorem timeStepWrite_first {s : State} {r : Req} {v : Int} {x : Session} (hg : Grants s r 0x0802 0 (.n v) x)
    (ht : (s.b.follows && s.b.regN 0x1A05 0 == 1) = false) (hw : ¬ s.b.wallSoon s.env + v < 0) (hunset : s.b.regN 0x0806 0 = 0) :
    Replies ((((s.accepting r x).dropHeld.setReg 0x0806 0 1).raise s.env 69 0).change (.step v))
      (serveWrite s.env r 0x0802 0 (.n v) (fun _ => timeStep s.env v) s.b) r (wrote stOK) := by
  have hsame : RegsAgree (· = key 0x0806 0) s.b (s.accepting r x).dropHeld :=
    (RegsAgree.accepting _ s r x).dropHeld (by decide)
  refine serveWrite_replies hg (timeStep_first (b := s.accepting r x) ht hw ?_) ?_
  · rwa [hsame.regN rfl]
  · exact Body.isSome_sess_congr (Body.isSome_sess_raise (c := (s.accepting r x).dropHeld.setReg 0x0806 0 1) (s.sess_accepting r x)
      ((Body.setReg_dict ..).trans (Body.dict_dropHeld _)) s.env 69 0) rfl

theorem timeForceWrite_taken {s : State} {r : Req} {v : Int} {tb : Nat} {x : Session} (hg : Grants s r 0x0805 0 (.n 1) x)
    (ht : (s.b.follows && s.b.regN 0x1A05 0 == 1) = false) (hheld : s.b.tu.held = some (v, tb))
    (hfresh : s.env.after tb 10000000000 = false) (hw : ¬ s.b.wallSoon s.env + v < 0) (hlive : s.b.live = false) (hsw : s.b.seq.sw = none) :
    Replies ((((s.accepting r x).dropHeld.raise s.env 66 0).tally s.env 15 2 1).change (.force v))
      (serveWrite s.env r 0x0805 0 (.n 1) (fun _ => timeForce s.env) s.b) r (wrote stOK) := by
  have hsame : RegsAgree (· = key 0x010A 0) s.b (((s.accepting r x).dropHeld.raise s.env 66 0).tally s.env 15 2 1) :=
    (((RegsAgree.accepting _ s r x).dropHeld (by decide)).raise s.env 66 0 (by rintro k rfl; decide)).tally
      s.env 15 2 1 (by rintro k hk rfl; revert hk; decide) (by rintro k rfl; decide)
  have htaken := timeForce_taken (b := s.accepting r x) ht hheld hfresh hw hsw
  rw [Body.applyForce_of_not_live ((Body.live_congr hsame).trans hlive)] at htaken
  refine serveWrite_replies hg htaken ?_
  have hopen := Body.isSome_sess_raise (s.sess_accepting r x) (Body.dict_dropHeld _) s.env 66 0
  exact Body.isSome_sess_congr (Body.isSome_sess_tally hopen s.env 15 2 1) rfl

/-- Settles O14: each clause reads off what its case of the write, or the expiry, leaves. -/
theorem stepsAreGuarded : Obligations.StepsAreGuarded := by
  unfold Obligations.StepsAreGuarded
  intro s r v x w hidle hw
  have hsoon : s.b.wallSoon s.env = w := by
    rw [Body.wallSoon_of_idle hidle, hw]
    rfl
  have hnone : (s.accepting r x).dropHeld.tu.changes = [] := hidle
  refine ⟨fun hg ht hearly => ?_, fun hg ht hlate hset hfar => ?_, fun hg ht hlate hunset => ?_,
    fun tb hg ht hheld hfresh hlate hlive hsw => ?_, fun tb hheld hold => ?_, fun tb hheld hfresh => ?_⟩
  · have hr := timeStepWrite_early hg ht (hsoon ▸ hearly)
    have htu := hr.tu.trans ((Body.raise_tu _ _ _ _).trans (Body.refuseTime_tu _ _ _ _))
    have hdrop {n : Nat} (hn : n < 1024) : RegsAgree (SourceKey n) s.b (s.accepting r x).dropHeld :=
      (RegsAgree.accepting _ s r x).dropHeld (not_sourceKey_refused hn 4 (by decide))
    refine ⟨_, rfl, hr.answered, ?_, ?_, hr.raised ?_, hr.frame ?_ ?_⟩
    · exact (congrArg TimeUnit.held htu).trans (Body.held_dropHeld _)
    · exact (congrArg TimeUnit.changes htu).trans hnone
    · exact ((hdrop (by decide)).refuseTime s.env 1 v (not_sourceKey_refused (by decide))).raised s.env 0
    · have hdropped := (RegsAgree.accepting _ s r x).dropHeld (not_frameKey_refused 4 (by decide))
      exact (hdropped.refuseTime s.env 1 v not_frameKey_refused).raise s.env 64 0 fun k hk => hk.not_status
    · exact (Body.raise_mem _ _ _ _).trans ((Body.refuseTime_mem _ _ _ _).trans ((Body.mem_dropHeld _).trans (s.accepting_mem r x)))
  · have hr := timeStepWrite_held hg ht (by omega) (by simp [Body.regN, hset]) hfar
    have htu := hr.tu.trans ((Body.raise_tu _ _ _ _).trans (Body.tally_tu _ _ _ _ _))
    have hreg (j : Nat) (hj : j < 256) := (hr.reg 0x0804 j (.inr (by unfold key; omega))).trans
      (((RegsAgree.refl TimeKey ((s.accepting r x).dropHeld.holdStep s.env v)).tally s.env 15 1 1 (by unfold TimeKey; omega)
        (by unfold TimeKey; omega)).raise s.env 64 0 (by unfold TimeKey; omega) 0x0804 j (by unfold TimeKey key; omega))
    refine ⟨_, rfl, hr.answered, ?_, ?_, ?_, ?_, ?_, rfl⟩
    · exact (congrArg TimeUnit.held htu).trans (Body.held_holdStep _ _ _)
    · exact (congrArg TimeUnit.changes htu).trans ((Body.changes_holdStep _ _ _).trans hnone)
    · exact (hreg 1 (by decide)).trans ((Body.reg_holdStep_refused _ _ _ (by decide)).trans (Body.reg_refuseTime_kind _ _ _ _))
    · exact (hreg 2 (by decide)).trans ((Body.reg_holdStep_refused _ _ _ (by decide)).trans (Body.reg_refuseTime_value _ _ _ _))
    · exact (hreg 4 (by decide)).trans (Body.reg_holdStep_flag _ _ _)
  · have hr := timeStepWrite_first hg ht (by omega) (by simp [Body.regN, hunset])
    refine ⟨_, rfl, hr.answered, ?_, ?_, rfl⟩
    · refine (congrArg TimeUnit.changes hr.tu).trans (Body.changes_change_of_idle ?_ _)
      rw [Body.raise_tu, Body.setReg_tu, hnone]
    · refine (hr.reg 0x0806 0 (.inr (by decide))).trans ((Body.reg_change _ _ _ _).trans ?_)
      rw [Body.reg_raise _ _ _ _ (by decide), Body.reg_setReg_same]
  · have hr := timeForceWrite_taken hg ht hheld hfresh (by omega) hlive hsw
    have htu := (Body.tally_tu ((s.accepting r x).dropHeld.raise s.env 66 0) s.env 15 2 1).trans (Body.raise_tu _ _ _ _)
    refine ⟨_, rfl, hr.answered, ?_, ?_, ?_, rfl⟩
    · exact (congrArg TimeUnit.changes hr.tu).trans (Body.changes_change_of_idle ((congrArg TimeUnit.changes htu).trans hnone) _)
    · exact (congrArg TimeUnit.held hr.tu).trans ((congrArg TimeUnit.held htu).trans (Body.held_dropHeld _))
    · refine (hr.reg 0x0804 4 (.inr (by decide))).trans ((Body.reg_change _ _ _ _).trans ?_)
      exact (((RegsAgree.refl TimeKey (s.accepting r x).dropHeld).raise s.env 66 0 (by unfold TimeKey; omega)).tally s.env 15 2 1
        (by unfold TimeKey; omega) (by unfold TimeKey; omega) 0x0804 4
        (by unfold TimeKey key; omega)).trans (Body.reg_dropHeld_flag _)
  · have hexpired : s.env.after tb 10000000000 = true := decide_eq_true (by show tb * 2 + 10000000000 ≤ s.clk.tb * 2; omega)
    refine ⟨{ s with b := s.b.dropHeld }, ?_, rfl, Body.reg_dropHeld_flag _, ?_⟩
    · exact congrArg (fun c => Host.Outcome.next { s with b := c }) (stepHoldExpiry_of_expired hheld hexpired)
    · exact frame_of_regsAgree ((RegsAgree.refl _ s.b).dropHeld (not_frameKey_refused 4 (by decide))) rfl
  · have hheldStill : s.env.after tb 10000000000 = false := decide_eq_false (by show ¬ tb * 2 + 10000000000 ≤ s.clk.tb * 2; omega)
    exact congrArg (fun c => Host.Outcome.next { s with b := c }) (stepHoldExpiry_of_fresh hheld hheldStill)

end Sys2Proof.Machine

namespace Sys2Proof.Machine

/-! ## The state, the times and the level of a trigger (R55 to R61) -/

section
variable (b : Body) (t : Nat) (l : Bool)

theorem Body.trig_drive : (b.drive t l).trig t = { b.trig t with level := l } := by
  unfold Body.drive
  dsimp only
  split
  · next h => rw [← h]
  · exact b.trig_setTrig_same t _

theorem Body.mem_drive : (b.drive t l).mem = b.mem := by
  unfold Body.drive
  dsimp only
  split <;> rfl

theorem Body.dict_drive : (b.drive t l).dict = b.dict := by
  unfold Body.drive
  dsimp only
  split <;> rfl

theorem Body.num_drive : (b.drive t l).num = b.num := by
  unfold Body.drive
  dsimp only
  split <;> rfl

theorem Body.ttIdle_congr {b c : Body} (h : c.num = b.num) : c.ttIdle t = b.ttIdle t := by
  rw [Body.ttIdle, Body.tt, Body.reg_congr h]
  rfl

/-- A trigger taken to a state, with its times and the level it drives. -/
def Body.putTrigger (st : Nat) (x : Trig) : Body := ((b.setReg 0x0819 (t + 1) st).setTrig t x).drive t l

theorem Body.trig_putTrigger (st : Nat) (x : Trig) : (b.putTrigger t l st x).trig t = { x with level := l } := by
  rw [Body.putTrigger, Body.trig_drive, Body.trig_setTrig_same]

theorem Body.reg_putTrigger (st : Nat) (x : Trig) : (b.putTrigger t l st x).reg 0x0819 (t + 1) = st :=
  (Body.reg_congr (Body.num_drive _ t l) _ _).trans (b.reg_setReg_same 0x0819 (t + 1) st)

theorem Body.mem_putTrigger (st : Nat) (x : Trig) : (b.putTrigger t l st x).mem = b.mem := Body.mem_drive _ t l

theorem Body.dict_putTrigger (st : Nat) (x : Trig) : (b.putTrigger t l st x).dict = b.dict := Body.dict_drive _ t l

end

theorem RegsAgree.putTrigger {K : Nat → Prop} {b c : Body} (h : RegsAgree K b c) (t : Nat) (l : Bool) (st : Nat) (x : Trig)
    (hk : ¬ K (key 0x0819 (t + 1))) : RegsAgree K b (c.putTrigger t l st x) :=
  ((h.setReg 0x0819 (t + 1) hk).setTrig t x).drive t l

theorem not_frameKey_ttState {t : Nat} (h : t < 16) : ¬ FrameKey [0x0819] (key 0x0819 (t + 1)) := not_frameKey_key (by decide) (by omega)

/-- The inactive level is not the state's to change. -/
theorem Body.ttIdle_setState (b : Body) (t : Nat) (v : Int) : (b.setReg 0x0819 (t + 1) v).ttIdle t = b.ttIdle t := by
  rw [Body.ttIdle, Body.tt, Body.reg_setReg_ne _ _ (by unfold key; omega)]
  rfl

/-- The state that `tt.state` reads, as the arm and the disarm compare it. -/
theorem Body.regN_eq_of_reg {b : Body} {i j n : Nat} (h : b.reg i j = n) : b.regN i j = n := by
  rw [Body.regN, h]
  rfl

/-! ## Arm and disarm (R57, R58, R60) -/

/-- Trigger t as an arm leaves it, but for its level. -/
def Body.armedTrig (b : Body) (e : Env) (t : Nat) : Trig :=
  { b.trig t with lead := (b.ttNext t e.wt).1, num := (b.ttNext t e.wt).2.1, trail := none, more := (b.ttNext t e.wt).2.2, kept := [] }

/-- Trigger t as a disarm leaves it, but for its level. -/
def Body.disarmedTrig (b : Body) (t : Nat) : Trig := { b.trig t with lead := none, trail := none, more := [], kept := [] }

section
variable {e : Env} {t : Nat} {b : Body}

theorem ttArm_state (h : b.devState = devSafe ∨ b.devState = devFrozen) : ttArm e t b = (b, wrote stState) := by
  rw [ttArm, if_pos h]

theorem ttArm_busy (hd : ¬ (b.devState = devSafe ∨ b.devState = devFrozen)) (h : b.reg 0x0819 (t + 1) = 1 ∨ b.reg 0x0819 (t + 1) = 2) :
    ttArm e t b = (b, wrote stBusy) := by
  rw [ttArm, if_neg hd, if_pos (h.imp (Body.regN_eq_of_reg (n := 1)) (Body.regN_eq_of_reg (n := 2)))]

theorem not_armed_of_reg (h : b.reg 0x0819 (t + 1) = 0 ∨ b.reg 0x0819 (t + 1) = 3) :
    ¬ (b.regN 0x0819 (t + 1) = 1 ∨ b.regN 0x0819 (t + 1) = 2) := by
  unfold Body.regN
  omega

theorem ttArm_config (hd : ¬ (b.devState = devSafe ∨ b.devState = devFrozen)) (h : b.reg 0x0819 (t + 1) = 0 ∨ b.reg 0x0819 (t + 1) = 3)
    (hbad : b.ttBad e t = true) : ttArm e t b = (b, wrote stConfig) := by
  rw [ttArm, if_neg hd, if_neg (not_armed_of_reg h), if_pos hbad]

theorem ttArm_armed (hd : ¬ (b.devState = devSafe ∨ b.devState = devFrozen)) (h : b.reg 0x0819 (t + 1) = 0 ∨ b.reg 0x0819 (t + 1) = 3)
    (hbad : b.ttBad e t = false) : ttArm e t b = (b.putTrigger t (b.ttIdle t) 1 (b.armedTrig e t), wrote stOK) := by
  rw [ttArm, if_neg hd, if_neg (not_armed_of_reg h), if_neg (by rw [hbad]; decide)]
  exact congrArg (fun l => (Body.putTrigger b t l 1 (b.armedTrig e t), wrote stOK)) (b.ttIdle_setState t 1)

theorem ttDisarm_disarmed (h : b.reg 0x0819 (t + 1) = 1 ∨ b.reg 0x0819 (t + 1) = 2) :
    ttDisarm t b = (b.putTrigger t (b.ttIdle t) 0 (b.disarmedTrig t), wrote stOK) := by
  rw [ttDisarm, if_pos (h.imp (Body.regN_eq_of_reg (n := 1)) (Body.regN_eq_of_reg (n := 2)))]
  exact congrArg (fun l => (Body.putTrigger b t l 0 (b.disarmedTrig t), wrote stOK)) (b.ttIdle_setState t 0)

end

section
variable {s : State} {r : Req} {t : Nat} {x : Session}

/-- A write that puts the trigger into a state is answered OK and writes `tt.state` alone. -/
theorem putTrigger_replies {v : WireVal} {sub : Nat} {l : Bool} {st : Nat} {y : Trig} {h : Nat → Body → Body × Rsp}
    (hg : Grants s r 0x0818 sub v x) (ht : t < 16)
    (hh : h (r.sid % 8) (s.accepting r x) = ((s.accepting r x).putTrigger t l st y, wrote stOK)) :
    let c := serveWrite s.env r 0x0818 sub v h s.b
    Answered { s with b := c } r (wrote stOK) ∧ c.reg 0x0819 (t + 1) = st ∧ c.trig t = { y with level := l } ∧
      Frame s { s with b := c } [0x0819] := by
  have hr := serveWrite_replies hg hh (Body.isSome_sess_congr (s.sess_accepting r x) (Body.dict_putTrigger _ t l st y))
  refine ⟨hr.answered, ?_, ?_, hr.frame ((RegsAgree.accepting _ s r x).putTrigger t l st y (not_frameKey_ttState ht)) ?_⟩
  · exact (hr.reg 0x0819 (t + 1) (.inr (by unfold key; omega))).trans (Body.reg_putTrigger _ t l st y)
  · rw [Body.trig, hr.tu]
    exact Body.trig_putTrigger _ t l st y
  · exact (Body.mem_putTrigger _ t l st y).trans (s.accepting_mem r x)

/-- A write that leaves the body as it is is answered, and writes nothing. -/
theorem refused_replies {v : WireVal} {idx sub : Nat} {st : Nat} {h : Nat → Body → Body × Rsp}
    (hg : Grants s r idx sub v x) (hh : h (r.sid % 8) (s.accepting r x) = (s.accepting r x, wrote st)) :
    let c := serveWrite s.env r idx sub v h s.b
    Answered { s with b := c } r (wrote st) ∧ Frame s { s with b := c } [] := by
  have hr := serveWrite_replies hg hh (s.sess_accepting r x)
  exact ⟨hr.answered, hr.frame (RegsAgree.accepting _ s r x) (s.accepting_mem r x)⟩

end

/-! ## Edges (R56, R59, R61) -/

/-- Trigger t past the leading edge at w, but for its level. -/
def Body.pulsingTrig (b : Body) (t : Nat) (w : Int) : Trig :=
  let x := b.trig t
  { x with lead := if b.tt 0x0810 t = 2 then some (b.ttPulse t (x.num + 1)) else x.more.head?
           num := if b.tt 0x0810 t = 2 then x.num + 1 else x.num
           more := x.more.drop 1
           trail := some (w + b.tt 0x0814 t)
           kept := x.kept ++ x.trail.toList }

/-- A leading edge reached takes the trigger to ACTIVE; the output moves where the unit may drive it. -/
theorem ttLead_reached {e : Env} {t : Nat} {b : Body} {w : Int} (hl : (b.trig t).lead = some w) (ht : t < 16) (hw : e.reached w = true) :
    ttLead e t b = if (b.tt 0x081A t == 0 || b.isActive) = true then b.putTrigger t (!(b.ttIdle t)) 2 (b.pulsingTrig t w)
      else (b.setReg 0x0819 (t + 1) (2 : Nat)).setTrig t (b.pulsingTrig t w) := by
  unfold ttLead
  simp only [hl, if_pos (And.intro ht hw)]
  split
  · exact congrArg (fun l => Body.putTrigger b t (!l) 2 (b.pulsingTrig t w)) (b.ttIdle_setState t 2)
  · rfl

/-- The trigger without the trailing edges kept in progress that the clock has reached. -/
def Body.inProgress (b : Body) (e : Env) (t : Nat) : Body := if (b.trig t).kept = [] then b else b.trimKept e t

section
variable (b : Body) (e : Env) (t : Nat)

theorem Body.trig_inProgress : (b.inProgress e t).trig t = { b.trig t with kept := (b.trig t).kept.filter fun w => !(e.reached w) } := by
  unfold Body.inProgress
  split
  · next h => rw [h, List.filter_nil, ← h]
  · exact b.trig_setTrig_same t _

theorem Body.num_inProgress : (b.inProgress e t).num = b.num := by
  unfold Body.inProgress
  split <;> rfl

theorem Body.mem_inProgress : (b.inProgress e t).mem = b.mem := by
  unfold Body.inProgress
  split <;> rfl

end

/-- Trigger t once its last trailing edge has passed. -/
def Body.pulseEnded (b : Body) (e : Env) (t : Nat) : Body :=
  let c := b.inProgress e t
  (c.setTrig t { c.trig t with trail := none }).drive t (c.ttIdle t)

section
variable {e : Env} {t : Nat} {b : Body} {w : Int}

theorem ttTrail_last (hx : (b.trig t).trail = some w) (ht : t < 16) (hw : e.reached w = true)
    (hk : ((b.trig t).kept.filter fun w => !(e.reached w)) = []) :
    ttTrail e t b = if b.tt 0x0810 t = 1 then ((b.pulseEnded e t).setReg 0x0819 (t + 1) 3).raise e (72 + t) 0 else b.pulseEnded e t := by
  have htrig := b.trig_inProgress e t
  have hmode : (b.inProgress e t).tt 0x0810 t = b.tt 0x0810 t := Body.reg_congr (b.num_inProgress e t) _ _
  unfold Body.pulseEnded
  rw [← hmode]
  unfold Body.inProgress at htrig ⊢
  unfold ttTrail
  simp only [htrig, hk, hx, if_pos (And.intro ht hw)]

theorem ttTrail_next {k : Int} {ks : List Int} (hx : (b.trig t).trail = some w) (ht : t < 16) (hw : e.reached w = true)
    (hk : ((b.trig t).kept.filter fun w => !(e.reached w)) = k :: ks) :
    ttTrail e t b = (b.inProgress e t).setTrig t { b.trig t with trail := some k, kept := ks } := by
  have htrig := b.trig_inProgress e t
  unfold Body.inProgress at htrig ⊢
  unfold ttTrail
  simp only [htrig, hk, hx, if_pos (And.intro ht hw)]

theorem Body.trig_pulseEnded : (b.pulseEnded e t).trig t =
    { b.trig t with trail := none, level := b.ttIdle t, kept := (b.trig t).kept.filter fun w => !(e.reached w) } := by
  unfold Body.pulseEnded
  dsimp only
  rw [Body.trig_drive, Body.trig_setTrig_same, Body.trig_inProgress, Body.ttIdle_congr t (b.num_inProgress e t)]

theorem Body.num_pulseEnded : (b.pulseEnded e t).num = b.num := (Body.num_drive _ _ _).trans (b.num_inProgress e t)

theorem Body.mem_pulseEnded : (b.pulseEnded e t).mem = b.mem := (Body.mem_drive _ _ _).trans (b.mem_inProgress e t)

end

theorem Body.trig_raise (b : Body) (e : Env) (n d t : Nat) : (b.raise e n d).trig t = b.trig t := by
  rw [Body.trig, Body.raise_tu]
  rfl

/-- A leading edge at its time (R55, R56). -/
theorem leadingEdge {s : State} {t : Nat} {w : Int} (hl : (s.b.trig t).lead = some w) (ht : t < 16) (hw : s.env.reached w = true) :
    let c := ttLead s.env t s.b
    c.reg 0x0819 (t + 1) = 2 ∧ (c.trig t).trail = some (w + s.b.tt 0x0814 t) ∧
      (s.b.tt 0x081A t = 0 → (c.trig t).level = !(s.b.ttIdle t)) ∧ Frame s { s with b := c } [0x0819] := by
  have hframe := RegsAgree.refl (FrameKey [0x0819]) s.b
  rw [ttLead_reached hl ht hw]
  split
  · exact ⟨Body.reg_putTrigger .., by rw [Body.trig_putTrigger]; rfl, fun _ => by rw [Body.trig_putTrigger],
      frame_of_regsAgree (hframe.putTrigger t _ 2 _ (not_frameKey_ttState ht)) (Body.mem_putTrigger ..)⟩
  · next hoff =>
    exact ⟨Body.reg_setReg_same .., by rw [Body.trig_setTrig_same]; rfl, fun hon => absurd (by simp [hon]) hoff,
      frame_of_regsAgree ((hframe.setReg 0x0819 (t + 1) (not_frameKey_ttState ht)).setTrig t _) rfl⟩

/-- The last trailing edge of the pulses in progress (R59, R61). -/
theorem lastTrailingEdge {s : State} {t : Nat} {w : Int} (hx : (s.b.trig t).trail = some w) (ht : t < 16) (hw : s.env.reached w = true)
    (hk : ∀ k ∈ (s.b.trig t).kept, s.env.reached k = true) :
    let c := ttTrail s.env t s.b
    (c.trig t).trail = none ∧ (c.trig t).level = s.b.ttIdle t ∧
      (s.b.tt 0x0810 t = 1 → c.reg 0x0819 (t + 1) = 3 ∧ Raised s { s with b := c } (72 + t)) ∧ Frame s { s with b := c } [0x0819] := by
  have hnone : ((s.b.trig t).kept.filter fun w => !(s.env.reached w)) = [] :=
    List.filter_eq_nil_iff.mpr fun k hin => by simp [hk k hin]
  have hended (K : Nat → Prop) : RegsAgree K s.b (s.b.pulseEnded s.env t) := (RegsAgree.refl K s.b).of_num Body.num_pulseEnded
  rw [ttTrail_last hx ht hw hnone]
  split
  · have htrig : (((s.b.pulseEnded s.env t).setReg 0x0819 (t + 1) 3).raise s.env (72 + t) 0).trig t = (s.b.pulseEnded s.env t).trig t :=
      Body.trig_raise _ _ _ _ _
    dsimp only
    rw [htrig, Body.trig_pulseEnded]
    refine ⟨rfl, rfl, fun _ => ⟨?_, ?_⟩, frame_of_regsAgree ?_ ?_⟩
    · rw [Body.reg_raise _ _ _ _ (.inr (by unfold key; omega)), Body.reg_setReg_same]
    · exact ((hended (SourceKey (72 + t))).setReg 0x0819 (t + 1) (by unfold SourceKey key; omega)).raised s.env 0
    · exact ((hended _).setReg 0x0819 (t + 1) (not_frameKey_ttState ht)).raise s.env (72 + t) 0 fun k hk => hk.not_status
    · exact (Body.raise_mem _ _ _ _).trans Body.mem_pulseEnded
  · next hmode =>
    dsimp only
    rw [Body.trig_pulseEnded]
    exact ⟨rfl, rfl, fun h => absurd h hmode, frame_of_regsAgree (hended _) Body.mem_pulseEnded⟩

/-- A trailing edge while a pulse kept in progress lasts (R59). -/
theorem earlierTrailingEdge {s : State} {t : Nat} {w k : Int} (hx : (s.b.trig t).trail = some w) (ht : t < 16)
    (hw : s.env.reached w = true) (hin : k ∈ (s.b.trig t).kept) (hk : s.env.reached k = false) :
    let c := ttTrail s.env t s.b
    (c.trig t).trail.isSome = true ∧ (c.trig t).level = (s.b.trig t).level ∧ Frame s { s with b := c } [] := by
  have hkept : k ∈ (s.b.trig t).kept.filter fun w => !(s.env.reached w) := List.mem_filter.mpr ⟨hin, by simp [hk]⟩
  obtain ⟨k', ks, hks⟩ := List.exists_cons_of_ne_nil (List.ne_nil_of_mem hkept)
  dsimp only
  rw [ttTrail_next hx ht hw hks, Body.trig_setTrig_same]
  exact ⟨rfl, rfl, frame_of_regsAgree (((RegsAgree.refl _ s.b).of_num (s.b.num_inProgress s.env t)).setTrig t _) (s.b.mem_inProgress s.env t)⟩

/-- Settles O15: an arm and a disarm put the trigger into a state, each refusal leaves the body, and an edge has its own lemma. -/
theorem triggersPulse : Obligations.TriggersPulse := by
  unfold Obligations.TriggersPulse
  intro s r i x hi
  refine ⟨fun hg hsafe hfrozen hst hbad => ?_, fun hg hst => ?_, fun w hl hw => ?_, fun hg => ⟨fun hd => ?_, fun hsafe hfrozen =>
    ⟨fun hst => ?_, fun hst hbad => ?_⟩⟩, fun w hx hw hk => ?_, fun w k hx hw hin hk => ?_⟩
  · obtain ⟨hans, hreg, htrig, hframe⟩ :=
      putTrigger_replies hg hi (h := fun _ => ttArm s.env i) (ttArm_armed (b := s.accepting r x) (not_or.mpr ⟨hsafe, hfrozen⟩) hst hbad)
    exact ⟨_, rfl, hans, hreg, congrArg Trig.level htrig, congrArg Trig.trail htrig, hframe⟩
  · obtain ⟨hans, hreg, htrig, hframe⟩ := putTrigger_replies hg hi (h := fun _ => ttDisarm i) (ttDisarm_disarmed (b := s.accepting r x) hst)
    exact ⟨_, rfl, hans, hreg, congrArg Trig.level htrig, congrArg Trig.lead htrig, congrArg Trig.trail htrig, hframe⟩
  · exact ⟨_, rfl, leadingEdge hl hi hw⟩
  · exact ⟨_, rfl, refused_replies hg (h := fun _ => ttArm s.env i) (ttArm_state (b := s.accepting r x) hd)⟩
  · exact ⟨_, rfl, refused_replies hg (h := fun _ => ttArm s.env i)
      (ttArm_busy (b := s.accepting r x) (not_or.mpr ⟨hsafe, hfrozen⟩) hst)⟩
  · exact ⟨_, rfl, refused_replies hg (h := fun _ => ttArm s.env i)
      (ttArm_config (b := s.accepting r x) (not_or.mpr ⟨hsafe, hfrozen⟩) hst hbad)⟩
  · exact ⟨_, rfl, lastTrailingEdge hx hi hw hk⟩
  · exact ⟨_, rfl, earlierTrailingEdge hx hi hw hin hk⟩

end Sys2Proof.Machine

namespace Sys2Proof.Machine

/-! ## The work that waits (R36, R44, R51, R454)

The retire of a sub-frame, and what a step of the clock does to what runs by it, go through most of the sequencer. None of it lets another
commit or another change of the clock wait, gives a switch a step, issues a sub-frame, or undoes a retire. -/

/-- What of b's work c still has: no commit waits where none did, the same changes of the clock wait, no switch has gained a step, and every
sub-frame is one of b's, retired where that had retired. -/
structure Continues (b c : Body) : Prop where
  commits : b.pair.commits = [] → c.pair.commits = []
  changes : c.tu.changes = b.tu.changes
  noStep : b.NoStep → c.NoStep
  subs : ∀ z ∈ c.beads.subs, ∃ y ∈ b.beads.subs, y.n = z.n ∧ (y.retired = true → z.retired = true)

/-- The parts of the body that hold the work that waits. -/
def Body.work (b : Body) : List (Nat × Cfg) × List ClockChange × Option Switch × List Sub :=
  (b.pair.commits, b.tu.changes, b.seq.sw, b.beads.subs)

theorem Continues.refl (b : Body) : Continues b b := ⟨id, rfl, id, fun z hz => ⟨z, hz, rfl, id⟩⟩

section
variable {b c d : Body}

theorem Continues.trans (h : Continues b c) (k : Continues c d) : Continues b d where
  commits hb := k.commits (h.commits hb)
  changes := k.changes.trans h.changes
  noStep hb := k.noStep (h.noStep hb)
  subs z hz := by
    obtain ⟨y, hy, hyz, hyr⟩ := k.subs z hz
    obtain ⟨x, hx, hxy, hxr⟩ := h.subs y hy
    exact ⟨x, hx, hxy.trans hyz, fun hr => hyr (hxr hr)⟩

/-- An update that leaves the work as it is. -/
theorem Continues.same (h : Continues b c) (hw : d.work = c.work) : Continues b d := by
  obtain ⟨hcommits, hchanges, hsw, hsubs⟩ : d.pair.commits = c.pair.commits ∧ d.tu.changes = c.tu.changes ∧ d.seq.sw = c.seq.sw ∧
      d.beads.subs = c.beads.subs := by simpa [Body.work] using hw
  refine h.trans ⟨fun hc => hcommits.trans hc, hchanges, fun hc w hw => hc w (hsw ▸ hw), fun z hz => ⟨z, hsubs ▸ hz, rfl, id⟩⟩

theorem Continues.ite {p : Prop} [Decidable p] (hc : Continues b c) (hd : Continues b d) : Continues b (if p then c else d) := by
  split <;> assumption

theorem Continues.foldl {α : Type} {f : Body → α → Body} (h : Continues b c) (l : List α)
    (hf : ∀ x, Continues b x → ∀ a ∈ l, Continues b (f x a)) : Continues b (l.foldl f c) := List.foldlRecOn l f h hf

/-! ### Writes -/

theorem Continues.setReg (h : Continues b c) (i j : Nat) (v : Int) : Continues b (c.setReg i j v) := h.same rfl

theorem Continues.bump (h : Continues b c) (i j n : Nat) : Continues b (c.bump i j n) := h.same rfl

theorem Continues.raise (h : Continues b c) (e : Env) (s det : Nat) : Continues b (c.raise e s det) := h.same (by simp [Body.work])

theorem Continues.tally (h : Continues b c) (e : Env) (rec sub n : Nat) : Continues b (c.tally e rec sub n) :=
  h.same (by simp [Body.work])

theorem Continues.setCause (h : Continues b c) (e : Env) (i j v ev : Nat) : Continues b (c.setCause e i j v ev) :=
  h.same (by simp [Body.work])

theorem Continues.enter (h : Continues b c) (e : Env) (st : Nat) : Continues b (c.enter e st) := h.same (by simp [Body.work])

theorem Continues.opEnd (h : Continues b c) (e : Env) (idx : Nat) (ok : Bool) (code det : Nat) :
    Continues b (c.opEnd e idx ok code det) := h.same (by simp [Body.work])

theorem Continues.modRod (h : Continues b c) (n : Nat) (f : Rod → Rod) : Continues b (c.modRod n f) := h.same rfl

theorem Continues.modTile (h : Continues b c) (n p : Nat) (f : Tile → Tile) : Continues b (c.modTile n p f) := h.same rfl

theorem Continues.send (h : Continues b c) (n : Nat) (f : DnFrame) : Continues b (c.send n f) := h.same rfl

theorem Continues.store (h : Continues b c) (a : Nat) (v : Bytes) : Continues b (c.store a v) := h.same rfl

theorem Continues.setPan (h : Continues b c) (p : Nat) (x : Pan) : Continues b (c.setPan p x) := h.same rfl

theorem Continues.setEnc (h : Continues b c) (n : Nat) (x : Enc) : Continues b (c.setEnc n x) := h.same rfl

theorem Continues.setGen (h : Continues b c) (kind g st : Nat) : Continues b (c.setGen kind g st) := h.same rfl

theorem Continues.addStaging (h : Continues b c) (d : Int) : Continues b (c.addStaging d) := h.same rfl

theorem Continues.setTrig (h : Continues b c) (t : Nat) (x : Trig) : Continues b (c.setTrig t x) := h.same rfl

theorem Continues.drive (h : Continues b c) (t : Nat) (level : Bool) : Continues b (c.drive t level) := by
  unfold Body.drive
  dsimp only
  exact h.ite (h.same rfl)

theorem Continues.withCor (h : Continues b c) (x : Corr) : Continues b { c with cor := x } := h.same rfl

/-- The pairing unit changes, with no commit more. -/
theorem Continues.withPair (h : Continues b c) {p : Pair} (hp : p.commits = c.pair.commits := by rfl) : Continues b { c with pair := p } :=
  h.same (by simp [Body.work, hp])

theorem Continues.modPair (h : Continues b c) (f : Pair → Pair) (hf : ∀ p, (f p).commits = p.commits := by exact fun _ => rfl) :
    Continues b (c.modPair f) := h.withPair (hf c.pair)

theorem Continues.pairSend (h : Continues b c) (e : Env) (m : PairMsg) : Continues b (c.pairSend e m) := by
  unfold Body.pairSend
  split
  · exact h.same rfl
  · exact h.withPair

theorem Continues.modBeads (h : Continues b c) (f : Beads → Beads) (hf : ∀ x, (f x).subs = x.subs := by exact fun _ => rfl) :
    Continues b (c.modBeads f) := h.same (by simp [Body.work, Body.modBeads, hf])

/-- Some of the sub-frames are forgotten. -/
theorem Continues.dropSubs (h : Continues b c) (f : Beads → Beads) (hf : ∀ z ∈ (f c.beads).subs, z ∈ c.beads.subs) :
    Continues b (c.modBeads f) := h.trans ⟨id, rfl, id, fun z hz => ⟨z, hf z hz, rfl, id⟩⟩

/-- Every sub-frame changes, and keeps its number and its retire. -/
theorem Continues.mapSubs (h : Continues b c) (f : Sub → Sub)
    (hf : ∀ x : Sub, (f x).n = x.n ∧ (x.retired = true → (f x).retired = true)) :
    Continues b (c.modBeads fun x => { x with subs := x.subs.map f }) := by
  refine h.trans ⟨id, rfl, id, fun z hz => ?_⟩
  obtain ⟨y, hy, rfl⟩ := List.mem_map.mp hz
  exact ⟨y, hy, (hf y).1.symm, (hf y).2⟩

theorem Continues.modSub (h : Continues b c) (n : Nat) (f : Sub → Sub)
    (hf : ∀ x : Sub, (f x).n = x.n ∧ (x.retired = true → (f x).retired = true) := by exact fun _ => ⟨rfl, id⟩) :
    Continues b (c.modSub n f) :=
  h.mapSubs _ fun x => by
    split
    · exact hf x
    · exact ⟨rfl, id⟩

end

end Sys2Proof.Machine

namespace Sys2Proof.Machine

section
variable {b c : Body}

/-! ### Rods, overrides, generations -/

theorem Continues.applyTaps (h : Continues b c) (n : Nat) : Continues b (c.applyTaps n) := by
  unfold Body.applyTaps
  exact h.ite (h.setReg ..)

theorem Continues.endSet (h : Continues b c) (n : Nat) : Continues b (c.endSet n) := by
  unfold Body.endSet
  split
  · exact (h.modRod n _).applyTaps n
  · exact h

theorem Continues.lostFrames (h : Continues b c) (n : Nat) : Continues b (c.lostFrames n) :=
  h.foldl _ fun x hx p _ => by
    split
    · exact hx
    · exact hx.modTile n p _

theorem Continues.forgetSets (h : Continues b c) (rod : Nat) : Continues b (c.forgetSets rod) := h.same rfl

theorem Continues.sendDark (h : Continues b c) (rod n : Nat) (ed : Int) (tiles : Nat) : Continues b (c.sendDark rod n ed tiles) :=
  ((h.send rod _).forgetSets rod).setReg ..

theorem Continues.noteRepeat (h : Continues b c) (rod pos : Nat) (s : Sub) (x : PhaseSet) : Continues b (c.noteRepeat rod pos s x) :=
  h.modTile rod pos _

theorem Continues.freeOverrides (h : Continues b c) : Continues b c.freeOverrides := h.same rfl

theorem Continues.addOverride (h : Continues b c) (e : Env) (lamp flags S : Nat) : Continues b (c.addOverride e lamp flags S) := by
  have hadded (x y : Corr) : Continues b { (Body.freeOverrides { c with cor := x }) with cor := y } := (h.withCor x).freeOverrides.withCor y
  unfold Body.addOverride
  dsimp only
  split
  · exact (hadded _ _).raise e 341 0
  · exact hadded _ _

theorem Continues.override (h : Continues b c) (e : Env) (lamp flags : Nat) : Continues b (c.override e lamp flags).1 := by
  unfold Body.override
  dsimp only
  split
  · exact h.freeOverrides.raise e 342 0
  · exact h.freeOverrides.addOverride e lamp flags _

theorem Continues.overrideTold (h : Continues b c) (e : Env) (lamp flags : Nat) : Continues b (c.overrideTold e lamp flags).1 := by
  have hmade := h.override e lamp flags
  unfold Body.overrideTold
  dsimp only
  split
  · exact (hmade.pairSend e _).ite hmade
  · exact hmade

theorem Continues.retryFaults (h : Continues b c) (e : Env) : Continues b (c.retryFaults e) := by
  unfold Body.retryFaults
  dsimp only
  split
  · exact h.freeOverrides.foldl _ fun x hx f _ => ((hx.withCor _).overrideTold e f.lamp f.flags).raise e _ 0
  · exact h.freeOverrides

theorem Continues.drain (h : Continues b c) : Continues b c.drain := h.foldl _ fun _ hx p _ => (hx.setGen p.1 p.2 2).ite hx

/-! ### Decisions, squashes and recomputes -/

theorem Continues.tellDecision (h : Continues b c) (e : Env) (s : Sub) (l kind epoch : Nat) (d : Decision) :
    Continues b (c.tellDecision e s l kind epoch d) := by
  unfold Body.tellDecision
  split
  · exact (h.modSub s.n _).pairSend e _
  · exact h

theorem Continues.recompute (h : Continues b c) (e : Env) (s : Sub) (l : Nat) (d : Decision) (rank : Nat) (act : Option Nat) :
    Continues b (c.recompute e s l d rank act) := by
  have hepoch : Continues b c.endLeases.newEpoch := h.same rfl
  unfold Body.recompute
  dsimp only
  split
  · exact ((((hepoch.modSub s.n _).modBeads _).addStaging _).raise e 311 0)
  · exact (((hepoch.modSub s.n _).modBeads _).addStaging _)

theorem Continues.dropSquash (h : Continues b c) (n l : Nat) : Continues b (c.dropSquash n l) := h.modBeads _

theorem Continues.refuseSquash (h : Continues b c) (e : Env) (s : Sub) (l : Nat) (d : Decision) : Continues b (c.refuseSquash e s l d) :=
  ((h.bump ..).raise e 306 0).tellDecision ..

theorem Continues.reviewSquash (h : Continues b c) (e : Env) (s : Sub) (x : Held) : Continues b (c.reviewSquash e s x) := by
  have hdropped := h.dropSquash x.n x.layer
  unfold Body.reviewSquash
  exact (hdropped.tellDecision ..).ite ((hdropped.refuseSquash ..).ite ((hdropped.recompute ..).tellDecision ..))

theorem Continues.startIssued (h : Continues b c) (e : Env) (s : Sub) (x : Held) : Continues b (c.startIssued e s x) := by
  unfold Body.startIssued
  split
  · exact h
  · exact ((h.dropSquash ..).recompute ..).modSub x.n _

theorem Continues.releaseHeld (h : Continues b c) (e : Env) (n : Nat) : Continues b (c.releaseHeld e n) :=
  h.foldl _ fun x hx y _ => by
    split
    · exact hx
    · exact hx.ite ((hx.startIssued ..).ite (hx.reviewSquash ..))

theorem Continues.switchIn (h : Continues b c) (e : Env) (s : Sub) (g : Group) : Continues b (c.switchIn e s g) := by
  unfold Body.switchIn
  split
  · exact ((((h.modSub s.n _).addStaging _).bump ..).tellDecision ..).releaseHeld e s.n
  · exact h

theorem Continues.trySwitchIn (h : Continues b c) (e : Env) (n epoch : Nat) : Continues b (c.trySwitchIn e n epoch) := by
  unfold Body.trySwitchIn
  split
  · exact h
  · split
    · exact h
    · exact (h.switchIn ..).ite h

theorem Continues.abandonWork (h : Continues b c) (e : Env) (s : Sub) : Continues b (c.abandonWork e s) := by
  unfold Body.abandonWork
  refine (((h.foldl _ fun x hx g _ => ?_).foldl _ fun _ hx _ _ => ((hx.bump ..).raise ..).tellDecision ..).modBeads _).modSub s.n _
  dsimp only
  split
  · exact (((hx.addStaging _).bump ..).raise ..).tellDecision ..
  · exact ((hx.addStaging _).bump ..).raise ..

/-! ### Checks -/

theorem Continues.startCheck (h : Continues b c) (s : Sub) (g : Group) (k : Nat) : Continues b (c.startCheck s g k) := by
  unfold Body.startCheck
  split
  · exact h.modBeads _
  · exact h

theorem Continues.pickChecks (h : Continues b c) (late : Bool) (s : Sub) : Continues b (c.pickChecks late s) := by
  unfold Body.pickChecks
  split
  · exact h
  · exact h.ite (((h.modBeads _).modSub s.n _).foldl _ fun x hx k _ => hx.startCheck ..)

theorem Continues.missChecks (h : Continues b c) (e : Env) (s : Sub) : Continues b (c.missChecks e s) := by
  have hmissed := (h.pickChecks true s).modBeads fun x => { x with
    checks := x.checks.filter (fun c => c.n != s.n)
    waiting := x.waiting.filter (fun j => j.n != s.n || j.kind == .attrib)
    missed := x.missed ++ ((((c.pickChecks true s).beads.checks.filter (fun c => c.n == s.n)).map (fun c => c.e)).filter
      (fun k => !(x.missed.contains k))) }
  unfold Body.missChecks
  dsimp only
  split
  · exact hmissed
  · refine hmissed.foldl _ fun x hx k _ => hx.ite ?_
    split
    · exact ((hx.modBeads _).modBeads _).raise e 309 0
    · exact hx.modBeads _

/-! ### Records and comparison -/

theorem Continues.purge (h : Continues b c) (e : Env) : Continues b (c.purge e) :=
  h.dropSubs _ fun _ hz => (List.mem_filter.mp hz).1

theorem Continues.settle (h : Continues b c) (e : Env) (n rod : Nat) : Continues b (c.settle e n rod) := by
  unfold Body.settle
  split
  · exact h
  · split
    · exact h
    · exact h.ite (((h.addStaging _).modSub n _).purge e)

theorem Continues.dropFrames (h : Continues b c) (e : Env) (k : Nat) : Continues b (c.dropFrames e k) :=
  h.foldl _ fun x hx n _ => by
    split
    · exact ((hx.modRod n _).ite ((hx.modRod n _).endSet n)).settle e k n
    · exact hx

theorem Continues.endCompare (h : Continues b c) (e : Env) (n rod : Nat) : Continues b (c.endCompare e n rod) :=
  (h.modSub n _).settle e n rod

theorem Continues.settleAll (h : Continues b c) (e : Env) : Continues b (c.settleAll e) :=
  h.foldl _ fun _ hx s _ => hx.foldl _ fun _ hy p _ => hy.settle e s.n p.1

theorem Continues.endCompares (h : Continues b c) (e : Env) : Continues b (c.endCompares e) :=
  (h.foldl _ fun _ hx s _ => hx.foldl _ fun _ hy r _ => hy.endCompare e s.n r).settleAll e

end

end Sys2Proof.Machine

namespace Sys2Proof.Machine

section
variable {b c : Body}

/-! ### What a rod sends at the retire -/

theorem Continues.raiseZones (h : Continues b c) (e : Env) (s : Sub) (rod pos : Nat) (zs : List (List Nat)) :
    Continues b (c.raiseZones e s rod pos zs) :=
  (h.modTile rod pos _).foldl _ fun _ hx _ _ => (hx.bump ..).raise e 769 0

theorem Continues.sendRod (h : Continues b c) (s : Sub) (rod : Nat) (ws : List Woven) : Continues b (c.sendRod s rod ws) := by
  have hrepeat : Continues b (if ws.all (fun w => w.rep.isSome) then
      c.send rod (.repeatSet 63 s.n s.phase (ws.map (fun w => (w.pos, (w.rep.map (fun x => x.m)).getD 0)))) else c) := (h.send ..).ite h
  unfold Body.sendRod
  refine (Continues.send (hrepeat.foldl _ fun x hx w _ => ?_) rod _).setReg ..
  split
  · exact ((hx.ite (hx.send ..)).noteRepeat ..).bump ..
  · exact (((hx.send ..).foldl _ fun _ hy body _ => hy.send ..).modTile ..).bump ..

theorem Continues.fallBack (h : Continues b c) (e : Env) (s : Sub) (rod : Nat) (sends : Bool) : Continues b (c.fallBack e s rod sends) := by
  have hcounted := (h.bump 0x0E08 (rod + 1) 1).raise e 304 0
  unfold Body.fallBack
  dsimp only
  split
  · exact hcounted
  · split
    · exact hcounted.sendDark ..
    · refine Continues.foldl (((hcounted.send ..).foldl _ fun x hx p _ => ?_).send rod _ |>.setReg ..) _ fun _ hx p _ =>
        (hx.send ..).raiseZones ..
      split
      · exact (hx.noteRepeat ..).bump ..
      · exact hx

theorem Continues.slewPan (h : Continues b c) (s : Sub) (rods : List (Nat × List Woven)) (p : Nat) :
    Continues b (c.slewPan s rods p).1 := by
  unfold Body.slewPan
  dsimp only
  split
  · exact h
  · split
    · split
      · exact ((h.setPan ..).bump ..).modSub s.n _
      · exact h.setPan ..
    · exact h.setPan ..

theorem Continues.retireRod (h : Continues b c) (e : Env) (s : Sub) (rod : Nat) (ws : Option (List Woven)) :
    Continues b (c.retireRod e s rod ws).1 := by
  unfold Body.retireRod
  dsimp only
  split
  · exact (h.addStaging _).sendDark ..
  · split
    · exact ((h.addStaging _).fallBack ..).modSub s.n _
    · split
      · exact (h.addStaging _).setReg ..
      · split
        · exact ((((h.bump ..).raise e 359 0).addStaging _).fallBack ..).modSub s.n _
        · split
          · exact (h.sendRod ..).modSub s.n _
          · exact (h.sendRod ..).addStaging _

/-! ### What is counted -/

theorem Continues.withLay (h : Continues b c) (x : Layers) : Continues b { c with lay := x } := h.same rfl

theorem Continues.withMedia (h : Continues b c) (x : Media) : Continues b { c with media := x } := h.same rfl

theorem Continues.withSeq (h : Continues b c) {q : Seq} (hq : q.sw = c.seq.sw := by rfl) : Continues b { c with seq := q } :=
  h.same (by simp [Body.work, hq])

theorem Continues.takeLate (h : Continues b c) (s : Sub) (l : Nat) : Continues b (c.takeLate s l).1 := by
  unfold Body.takeLate
  dsimp only
  split
  · exact h
  · exact h.withLay _

theorem Continues.layerCause (h : Continues b c) (e : Env) (l bitNo : Nat) : Continues b (c.layerCause e l bitNo) := h.setCause ..

theorem Continues.countLayer (h : Continues b c) (e : Env) (s : Sub) (l : Nat) : Continues b (c.countLayer e s l) := by
  unfold Body.countLayer
  split
  · exact (h.setReg ..).setReg ..
  · extract_lets f pt b1 b2 seen src per near fresh kept told t lay b2a tardy b3 b4 held
    have hcontent : Continues b b1 := (h.setReg ..).setReg ..
    have hpolicy : Continues b b2 := ((hcontent.bump ..).layerCause ..).ite hcontent
    have hlate : Continues b b2a := (hpolicy.takeLate s l).withLay _
    have htardy : Continues b b3 := hlate.ite ((hlate.bump ..).layerCause ..)
    have hbackup : Continues b b4 := (htardy.layerCause ..).ite htardy
    split
    · exact ((hbackup.withLay _).ite hbackup).ite hbackup
    · exact hbackup

theorem Continues.pulseFor (h : Continues b c) (e : Env) (en : Int) (phase : Nat) : Continues b (c.pulseFor e en phase) := by
  unfold Body.pulseFor
  refine h.withSeq.foldl _ fun x hx t _ => ?_
  dsimp only
  split
  · split
    · exact (hx.setTrig t _).raise ..
    · exact hx.setTrig t _
  · exact hx

theorem Continues.zeroDoses (h : Continues b c) (s : Sub) : Continues b (c.zeroDoses s) :=
  h.foldl _ fun x hx p _ => by
    split
    · exact hx.same rfl
    · exact hx

theorem Continues.addDose (h : Continues b c) (e : Env) (j em inc : Nat) : Continues b (c.addDose e j em inc) := by
  unfold Body.addDose
  dsimp only
  split
  · exact (((h.store ..).withCor _).bump ..).raise e 965 0
  · exact h.store ..

theorem Continues.doseTile (h : Continues b c) (e : Env) (s : Sub) (rod : Nat) (w : Woven) : Continues b (c.doseTile e s rod w) :=
  h.foldl _ fun _ hx _ _ => hx.addDose ..

theorem Continues.countDose (h : Continues b c) (e : Env) (s : Sub) (fates : List (Nat × Fate)) : Continues b (c.countDose e s fates) := by
  unfold Body.countDose
  split
  · refine Continues.withCor ((h.zeroDoses s).foldl _ fun x hx f _ => ?_) _
    split
    · next ws _ =>
      have hdoses : Continues b ((ws.filter (fun w => !(x.tile f.1 w.pos).holds)).foldl (fun y w => y.doseTile e s f.1 w) x) :=
        hx.foldl _ fun _ hy w _ => hy.doseTile e s f.1 w
      exact hdoses.ite (hdoses.bump ..)
    · exact hx.bump ..
  · exact h

theorem Continues.encCause (h : Continues b c) (e : Env) (n bitNo : Nat) : Continues b (c.encCause e n bitNo) := h.setCause ..

theorem Continues.confStart (h : Continues b c) (e : Env) (m : Mode) (cfg : Cfg) (n : Nat) (en : Int) (ps : List (Nat × Nat × List Nat))
    (lost : Bool) : Continues b (c.confStart e m cfg n en ps lost) :=
  h.foldl _ fun x hx k _ => by
    dsimp only
    split
    · split
      · exact ((hx.setReg ..).setEnc ..).encCause ..
      · split
        · exact ((hx.setReg ..).setEnc ..).encCause ..
        · exact (hx.setReg ..).setEnc ..
    · exact hx

theorem Continues.countConf (h : Continues b c) (e : Env) (s : Sub) (woven : List (Nat × List Woven)) (fates : List (Nat × Fate)) :
    Continues b (c.countConf e s woven fates) := by
  unfold Body.countConf
  exact (h.withMedia _).confStart ..

theorem Continues.countClamps (h : Continues b c) (s : Sub) (fates : List (Nat × Fate)) : Continues b (c.countClamps s fates) :=
  h.foldl _ fun x hx f _ => by
    split
    · exact hx.ite (hx.bump ..)
    · exact hx.ite (hx.bump ..)
    · exact hx

end

end Sys2Proof.Machine

namespace Sys2Proof.Machine

section
variable {b c : Body}

/-! ### A doubt (R443) -/

theorem Continues.trigLow (h : Continues b c) (t : Nat) : Continues b (c.trigLow t) := ((h.setReg ..).setTrig ..).drive ..

theorem Continues.endStall (h : Continues b c) (e : Env) : Continues b (c.endStall e) := by
  unfold Body.endStall
  split
  · exact h
  · exact h.same rfl

theorem Continues.darkAll (h : Continues b c) (ed : Int) : Continues b (c.darkAll ed) :=
  h.foldl _ fun _ hx r _ => (((hx.lostFrames r).modRod r _).endSet r).ite hx

/-- With no switch in progress none steps the clock. -/
theorem Continues.noSwitch (h : Continues b c) (n : Option Nat) (entering : Bool) :
    Continues b { c with seq := { c.seq with sw := none, next := n, entering := entering } } :=
  h.trans ⟨id, rfl, fun _ _ hw => (nomatch hw), fun z hz => ⟨z, hz, rfl, id⟩⟩

theorem Continues.dropSwitch (h : Continues b c) (e : Env) : Continues b (c.dropSwitch e) := by
  have hnone := h.noSwitch none false
  unfold Body.dropSwitch
  exact hnone.ite (((hnone.setReg ..).opEnd ..).ite (hnone.setReg ..))

theorem Continues.allEnded (h : Continues b c) : Continues b c.allEnded :=
  (h.foldl _ fun _ hx _ _ => (hx.setReg ..).ite hx).withCor _

/-- A doubt forgets every sub-frame. -/
theorem Continues.forgetSubs (h : Continues b c) {x : Beads} (hx : x.subs = []) : Continues b { c with beads := x } :=
  h.trans ⟨id, rfl, id, fun _ hz => absurd (hx ▸ hz) List.not_mem_nil⟩

theorem Continues.doubt (h : Continues b c) (e : Env) (cause det : Nat) : Continues b (c.doubt e cause det) := by
  unfold Body.doubt
  extract_lets b1 b2 paired b3 pair b4 b5 beads b6 b7 b8 b9
  have hnoted : Continues b b1 := (((h.setReg ..).setReg ..).setReg ..).raise ..
  have htallied : Continues b b2 := hnoted.tally ..
  have htold : Continues b b3 := (htallied.pairSend ..).ite htallied
  have hleft : Continues b b4 := htold.withPair
  have hdemoted : Continues b b5 := (hleft.setReg ..).ite hleft
  have hforgot : Continues b b6 := hdemoted.forgetSubs rfl
  have hcleared : Continues b b7 := ((hforgot.endStall e).setReg ..).setReg ..
  have hdark : Continues b b8 := (hcleared.darkAll _).foldl _ fun _ hx t _ => hx.trigLow t
  exact h.ite (((hdark.dropSwitch e).allEnded).enter ..)

/-! ### The office of the unit (R447, R448, R461) -/

theorem Continues.setEpoch (h : Continues b c) (v : Nat) : Continues b (c.setEpoch v) :=
  (h.setReg ..).foldl _ fun _ hx _ _ => hx.setReg ..

theorem Continues.tokenAll (h : Continues b c) : Continues b c.tokenAll := h.foldl _ fun _ hx n _ => (hx.modRod n _).ite hx

theorem Continues.holdTrigs (h : Continues b c) : Continues b c.holdTrigs := h.foldl _ fun _ hx t _ => (hx.drive t _).ite hx

theorem Continues.dropData (h : Continues b c) : Continues b c.dropData := h.foldl _ fun _ hx n _ => (hx.modRod n _).endSet n

theorem Continues.confIdr (h : Continues b c) : Continues b c.confIdr := h.foldl _ fun _ hx n _ => (hx.setEnc n _).ite hx

theorem Continues.authority (h : Continues b c) (e : Env) : Continues b (c.authority e) := by
  have hown := h.mapSubs (fun s : Sub => if 64000 ≤ tdiff s.c e.wt ∧ !s.retired then
      { s with open1 := [], absent := [], groups := s.groups.map (fun g => { g with told := true }) } else s)
    fun s => by split <;> exact ⟨rfl, id⟩
  unfold Body.authority
  exact (hown.foldl _ fun _ hx p _ => hx.foldl _ fun _ hy g _ => hy.trySwitchIn e p.1 g).foldl _ fun _ hx n _ => hx.releaseHeld e n

theorem Continues.becomeActive (h : Continues b c) (e : Env) : Continues b (c.becomeActive e) := by
  unfold Body.becomeActive
  extract_lets b1 b2
  have hepoch : Continues b b1 := (h.setEpoch _).setReg ..
  have hactive : Continues b b2 := (hepoch.modPair _).tokenAll
  exact (((hactive.authority e).confIdr).raise ..).endCompares e

theorem Continues.promote (h : Continues b c) (e : Env) : Continues b (c.promote e) := by
  unfold Body.promote
  exact Continues.ite (((((h.becomeActive e).tally ..).modPair _).bump ..).setReg ..) h

theorem Continues.leaveActive (h : Continues b c) (e : Env) : Continues b (c.leaveActive e) := by
  unfold Body.leaveActive
  split
  · exact ((((((h.setReg ..).holdTrigs).modPair _).raise ..).dropData).tokenAll).endCompares e
  · exact h

/-! ### Comparison and attribution (R458, R459) -/

theorem Continues.endAttrib (h : Continues b c) (e : Env) (n r : Nat) : Continues b (c.endAttrib e n r) := (h.modPair _).endCompare e n r

theorem Continues.decideAttrib (h : Continues b c) (e : Env) (n r : Nat) : Continues b (c.decideAttrib e n r) := by
  have hended := h.endAttrib e n r
  unfold Body.decideAttrib
  split
  · exact h
  · split
    · exact hended.doubt ..
    · exact (hended.promote e).ite hended
    · exact hended.doubt ..
    · exact h

theorem Continues.ownAttrib (h : Continues b c) (e : Env) (n r result : Nat) : Continues b (c.ownAttrib e n r result) :=
  ((h.modPair _).pairSend ..).decideAttrib e n r

theorem Continues.mismatch (h : Continues b c) (e : Env) (n r : Nat) : Continues b (c.mismatch e n r) := by
  have hcounted := (h.bump 0x1A08 (r + 1) 1).raise e 901 r
  unfold Body.mismatch
  dsimp only
  split
  · exact (hcounted.modPair _).endCompare e n r
  · split
    · exact hcounted
    · split
      · exact ((hcounted.modPair _).modBeads _).ownAttrib ..
      · exact (hcounted.modPair _).modBeads _

theorem Continues.joinCount (h : Continues b c) (e : Env) (sub : Option Sub) (n r : Nat) : Continues b (c.joinCount e sub n r) := by
  have hgood := h.modPair fun p => { p with good := c.pair.good + 1, goodN := n + 1 }
  unfold Body.joinCount
  split
  · exact h
  · exact h.ite (h.ite (h.ite (((hgood.setReg ..).raise ..).ite hgood)))

theorem Continues.compareRod (h : Continues b c) (e : Env) (n r : Nat) : Continues b (c.compareRod e n r) := by
  have htaken := h.modPair fun p => { p with sigOwn := merase (sigKey n r) p.sigOwn, sigTwin := merase (sigKey n r) p.sigTwin }
  unfold Body.compareRod
  split
  · exact Continues.ite (((htaken.endCompare e n r).joinCount ..).ite (htaken.mismatch e n r))
      (((Continues.modPair ((htaken.bump ..).ite htaken) _).endCompare e n r).joinCount ..)
  · exact h

theorem Continues.tellSignatures (h : Continues b c) (e : Env) (s : Sub) (fates : List (Nat × Fate)) (unf : List Nat) :
    Continues b (c.tellSignatures e s fates unf) := by
  unfold Body.tellSignatures
  extract_lets row b1
  have htold : Continues b b1 := h.foldl _ fun _ hx _ _ => (hx.pairSend ..).ite hx
  exact Continues.ite (Continues.ite ((htold.modPair _).foldl _ fun _ hx f _ => hx.compareRod e s.n f.1) htold) h

end

end Sys2Proof.Machine

namespace Sys2Proof.Machine

/-! ## The retire (R51, R52, R95) -/

section
variable {b c : Body}

theorem Continues.slewPans (h : Continues b c) (s : Sub) (pans : List Nat) (rods : List (Nat × List Woven)) :
    Continues b (pans.foldl (fun x p => x.1.slewPan s x.2 p) (c, rods)).1 :=
  List.foldlRecOn (motive := fun x : Body × List (Nat × List Woven) => Continues b x.1) pans _ h fun _ hx p _ => hx.slewPan s _ p

/-- Every rod is acted on; `ws` gives what it wove. -/
theorem Continues.retireRods (h : Continues b c) (e : Env) (s : Sub) (ws : Nat → Option (List Woven)) (rods : List Nat)
    (fates : List (Nat × Fate)) :
    Continues b (rods.foldl (fun (x : Body × List (Nat × Fate)) r =>
      ((x.1.retireRod e s r (ws r)).1, x.2 ++ [(r, (x.1.retireRod e s r (ws r)).2)])) (c, fates)).1 :=
  List.foldlRecOn (motive := fun x : Body × List (Nat × Fate) => Continues b x.1) rods _ h fun _ hx r _ => hx.retireRod e s r _

/-- A sub-frame found by its number has that number. -/
theorem Body.sub_number {n : Nat} {s : Sub} (h : b.sub? n = some s) : s.n = n := by
  simpa using List.find?_some h

/-- A sub-frame marked retired is. -/
theorem Body.retired_modSub (b : Body) (n : Nat) :
    ∀ z ∈ (b.modSub n fun x => { x with retired := true }).beads.subs, z.n = n → z.retired = true := by
  intro z hz hn
  obtain ⟨y, -, rfl⟩ := List.mem_map.mp hz
  by_cases hy : y.n = n
  · rw [if_pos hy]
  · rw [if_neg hy] at hn
    exact absurd hn hy

/-- What follows leaves the sub-frames of a number retired. -/
theorem Continues.retired (h : Continues b c) {n : Nat} (hb : ∀ z ∈ b.beads.subs, z.n = n → z.retired = true) :
    ∀ z ∈ c.beads.subs, z.n = n → z.retired = true := by
  intro z hz hn
  obtain ⟨y, hy, hyn, hret⟩ := h.subs z hz
  exact hret (hb y hy (hyn.trans hn))

/-- The retire of a sub-frame retires it, and lets no commit wait. -/
theorem Body.retireSub_retires (b : Body) (e : Env) (miswoven : List Nat) (s0 : Sub) :
    Continues b (b.retireSub e miswoven s0) ∧ ∀ z ∈ (b.retireSub e miswoven s0).beads.subs, z.n = s0.n → z.retired = true := by
  unfold Body.retireSub
  extract_lets b1 s rods unf b2 b3 can woven b4 b5 pans slewed done fates s1 want guardBad b6 b60 b7 b8 b9 b10 b11 b12 b13
  have hnum : s.n = s0.n := by
    show ((b1.sub? s0.n).getD s0).n = s0.n
    cases hs : b1.sub? s0.n with
    | none => rfl
    | some y => exact Body.sub_number hs
  have hmissed : Continues b b1 := ((Continues.refl b).abandonWork e s0).missChecks e s0
  have hunfollowed : Continues b b2 := hmissed.foldl _ fun _ hx _ _ => hx.bump ..
  have hfollowed : Continues b b3 := hunfollowed.ite (hunfollowed.raise ..)
  have hwoven : Continues b b4 := hfollowed.foldl _ fun _ hx _ _ => hx.ite (hx.bump ..)
  have hlimited : Continues b b5 := (hwoven.raise ..).ite hwoven
  have hrods : Continues b done.1 := (hlimited.slewPans s pans _).retireRods e s _ rods []
  have hlayers : Continues b b6 := hrods.foldl _ fun _ hx l _ => hx.countLayer e s l
  have hpulses : Continues b b60 := (hlayers.pulseFor ..).ite hlayers
  have hretired : Continues b b7 := (((hpulses.countDose ..).countConf ..).countClamps ..).modSub s.n _ fun _ => ⟨rfl, fun _ => rfl⟩
  have hafter : Continues b7 b8 := (Continues.refl b7).drain.retryFaults e
  have hsealed : Continues b7 b9 := (hafter.pairSend ..).ite hafter
  have hcompared : Continues b7 b10 := hsealed.tellSignatures ..
  have hcompleted : Continues b7 b11 := by
    unfold b11
    split
    · exact (hcompared.setReg ..).modPair _
    · exact hcompared
  have hhanded : Continues b7 b12 := by
    unfold b12
    split
    · exact Continues.ite ((hcompleted.leaveActive e).ite ((hcompleted.modPair _).promote e)) hcompleted
    · exact hcompleted
  have hend : Continues b7 (if guardBad then ((b13.bump 0x0C47 0 1).raise e 287 0).doubt e 6 s.n else b13) :=
    Continues.ite ((((hhanded.purge e).bump ..).raise ..).doubt ..) (hhanded.purge e)
  exact ⟨hretired.trans hend, hnum ▸ hend.retired (Body.retired_modSub _ s.n)⟩

end

theorem settleOffice_of_noCommits {b : Body} (h : b.pair.commits = []) (e : Env) : b.settleOffice e = b := by
  unfold Body.settleOffice
  rw [if_pos (.inr (by rw [h]; rfl))]

theorem subframeRetire_due {b : Body} {y : Sub} (hy : b.beads.subs.find? (fun z => !z.retired) = some y) {e : Env}
    (hc : e.reached y.c = true) (bad : List Nat) : subframeRetire e bad b = b.retireSub e bad y := by
  simp [subframeRetire, hy, hc]

theorem subframeRetire_notDue {b : Body} {y : Sub} (hy : b.beads.subs.find? (fun z => !z.retired) = some y) {e : Env}
    (hc : e.reached y.c = false) (bad : List Nat) : subframeRetire e bad b = b := by
  simp [subframeRetire, hy, hc]

/-- Settles O22: the retire marks the sub-frame, nothing after it takes the mark away, and with no commit waiting nothing is left to settle. -/
theorem subframesRetireAtC : Obligations.SubframesRetireAtC := by
  unfold Obligations.SubframesRetireAtC
  intro s y bad hy hidle
  refine ⟨fun hc => ?_, fun hc => ?_⟩
  · obtain ⟨hwork, hretired⟩ := s.b.retireSub_retires s.env bad y
    refine ⟨{ s with b := s.b.retireSub s.env bad y }, ?_, hretired, rfl⟩
    refine congrArg (fun x => Host.Outcome.next { s with b := x }) ?_
    rw [retireDue, subframeRetire_due hy hc, settleOffice_of_noCommits (hwork.commits hidle)]
  · refine congrArg (fun x => Host.Outcome.next { s with b := x }) ?_
    rw [retireDue, subframeRetire_notDue hy hc, settleOffice_of_noCommits hidle]

end Sys2Proof.Machine

namespace Sys2Proof.Machine

/-! ## A step of the clock, on what runs by it (R43, R59) -/

section
variable {b c : Body}

theorem Continues.lateInstant (h : Continues b c) (e : Env) : Continues b (c.lateInstant e) := (h.bump ..).raise e 68 0

theorem Continues.giveUp (h : Continues b c) (e : Env) (s : Sub) : Continues b (c.giveUp e s) :=
  ((((h.addStaging _).abandonWork e s).missChecks e s).dropSubs _ fun _ hz => (List.mem_filter.mp hz).1).drain.retryFaults e

theorem Continues.skipRetires (h : Continues b c) (e : Env) (w0 w1 : Int) : Continues b (skipRetires e w0 w1 c) := by
  unfold Machine.skipRetires
  exact h.foldl _ fun _ hx s _ => ((hx.lateInstant e).dropFrames ..).ite ((hx.lateInstant e).ite (((hx.lateInstant e).giveUp e s).confStart ..))

/-- A latch passed over moves the boundary of a switch, and gives it no step. -/
theorem Continues.passOver (h : Continues b c) (n : Nat) : Continues b (c.passOver n) := by
  unfold Body.passOver
  split
  · next w hw =>
    refine Continues.ite (h.trans ⟨id, rfl, fun hs w' hw' => ?_, fun z hz => ⟨z, hz, rfl, id⟩⟩) h.withSeq
    cases hw'
    exact hs w hw
  · exact h.withSeq

theorem Continues.skipLatches (h : Continues b c) (e : Env) (w0 w1 : Int) (k : Nat) : Continues b (skipLatches e w0 w1 k c) := by
  induction k generalizing c with
  | zero => exact h
  | succ k ih =>
    unfold Machine.skipLatches
    split
    · exact h
    · split
      · exact ih (((h.lateInstant e).passOver _).confStart ..)
      · exact h.foldl _ fun _ hx _ _ => hx.lateInstant e

theorem Continues.ttStepped (h : Continues b c) (e : Env) (w0 w1 : Int) (t : Nat) : Continues b (ttStepped e w0 w1 c t) := by
  unfold Machine.ttStepped
  exact Continues.ite ((h.setTrig ..).ite ((h.setTrig ..).foldl _ fun _ hx _ _ => hx.raise ..)) h

theorem Continues.stepped (h : Continues b c) (e : Env) (w0 w1 : Int) : Continues b (c.stepped e w0 w1) := by
  unfold Body.stepped
  refine Continues.foldl (Continues.ite ?_ h) _ fun _ hx t _ => hx.ttStepped e w0 w1 t
  exact (((h.raise e 67 0).skipRetires e w0 w1).skipLatches e w0 w1 _).ite (h.raise e 67 0)

theorem Continues.moveWindows (h : Continues b c) (e : Env) (w0 : Int) : Continues b (c.moveWindows e w0) := h.same rfl

end

/-! ## One tick with one change (R36) -/

theorem Clock.inRange_incr {c : Clock} (h : Clock.InRange c) (v : Nat) : Clock.InRange { c with incr := v } := h

theorem Clock.incr_tick1 (c : Clock) : c.tick1.incr = c.incr := by
  unfold Clock.tick1
  dsimp only
  split <;> rfl

/-- A clock in range stepped to a time that it can hold. -/
theorem Clock.time_step {c : Clock} {v : Int} (h0 : 0 ≤ (c.time : Int) + v) (h1 : (c.time : Int) + v < 2 ^ 48 * 1000000000) :
    ((c.step v).time : Int) = c.time + v := by
  simp only [Clock.step, Clock.time] at *
  omega

theorem Clock.inRange_step {c : Clock} (h : Clock.InRange c) (v : Int) : Clock.InRange (c.step v) := by
  obtain ⟨-, -, hfrac⟩ := h
  exact ⟨Nat.mod_lt _ (by decide), Nat.mod_lt _ (by decide), hfrac⟩

/-- The body once the oldest change has been taken: `rest` waits. -/
def Body.without (b : Body) (rest : List ClockChange) : Body := { b with tu := { b.tu with changes := rest } }

section
variable {s : State} {rest : List ClockChange}

/-- A tick with an increment: it counts from this tick on. -/
theorem State.advance_incr {v : Nat} (hr : Clock.InRange s.clk) (hv : v < 3 * 2 ^ 40) (hs : s.b.NoStep) (hf : s.b.seq.force = none)
    (hc : s.b.tu.changes = .incr v :: rest) :
    (s.advance 1).clk = ({ s.clk with incr := v }).tick1 ∧ (s.advance 1).b.tu.changes = rest := by
  have hmoved : Continues (s.b.without rest) (s.tickChange (.incr v) rest).b := (Continues.refl _).moveWindows ..
  rw [State.advance_one hf hc, State.run_of_noStep (hmoved.noStep hs), Clock.tick1_eq_ticks (Clock.inRange_incr hr v) hv]
  exact ⟨Clock.ticks_zero (Clock.ticks_inRange _ 1), hmoved.changes⟩

/-- A tick with a step: the step follows the tick. -/
theorem State.advance_step {ch : ClockChange} {v : Int} (hr : Clock.InRange s.clk) (hi : s.clk.incr < 3 * 2 ^ 40) (hs : s.b.NoStep)
    (hf : s.b.seq.force = none) (hch : ch = .step v ∨ ch = .force v) (hc : s.b.tu.changes = ch :: rest) :
    (s.advance 1).clk = s.clk.tick1.step v ∧ (s.advance 1).b.tu.changes = rest := by
  have htick : s.tickChange ch rest = State.stepBy ⟨s.clk.ticks 1, s.b.without rest, s.pending⟩ v := by
    obtain rfl | rfl := hch <;> rfl
  have hstepped : Continues (s.b.without rest) (State.stepBy ⟨s.clk.ticks 1, s.b.without rest, s.pending⟩ v).b :=
    ((Continues.refl _).stepped ..).moveWindows ..
  rw [State.advance_one hf hc, htick, State.run_of_noStep (hstepped.noStep hs), Clock.tick1_eq_ticks hr hi]
  exact ⟨Clock.ticks_zero (Clock.inRange_step (Clock.ticks_inRange _ 1) v), hstepped.changes⟩

end

theorem Body.noStep_of_seq {b c : Body} (h : c.seq = b.seq) (hb : b.NoStep) : c.NoStep := fun w hw => hb w (h ▸ hw)

/-! ## Writes that the next tick takes (R36, R38, R39) -/

theorem State.accepting_seq (s : State) (r : Req) (x : Session) : (s.accepting r x).seq = s.b.seq := rfl

theorem Body.dropHeld_seq (b : Body) : b.dropHeld.seq = b.seq := rfl

theorem timeStep_taken {e : Env} {v : Int} {b : Body} (ht : (b.follows && b.regN 0x1A05 0 == 1) = false)
    (hw : ¬ b.dropHeld.wallSoon e + v < 0) (hset : b.dropHeld.regN 0x0806 0 ≠ 0) (hnear : ¬ b.dropHeld.regN 0x0803 0 < v.natAbs) :
    timeStep e v b = (b.dropHeld.change (.step v), wrote stOK) := by
  rw [timeStep, ht, if_neg Bool.false_ne_true, if_neg hw, if_neg fun h => hnear h.2, if_neg hset]

theorem timeStepWrite_taken {s : State} {r : Req} {v : Int} {x : Session} (hg : Grants s r 0x0802 0 (.n v) x)
    (ht : (s.b.follows && s.b.regN 0x1A05 0 == 1) = false) (hw : ¬ s.b.wallSoon s.env + v < 0) (hset : s.b.regN 0x0806 0 ≠ 0)
    (hnear : ¬ s.b.regN 0x0803 0 < v.natAbs) :
    Replies ((s.accepting r x).dropHeld.change (.step v)) (serveWrite s.env r 0x0802 0 (.n v) (fun _ => timeStep s.env v) s.b) r
      (wrote stOK) := by
  have hsame : RegsAgree (fun k => k = key 0x0806 0 ∨ k = key 0x0803 0) s.b (s.accepting r x).dropHeld :=
    (RegsAgree.accepting _ s r x).dropHeld (by decide)
  refine serveWrite_replies hg (timeStep_taken (b := s.accepting r x) ht hw ?_ ?_) ?_
  · rwa [hsame.regN (.inl rfl)]
  · rwa [hsame.regN (.inr rfl)]
  · exact Body.isSome_sess_congr (Body.isSome_sess_congr (s.sess_accepting r x) (Body.dict_dropHeld _)) rfl

/-- A step that is taken, first or not, waits for its tick, and no switch and no forced step comes of it. -/
theorem timeStepWrite_waits {s : State} {r : Req} {v : Int} {x : Session} (hg : Grants s r 0x0802 0 (.n v) x)
    (ht : (s.b.follows && s.b.regN 0x1A05 0 == 1) = false) (hw : ¬ s.b.wallSoon s.env + v < 0)
    (hset : s.b.regN 0x0806 0 = 0 ∨ v.natAbs ≤ s.b.regN 0x0803 0) (hidle : s.b.tu.changes = []) :
    let t := serveWrite s.env r 0x0802 0 (.n v) (fun _ => timeStep s.env v) s.b
    t.seq = s.b.seq ∧ t.tu.changes = [.step v] := by
  have hnone : (s.accepting r x).dropHeld.tu.changes = [] := hidle
  by_cases hfirst : s.b.regN 0x0806 0 = 0
  · have hr := timeStepWrite_first hg ht hw hfirst
    refine ⟨hr.seq.trans ?_, (congrArg TimeUnit.changes hr.tu).trans (Body.changes_change_of_idle ?_ _)⟩
    · rw [Body.change_seq, Body.raise_seq, Body.setReg_seq, Body.dropHeld_seq, State.accepting_seq]
    · rw [Body.raise_tu, Body.setReg_tu, hnone]
  · have hr := timeStepWrite_taken hg ht hw hfirst (Nat.not_lt.mpr (hset.resolve_left hfirst))
    refine ⟨hr.seq.trans ?_, (congrArg TimeUnit.changes hr.tu).trans (Body.changes_change_of_idle hnone _)⟩
    rw [Body.change_seq, Body.dropHeld_seq, State.accepting_seq]

/-- Settles O12: a tick with an increment and a tick with a step, each of them also after the write that lets the change wait. -/
theorem changesTakeEffectAtOneTick : Obligations.ChangesTakeEffectAtOneTick := by
  unfold Obligations.ChangesTakeEffectAtOneTick
  intro s rest hr hi hs hf
  refine ⟨fun v hv hc => ?_, fun v hc h0 h1 => ?_, fun r x v hg ht hlo hhi hidle => ?_, fun r x v hg ht hset hidle hnow h0 h1 => ?_⟩
  · exact ⟨s.advance 1, rfl, State.advance_incr hr hv hs hf hc⟩
  · obtain ⟨ch, hch, hwaits⟩ : ∃ ch, (ch = .step v ∨ ch = .force v) ∧ s.b.tu.changes = ch :: rest :=
      hc.elim (fun h => ⟨_, .inl rfl, h⟩) (fun h => ⟨_, .inr rfl, h⟩)
    obtain ⟨hclk, hrest⟩ := State.advance_step hr hi hs hf hch hwaits
    refine ⟨s.advance 1, rfl, ?_⟩
    rw [hclk]
    exact ⟨Clock.time_step h0 h1, rfl, Clock.incr_tick1 s.clk, Nat.mod_lt _ (by decide), hrest⟩
  · have hw := timeIncrWrite_taken hg ht ⟨hlo, hhi⟩
    have hseq : (serveWrite s.env r 0x0801 0 (.n v) (fun _ => timeIncr s.env v) s.b).seq = s.b.seq := hw.seq.trans (s.accepting_seq r x)
    have hchanges := (congrArg TimeUnit.changes hw.tu).trans (Body.changes_change_of_idle (x := .incr v) hidle)
    refine ⟨_, _, rfl, rfl, ?_⟩
    exact (State.advance_incr (s := { s with b := serveWrite s.env r 0x0801 0 (.n v) (fun _ => timeIncr s.env v) s.b }) hr (by omega)
      (Body.noStep_of_seq hseq hs) (hseq ▸ hf) hchanges).1
  · have hsoon : ¬ s.b.wallSoon s.env + v < 0 := by
      have hnext : s.clk.time ≤ (s.clk.time * 2 ^ 40 + s.clk.frac + s.clk.incr) / 2 ^ 40 := by omega
      rw [Body.wallSoon_of_idle hidle]
      show ¬ ((((s.clk.time * 2 ^ 40 + s.clk.frac + s.clk.incr) / 2 ^ 40 : Nat) : Int) + v < 0)
      omega
    obtain ⟨hseq, hchanges⟩ := timeStepWrite_waits hg ht hsoon hset hidle
    refine ⟨_, _, rfl, rfl, rfl, ?_⟩
    have hclk := (State.advance_step (s := { s with b := serveWrite s.env r 0x0802 0 (.n v) (fun _ => timeStep s.env v) s.b }) hr hi
      (Body.noStep_of_seq hseq hs) (hseq ▸ hf) (.inl rfl) hchanges).1
    rw [hclk]
    exact ⟨Clock.time_step h0 h1, rfl⟩

end Sys2Proof.Machine

namespace Sys2Proof.Machine

/-- A command that acts on the body alone, by what its action makes of the body. -/
theorem State.act_eq (s : State) {f : Body → Body} {c : Body} (h : f s.b = c) : s.act f = .next { s with b := c } := h ▸ rfl

/-! ## The issue of a bead (R80 to R82, R97, R103) -/

/-- A sub-frame found after an update of those of one number is the one found before, updated if it has that number. -/
theorem Body.sub?_modSub (b : Body) (n m : Nat) {f : Sub → Sub} (hf : ∀ x, (f x).n = x.n) :
    (b.modSub n f).sub? m = (b.sub? m).map fun x => if x.n = n then f x else x := by
  have hsame : (fun s : Sub => s.n == m) ∘ (fun s => if s.n = n then f s else s) = fun s => s.n == m := by
    funext s
    dsimp only [Function.comp]
    split
    · rw [hf]
    · rfl
  simp only [Body.sub?, Body.modSub, List.find?_map, hsame]

/-- The choice of checks (R97) writes no register and no memory, and leaves what is outstanding, a stall and the groups of sub-frames. -/
structure ChoosesChecks (b c : Body) : Prop where
  num : c.num = b.num
  mem : c.mem = b.mem
  out : c.beads.out = b.beads.out
  stall : c.beads.stall = b.beads.stall
  groups : ∀ n z, c.sub? n = some z → ∃ y, b.sub? n = some y ∧ z.groups = y.groups

section
variable {b c : Body}

theorem ChoosesChecks.refl (b : Body) : ChoosesChecks b b := ⟨rfl, rfl, rfl, rfl, fun _ z hz => ⟨z, hz, rfl⟩⟩

theorem ChoosesChecks.modBeads (h : ChoosesChecks b c) {f : Beads → Beads} (hout : (f c.beads).out = c.beads.out := by rfl)
    (hstall : (f c.beads).stall = c.beads.stall := by rfl) (hsubs : (f c.beads).subs = c.beads.subs := by rfl) :
    ChoosesChecks b (c.modBeads f) where
  num := h.num
  mem := h.mem
  out := hout.trans h.out
  stall := hstall.trans h.stall
  groups n z hz := h.groups n z (by rwa [Body.sub?, Body.modBeads, hsubs] at hz)

theorem ChoosesChecks.pickedSub (h : ChoosesChecks b c) (n : Nat) : ChoosesChecks b (c.modSub n fun x => { x with picked := true }) where
  num := h.num
  mem := h.mem
  out := h.out
  stall := h.stall
  groups m z hz := by
    obtain ⟨x, hx, rfl⟩ := Option.map_eq_some_iff.mp (hz.symm.trans (Body.sub?_modSub c n m fun _ => rfl)).symm
    obtain ⟨y, hy, hgroups⟩ := h.groups m x hx
    refine ⟨y, hy, Eq.trans ?_ hgroups⟩
    split <;> rfl

theorem ChoosesChecks.startCheck (h : ChoosesChecks b c) (s : Sub) (g : Group) (e : Nat) : ChoosesChecks b (c.startCheck s g e) := by
  unfold Body.startCheck
  split
  · exact h.modBeads
  · exact h

theorem ChoosesChecks.pickNow (h : ChoosesChecks b c) (s : Sub) (g : Group) : ChoosesChecks b (c.pickNow s g) := by
  unfold Body.pickNow
  exact List.foldlRecOn _ _ (h.modBeads.pickedSub s.n) fun _ hx e _ => hx.startCheck s g e

theorem ChoosesChecks.pickChecks (h : ChoosesChecks b c) (late : Bool) (s : Sub) : ChoosesChecks b (c.pickChecks late s) := by
  unfold Body.pickChecks
  split
  · exact h
  · split
    · exact h
    · exact h.pickNow s _

end

section
variable (b : Body) (e : Env)

theorem Body.endStall_mem : (b.endStall e).mem = b.mem := by
  unfold Body.endStall
  split <;> rfl

theorem Body.endStall_out : (b.endStall e).beads.out = b.beads.out := by
  unfold Body.endStall
  split <;> rfl

theorem Body.endStall_stall : (b.endStall e).beads.stall = none := by
  unfold Body.endStall
  split
  · assumption
  · rfl

end

/-- The end of a stall writes `bead.tag_stall` alone (R80). -/
theorem RegsAgree.endStall_of {K : Nat → Prop} {b c : Body} (h : RegsAgree K b c) (e : Env) (hk : ¬ K (key 0x0E04 0)) :
    RegsAgree K b (c.endStall e) := by
  unfold Body.endStall
  split
  · exact h
  · exact (h.setReg 0x0E04 0 hk).withBeads _

/-- Job j no longer waits: it is outstanding on engine en under a tag, and the buffers it reads are leased. -/
def Body.issueJob (b : Body) (e : Env) (tag : Nat) (j : Job) (en : Nat) : Body :=
  ((b.endStall e).modBeads fun x => { x with waiting := x.waiting.erase j, out := x.out ++ [⟨tag, j, en, e.tb⟩] }).countTags.lease
    (b.readBy j)

/-- The group of a first-pass or recompute bead notes the engine that the bead went to. -/
def Body.noteEngine (b : Body) (j : Job) (en : Nat) : Body :=
  b.modSub j.n fun s => s.modGroup j.epoch fun g => { g with beads := g.beads.map fun p => if p.1 = j.bead then (p.1, en) else p }

section
variable {b : Body} {e : Env} {tag en : Nat} {j : Job}

theorem Body.out_issueJob : (b.issueJob e tag j en).beads.out = b.beads.out ++ [⟨tag, j, en, e.tb⟩] :=
  congrArg (· ++ _) (b.endStall_out e)

theorem Body.stall_issueJob : (b.issueJob e tag j en).beads.stall = none := b.endStall_stall e

theorem Body.mem_issueJob : (b.issueJob e tag j en).mem = b.mem := b.endStall_mem e

theorem Body.reg_issueJob_tags : (b.issueJob e tag j en).reg 0x0E03 0 = (b.beads.out.length + 1 : Nat) := by
  refine (Body.reg_setReg_same _ 0x0E03 0 _).trans (congrArg _ ?_)
  exact (congrArg List.length (Body.out_issueJob (e := e) (tag := tag) (en := en) (j := j))).trans List.length_append

theorem RegsAgree.issueJob : RegsAgree (FrameKey [0x0E03, 0x0E04]) b (b.issueJob e tag j en) :=
  (((RegsAgree.refl _ b).endStall_of e (not_frameKey_key (by decide) (by decide))).withBeads _).setReg 0x0E03 0
    (not_frameKey_key (by decide) (by decide)) |>.of_num rfl

/-- Every group of the bead's epoch names the engine for it. -/
theorem Body.engine_noteEngine {y : Sub} (hy : (b.noteEngine j en).sub? j.n = some y) {g : Group} (hg : g ∈ y.groups)
    (hepoch : g.epoch = j.epoch) {p : Nat × Nat} (hp : p ∈ g.beads) (hbead : p.1 = j.bead) : p.2 = en := by
  obtain ⟨x, hx, rfl⟩ := Option.map_eq_some_iff.mp (hy.symm.trans (Body.sub?_modSub b j.n j.n fun _ => rfl)).symm
  rw [if_pos (Body.sub_number hx)] at hg
  obtain ⟨g, -, rfl⟩ := List.mem_map.mp hg
  split at hp
  · obtain ⟨p, -, rfl⟩ := List.mem_map.mp hp
    split at hbead <;> simp_all
  · next hne => exact absurd (by rwa [if_neg hne] at hepoch) hne

/-- An issue takes the job that comes first, a free tag and the engine for it; what follows it is a choice of checks. -/
theorem beadIssue_choosesChecks (hrun : b.beads.stopped = false) (hj : b.firstJob = some j) (htag : b.freeTag = some tag)
    (hen : b.engineFor j = some en) :
    ChoosesChecks (if j.kind = .normal then (b.issueJob e tag j en).noteEngine j en else b.issueJob e tag j en) (beadIssue e b) := by
  simp only [beadIssue, hrun, hj, htag, hen, Bool.false_eq_true, if_false]
  by_cases hkind : j.kind = .normal
  · rw [if_pos hkind]
    simp only [hkind]
    split
    · exact (ChoosesChecks.refl _).pickChecks false _
    · exact ChoosesChecks.refl _
  · rw [if_neg hkind]
    split
    · exact absurd ‹_› hkind
    · exact ChoosesChecks.refl _

theorem Body.freeTag_fresh (h : b.freeTag = some tag) : ∀ o ∈ b.beads.out, o.tag ≠ tag := by
  simpa using List.find?_some h

end

/-- Settles O18: the issue puts the job under its tag, and the checks chosen after it leave that. -/
theorem firstBeadIsIssued : Obligations.FirstBeadIsIssued := by
  unfold Obligations.FirstBeadIsIssued
  intro s j tag en hrun hj htag hen
  obtain ⟨hnum, hmem, hout, hstall, hgroups⟩ := beadIssue_choosesChecks (e := s.env) hrun hj htag hen
  have hkept {α : Type} (part : Body → α) (hnote : part ((s.b.issueJob s.env tag j en).noteEngine j en) = part (s.b.issueJob s.env tag j en)) :
      part (if j.kind = .normal then (s.b.issueJob s.env tag j en).noteEngine j en else s.b.issueJob s.env tag j en) =
        part (s.b.issueJob s.env tag j en) := by
    split
    · exact hnote
    · rfl
  rw [hkept Body.num rfl] at hnum
  refine ⟨{ s with b := beadIssue s.env s.b }, rfl, ?_, Body.freeTag_fresh htag, ?_, ?_, fun hkind y g hy hg hepoch p hp hbead => ?_, ?_⟩
  · exact hout.trans ((hkept (fun c => c.beads.out) rfl).trans Body.out_issueJob)
  · exact (Body.reg_congr hnum 0x0E03 0).trans Body.reg_issueJob_tags
  · exact hstall.trans ((hkept (fun c => c.beads.stall) rfl).trans Body.stall_issueJob)
  · obtain ⟨z, hz, hsame⟩ := hgroups j.n y hy
    rw [if_pos hkind] at hz
    exact Body.engine_noteEngine hz (hsame ▸ hg) hepoch hp hbead
  · exact frame_of_regsAgree (RegsAgree.issueJob.of_num hnum) (hmem.trans ((hkept Body.mem rfl).trans Body.mem_issueJob))

/-! ## Free staging records (R90) -/

section
variable {b : Body}

theorem recordGrant_grants {j : Job} (hfree : 0 < b.reg 0x0E0A 0) (hj : b.beads.waiting.find? (fun k => !k.record) = some j) :
    recordGrant b =
      (b.modBeads fun x => { x with waiting := x.waiting.map fun k => if k = j then { k with record := true } else k }).addStaging (-1) := by
  rw [recordGrant, if_neg (by unfold Body.regN; omega), hj]

theorem recordGrant_noneFree (h : b.reg 0x0E0A 0 = 0) : recordGrant b = b := by
  rw [recordGrant, if_pos (by simp [Body.regN, h])]

theorem recordGrant_noneWaits (h : ∀ j ∈ b.beads.waiting, j.record = true) : recordGrant b = b := by
  have hnone : b.beads.waiting.find? (fun k => !k.record) = none := List.find?_eq_none.mpr fun j hj => by simp [h j hj]
  rw [recordGrant, hnone]
  split <;> rfl

end

/-- Settles O20: a grant marks the first waiting bead without a record, and takes one from `bead.staging_free`. -/
theorem freeRecordsAreGranted : Obligations.FreeRecordsAreGranted := by
  unfold Obligations.FreeRecordsAreGranted
  intro s
  refine ⟨fun j hfree hj => ?_, fun h => s.act_eq (recordGrant_noneFree h), fun h => s.act_eq (recordGrant_noneWaits h)⟩
  · refine ⟨{ s with b := _ }, s.act_eq (recordGrant_grants hfree hj), Body.reg_setReg_same _ _ _ _, ?_,
      List.length_map _, rfl, frame_of_regsAgree ?_ rfl⟩
    · exact List.mem_map.mpr ⟨j, List.mem_of_find?_eq_some hj, if_pos rfl⟩
    · exact ((RegsAgree.refl _ s.b).withBeads _).setReg 0x0E0A 0 (not_frameKey_key (by decide) (by decide))

end Sys2Proof.Machine

namespace Sys2Proof.Machine

/-! ## A vote that leaves no voter (R99) -/

/-- A hung vote between engines 1 and 2 on engine 0; engines from 3 on are out of service. Its check names as checked the engine 255, which no
unit has: the cause of that engine would lie at the key of entry 0x0E0D. -/
def voteOverEngine255 : State :=
  let job : Job := ⟨7, 1, 0, .vote 1 2, 3, 0, some 0, true⟩
  let sub : Sub :=
    { n := 7, mode := Mode.reset, e := 0, c := 0, i := 0, cfg := ⟨[], []⟩, crc := 0, gen := 0, corrGen := 0, mapGen := 0, decs := [],
      groups := [], use := [], epochs := [], charged := 0, recomps := 0, admitted := 0, picked := false, retired := false, votes := [],
      starved := false, held := [], decCount := 0, open1 := [], absent := [], slews := [], setSent := false, await := [] }
  ⟨{ Clock.reset with tb := 10000000000000 },
    { Body.reset with
      num := (upFrom 3 189).map fun i => (key 0x0E0C (i + 1), 1)
      beads := { Body.reset.beads with
        subs := [sub], out := [⟨0, job, 0, 0⟩], checks := [⟨7, 1, 0, 255, 2, none, some ⟨[], [], none, [], 2⟩⟩] } }, []⟩

/-- Refutes O19: the statement asks nothing of the engines that checks name. Where the fence leaves a vote without a voter, the engines of its
check are fenced too (R99), and the cause written for an engine 255 is the value of entry 0x0E0D. -/
theorem not_beadsEnd : ¬ Obligations.BeadsEnd := by
  unfold Obligations.BeadsEnd
  intro h
  obtain ⟨-, hhung, -⟩ := h voteOverEngine255 ⟨0, ⟨7, 1, 0, .vote 1 2, 3, 0, some 0, true⟩, 0, 0⟩ (by decide +kernel)
  obtain ⟨t, ht, -, -, -, -, hregs, -⟩ := hhung (by decide +kernel) (by decide +kernel) (by decide)
  cases ht
  exact absurd (hregs 0x0E0D 0 (by decide) (.inr (by decide)) (by decide)) (by decide +kernel)

end Sys2Proof.Machine

namespace Sys2Proof.Machine

/-! ## Lists by place -/

theorem upFrom_eq_range' (lo n : Nat) : upFrom lo n = List.range' lo n := by
  induction n generalizing lo with
  | zero => rfl
  | succ n ih => rw [upFrom, ih, List.range'_succ]

theorem length_upFrom (lo n : Nat) : (upFrom lo n).length = n := by rw [upFrom_eq_range', List.length_range']

/-- An item of a list without repetitions comes neither before nor after itself. -/
theorem not_mem_of_nodup_middle {α : Type} {pre post : List α} {a : α} (h : (pre ++ a :: post).Nodup) : a ∉ pre ++ post :=
  (List.nodup_cons.mp (List.perm_middle.nodup_iff.mp h)).1

/-- The items of a list with their places, cut at one of them: no place comes twice. -/
theorem zip_upFrom_split {α : Type} {l : List α} {p : Nat} {q : α} (h : l[p]? = some q) :
    ∃ pre post, (upFrom 0 l.length).zip l = pre ++ (p, q) :: post ∧ ∀ a ∈ pre ++ post, a.1 ≠ p := by
  have hmem : (p, q) ∈ (upFrom 0 l.length).zip l := by
    obtain ⟨hp, -⟩ := List.getElem?_eq_some_iff.mp h
    refine List.mem_of_getElem? (i := p) (List.getElem?_zip_eq_some.mpr ⟨?_, h⟩)
    rw [upFrom_eq_range', List.getElem?_range' hp]
    simp
  obtain ⟨pre, post, hsplit⟩ := List.append_of_mem hmem
  have hplaces : (pre ++ (p, q) :: post).map Prod.fst = List.range' 0 l.length := by
    rw [← hsplit, List.map_fst_zip (Nat.le_of_eq (length_upFrom _ _)), upFrom_eq_range']
  have honce : p ∉ (pre ++ post).map Prod.fst := by
    have hnodup := hplaces ▸ List.nodup_range' (s := 0) (n := l.length)
    rw [List.map_append, List.map_cons] at hnodup
    rw [List.map_append]
    exact not_mem_of_nodup_middle hnodup
  exact ⟨pre, post, hsplit, fun a ha hap => honce (List.mem_map.mpr ⟨a, ha, hap⟩)⟩

/-- A fold that brings one property about at one item, keeps another before it and this one after it. -/
theorem foldl_through {α β : Type} {f : β → α → β} {before after : β → Prop} {pre post : List α} {a : α} {b : β} (hb : before b)
    (hpre : ∀ x, before x → ∀ c ∈ pre, before (f x c)) (hat : ∀ x, before x → after (f x a))
    (hpost : ∀ x, after x → ∀ c ∈ post, after (f x c)) : after ((pre ++ a :: post).foldl f b) := by
  rw [List.foldl_append, List.foldl_cons]
  exact List.foldlRecOn post f (hat _ (List.foldlRecOn pre f hb hpre)) hpost

/-! ## Rods and tiles -/

theorem Body.rod_modRod_ne (b : Body) {n m : Nat} (h : n ≠ m) (f : Rod → Rod) : (b.modRod m f).rod n = b.rod n := b.rod_setRod_ne h _

theorem Body.tile_modTile_ne (b : Body) {n p n' p' : Nat} (h : n * 64 + p ≠ n' * 64 + p') (f : Tile → Tile) :
    (b.modTile n' p' f).tile n p = b.tile n p := mgetD_mputD_ne h _ _ _ _

theorem Body.mem_txq_send_same (b : Body) (n : Nat) (f : DnFrame) : f ∈ ((b.send n f).rod n).txq := by
  simp [Body.send]

/-- A frame queued leaves those queued before. -/
theorem Body.mem_txq_send (b : Body) {r : Nat} {f : DnFrame} (h : f ∈ (b.rod r).txq) (n : Nat) (g : DnFrame) :
    f ∈ ((b.send n g).rod r).txq := by
  by_cases hr : r = n
  · subst hr
    simp [Body.send, h]
  · rwa [Body.send, Body.rod_modRod_ne b hr]

theorem Tile.committed_commit (t : Tile) (n g phases : Nat) (zs : List (List Nat)) : (t.commit n g phases zs).committed n g = some zs := by
  simp [Tile.committed, Tile.commit]

/-- A zone's setpoint depends on its tile alone. -/
theorem Body.zoneSetpoint_congr {b c : Body} {rod pos : Nat} (h : c.tile rod pos = b.tile rod pos) (t : TileRec) (beads : List Bead)
    (use : Map Rec) (n g phases z : Nat) :
    c.zoneSetpoint rod pos t beads use n g phases z = b.zoneSetpoint rod pos t beads use n g phases z := by
  unfold Body.zoneSetpoint
  rw [h]

/-! ## HEADROOM (R94, R298, R299) -/

/-- Rods and tiles have changed alone, and what was queued for a rod still is. -/
structure Queues (b c : Body) : Prop where
  rest : ∃ rods tiles, c = { b with rods := rods, tiles := tiles }
  txq : ∀ r f, f ∈ (b.rod r).txq → f ∈ (c.rod r).txq

theorem Queues.refl (b : Body) : Queues b b := ⟨⟨b.rods, b.tiles, rfl⟩, fun _ _ h => h⟩

/-- A part of the body that reads neither rods nor tiles. -/
theorem Queues.part {b c : Body} {α : Type} (h : Queues b c) (f : Body → α)
    (hf : ∀ rods tiles, f { b with rods := rods, tiles := tiles } = f b := by exact fun _ _ => rfl) : f c = f b := by
  obtain ⟨rods, tiles, rfl⟩ := h.rest
  exact hf rods tiles

theorem Queues.trans {b c d : Body} (h : Queues b c) (k : Queues c d) : Queues b d where
  rest := by
    obtain ⟨rods, tiles, hc⟩ := h.rest
    obtain ⟨rods', tiles', hd⟩ := k.rest
    exact ⟨rods', tiles', by rw [hd, hc]⟩
  txq r f hf := k.txq r f (h.txq r f hf)

section
variable (rod n g phases : Nat) (beads : List Bead) (use : Map Rec)

/-- The setpoints of the zones of a tile, for sub-frame n. -/
def Body.tileSetpoints (b : Body) (pos : Nat) (t : TileRec) : List (List Nat) :=
  (upFrom 0 t.zones).map fun z => b.zoneSetpoint rod pos t beads use n g phases z

/-- HEADROOM of sub-frame n to one tile, and the commitment it makes. -/
def Body.headroomTile (b : Body) (p : Nat × TileRec) : Body :=
  (b.send rod (.headroom p.1 n (b.tileSetpoints rod n g phases beads use p.1 p.2))).modTile rod p.1 fun t =>
    t.commit n g phases (b.tileSetpoints rod n g phases beads use p.1 p.2)

theorem Body.headroomRod_eq (b : Body) (tiles : List TileRec) :
    b.headroomRod rod n g phases tiles beads use =
      if (b.inService rod && b.sendsData n) = true then
        ((upFrom 0 tiles.length).zip tiles).foldl (fun x p => x.headroomTile rod n g phases beads use p) b
      else b := rfl

theorem Queues.headroomTile (b : Body) (p : Nat × TileRec) : Queues b (b.headroomTile rod n g phases beads use p) where
  rest := ⟨_, _, rfl⟩
  txq _ _ h := b.mem_txq_send h rod _

theorem Body.tile_headroomTile_ne (b : Body) {r q : Nat} {p : Nat × TileRec} (h : r * 64 + q ≠ rod * 64 + p.1) :
    (b.headroomTile rod n g phases beads use p).tile r q = b.tile r q := Body.tile_modTile_ne _ h _

theorem Queues.headroomRod (b : Body) (tiles : List TileRec) : Queues b (b.headroomRod rod n g phases tiles beads use) := by
  rw [Body.headroomRod_eq]
  split
  · exact List.foldlRecOn _ _ (Queues.refl b) fun x hx p _ => hx.trans (Queues.headroomTile rod n g phases beads use x p)
  · exact Queues.refl b

theorem Body.tile_headroomRod_ne (b : Body) {r q : Nat} {tiles : List TileRec} (h : ∀ p < tiles.length, r * 64 + q ≠ rod * 64 + p) :
    (b.headroomRod rod n g phases tiles beads use).tile r q = b.tile r q := by
  rw [Body.headroomRod_eq]
  split
  · refine List.foldlRecOn (motive := fun x : Body => x.tile r q = b.tile r q) _ _ rfl fun x hx p hp => ?_
    refine (x.tile_headroomTile_ne rod n g phases beads use (h p.1 ?_)).trans hx
    have := mem_upFrom (List.of_mem_zip hp).1
    omega
  · rfl

end

/-- Tile q of rod r has the setpoints zs of sub-frame n queued for it, and is committed to them. -/
structure Commits (r q n g : Nat) (zs : List (List Nat)) (b : Body) : Prop where
  queued : .headroom q n zs ∈ (b.rod r).txq
  committed : (b.tile r q).committed n g = some zs

theorem Commits.queues {r q n g : Nat} {zs : List (List Nat)} {b c : Body} (h : Commits r q n g zs b) (hc : Queues b c)
    (ht : c.tile r q = b.tile r q) : Commits r q n g zs c := ⟨hc.txq _ _ h.queued, ht ▸ h.committed⟩

section
variable (rod n g phases : Nat) (beads : List Bead) (use : Map Rec)

theorem Body.headroomTile_commits (b : Body) (p : Nat × TileRec) :
    Commits rod p.1 n g (b.tileSetpoints rod n g phases beads use p.1 p.2) (b.headroomTile rod n g phases beads use p) where
  queued := b.mem_txq_send_same rod _
  committed := by
    rw [Body.headroomTile, Body.tile_modTile_same]
    exact Tile.committed_commit ..

/-- A rod in FC service commits the setpoints of each of its tiles, as they are before any of it. -/
theorem Body.headroomRod_commits (b : Body) {tiles : List TileRec} {p : Nat} {q : TileRec} (hrod : b.inService rod = true)
    (hsends : b.sendsData n = true) (hq : tiles[p]? = some q) :
    Commits rod p n g (b.tileSetpoints rod n g phases beads use p q) (b.headroomRod rod n g phases tiles beads use) := by
  obtain ⟨pre, post, hsplit, hplace⟩ := zip_upFrom_split hq
  have hother (x : Body) {a : Nat × TileRec} (ha : a ∈ pre ++ post) :
      (x.headroomTile rod n g phases beads use a).tile rod p = x.tile rod p :=
    x.tile_headroomTile_ne rod n g phases beads use (by have := hplace a ha; omega)
  rw [Body.headroomRod_eq, if_pos (by rw [hrod, hsends]; rfl), hsplit]
  refine foldl_through (before := fun x : Body => x.tile rod p = b.tile rod p) rfl
    (fun x hx a ha => (hother x (List.mem_append_left _ ha)).trans hx) (fun x hx => ?_)
    (fun x hx a ha => hx.queues (Queues.headroomTile rod n g phases beads use x a) (hother x (List.mem_append_right _ ha)))
  have hzs : x.tileSetpoints rod n g phases beads use p q = b.tileSetpoints rod n g phases beads use p q :=
    List.map_congr_left fun z _ => Body.zoneSetpoint_congr hx q beads use n g phases z
  exact hzs ▸ x.headroomTile_commits rod n g phases beads use (p, q)

end

/-! ## Every rod at a setpoint instant -/

/-- HEADROOM of sub-frame n to the tiles that `tiles` gives each of the rods, from the beads that `beads` gives it. -/
def Body.headroomRods (b : Body) (n g phases : Nat) (tiles : Nat → List TileRec) (beads : Nat → List Bead) (use : Map Rec)
    (rods : List Nat) : Body :=
  rods.foldl (fun x r => x.headroomRod r n g phases (tiles r) (beads r) use) b

section
variable {n g phases : Nat} {tiles : Nat → List TileRec} {beads : Nat → List Bead} {use : Map Rec} {rods : List Nat}

theorem Queues.headroomRods (b : Body) : Queues b (b.headroomRods n g phases tiles beads use rods) :=
  List.foldlRecOn _ _ (Queues.refl b) fun x hx r _ => hx.trans (Queues.headroomRod r n g phases (beads r) use x (tiles r))

/-- Each tile of a rod in FC service has HEADROOM queued, with a setpoint for every zone. -/
theorem Body.headroomRods_queues (b : Body) {r p : Nat} {q : TileRec} (hr : r ∈ rods) (hrod : b.inService r = true)
    (hsends : b.sendsData n = true) (hq : (tiles r)[p]? = some q) :
    ∃ zs, .headroom p n zs ∈ ((b.headroomRods n g phases tiles beads use rods).rod r).txq ∧ zs.length = q.zones := by
  obtain ⟨pre, post, rfl⟩ := List.append_of_mem hr
  have hstep (x : Body) (r : Nat) := Queues.headroomRod r n g phases (beads r) use x (tiles r)
  refine foldl_through (before := Queues b)
    (after := fun x : Body => ∃ zs, DnFrame.headroom p n zs ∈ (x.rod r).txq ∧ zs.length = q.zones) (Queues.refl b)
    (fun x hx k _ => hx.trans (hstep x k)) (fun x hx => ?_) (fun x ⟨zs, hzs, hlen⟩ k _ => ⟨zs, (hstep x k).txq _ _ hzs, hlen⟩)
  refine ⟨_, (x.headroomRod_commits r n g phases (beads r) use ?_ ?_ hq).queued, (List.length_map _).trans (length_upFrom _ _)⟩
  · exact (hx.part fun c => c.inService r).trans hrod
  · exact (hx.part fun c => c.sendsData n).trans hsends

/-- Where no rod comes twice and no rod holds more tiles than have a place of their own, the setpoints are those of the body before, and
the tile is committed to them. -/
theorem Body.headroomRods_commits (b : Body) {r p : Nat} {q : TileRec} (hr : r ∈ rods) (hrod : b.inService r = true)
    (hsends : b.sendsData n = true) (hq : (tiles r)[p]? = some q) (hnodup : rods.Nodup) (hlen : ∀ k ∈ rods, (tiles k).length ≤ 63) :
    Commits r p n g (b.tileSetpoints r n g phases (beads r) use p q) (b.headroomRods n g phases tiles beads use rods) := by
  have hp : p < 63 := Nat.lt_of_lt_of_le (List.getElem?_eq_some_iff.mp hq).1 (hlen r hr)
  obtain ⟨pre, post, rfl⟩ := List.append_of_mem hr
  have honce : r ∉ pre ++ post := not_mem_of_nodup_middle hnodup
  have hstep (x : Body) (k : Nat) := Queues.headroomRod k n g phases (beads k) use x (tiles k)
  have hother (x : Body) {k : Nat} (hk : k ∈ pre ++ post) :
      (x.headroomRod k n g phases (tiles k) (beads k) use).tile r p = x.tile r p := by
    have hne : r ≠ k := fun h => honce (h ▸ hk)
    have hshort := hlen k (List.perm_middle.mem_iff.mpr (List.mem_cons_of_mem r hk))
    exact x.tile_headroomRod_ne k n g phases (beads k) use fun _ _ => by omega
  refine foldl_through (before := fun x => Queues b x ∧ x.tile r p = b.tile r p) ⟨Queues.refl b, rfl⟩
    (fun x hx k hk => ⟨hx.1.trans (hstep x k), (hother x (List.mem_append_left _ hk)).trans hx.2⟩) (fun x ⟨hx, htile⟩ => ?_)
    (fun x hx k hk => hx.queues (hstep x k) (hother x (List.mem_append_right _ hk)))
  have hzs : x.tileSetpoints r n g phases (beads r) use p q = b.tileSetpoints r n g phases (beads r) use p q :=
    List.map_congr_left fun z _ => Body.zoneSetpoint_congr htile q (beads r) use n g phases z
  exact hzs ▸ x.headroomRod_commits r n g phases (beads r) use ((hx.part fun c => c.inService r).trans hrod)
    ((hx.part fun c => c.sendsData n).trans hsends) hq

end

/-! ## The setpoint instant (R51, R298) -/

/-- A fold whose step reads of the body what no step changes reads it of the first body. -/
theorem foldl_headroomRod_eq (b : Body) (n g phases : Nat) (use : Map Rec) (rods : List Nat) {tiles : Body → Nat → List TileRec}
    {beads : Body → Nat → List Bead} (htiles : ∀ x, Queues b x → tiles x = tiles b) (hbeads : ∀ x, Queues b x → beads x = beads b) :
    rods.foldl (fun x r => x.headroomRod r n g phases (tiles x r) (beads x r) use) b =
      b.headroomRods n g phases (tiles b) (beads b) use rods := by
  suffices h : ∀ x, Queues b x → rods.foldl (fun x r => x.headroomRod r n g phases (tiles x r) (beads x r) use) x =
      x.headroomRods n g phases (tiles b) (beads b) use rods from h b (Queues.refl b)
  induction rods with
  | nil => exact fun _ _ => rfl
  | cons r rods ih =>
    intro x hx
    simp only [List.foldl_cons, htiles x hx, hbeads x hx]
    exact ih _ (hx.trans (Queues.headroomRod r n g phases _ use x _))

/-- The tiles that a rod map, if there is one, gives rod r. -/
def tilesIn (m : Option RodMap) (r : Nat) : List TileRec := (m.map fun x => x.tilesOf r).getD []

/-- HEADROOM of an issued sub-frame, by the records in use. -/
def Body.headroomOf (b : Body) (y : Sub) : Body :=
  b.headroomRods y.n y.gen y.mode.phases (tilesIn (b.subMap y)) (b.rodBeadsOf y) y.use (b.subRods y)

/-- HEADROOM of a number not yet latched, which has no records. -/
def Body.headroomEarly (b : Body) (n g phases : Nat) : Body :=
  b.headroomRods n g phases (tilesIn b.map?) (fun _ => []) [] b.rodsInUse

/-- The setpoint instant of a number is noted. -/
def Body.noteEarly (b : Body) (n : Nat) : Body := { b with seq := { b.seq with early := b.seq.early ++ [n] } }

/-- The setpoint instant of an issued sub-frame is marked. -/
def Body.markSetSent (b : Body) (n : Nat) : Body := b.modSub n fun x => { x with setSent := true }

section
variable {e : Env} {b : Body}

theorem setpointInstant_issued {y : Sub} (hy : b.beads.subs.find? (fun z => !z.setSent && e.reached (b.instH z.e)) = some y) :
    setpointInstant e b = ((b.headroomOf y).markSetSent y.n).purge e := by
  have hfold := foldl_headroomRod_eq b y.n y.gen y.mode.phases y.use (b.subRods y) (tiles := fun _ => tilesIn (b.subMap y))
    (beads := fun x => x.rodBeadsOf y) (fun _ _ => rfl) fun _ hx => hx.part fun c => c.rodBeadsOf y
  unfold setpointInstant
  rw [hy]
  exact congrArg (fun c => (Body.markSetSent c y.n).purge e) hfold

theorem setpointInstant_early {k g : Nat} {m : Mode} (hy : b.beads.subs.find? (fun z => !z.setSent && e.reached (b.instH z.e)) = none)
    (hk : b.earlyH e = some (k, m, g)) : setpointInstant e b = (b.headroomEarly k g m.phases).noteEarly k := by
  have hfold := foldl_headroomRod_eq b k g m.phases [] b.rodsInUse (tiles := fun x => tilesIn x.map?) (beads := fun _ _ => [])
    (fun _ hx => hx.part fun c => tilesIn c.map?) fun _ _ => rfl
  unfold setpointInstant
  rw [hy]
  simp only [hk]
  exact congrArg (fun c => Body.noteEarly c k) hfold

theorem setpointInstant_none (hy : b.beads.subs.find? (fun z => !z.setSent && e.reached (b.instH z.e)) = none)
    (hk : b.earlyH e = none) : setpointInstant e b = b := by
  unfold setpointInstant
  rw [hy]
  simp only [hk]

/-- Once marked, a sub-frame's number stays marked, whatever is purged. -/
theorem Body.setSent_purge (b : Body) (e : Env) (n : Nat) : ∀ z ∈ ((b.markSetSent n).purge e).beads.subs, z.n = n → z.setSent = true := by
  intro z hz hn
  obtain ⟨y, -, rfl⟩ := List.mem_map.mp (List.mem_filter.mp hz).1
  by_cases hy : y.n = n
  · rw [if_pos hy]
  · rw [if_neg hy] at hn
    exact absurd hn hy

theorem Queues.headroomOf (b : Body) (y : Sub) : Queues b (b.headroomOf y) := Queues.headroomRods b

theorem Queues.headroomEarly (b : Body) (n g phases : Nat) : Queues b (b.headroomEarly n g phases) := Queues.headroomRods b

/-- What is queued for a tile has a setpoint for every zone; where no rod comes twice or has too many tiles, they are the zones' own. -/
theorem Body.headroomOf_commits (b : Body) {y : Sub} {r p : Nat} {q : TileRec} (hr : r ∈ b.subRods y) (hrod : b.inService r = true)
    (hsends : b.sendsData y.n = true) (hq : (tilesIn (b.subMap y) r)[p]? = some q) :
    ∃ zs, .headroom p y.n zs ∈ ((b.headroomOf y).rod r).txq ∧ zs.length = q.zones ∧
      ((b.subRods y).Nodup → (∀ k ∈ b.subRods y, (tilesIn (b.subMap y) k).length ≤ 63) →
        zs = b.tileSetpoints r y.n y.gen y.mode.phases (b.rodBeadsOf y r) y.use p q ∧
          ((b.headroomOf y).tile r p).committed y.n y.gen = some zs) := by
  by_cases hd : (b.subRods y).Nodup ∧ ∀ k ∈ b.subRods y, (tilesIn (b.subMap y) k).length ≤ 63
  · obtain ⟨hqueued, hcommitted⟩ := b.headroomRods_commits (g := y.gen) (phases := y.mode.phases) (beads := b.rodBeadsOf y)
      (use := y.use) hr hrod hsends hq hd.1 hd.2
    exact ⟨_, hqueued, (List.length_map _).trans (length_upFrom _ _), fun _ _ => ⟨rfl, hcommitted⟩⟩
  · obtain ⟨zs, hqueued, hlen⟩ := b.headroomRods_queues (g := y.gen) (phases := y.mode.phases) (beads := b.rodBeadsOf y)
      (use := y.use) hr hrod hsends hq
    exact ⟨zs, hqueued, hlen, fun hnodup hshort => absurd ⟨hnodup, hshort⟩ hd⟩

end

/-- An update that writes no register and no memory. -/
theorem frame_of_sameStores {s : State} {t : Body} (hnum : t.num = s.b.num) (hmem : t.mem = s.b.mem) : Frame s { s with b := t } [] :=
  frame_of_regsAgree ((RegsAgree.refl _ s.b).of_num hnum) hmem

/-- Settles O43: HEADROOM changes rods and tiles alone, rod by rod, and what marks the instant leaves them. -/
theorem setpointsAreCommitted : Obligations.SetpointsAreCommitted := by
  unfold Obligations.SetpointsAreCommitted
  intro s y
  refine ⟨fun hy => ?_, fun k m g hy hk => ?_, fun hy hk => s.act_eq (setpointInstant_none hy hk)⟩
  · have hqueues := Queues.headroomOf s.b y
    refine ⟨{ s with b := ((s.b.headroomOf y).markSetSent y.n).purge s.env }, s.act_eq (setpointInstant_issued hy),
      frame_of_sameStores (hqueues.part Body.num) (hqueues.part Body.mem), Body.setSent_purge _ _ _, fun n p q hn hrod hsends hq => ?_⟩
    exact s.b.headroomOf_commits hn hrod hsends hq
  · have hqueues := Queues.headroomEarly s.b k g m.phases
    refine ⟨{ s with b := (s.b.headroomEarly k g m.phases).noteEarly k }, s.act_eq (setpointInstant_early hy hk),
      frame_of_sameStores (hqueues.part Body.num) (hqueues.part Body.mem), ?_, hqueues.part Body.beads, fun n p q hn hrod hsends hq => ?_⟩
    · exact congrArg (· ++ [k]) (hqueues.part fun c => c.seq.early)
    · exact s.b.headroomRods_queues hn hrod hsends hq

end Sys2Proof.Machine

namespace Sys2Proof.Machine

/-! ## The shadow set of a session across the answer to its request (R140, R410) -/

/-- A reply that leaves the layers and the reset unit as they were, and the requesting session with this shadow set. -/
structure RepliesOver (c t : Body) (r : Req) (rsp : Rsp) (set : Cfg) : Prop extends Replies c t r rsp where
  lay : t.lay = c.lay
  dev : t.dev = c.dev
  shadow : ∃ y, t.sess? (r.sid % 8) = some y ∧ y.set = set

theorem Body.answer_repliesOver {c : Body} {r : Req} {y : Session} (e : Env) (m : Bytes) (rsp : Rsp) (hs : c.sess? (r.sid % 8) = some y) :
    RepliesOver c (c.answer e (r.sid % 8) r.seq m rsp) r rsp y.set :=
  { Body.answer_replies e m rsp hs with
    lay := by simp
    dev := by simp
    shadow := by
      obtain ⟨z, hz, hcore⟩ := Body.sess_answer e r.seq m rsp hs
      exact ⟨z, hz, (congrArg Session.set hcore :)⟩ }

theorem RepliesOver.of_forwardWrite {c t : Body} {r : Req} {rsp : Rsp} {set : Cfg} {e : Env} {idx sub : Nat} {v : WireVal}
    (h : RepliesOver (c.forwardWrite e idx sub v) t r rsp set) : RepliesOver c t r rsp set :=
  { h.toReplies.of_forwardWrite with
    lay := h.lay.trans (by simp)
    dev := h.dev.trans (by simp)
    shadow := h.shadow }

/-- An answer sent behind a write that was forwarded or was not. -/
theorem Body.answer_forwarded {c d : Body} {r : Req} {y : Session} {e : Env} {idx sub : Nat} {v : WireVal}
    (hd : d = c ∨ d = c.forwardWrite e idx sub v) (m : Bytes) (rsp : Rsp) (hs : c.sess? (r.sid % 8) = some y) :
    RepliesOver c (d.answer e (r.sid % 8) r.seq m rsp) r rsp y.set := by
  rcases hd with rfl | rfl
  · exact Body.answer_repliesOver e m rsp hs
  · refine (Body.answer_repliesOver e m rsp ?_).of_forwardWrite
    rw [Body.sess?, Body.forwardWrite_dict]
    exact hs

section
variable {s : State} {r : Req} {idx sub st : Nat} {v : WireVal} {x y : Session} {c : Body}

/-- A granted write served by a handler of its own. -/
theorem serveWrite_repliesOver {h : Nat → Body → Body × Rsp} (hg : Grants s r idx sub v x)
    (hh : h (r.sid % 8) (s.accepting r x) = (c, wrote st)) (hs : c.sess? (r.sid % 8) = some y) :
    RepliesOver c (serveWrite s.env r idx sub v h s.b) r (wrote st) y.set := by
  obtain ⟨htakes, hcheck⟩ := hg
  rw [serveWrite_granted s.env h htakes hcheck]
  unfold State.accepting at hh
  simp only [hh]
  cases st with
  | zero => exact Body.answer_forwarded (.inr rfl) _ _ hs
  | succ st => exact Body.answer_repliesOver s.env _ _ hs

/-- A granted write served through the dictionary's table of entries. -/
theorem writeReq_repliesOver (hg : Grants s r idx sub v x)
    (hh : entryWrite s.env (r.sid % 8) r.seq x.role idx sub v (s.accepting r x) = (c, some (wrote st)))
    (hafter : ∀ b, afterWrite s.env (r.sid % 8) r.seq idx sub v b = b) (hs : c.sess? (r.sid % 8) = some y) :
    RepliesOver c (writeReq s.env r idx sub (tyOf idx sub) v s.b) r (wrote st) y.set := by
  obtain ⟨htakes, hcheck⟩ := hg
  have hrole : (s.accepting r x).roleOf (r.sid % 8) = x.role := by
    rw [State.accepting, roleOf_setSess, Session.accept_role]
  have hchecked : (s.accepting r x).checkWrite x.role idx sub (tyOf idx sub) v = 0 := hcheck
  rw [writeReq, serve_accepted s.env _ _ htakes]
  simp only [hafter]
  have hdict : ∃ d, (d = c ∨ d = c.forwardWrite s.env idx sub v) ∧
      dictWrite s.env (r.sid % 8) r.seq idx sub (tyOf idx sub) v (s.accepting r x) = (d, some (wrote st)) := by
    simp only [dictWrite, hrole, hchecked, hh]
    cases st with
    | zero => exact ⟨_, .inr rfl, rfl⟩
    | succ st => exact ⟨_, .inl rfl, rfl⟩
  obtain ⟨d, hd, hdict⟩ := hdict
  unfold State.accepting at hdict
  simp only [hdict]
  exact Body.answer_forwarded hd _ _ hs

end

/-! ## Outcomes of requests that change no register and no memory -/

/-- A command that may assert a reset, where it asserts none. -/
theorem State.actR_eq (s : State) {f : Body → Body} (hd : (f s.b).dev = s.b.dev) : s.actR f = .next { s with b := f s.b } := by
  have hquiet : ((f s.b).dev.cause.isSome && s.b.dev.cause.isNone) = false := by
    rw [hd]
    cases s.b.dev.cause <;> rfl
  rw [State.actR, State.settle, hquiet]
  rfl

theorem RepliesOver.frame_nil {s : State} {c t : Body} {r : Req} {rsp : Rsp} {set : Cfg} (h : RepliesOver c t r rsp set)
    (hnum : c.num = s.b.num) (hmem : c.mem = s.b.mem) : Frame s { s with b := t } [] :=
  h.frame ((RegsAgree.refl _ s.b).of_num hnum) hmem

theorem Session.accept_set (x : Session) (seq tb : Nat) : (x.accept seq tb).set = x.set := by
  unfold Session.accept
  split <;> rfl

theorem State.sess_accepting_eq (s : State) (r : Req) (x : Session) :
    (s.accepting r x).sess? (r.sid % 8) = some (x.accept r.seq s.env.tb) := Body.sess_setSess_same ..

theorem Body.modSess_eq {b : Body} {n : Nat} {x : Session} (h : b.sess? n = some x) (f : Session → Session) :
    b.modSess n f = b.setSess n (f x) := by
  simp only [Body.modSess, h]

/-! ## The entries that a latch takes (R140) -/

/-- Sub-indices are bytes, and the shadowed rows lie above those of sessions and of the device, none at `cfg.commit`. -/
theorem entriesOf_ranges (g : Nat) : (entriesOf g).all (fun t => decide (t.sub1 < 256) &&
    (t.access != .rws || decide (0x0B00 ≤ t.idx0) && (decide (t.idx1 < 0x0C28) || decide (0x0C28 < t.idx0)))) = true := by
  unfold entriesOf
  split <;> decide +kernel

theorem mem_entriesOf_of_lookup {idx sub : Nat} {t : Entry} (h : lookup idx sub = some t) :
    t ∈ entriesOf (idx / 256) ∧ t.idx0 ≤ idx ∧ idx ≤ t.idx1 ∧ sub ≤ t.sub1 := by
  unfold lookup at h
  split at h
  · cases h
  · have hin := List.find?_some h
    simp only [Bool.and_eq_true, decide_eq_true_eq] at hin
    exact ⟨List.mem_of_find?_eq_some h, hin.1.1.1, hin.1.1.2, hin.2⟩

theorem sub_lt_of_lookup {idx sub : Nat} {t : Entry} (h : lookup idx sub = some t) : sub < 256 := by
  obtain ⟨hmem, -, -, hsub⟩ := mem_entriesOf_of_lookup h
  have hrow := List.all_eq_true.mp (entriesOf_ranges (idx / 256)) t hmem
  simp only [Bool.and_eq_true, decide_eq_true_eq] at hrow
  omega

/-- A shadowed entry is none of those whose write has a meaning of its own after its response, nor `cfg.commit`. -/
theorem index_of_isRws {idx sub : Nat} {t : Entry} (hl : lookup idx sub = some t) (hr : isRws (key idx sub) = true) :
    0x0B00 ≤ idx ∧ idx ≠ 0x0C28 := by
  have hsub := sub_lt_of_lookup hl
  obtain ⟨hmem, hlo, hhi, -⟩ := mem_entriesOf_of_lookup hl
  have hrow := List.all_eq_true.mp (entriesOf_ranges (idx / 256)) t hmem
  have hidx : key idx sub / 256 = idx := by unfold key; omega
  have hmod : key idx sub % 256 = sub := by unfold key; omega
  unfold isRws at hr
  rw [hidx, hmod, hl] at hr
  have hnofreeze : idx ≠ freezeIdx := by
    rintro rfl
    exact absurd hmem List.not_mem_nil
  have hrws : t.access = .rws := by simpa [hnofreeze] using hr
  simp [hrws] at hrow
  omega

theorem lookup_of_grants {s : State} {r : Req} {idx sub : Nat} {v : WireVal} {x : Session} (hg : Grants s r idx sub v x) :
    ∃ t, lookup idx sub = some t := by
  cases hl : lookup idx sub with
  | some t => exact ⟨t, rfl⟩
  | none =>
    have hcheck := hg.2
    simp [Body.checkWrite, hl] at hcheck

end Sys2Proof.Machine

namespace Sys2Proof.Machine

/-! ## Writes to shadowed entries (R140) -/

/-- A session with a value written to key k of its shadow set. -/
def Session.put (x : Session) (k : Nat) : WireVal → Session
  | .b bs => { x with shadowB := minsert k bs x.shadowB }
  | v => { x with shadow := minsert k v.num x.shadow }

/-- Key k is in the shadow set, or there is room for it. -/
def Session.hasRoom (x : Session) (k : Nat) : Prop :=
  x.set.size < 4096 ∨ (mfind k x.shadow).isSome = true ∨ (mfind k x.shadowB).isSome = true

theorem Session.put_accept_set (x : Session) (seq tb k : Nat) (v : WireVal) : ((x.accept seq tb).put k v).set = (x.put k v).set := by
  unfold Session.accept
  split <;> cases v <;> rfl

theorem Session.hasRoom_accept {x : Session} {k : Nat} (seq tb : Nat) : (x.accept seq tb).hasRoom k ↔ x.hasRoom k := by
  unfold Session.accept
  split <;> rfl

section
variable {b : Body} {slot idx sub : Nat} {x : Session}

theorem shadowWrite_stored (hs : b.sess? slot = some x) (hroom : x.hasRoom (key idx sub)) (v : WireVal) :
    shadowWrite slot idx sub v b = (b.setSess slot (x.put (key idx sub) v), wrote stOK) := by
  have hfree : ((mfind (key idx sub) x.shadow).isNone && (mfind (key idx sub) x.shadowB).isNone && decide (4096 ≤ x.set.size)) = false := by
    simp only [Bool.and_eq_false_iff, decide_eq_false_iff_not, Option.isNone_eq_false_iff, Nat.not_le]
    exact hroom.elim .inr .inl
  simp only [shadowWrite, hs, hfree]
  cases v <;> rfl

theorem shadowWrite_full (hs : b.sess? slot = some x) (hfull : ¬ x.hasRoom (key idx sub)) (v : WireVal) :
    shadowWrite slot idx sub v b = (b, wrote stShadowFull) := by
  have hnew : ((mfind (key idx sub) x.shadow).isNone && (mfind (key idx sub) x.shadowB).isNone && decide (4096 ≤ x.set.size)) = true := by
    unfold Session.hasRoom at hfull
    simp only [not_or, Bool.not_eq_true, Option.isSome_eq_false_iff] at hfull
    simp only [Bool.and_eq_true, decide_eq_true_eq]
    exact ⟨hfull.2, by omega⟩
  simp only [shadowWrite, hs, hnew, if_true]

end

section
variable {s : State} {r : Req} {idx sub st : Nat} {v : WireVal} {x y : Session} {c : Body}

theorem afterWrite_of_index (hi : 0x0300 ≤ idx) (e : Env) (slot seq : Nat) (b : Body) : afterWrite e slot seq idx sub v b = b := by
  unfold afterWrite
  rw [if_neg (by omega), if_neg (by omega), if_neg (by omega), if_neg (by omega)]

/-- A write served through the table of entries that changes the shadow set alone. -/
theorem shadowWrite_next (hg : Grants s r idx sub v x) (hi : 0x0300 ≤ idx)
    (hh : entryWrite s.env (r.sid % 8) r.seq x.role idx sub v (s.accepting r x) = (c, some (wrote st)))
    (hs : c.sess? (r.sid % 8) = some y) (hnum : c.num = s.b.num) (hmem : c.mem = s.b.mem) (hdev : c.dev = s.b.dev) :
    ∃ t z, exec (.shadowWrite r idx sub v) s = .next t ∧ Answered t r (wrote st) ∧ t.b.lay = c.lay ∧
      t.b.sess? (r.sid % 8) = some z ∧ z.set = y.set ∧ Frame s t [] := by
  have hr := writeReq_repliesOver hg hh (afterWrite_of_index hi _ _ _) hs
  obtain ⟨z, hz, hset⟩ := hr.shadow
  exact ⟨_, z, s.actR_eq (hr.dev.trans hdev), hr.answered, hr.lay, hz, hset, hr.frame_nil hnum hmem⟩

/-- The write of a shadowed entry other than a still is a shadow write. -/
theorem entryWrite_rws (hg : Grants s r idx sub v x) (hr : isRws (key idx sub) = true) (hi : idx ≠ 0x0C50) (e : Env) (slot seq role : Nat)
    (b : Body) : entryWrite e slot seq role idx sub v b = ((shadowWrite slot idx sub v b).1, some (shadowWrite slot idx sub v b).2) := by
  obtain ⟨t, hl⟩ := lookup_of_grants hg
  simp only [entryWrite, (index_of_isRws hl hr).2, hi, hr, if_true, if_false]

/-- A shadowed value with room is stored in the session's shadow set, and nowhere else. -/
theorem shadowWrite_next_stored (hg : Grants s r idx sub v x) (hr : isRws (key idx sub) = true) (hi : idx ≠ 0x0C50)
    (hroom : x.hasRoom (key idx sub)) :
    ∃ t z, exec (.shadowWrite r idx sub v) s = .next t ∧ Answered t r (wrote stOK) ∧ t.b.sess? (r.sid % 8) = some z ∧
      z.set = (x.put (key idx sub) v).set ∧ Frame s t [] := by
  obtain ⟨_, hl⟩ := lookup_of_grants hg
  have hstored := shadowWrite_stored (s.sess_accepting_eq r x) ((Session.hasRoom_accept ..).mpr hroom) v
  have hentry := entryWrite_rws hg hr hi s.env (r.sid % 8) r.seq x.role (s.accepting r x)
  rw [hstored] at hentry
  obtain ⟨t, z, ht, hans, -, hz, hset, hframe⟩ := shadowWrite_next hg (by have := index_of_isRws hl hr; omega) hentry
    (Body.sess_setSess_same ..) rfl rfl rfl
  exact ⟨t, z, ht, hans, hz, hset.trans (x.put_accept_set ..), hframe⟩

/-- One for which the set has no room is refused. -/
theorem shadowWrite_next_full (hg : Grants s r idx sub v x) (hr : isRws (key idx sub) = true) (hi : idx ≠ 0x0C50)
    (hfull : ¬ x.hasRoom (key idx sub)) :
    ∃ t z, exec (.shadowWrite r idx sub v) s = .next t ∧ Answered t r (wrote stShadowFull) ∧ t.b.sess? (r.sid % 8) = some z ∧
      z.set = x.set ∧ Frame s t [] := by
  obtain ⟨_, hl⟩ := lookup_of_grants hg
  have hrefused := shadowWrite_full (s.sess_accepting_eq r x) (mt (Session.hasRoom_accept ..).mp hfull) v
  have hentry := entryWrite_rws hg hr hi s.env (r.sid % 8) r.seq x.role (s.accepting r x)
  rw [hrefused] at hentry
  obtain ⟨t, z, ht, hans, -, hz, hset, hframe⟩ := shadowWrite_next hg (by have := index_of_isRws hl hr; omega) hentry
    (s.sess_accepting_eq r x) rfl rfl rfl
  exact ⟨t, z, ht, hans, hz, hset.trans (x.accept_set ..), hframe⟩

/-! ## Stills that cannot be read (R114, R115) -/

theorem mem_of_mfind {α : Type} {k : Nat} {v : α} {m : Map α} (h : mfind k m = some v) : (k, v) ∈ m := by
  induction m with
  | nil => cases h
  | cons p m ih =>
    obtain ⟨j, w⟩ := p
    unfold mfind at h
    split at h
    · next hk =>
      cases h
      exact hk ▸ List.mem_cons_self
    · exact List.mem_cons_of_mem _ (ih h)

theorem mem_minsert {α : Type} {p : Nat × α} {k : Nat} {v : α} {m : Map α} (h : p ∈ minsert k v m) : p = (k, v) ∨ p ∈ m := by
  induction m with
  | nil => exact .inl (List.mem_singleton.mp h)
  | cons q m ih =>
    obtain ⟨j, w⟩ := q
    unfold minsert at h
    split at h
    · exact (List.mem_cons.mp h).imp_right (List.mem_cons_of_mem _)
    · split at h
      · exact List.mem_cons.mp h
      · rcases List.mem_cons.mp h with rfl | h
        · exact .inr List.mem_cons_self
        · exact (ih h).imp_right (List.mem_cons_of_mem _)

/-- Which still is the guard's does not change with a session whose shadow set stays. -/
theorem Body.guardStill_setSess {b : Body} {slot n : Nat} {x y : Session} (hx : b.sess? slot = some x) (hset : y.set = x.set)
    (h : b.guardStill n = false) : (b.setSess slot y).guardStill n = false := by
  unfold Body.guardStill at h ⊢
  simp only [Bool.or_eq_false_iff] at h ⊢
  obtain ⟨hothers, hsess⟩ := h
  refine ⟨hothers, List.any_eq_false.mpr fun p hp => ?_⟩
  have hnone := List.any_eq_false.mp hsess
  rcases mem_minsert hp with rfl | hp
  · rw [hset]
    exact hnone (slot, x) (mem_of_mfind hx)
  · exact hnone p hp

theorem State.guardStill_accepting {n : Nat} (hg : Grants s r idx sub v x) (h : s.b.guardStill n = false) :
    (s.accepting r x).guardStill n = false :=
  Body.guardStill_setSess (arrive_session hg.1) (x.accept_set ..) h

theorem stillLoad_unreadable {b : Body} {slot n : Nat} {bs : Bytes} (hf : b.devState ≠ devFrozen) (hguard : b.guardStill n = false)
    (hbs : stillOf n bs = none) : stillLoad slot n bs b = (b, wrote stFormat) := by
  simp [stillLoad, hf, hguard, hbs]

/-! ## Discarding a shadow set (R140) -/

/-- A session whose shadow set is empty. -/
def Session.emptied (x : Session) : Session := { x with shadow := [], shadowB := [] }

theorem cfgDiscard_eq {b : Body} {slot : Nat} (hs : b.sess? slot = some x) :
    cfgDiscard slot b = ((b.setSess slot x.emptied).sweepStills, wrote stOK) := by
  rw [cfgDiscard, Body.modSess_eq hs]
  rfl

theorem cfgDiscard_next (hg : Grants s r 0x0C29 0 (.n 1) x) :
    ∃ t z, exec (.cfgDiscard r) s = .next t ∧ Answered t r (wrote stOK) ∧ t.b.sess? (r.sid % 8) = some z ∧ z.set = ⟨[], []⟩ ∧
      Frame s t [] := by
  have hr := serveWrite_repliesOver hg (cfgDiscard_eq (s.sess_accepting_eq r x)) (Body.sess_setSess_same ..)
  obtain ⟨z, hz, hset⟩ := hr.shadow
  exact ⟨_, z, rfl, hr.answered, hz, hset, hr.frame_nil rfl rfl⟩

end

/-- Settles O25: the write ends in the session's shadow set, or is refused for want of room or of a still that can be read; a discard empties
the set. -/
theorem shadowWritesWait : Obligations.ShadowWritesWait := by
  unfold Obligations.ShadowWritesWait
  intro s r x
  refine ⟨fun idx sub v hg hr hi hroom => ?_, fun idx sub bs hg hr hi hroom => ?_, fun idx sub v hg hr hi hnew hnewB hfull => ?_,
    fun n bs hg hf hguard hbs => ?_, fun hg => ?_⟩
  · obtain ⟨t, z, ht, hans, hz, hset, hframe⟩ := shadowWrite_next_stored hg hr hi (hroom.imp_right .inl)
    exact ⟨t, z, ht, hans, hz, congrArg Cfg.num hset, congrArg Cfg.blob hset, hframe⟩
  · obtain ⟨t, z, ht, hans, hz, hset, hframe⟩ := shadowWrite_next_stored hg hr hi (hroom.imp_right .inr)
    exact ⟨t, z, ht, hans, hz, congrArg Cfg.blob hset, congrArg Cfg.num hset, hframe⟩
  · have hnoroom : ¬ x.hasRoom (key idx sub) := by
      rw [Session.hasRoom, hnew, hnewB]
      simpa using hfull
    obtain ⟨t, z, ht, hans, hz, hset, hframe⟩ := shadowWrite_next_full hg hr hi hnoroom
    exact ⟨t, z, ht, hans, hz, congrArg Cfg.num hset, congrArg Cfg.blob hset, hframe⟩
  · have hrefused := stillLoad_unreadable (b := s.accepting r x) (slot := r.sid % 8) hf (s.guardStill_accepting hg hguard) hbs
    have hentry : entryWrite s.env (r.sid % 8) r.seq x.role 0x0C50 (n + 1) (.b bs) (s.accepting r x) =
        (s.accepting r x, some (wrote stFormat)) := by simp [entryWrite, WireVal.bytes, hrefused]
    obtain ⟨t, -, ht, hans, hlay, -, -, hframe⟩ := shadowWrite_next hg (by decide) hentry (s.sess_accepting_eq r x) rfl rfl rfl
    exact ⟨t, ht, hans, hlay, hframe⟩
  · obtain ⟨t, z, ht, hans, hz, hset, hframe⟩ := cfgDiscard_next hg
    exact ⟨t, z, ht, hans, hz, congrArg Cfg.num hset, congrArg Cfg.blob hset, hframe⟩

end Sys2Proof.Machine

namespace Sys2Proof.Machine

/-! ## Commits before which nothing is due (R52, R142) -/

section
variable {e : Env} {b : Body}

theorem retiresDue_none (h : ∀ y ∈ b.beads.subs, y.retired = true ∨ e.reached y.c = false) (k : Nat) : retiresDue e k b = b := by
  cases k with
  | zero => rfl
  | succ k =>
    unfold retiresDue
    split
    · rfl
    · next y hy =>
      have hopen := List.find?_some hy
      have hlater := (h y (List.mem_of_find?_eq_some hy)).resolve_left (by simpa using hopen)
      rw [hlater]
      rfl

theorem Body.latchDue_none (h : ∀ n m, b.nextLatch = some (n, m) → e.reached (m.instI n) = false) : b.latchDue e = none := by
  unfold Body.latchDue
  split
  · split
    · next n m hn => simp [h n m hn]
    · rfl
  · rfl

theorem Body.heldCommits_none (h : b.follows = false → b.pair.commits = []) : b.heldCommits e = b := by
  unfold Body.heldCommits
  split
  · rfl
  · next hf => rw [Body.runCommits, h (by simpa using hf)]; rfl

end

theorem fireDue_of_nothingDue {s : State} (h : NothingDue s) : fireDue s.env 4 s.b = s.b := by
  obtain ⟨hsubs, hlatch, hcommits⟩ := h
  rw [fireDue, retiresDue_none hsubs]
  simp only [Body.latchDue_none hlatch, Body.heldCommits_none hcommits]

/-! ## One commit (R134, R141) -/

section
variable {e : Env} {b : Body} {w : GuardWait}

theorem runCommit_refused (hbad : b.commitBad w.set ≠ stOK) (hop : w.forOp = none) (ready : Bool) :
    runCommit e w ready b = ((b.bump 0x0C2C 0 1).giveBack w.slot w.set, some (wrote (b.commitBad w.set))) := by
  rw [runCommit, if_pos hbad, hop]
  rfl

/-- The body with other commits waiting. -/
def Body.withWaits (b : Body) (ws : List GuardWait) : Body := { b with lay := { b.lay with waits := ws } }

/-- The checks of a commit do not read the commits that wait. -/
theorem Body.commitBad_withWaits (b : Body) (ws : List GuardWait) (set : Cfg) : (b.withWaits ws).commitBad set = b.commitBad set := rfl

theorem runCommit_waits (hok : b.commitBad w.set = stOK) (hguard : b.guardCommit w.set = true) :
    runCommit e w false b = (b.withWaits ({ w with guard := true } :: b.lay.waits), none) := by
  simp [runCommit, hok, hguard, Body.withWaits]

theorem runCommit_executes (hok : b.commitBad w.set = stOK) {ready : Bool} (hready : ready = true ∨ b.guardCommit w.set = false) :
    runCommit e w ready b = ((b.doCommit e w.set).1.endSwapOp e w.forOp 0, some (.write stOK 1 b.takeAt)) := by
  have hnow : (!ready && b.guardCommit w.set) = false := by
    rcases hready with h | h <;> simp [h]
  rw [runCommit, if_neg (by simp [hok]), hnow]
  rfl

/-! ## A set forwarded to the twin (R454) -/

theorem Body.pairWriteOut_keeps {α : Type} (f : Body → α) (hf : ∀ (b : Body) (e : Env) (m : PairMsg), f (b.pairSend e m) = f b)
    (ho : ∀ (b : Body) (k : Nat), f { b with pair := { b.pair with order := k } } = f b) (b : Body) (e : Env) (k : Nat) (v : Val) :
    f (b.pairWriteOut e k v) = f b := b.tellWrite_keeps f hf ho e _ _ _ v

/-- What no message sent changes, no set forwarded changes. -/
theorem Body.forwardSet_keeps {α : Type} (f : Body → α) (hf : ∀ (b : Body) (e : Env) (m : PairMsg), f (b.pairSend e m) = f b)
    (ho : ∀ (b : Body) (k : Nat), f { b with pair := { b.pair with order := k } } = f b) (b : Body) (e : Env) (set : Cfg) (n : Nat) :
    f (b.forwardSet e set n) = f b := by
  unfold Body.forwardSet
  split
  · dsimp only
    rw [hf, ho, foldl_keeps f fun x p => x.pairWriteOut_keeps f hf ho e _ _, foldl_keeps f fun x p => x.pairWriteOut_keeps f hf ho e _ _]
  · rfl

@[simp] theorem Body.forwardSet_num (b : Body) (e : Env) (set : Cfg) (n : Nat) : (b.forwardSet e set n).num = b.num :=
  b.forwardSet_keeps Body.num Body.pairSend_num (fun _ _ => rfl) e set n
@[simp] theorem Body.forwardSet_dict (b : Body) (e : Env) (set : Cfg) (n : Nat) : (b.forwardSet e set n).dict = b.dict :=
  b.forwardSet_keeps Body.dict Body.pairSend_dict (fun _ _ => rfl) e set n
@[simp] theorem Body.forwardSet_lay (b : Body) (e : Env) (set : Cfg) (n : Nat) : (b.forwardSet e set n).lay = b.lay :=
  b.forwardSet_keeps Body.lay Body.pairSend_lay (fun _ _ => rfl) e set n

/-! ## A commit while LIVE: the set is armed (R141, R170) -/

/-- A set armed, the generations it swaps to PENDING. -/
def Body.arm (b : Body) (set : Cfg) : Body :=
  let v := (mgetD 0 (key 0x1005 0) set.num).toNat
  let x := { b with lay := { b.lay with armed := b.lay.armed.apply set } }
  let y := if bit v 0 then x.setGen 0 (x.nonActive 0) 3 else x
  if bit v 1 then y.setGen 1 (y.nonActive 1) 3 else y

theorem Body.doCommit_live (hlive : b.live = true) (set : Cfg) :
    b.doCommit e set = ((b.arm set).forwardSet e set b.takeAt, b.takeAt) := by
  rw [Body.doCommit, hlive]
  rfl

theorem Body.arm_lay (b : Body) (set : Cfg) : (b.arm set).lay = { b.lay with armed := b.lay.armed.apply set } := by
  unfold Body.arm
  dsimp only
  split <;> split <;> rfl

theorem Body.arm_dict (b : Body) (set : Cfg) : (b.arm set).dict = b.dict := by
  unfold Body.arm
  dsimp only
  split <;> split <;> rfl

theorem Body.doCommit_live_lay (hlive : b.live = true) (set : Cfg) :
    (b.doCommit e set).1.lay = { b.lay with armed := b.lay.armed.apply set } := by
  rw [Body.doCommit_live hlive, Body.forwardSet_lay, Body.arm_lay]

theorem Body.doCommit_live_dict (hlive : b.live = true) (set : Cfg) : (b.doCommit e set).1.dict = b.dict := by
  rw [Body.doCommit_live hlive, Body.forwardSet_dict, Body.arm_dict]

/-! ## A guard commit whose signature has been computed (R134, R175) -/

@[simp] theorem Body.cancelGen_lay (b : Body) (idx : Nat) : (b.cancelGen idx).lay = b.lay := by
  unfold Body.cancelGen
  dsimp only
  split <;> split <;> rfl

@[simp] theorem Body.endSwapOp_lay (b : Body) (e : Env) (op : Option Nat) (bad : Nat) : (b.endSwapOp e op bad).lay = b.lay := by
  unfold Body.endSwapOp
  split
  · rfl
  · split <;> simp

@[simp] theorem Body.answerLate_lay (b : Body) (e : Env) (slot seq : Nat) (rsp : Rsp) : (b.answerLate e slot seq rsp).lay = b.lay := by
  unfold Body.answerLate
  split
  · rfl
  · next x _ =>
    dsimp only
    generalize hb : b.setSess slot _ = c
    obtain ⟨mb, hq⟩ := c.sendRsp_quiet e (some x.kd2c) x.sid x.via x.peer (x.tx + 1) seq rsp
    exact (hq.part Body.lay).trans (hb ▸ rfl)

/-- What the single commit at the front comes to: its set is executed, its operation ended, its request answered. -/
def Body.guardDone (b : Body) (e : Env) (w : GuardWait) : Body :=
  (((b.withWaits []).doCommit e w.set).1.endSwapOp e w.forOp 0).answerLate e w.slot w.seq (.write stOK 1 (b.withWaits []).takeAt)

theorem guardComputed_one (hdue : fireDue e 4 b = b) (hw : b.lay.waits = [w]) (hg : w.guard = true) (hok : b.commitBad w.set = stOK) :
    guardComputed e b = b.guardDone e w := by
  have hrun : runCommit e w w.guard (b.withWaits []) =
      (((b.withWaits []).doCommit e w.set).1.endSwapOp e w.forOp 0, some (.write stOK 1 (b.withWaits []).takeAt)) :=
    runCommit_executes ((b.commitBad_withWaits [] w.set).trans hok) (.inl hg)
  unfold Body.withWaits at hrun
  simp only [guardComputed, hw, hdue, List.length_nil, drainWaits, hrun]
  rfl

theorem Body.guardDone_lay (hlive : b.live = true) :
    (b.guardDone e w).lay = { b.lay with waits := [], armed := b.lay.armed.apply w.set } := by
  rw [Body.guardDone, Body.answerLate_lay, Body.endSwapOp_lay, Body.doCommit_live_lay (b := b.withWaits []) hlive]
  rfl

end

/-- Settles O27: with nothing due and the one commit at the front, its set joins the armed set. -/
theorem guardCommitsFollowTheirSignature : Obligations.GuardCommitsFollowTheirSignature := by
  unfold Obligations.GuardCommitsFollowTheirSignature
  intro s w hdue hw hg hok hlive
  have hran := guardComputed_one (fireDue_of_nothingDue hdue) hw hg hok
  have hlay := (congrArg Body.lay hran).trans (Body.guardDone_lay hlive)
  exact ⟨_, rfl, congrArg Layers.waits hlay, congrArg Layers.armed hlay, rfl⟩

end Sys2Proof.Machine

namespace Sys2Proof.Machine

/-! ## What a set in force brings about beside its own values (R143, R144)

Swaps, judged sources, events and overrides follow from a set brought into force. None of it writes a layer's entries, arms anything or
touches a shadow set. -/

/-- `layer.enable` to `layer.on_backup`: indices 0x0C00 to 0x0C15. -/
def LayerKey (k : Nat) : Prop := 0x0C0000 ≤ k ∧ k < 0x0C1600

/-- The layers' entries, the armed set and every session's shadow set are in c as in b. -/
structure SparesLayers (b c : Body) : Prop where
  regs : RegsAgree LayerKey b c
  armed : c.lay.armed = b.lay.armed
  shadows : ∀ n, (c.sess? n).map Session.set = (b.sess? n).map Session.set

theorem SparesLayers.refl (b : Body) : SparesLayers b b := ⟨.refl _ b, rfl, fun _ => rfl⟩

section
variable {b c d : Body}

theorem SparesLayers.trans (h : SparesLayers b c) (k : SparesLayers c d) : SparesLayers b d :=
  ⟨h.regs.trans k.regs, k.armed.trans h.armed, fun n => (k.shadows n).trans (h.shadows n)⟩

/-- An update that writes no register, and of the layers' own state not the armed set. -/
theorem SparesLayers.same (h : SparesLayers b c) (hnum : d.num = c.num := by rfl) (harmed : d.lay.armed = c.lay.armed := by rfl)
    (hdict : d.dict = c.dict := by rfl) : SparesLayers b d :=
  ⟨h.regs.of_num hnum, harmed.trans h.armed, fun n => by rw [Body.sess?, hdict]; exact h.shadows n⟩

theorem SparesLayers.ite {p : Prop} [Decidable p] (hc : SparesLayers b c) (hd : SparesLayers b d) :
    SparesLayers b (if p then c else d) := by
  split <;> assumption

theorem SparesLayers.foldl {α : Type} {f : Body → α → Body} (h : SparesLayers b c) (l : List α)
    (hf : ∀ x, SparesLayers b x → ∀ a ∈ l, SparesLayers b (f x a)) : SparesLayers b (l.foldl f c) := List.foldlRecOn l f h hf

theorem SparesLayers.setReg (h : SparesLayers b c) (i j : Nat) {v : Int} (hk : ¬ LayerKey (key i j) := by simp only [LayerKey, key]; omega) :
    SparesLayers b (c.setReg i j v) := ⟨h.regs.setReg i j hk, h.armed, h.shadows⟩

theorem SparesLayers.raise (h : SparesLayers b c) (e : Env) (s det : Nat) : SparesLayers b (c.raise e s det) where
  regs := h.regs.raise e s det (by simp only [LayerKey]; omega)
  armed := by rw [Body.raise_lay, h.armed]
  shadows n := by
    obtain ⟨f, hf, hcore⟩ := (c.raise_quiet e s det).sess
    have hset (x : Session) : (f x).set = x.set := (congrArg Session.set (hcore x) :)
    rw [hf, Option.map_map, ← h.shadows n]
    exact congrArg (fun g => (c.sess? n).map g) (funext hset)

theorem SparesLayers.setCause (h : SparesLayers b c) (e : Env) (i j bits ev : Nat)
    (hk : ¬ LayerKey (key i j) := by simp only [LayerKey, key]; omega) : SparesLayers b (c.setCause e i j bits ev) := by
  unfold Body.setCause
  exact h.ite ((h.setReg i j hk).raise e ev _)

theorem SparesLayers.pairSend (h : SparesLayers b c) (e : Env) (m : PairMsg) : SparesLayers b (c.pairSend e m) :=
  h.same (by simp) (by simp) (by simp)

theorem SparesLayers.forwardSet (h : SparesLayers b c) (e : Env) (set : Cfg) (n : Nat) : SparesLayers b (c.forwardSet e set n) :=
  h.same (by simp) (by simp) (by simp)

theorem SparesLayers.setGen (h : SparesLayers b c) (kind g st : Nat) : SparesLayers b (c.setGen kind g st) :=
  h.setReg _ _ (by unfold genIdx; split <;> (simp only [LayerKey, key]; omega))

theorem SparesLayers.withCor (h : SparesLayers b c) (x : Corr) : SparesLayers b { c with cor := x } := h.same

/-! ### Overrides (R161, R162, R309) -/

theorem SparesLayers.freeOverrides (h : SparesLayers b c) : SparesLayers b c.freeOverrides := h.same

theorem SparesLayers.addOverride (h : SparesLayers b c) (e : Env) (lamp flags S : Nat) :
    SparesLayers b (c.addOverride e lamp flags S) := by
  have hadded (x y : Corr) : SparesLayers b { (Body.freeOverrides { c with cor := x }) with cor := y } :=
    (h.withCor x).freeOverrides.withCor y
  unfold Body.addOverride
  dsimp only
  split
  · exact (hadded _ _).raise e 341 0
  · exact hadded _ _

theorem SparesLayers.override (h : SparesLayers b c) (e : Env) (lamp flags : Nat) : SparesLayers b (c.override e lamp flags).1 := by
  unfold Body.override
  dsimp only
  split
  · exact h.freeOverrides.raise e 342 0
  · exact h.freeOverrides.addOverride e lamp flags _

theorem SparesLayers.overrideTold (h : SparesLayers b c) (e : Env) (lamp flags : Nat) :
    SparesLayers b (c.overrideTold e lamp flags).1 := by
  have hmade := h.override e lamp flags
  unfold Body.overrideTold
  dsimp only
  split
  · exact (hmade.pairSend e _).ite hmade
  · exact hmade

theorem SparesLayers.retryFaults (h : SparesLayers b c) (e : Env) : SparesLayers b (c.retryFaults e) := by
  unfold Body.retryFaults
  dsimp only
  split
  · exact h.freeOverrides.foldl _ fun x hx f _ => ((hx.withCor _).overrideTold e f.lamp f.flags).raise e _ 0
  · exact h.freeOverrides

/-! ### Swaps (R170, R172, R173) -/

theorem SparesLayers.mapEntries (h : SparesLayers b c) (m : RodMap) : SparesLayers b (c.mapEntries m) :=
  ((h.setReg 0x0E00 0).setReg 0x0C23 0).foldl _ fun _ hx n _ => hx.setReg 0x0E01 (n + 1)

theorem SparesLayers.swap (h : SparesLayers b c) (e : Env) (S kind : Nat) : SparesLayers b (c.swap e S kind) := by
  unfold Body.swap
  extract_lets g old b1 b2 cor b3
  have hforce : SparesLayers b b1 := (h.setGen kind g 4).setReg _ 0 (by unfold forceIdx; split <;> (simp only [LayerKey, key]; omega))
  have hold : SparesLayers b b2 := hforce.ite (hforce.setGen kind old _)
  have hnoted : SparesLayers b b3 := hold.withCor _
  split
  · exact (SparesLayers.setReg (hnoted.withCor _) 0x1006 0).raise e 337 0
  · split
    · exact (hnoted.mapEntries _).raise e 339 0
    · exact hnoted.raise e 339 0

theorem SparesLayers.swaps (h : SparesLayers b c) (e : Env) (S v : Nat) : SparesLayers b (c.swaps e S v) := by
  have hmap : SparesLayers b (if bit v 1 then c.swap e S 1 else c) := (h.swap e S 1).ite h
  exact (hmap.swap e S 0).ite hmap

/-! ### Sources judged again (R119, R128, R129, R138) -/

theorem SparesLayers.dropHeldFrames (h : SparesLayers b c) (x : Cfg) : SparesLayers b (c.dropHeldFrames x) := h.same

theorem SparesLayers.judgeSource (h : SparesLayers b c) (e : Env) (x : Cfg) (named : Bool) (l : Nat) (q : Nat × Nat) :
    SparesLayers b (c.judgeSource e x named l q) := by
  unfold Body.judgeSource
  extract_lets r old now v b1
  have hmarked : SparesLayers b b1 := h.same
  exact (hmarked.setCause e 0x0C1B (l + 1) _ _).ite ((hmarked.setCause e 0x0C1B (l + 1) _ _).ite hmarked)

theorem SparesLayers.judgeLayer (h : SparesLayers b c) (e : Env) (set x : Cfg) (l : Nat) : SparesLayers b (c.judgeLayer e set x l) := by
  unfold Body.judgeLayer
  extract_lets named b1
  have hjudged : SparesLayers b b1 := h.foldl _ fun _ hx q _ => hx.judgeSource e x named l q
  exact (hjudged.setCause e 0x0C1B (l + 1) _ _).ite hjudged

/-! ## The values of a set (R143, R144) -/

theorem Body.retireBuf_num (b : Body) (id : Nat) : (b.retireBuf id).num = b.num := by
  unfold Body.retireBuf
  split <;> rfl

theorem Body.retireBuf_armed (b : Body) (id : Nat) : (b.retireBuf id).lay.armed = b.lay.armed := by
  unfold Body.retireBuf
  split <;> rfl

theorem Body.retireBuf_dict (b : Body) (id : Nat) : (b.retireBuf id).dict = b.dict := by
  unfold Body.retireBuf
  split <;> rfl

/-- What storing a value of a set keeps, where registers and the release of a still's buffer keep it. -/
theorem Body.applyNum_keeps {α : Type} (f : Body → α) (hreg : ∀ (b : Body) i j v, f (b.setReg i j v) = f b)
    (hbuf : ∀ (b : Body) id, f (b.retireBuf id) = f b) (b : Body) (p : Nat × Int) : f (b.applyNum p) = f b := by
  unfold Body.applyNum
  extract_lets idx sub old b1 b2
  have hsized : f b2 = f b := by
    unfold b2
    split <;> rw [hreg, hreg]
  split
  · rfl
  · split
    · split
      · rw [hbuf, hsized]
      · exact hsized
    · exact hreg ..

theorem Body.applyNum_armed (b : Body) (p : Nat × Int) : (b.applyNum p).lay.armed = b.lay.armed :=
  b.applyNum_keeps (fun x => x.lay.armed) (fun _ _ _ _ => rfl) Body.retireBuf_armed p

theorem Body.applyNum_dict (b : Body) (p : Nat × Int) : (b.applyNum p).dict = b.dict :=
  b.applyNum_keeps Body.dict (fun _ _ _ _ => rfl) Body.retireBuf_dict p

theorem key_div_mod (k : Nat) : key (k / 256) (k % 256) = k := by unfold key; omega

theorem Body.reg_applyNum_same (b : Body) {k : Nat} (hk : LayerKey k) (v : Int) : (b.applyNum (k, v)).reg (k / 256) (k % 256) = v := by
  unfold LayerKey at hk
  unfold Body.applyNum
  dsimp only
  rw [if_neg (by omega), if_neg (by omega)]
  exact b.reg_setReg_same ..

theorem Body.reg_applyNum_ne (b : Body) {k : Nat} (hk : LayerKey k) {p : Nat × Int} (hp : p.1 ≠ k) :
    (b.applyNum p).reg (k / 256) (k % 256) = b.reg (k / 256) (k % 256) := by
  have hother : key (k / 256) (k % 256) ≠ key (p.1 / 256) (p.1 % 256) := by rw [key_div_mod, key_div_mod]; exact hp.symm
  have hsize (j : Nat) : key (k / 256) (k % 256) ≠ key 0x0C52 j := by
    unfold LayerKey at hk
    unfold key
    omega
  unfold Body.applyNum
  extract_lets idx sub old b1 b2
  split
  · rfl
  · split
    · next hstill =>
      have hb1 : b1.reg (k / 256) (k % 256) = b.reg (k / 256) (k % 256) := b.reg_setReg_ne _ (hstill ▸ hother)
      have hb2 : b2.reg (k / 256) (k % 256) = b.reg (k / 256) (k % 256) := by
        unfold b2
        split
        · exact (b1.reg_setReg_ne _ (hsize _)).trans hb1
        · exact (b1.reg_setReg_ne _ (hsize _)).trans hb1
      split
      · exact (Body.reg_congr (b2.retireBuf_num old) _ _).trans hb2
      · exact hb2
    · exact b.reg_setReg_ne _ hother

/-- Values stored under keys above k leave the entry at k. -/
theorem Body.reg_foldl_applyNum_above {k : Nat} (hk : LayerKey k) {m : Map Int} (hm : mrising (k + 1) m = true) (b : Body) :
    (m.foldl Body.applyNum b).reg (k / 256) (k % 256) = b.reg (k / 256) (k % 256) := by
  induction m generalizing b with
  | nil => rfl
  | cons p m ih =>
    obtain ⟨j, w⟩ := p
    simp only [mrising, Bool.and_eq_true, decide_eq_true_eq] at hm
    rw [List.foldl_cons, ih (mrising_weaken (by omega) m hm.2)]
    exact b.reg_applyNum_ne hk (by show j ≠ k; omega)

/-- With its keys rising, a set stores at each key of a layer the value it names there. -/
theorem Body.reg_foldl_applyNum {k i : Nat} (hk : LayerKey k) {m : Map Int} (hm : mrising i m = true) {v : Int} (hv : mfind k m = some v)
    (b : Body) : (m.foldl Body.applyNum b).reg (k / 256) (k % 256) = v := by
  induction m generalizing i b with
  | nil => cases hv
  | cons p m ih =>
    obtain ⟨j, w⟩ := p
    simp only [mrising, Bool.and_eq_true, decide_eq_true_eq] at hm
    unfold mfind at hv
    rw [List.foldl_cons]
    split at hv
    · next hkj =>
      cases hv
      subst hkj
      rw [Body.reg_foldl_applyNum_above hk hm.2]
      exact b.reg_applyNum_same hk _
    · exact ih hm.2 hv _

/-- Beside its values a set brought into force spares the layers. -/
theorem Body.applySet_spares (b : Body) (e : Env) (S : Nat) (set : Cfg) :
    SparesLayers (set.num.foldl Body.applyNum b) (b.applySet e S set) := by
  unfold Body.applySet
  extract_lets c0 b1 b2 b3 c b4
  have hstrings : SparesLayers b1 b2 := (SparesLayers.refl b1).foldl _ fun _ hx _ _ => hx.same
  have hswapped : SparesLayers b1 b3 := (hstrings.swaps e S _).dropHeldFrames c0
  have hjudged : SparesLayers b1 b4 := hswapped.foldl _ fun _ hx l _ => hx.judgeLayer e set c l
  split
  · exact ((hjudged.setReg 0x0C45 0).setReg 0x0C46 0).ite hjudged
  · exact hjudged

/-- A commit outside LIVE spares the layers beside the values of its set. -/
theorem Body.doCommit_idle_spares (hlive : b.live = false) (e : Env) (set : Cfg) :
    SparesLayers (set.num.foldl Body.applyNum b) (b.doCommit e set).1 := by
  have heq : (b.doCommit e set).1 = ((b.applySet e 0 set).retryFaults e).forwardSet e set b.takeAt := by
    rw [Body.doCommit, hlive]
    rfl
  rw [heq]
  exact ((b.applySet_spares e 0 set).retryFaults e).forwardSet e set _

end

end Sys2Proof.Machine

namespace Sys2Proof.Machine

/-! ## A commit of a session, from its request to its answer (R141, R142) -/

/-- What the checks of a commit read does not depend on the sessions. -/
theorem Body.commitBad_setSess (b : Body) (n : Nat) (x : Session) (set : Cfg) : (b.setSess n x).commitBad set = b.commitBad set := rfl

theorem Body.guardCommit_setSess (b : Body) (n : Nat) (x : Session) (set : Cfg) : (b.setSess n x).guardCommit set = b.guardCommit set := rfl

/-- The body on which a commit is checked: its session's set is in the commit's hands. -/
def State.committing (s : State) (r : Req) (x : Session) : Body :=
  (s.accepting r x).setSess (r.sid % 8) (x.accept r.seq s.env.tb).emptied

/-- The commit that a request makes of its session's shadow set. -/
def commitOf (r : Req) (x : Session) : GuardWait := ⟨r.sid % 8, r.seq, x.set, false, none⟩

section
variable {s : State} {r : Req} {x y : Session} {c : Body} {rsp : Rsp}

theorem State.sess_committing (s : State) (r : Req) (x : Session) :
    (s.committing r x).sess? (r.sid % 8) = some (x.accept r.seq s.env.tb).emptied := Body.sess_setSess_same ..

theorem State.commitBad_committing (s : State) (r : Req) (x : Session) (set : Cfg) : (s.committing r x).commitBad set = s.b.commitBad set := by
  rw [State.committing, Body.commitBad_setSess, State.accepting, Body.commitBad_setSess]

theorem State.guardCommit_committing (s : State) (r : Req) (x : Session) (set : Cfg) :
    (s.committing r x).guardCommit set = s.b.guardCommit set := by
  rw [State.committing, Body.guardCommit_setSess, State.accepting, Body.guardCommit_setSess]

/-- With nothing due and none waiting a session's commit runs at once. -/
theorem cfgCommit_runs (hdue : NothingDue s) (hw : s.b.lay.waits = []) (r : Req) (x : Session) :
    cfgCommit s.env (r.sid % 8) r.seq (s.accepting r x) = runCommit s.env (commitOf r x) false (s.committing r x) := by
  have htaken : (s.accepting r x).modSess (r.sid % 8) (fun y => { y with shadow := [], shadowB := [] }) = s.committing r x :=
    Body.modSess_eq (s.sess_accepting_eq r x) _
  have hidle : fireDue s.env 4 (s.committing r x) = s.committing r x := fireDue_of_nothingDue (s := { s with b := s.committing r x }) hdue
  have hnone : (s.committing r x).lay.waits = [] := hw
  simp only [cfgCommit, s.sess_accepting_eq r x, htaken, submit, hidle, hnone, Session.accept_set, commitOf]
  rfl

theorem tyOf_cfgCommit : tyOf 0x0C28 0 = .u8 := by decide

/-- An accepted request whose handler answers. -/
theorem State.serve_answered {ty : Nat} {body : Bytes} {hd : Nat → Body → Body × Option Rsp} (ha : s.b.arrive r ty body = .accepted x)
    (hh : hd (r.sid % 8) (s.accepting r x) = (c, some rsp)) :
    serve s.env r ty body hd (fun _ b => b) s.b = c.answer s.env (r.sid % 8) r.seq (idpMsg ty r.sid r.seq r.rsv body) rsp := by
  unfold State.accepting at hh
  rw [serve_accepted s.env _ _ ha, hh]

/-- One whose handler answers later. -/
theorem State.serve_keptOpen {ty : Nat} {body : Bytes} {hd : Nat → Body → Body × Option Rsp} (ha : s.b.arrive r ty body = .accepted x)
    (hh : hd (r.sid % 8) (s.accepting r x) = (c, none)) :
    serve s.env r ty body hd (fun _ b => b) s.b = c.keepOpen (r.sid % 8) r.seq (idpMsg ty r.sid r.seq r.rsv body) := by
  unfold State.accepting at hh
  rw [serve_accepted s.env _ _ ha, hh]

/-- The checks every write meets find nothing against a granted commit. -/
theorem cfgCommit_accepted (hg : Grants s r 0x0C28 0 (.n 1) x) : s.b.arrive r 0x12 (writeBody 0x0C28 0 .u8 (.n 1)) = .accepted x ∧
    (s.accepting r x).checkWrite ((s.accepting r x).roleOf (r.sid % 8)) 0x0C28 0 .u8 (.n 1) = 0 := by
  obtain ⟨htakes, hcheck⟩ := hg
  rw [tyOf_cfgCommit] at htakes hcheck
  have hrole : (s.accepting r x).roleOf (r.sid % 8) = x.role := by
    rw [State.accepting, roleOf_setSess, Session.accept_role]
  exact ⟨htakes, hrole ▸ hcheck⟩

/-- A granted commit that runs and is answered. -/
theorem cfgCommit_answered (hg : Grants s r 0x0C28 0 (.n 1) x) (hdue : NothingDue s) (hw : s.b.lay.waits = [])
    (hrun : runCommit s.env (commitOf r x) false (s.committing r x) = (c, some rsp)) (hs : c.sess? (r.sid % 8) = some y) :
    ∃ t, exec (.cfgCommit r) s = .next { s with b := t } ∧ RepliesOver c t r rsp y.set := by
  obtain ⟨htakes, hcheck⟩ := cfgCommit_accepted hg
  refine ⟨_, s.act_eq (State.serve_answered htakes ?_), Body.answer_repliesOver s.env _ rsp hs⟩
  simp only [hcheck]
  exact (cfgCommit_runs hdue hw r x).trans hrun

/-- A granted commit that waits. -/
theorem cfgCommit_kept (hg : Grants s r 0x0C28 0 (.n 1) x) (hdue : NothingDue s) (hw : s.b.lay.waits = [])
    (hrun : runCommit s.env (commitOf r x) false (s.committing r x) = (c, none)) :
    ∃ m, exec (.cfgCommit r) s = .next { s with b := c.keepOpen (r.sid % 8) r.seq m } := by
  obtain ⟨htakes, hcheck⟩ := cfgCommit_accepted hg
  refine ⟨_, s.act_eq (State.serve_keptOpen htakes ?_)⟩
  simp only [hcheck]
  exact (cfgCommit_runs hdue hw r x).trans hrun

/-! ## The four ends of a commit (R134, R141, R144) -/

/-- A commit that executes at once. -/
theorem runCommit_commitOf (hok : s.b.commitBad x.set = stOK) (hguard : s.b.guardCommit x.set = false) :
    runCommit s.env (commitOf r x) false (s.committing r x) =
      (((s.committing r x).doCommit s.env x.set).1, some (.write stOK 1 s.b.takeAt)) :=
  runCommit_executes (w := commitOf r x) ((s.commitBad_committing r x x.set).trans hok)
    (.inr ((s.guardCommit_committing r x x.set).trans hguard))

/-- While LIVE the set is armed. -/
theorem cfgCommit_arms (hg : Grants s r 0x0C28 0 (.n 1) x) (hdue : NothingDue s) (hw : s.b.lay.waits = [])
    (hok : s.b.commitBad x.set = stOK) (hguard : s.b.guardCommit x.set = false) (hlive : s.b.live = true) :
    ∃ t, exec (.cfgCommit r) s = .next { s with b := t } ∧
      RepliesOver ((s.committing r x).doCommit s.env x.set).1 t r (.write stOK 1 s.b.takeAt) ⟨[], []⟩ ∧
      t.lay = { s.b.lay with armed := s.b.lay.armed.apply x.set } := by
  have hopen : ((s.committing r x).doCommit s.env x.set).1.sess? (r.sid % 8) = some (x.accept r.seq s.env.tb).emptied := by
    rw [Body.sess?, Body.doCommit_live_dict (b := s.committing r x) hlive]
    exact s.sess_committing r x
  obtain ⟨t, ht, hr⟩ := cfgCommit_answered hg hdue hw (runCommit_commitOf hok hguard) hopen
  exact ⟨t, ht, hr, hr.lay.trans (Body.doCommit_live_lay (b := s.committing r x) hlive x.set)⟩

theorem takeAt_idle {b : Body} (hlive : b.live = false) : b.takeAt = 0 := by
  rw [Body.takeAt, hlive]
  rfl

/-- Outside LIVE the set has its values at once. -/
theorem cfgCommit_applies (hg : Grants s r 0x0C28 0 (.n 1) x) (hdue : NothingDue s) (hw : s.b.lay.waits = [])
    (hok : s.b.commitBad x.set = stOK) (hguard : s.b.guardCommit x.set = false) (hlive : s.b.live = false) :
    ∃ t, exec (.cfgCommit r) s = .next { s with b := t } ∧ Answered { s with b := t } r (.write stOK 1 0) ∧
      (∃ z, t.sess? (r.sid % 8) = some z ∧ z.set = ⟨[], []⟩) ∧ t.lay.armed = s.b.lay.armed ∧
      RegsAgree LayerKey (x.shadow.foldl Body.applyNum (s.committing r x)) t := by
  have hspared := Body.doCommit_idle_spares (b := s.committing r x) hlive s.env x.set
  have hstored : (x.set.num.foldl Body.applyNum (s.committing r x)).dict = (s.committing r x).dict :=
    foldl_keeps Body.dict Body.applyNum_dict _ _
  have hshadow : (((s.committing r x).doCommit s.env x.set).1.sess? (r.sid % 8)).map Session.set = some ⟨[], []⟩ := by
    rw [hspared.shadows, Body.sess?, hstored]
    exact congrArg (Option.map Session.set) (s.sess_committing r x)
  obtain ⟨y, hy, hset⟩ := Option.map_eq_some_iff.mp hshadow
  obtain ⟨t, ht, hr⟩ := cfgCommit_answered hg hdue hw (runCommit_commitOf hok hguard) hy
  rw [takeAt_idle hlive, hset] at hr
  refine ⟨t, ht, hr.answered, hr.shadow, ?_, hspared.regs.trans fun i j hk => hr.reg i j (.inr ?_)⟩
  · rw [hr.lay, hspared.armed]
    exact foldl_keeps (fun b => b.lay.armed) Body.applyNum_armed _ _
  · exact Nat.le_trans (by decide) hk.1

/-- A set given back to a session that has written nothing since is that session's set again. -/
theorem Body.giveBack_emptied {b : Body} {slot : Nat} (hs : b.sess? slot = some y.emptied) : b.giveBack slot y.set = b.setSess slot y :=
  Body.modSess_eq hs _

/-- A set that fails its checks returns to its session. -/
theorem cfgCommit_refused (hg : Grants s r 0x0C28 0 (.n 1) x) (hdue : NothingDue s) (hw : s.b.lay.waits = [])
    (hbad : s.b.commitBad x.set ≠ stOK) :
    ∃ t, exec (.cfgCommit r) s = .next { s with b := t } ∧
      RepliesOver (((s.committing r x).bump 0x0C2C 0 1).setSess (r.sid % 8) (x.accept r.seq s.env.tb)) t r
        (wrote (s.b.commitBad x.set)) x.set := by
  have hcheck := s.commitBad_committing r x x.set
  have hrun := runCommit_refused (e := s.env) (w := commitOf r x) (b := s.committing r x) (hcheck ▸ hbad) rfl false
  have hback : ((s.committing r x).bump 0x0C2C 0 1).giveBack (r.sid % 8) x.set =
      ((s.committing r x).bump 0x0C2C 0 1).setSess (r.sid % 8) (x.accept r.seq s.env.tb) := by
    rw [← x.accept_set r.seq s.env.tb]
    exact Body.giveBack_emptied (s.sess_committing r x)
  have hanswer : runCommit s.env (commitOf r x) false (s.committing r x) =
      (((s.committing r x).bump 0x0C2C 0 1).setSess (r.sid % 8) (x.accept r.seq s.env.tb), some (wrote (s.b.commitBad x.set))) := by
    rw [hrun, ← hback, ← hcheck]
    rfl
  obtain ⟨t, ht, hr⟩ := cfgCommit_answered hg hdue hw hanswer (Body.sess_setSess_same ..)
  exact ⟨t, ht, x.accept_set r.seq s.env.tb ▸ hr⟩

theorem Body.keepOpen_eq {b : Body} {slot : Nat} (seq : Nat) (m : Bytes) : ∃ d, b.keepOpen slot seq m = { b with dict := d } := by
  unfold Body.keepOpen Body.modSess
  split
  · exact ⟨b.dict, rfl⟩
  · exact ⟨_, rfl⟩

end

/-- Settles O26: the set of a commit that passes is armed, put in force or waits for the guard; one that fails returns to its session. -/
theorem commitsTakeTheShadow : Obligations.CommitsTakeTheShadow := by
  unfold Obligations.CommitsTakeTheShadow
  intro s r x hg hdue hw
  refine ⟨fun hok hguard hlive => ?_, fun hok hguard hlive hrising => ?_, fun hbad => ?_, fun hok hguard => ?_⟩
  · obtain ⟨t, ht, hr, hlay⟩ := cfgCommit_arms hg hdue hw hok hguard hlive
    obtain ⟨z, hz, hset⟩ := hr.shadow
    exact ⟨_, z, ht, hr.answered, congrArg Layers.armed hlay, hz, congrArg Cfg.num hset, congrArg Cfg.blob hset,
      (congrArg Layers.waits hlay).trans hw, rfl⟩
  · obtain ⟨t, ht, hans, ⟨z, hz, hset⟩, harmed, hregs⟩ := cfgCommit_applies hg hdue hw hok hguard hlive
    refine ⟨_, z, ht, hans, hz, congrArg Cfg.num hset, congrArg Cfg.blob hset, harmed, rfl, fun k v hv hlo hhi => ?_⟩
    have hk : LayerKey k := by unfold LayerKey; omega
    exact (hregs _ _ ((key_div_mod k).symm ▸ hk)).trans (Body.reg_foldl_applyNum hk hrising hv _)
  · obtain ⟨t, ht, hr⟩ := cfgCommit_refused hg hdue hw hbad
    obtain ⟨z, hz, hset⟩ := hr.shadow
    have hcounted : RegsAgree (FrameKey [0x0C2C]) s.b (((s.committing r x).bump 0x0C2C 0 1).setSess (r.sid % 8)
        (x.accept r.seq s.env.tb)) :=
      (((RegsAgree.accepting _ s r x).of_num (d := s.committing r x) rfl).bump 0x0C2C 0 1 (not_frameKey_key (by decide) (by decide))).of_num rfl
    refine ⟨_, z, ht, hr.answered, hz, congrArg Cfg.num hset, congrArg Cfg.blob hset, ?_, hr.frame hcounted rfl⟩
    exact (hr.regN (.inr (by decide))).trans (Body.regN_setReg_same (s.committing r x) 0x0C2C 0 _)
  · have hrun := runCommit_waits (e := s.env) (w := commitOf r x) ((s.commitBad_committing r x x.set).trans hok)
      ((s.guardCommit_committing r x x.set).trans hguard)
    obtain ⟨m, ht⟩ := cfgCommit_kept hg hdue hw hrun
    obtain ⟨d, hd⟩ := Body.keepOpen_eq (b := (s.committing r x).withWaits ({ commitOf r x with guard := true } ::
      (s.committing r x).lay.waits)) (slot := r.sid % 8) r.seq m
    rw [hd] at ht
    exact ⟨_, ht, congrArg _ hw, rfl, frame_of_sameStores rfl rfl⟩

end Sys2Proof.Machine

namespace Sys2Proof.Machine

/-! ## The release of a buffer of a still that does not exist (R139) -/

/-- A frame of still 255, of which there is none, marked for release. -/
def dyingStill255 : FrameBuf :=
  { kind := 3, num := 255, w := 1, h := 1, alpha := false, fmt := ⟨2, 16, 0, 0, 0, true⟩, px := [[[0, 0, 0]]], count := 0, pt := 0, rank := 0,
    done := some 0, sig := 0, concealed := false, ofKind := 0, ofNum := 0, geom := [], dying := true, late := false }

/-- The state after reset with that frame in buffer 1, and 1 stored at sub-index 0 of index 0x0C51, whose key is that of sub-index 256 of index
0x0C50. -/
def releaseOfStill255 : State :=
  { State.reset with b := { Body.reset.setReg 0x0C51 0 1 with lay := { Body.reset.lay with bufs := [(1, dyingStill255)], bufCtr := 1 } } }

/-- A request and a session, of which the release of a buffer reads nothing. -/
def unusedRequest : Req := { sid := 0, seq := 0, via := .mailbox, peer := [], tag := [], depth := 0, rsv := 0, version := 1 }

def unusedSession : Session :=
  { sid := 0, cred := 0, role := 0, via := .mailbox, peer := [], kc2d := [], kd2c := [], idle := 0, opened := 0, last := 0, hi := 0, window := 0,
    kept := [], tx := 0, own := [], shadow := [], shadowB := [], gather := [], gatherTb := none, sent := [], lost := 0, wr := none, rd := none,
    attest := ⟨none, 0, none, none⟩, tagFail := 0 }

/-- Refutes O28: the statement asks nothing of the number of the still that a buffer belongs to. A unit has stills 0 to 63 (`still.data`);
where a buffer of a still 255 is released, the entry emptied with it is one of index 0x0C51, which the statement does not let change. -/
theorem not_stillsComeAndGo : ¬ Obligations.StillsComeAndGo := by
  unfold Obligations.StillsComeAndGo
  intro h
  obtain ⟨-, -, -, hrelease, -⟩ := h releaseOfStill255 unusedRequest 0 unusedSession
  obtain ⟨t, ht, -, -, -, hregs, -⟩ := hrelease 1 dyingStill255 rfl rfl (by decide) (by decide)
  cases ht
  exact absurd (hregs 0x0C51 0 (by decide) (.inr (by decide)) (by decide)) (by decide +kernel)

end Sys2Proof.Machine

namespace Sys2Proof.Machine

/-! ## Forwarded commits that wait where an attribution ends in doubt (R443, R454, R459) -/

/-- LIVE and in STANDBY: an attribution of rod 0 of sub-frame 7 has found no fault of this unit's own and waits for the twin's result. A forwarded
commit, whose set names `fault.doubt`, waits for the latch of sub-frame 8, told before it. -/
def attribWithCommitWaiting : State :=
  let b := (Body.reset.setReg 0x010A 0 6).setReg 0x1A02 0 4
  ⟨Clock.reset,
    { b with
      pair := { b.pair with
        attribs := [⟨7, 0, some 0, none, 0, false, 0⟩]
        latches := [⟨8, 3, 0⟩]
        commits := [(4, ⟨[(key 0x1A10 0, 5)], []⟩)] } }, []⟩

/-- The header of the message that the unit waits for there. -/
def firstFromActive : PairHdr := ⟨1, true, 0⟩

/-- Refutes O58: the clause of an ATTRIB that leaves both units without a fault asks nothing of the commits that wait, where those beside it ask
that there are none. The doubt ends following, so the commit that waited executes behind it; and as nothing is asked of the entries its
set names, it overwrites the cause of the doubt. -/
theorem not_ordersAreFollowed : ¬ Obligations.OrdersAreFollowed := by
  unfold Obligations.OrdersAreFollowed
  intro h
  obtain ⟨-, -, -, -, -, -, -, -, -, -, -, -, -, -, -, -, -, -, -, -, -, -, -, -, -, -, -, hdoubt, -⟩ := h attribWithCommitWaiting firstFromActive
  obtain ⟨t, ht, -, hcause, -⟩ := hdoubt 7 0 ⟨7, 0, some 0, none, 0, false, 0⟩ (by unfold InTurn; decide +kernel) rfl rfl rfl rfl
    (by unfold MayDoubt; decide +kernel)
  cases ht
  exact absurd hcause (by decide +kernel)

end Sys2Proof.Machine

namespace Sys2Proof.Machine

/-! ## A freeze cleared where a latch is due (R52, R142, R196) -/

/-- A source raised across an answer has been raised by the handler. -/
theorem Replies.evStatus_of_raised {s : State} {c t : Body} {r : Req} {rsp : Rsp} {n : Nat} (h : Replies c t r rsp)
    (hr : Raised s { s with b := t } n) (hc : bit (s.b.evCfg n) 31 = true) (h38 : n ≠ 38 := by decide) (h39 : n ≠ 39 := by decide)
    (h40 : n ≠ 40 := by decide) : c.evStatus n = raisedStatus (s.b.evStatus n) :=
  (h.evStatus n h38 h39 h40).symm.trans (hr hc)

/-- A session of the role that may clear a freeze, over the mailbox, with empty keys. -/
def clearingSession : Session := { unusedSession with role := 2 }

/-- A request of that session of a type and body, with its tag. -/
def clearingAsk (ty : Nat) (body : Bytes) : Req := { unusedRequest with seq := 1, tag := (hmac [] (idpMsg ty 0 1 0 body)).take 16 }

theorem clearingAsk_accepted {b : Body} (ty : Nat) (body : Bytes) (hs : b.sess? 0 = some clearingSession) :
    b.arrive (clearingAsk ty body) ty body = .accepted clearingSession :=
  arrive_of hs rfl rfl rfl rfl (.inl rfl) (show 0 < 256 by decide) rfl (show clearingSession.fresh 1 = true by decide)

/-- A request to clear the freeze of layer 0. -/
def clearRequest : Req := clearingAsk 0x12 (writeBody 0x1124 1 (tyOf 0x1124 1) (.n 1))

/-- LIVE with the latch of sub-frame 599 due, layer 0 frozen and its freeze armed. The armed set also names the status of event 358. -/
def frozenWithLatchDue : State :=
  let b := (Body.reset.setReg 0x010A 0 6).setReg 0x1123 1 1
  ⟨{ Clock.reset with sec := 10 },
    { b with
      seq := { b.seq with next := some 599 }
      lay := { b.lay with armed := ⟨[(key 0x030A 103, 5), (key freezeIdx 1, 1)], []⟩ }
      dict := { b.dict with sess := [(0, clearingSession)] } }, []⟩

theorem clearRequest_granted : Grants frozenWithLatchDue clearRequest 0x1124 1 (.n 1) clearingSession :=
  ⟨clearingAsk_accepted _ _ (by decide +kernel), by decide +kernel⟩

/-- What the write of `freeze.clear` is answered on. -/
theorem clearRequest_replies :
    Replies ((frozenWithLatchDue.accepting clearRequest clearingSession).clearFreeze frozenWithLatchDue.env 0)
      (serveWrite frozenWithLatchDue.env clearRequest 0x1124 1 (.n 1) (fun _ => freezeClear frozenWithLatchDue.env 0) frozenWithLatchDue.b)
      clearRequest (wrote stOK) :=
  serveWrite_replies clearRequest_granted rfl (by decide +kernel)

/-- Refutes O29: the clause of `freeze.clear` asks nothing of the latch that may be due. It comes first, with the armed set; and as nothing is asked
of the entries that set names, it overwrites the status of event 358, which the clearing then raises from another count. -/
theorem not_lampsAndLayersAreTold : ¬ Obligations.LampsAndLayersAreTold := by
  unfold Obligations.LampsAndLayersAreTold
  intro h
  obtain ⟨hclear, -⟩ := h frozenWithLatchDue clearRequest clearingSession
  have hfrozen : frozenWithLatchDue.b.regN 0x1123 1 ≠ 0 := by decide +kernel
  obtain ⟨t, ht, -, -, -, hraised, -⟩ := hclear 0 clearRequest_granted (by decide)
  cases ht
  exact absurd (clearRequest_replies.evStatus_of_raised (hraised hfrozen) (by decide +kernel)) (by decide +kernel)

end Sys2Proof.Machine

namespace Sys2Proof.Machine

/-! ## What an operation writes as it starts or is refused (R427) -/

theorem Body.reg_setReg_sub (b : Body) (i : Nat) {j k : Nat} (v : Int) (h : j ≠ k) : (b.setReg i k v).reg i j = b.reg i j :=
  b.reg_setReg_ne v (by unfold key; omega)

theorem Body.regN_setReg_sub (b : Body) (i : Nat) {j k : Nat} (v : Int) (h : j ≠ k) : (b.setReg i k v).regN i j = b.regN i j :=
  congrArg Int.toNat (b.reg_setReg_sub i v h)

/-- What the start of operation idx writes. -/
def Body.startRecord (b : Body) (e : Env) (idx slot : Nat) : Body :=
  ((((((b.setReg idx 2 1).setReg idx 3 0).setReg idx 4 0).setReg idx 5 0).setReg idx 6 (e.wt : Nat)).setReg idx 8 (slot : Nat)).bump idx 9 1

theorem Body.opBegin_num (b : Body) (e : Env) (idx slot : Nat) (rods : List Nat) :
    (b.opBegin e idx slot rods).num = (b.startRecord e idx slot).num := rfl

/-- An operation writes seven of its own values as it starts. -/
theorem RegsAgree.opBegin {K : Nat → Prop} {b c : Body} (h : RegsAgree K b c) (e : Env) (idx slot : Nat) (rods : List Nat)
    (hk : ∀ j, j < 10 → ¬ K (key idx j)) : RegsAgree K b (c.opBegin e idx slot rods) := by
  have hzeroed := (((h.setReg idx 2 (v := 1) (hk 2 (by decide))).setReg idx 3 (v := 0) (hk 3 (by decide))).setReg idx 4 (v := 0)
    (hk 4 (by decide))).setReg idx 5 (v := 0) (hk 5 (by decide))
  exact (((hzeroed.setReg idx 6 (hk 6 (by decide))).setReg idx 8 (hk 8 (by decide))).bump idx 9 1 (hk 9 (by decide))).withOps _

theorem Body.opState_opBegin (b : Body) (e : Env) (idx slot : Nat) (rods : List Nat) : (b.opBegin e idx slot rods).opState idx = 1 := by
  rw [Body.opState, Body.regN_congr (b.opBegin_num e idx slot rods), Body.startRecord, Body.bump]
  repeat rw [Body.regN_setReg_sub _ _ _ (by decide)]
  exact Body.regN_setReg_same _ _ _ 1

theorem Body.regN_opBegin_slot (b : Body) (e : Env) (idx slot : Nat) (rods : List Nat) : (b.opBegin e idx slot rods).regN idx 8 = slot := by
  rw [Body.regN_congr (b.opBegin_num e idx slot rods), Body.startRecord, Body.bump, Body.regN_setReg_sub _ _ _ (by decide)]
  exact Body.regN_setReg_same ..

/-- What a refusal of operation idx writes before it raises event 42. -/
def Body.refusalRecord (b : Body) (e : Env) (idx code det : Nat) : Body :=
  (((b.setReg idx 2 5).setReg idx 4 (code : Nat)).setReg idx 5 (det : Nat)).setReg idx 7 (e.wt : Nat)

theorem Body.opRefuse_eq (b : Body) (e : Env) (idx code det : Nat) :
    b.opRefuse e idx code det = (b.refusalRecord e idx code det).raise e 42 idx := rfl

theorem Body.refusalRecord_dict (b : Body) (e : Env) (idx code det : Nat) : (b.refusalRecord e idx code det).dict = b.dict := rfl

theorem RegsAgree.refusalRecord {K : Nat → Prop} {b c : Body} (h : RegsAgree K b c) (e : Env) (idx code det : Nat)
    (hk : ∀ j, j < 8 → ¬ K (key idx j)) : RegsAgree K b (c.refusalRecord e idx code det) :=
  (((h.setReg idx 2 (hk 2 (by decide))).setReg idx 4 (hk 4 (by decide))).setReg idx 5 (hk 5 (by decide))).setReg idx 7 (hk 7 (by decide))

theorem Body.regN_refusalRecord_state (b : Body) (e : Env) (idx code det : Nat) : (b.refusalRecord e idx code det).regN idx 2 = 5 := by
  unfold Body.refusalRecord
  repeat rw [Body.regN_setReg_sub _ _ _ (by decide)]
  exact Body.regN_setReg_same _ _ _ 5

theorem Body.regN_refusalRecord_code (b : Body) (e : Env) (idx code det : Nat) : (b.refusalRecord e idx code det).regN idx 4 = code := by
  unfold Body.refusalRecord
  repeat rw [Body.regN_setReg_sub _ _ _ (by decide)]
  exact Body.regN_setReg_same _ _ _ code

/-! ## Loads: what they write lies apart from the events (R170, R171) -/

/-- A write at an index from 0x0310 on leaves the status and the configuration of every source. -/
theorem not_sourceKey_above {n i j : Nat} (hn : n < 1024) (hi : 0x0310 ≤ i) : ¬ SourceKey n (key i j) := by
  unfold SourceKey key
  omega

theorem loadOp_above (kind : Nat) : 0x0310 ≤ loadOp kind := by
  unfold loadOp
  omega

theorem genIdx_above (kind : Nat) : 0x0310 ≤ genIdx kind := by
  unfold genIdx
  split <;> decide

section
variable {kind : Nat} (hkind : kind < 2)
include hkind

/-- Its operation, the states of its generations and the generation in force stand at three indices. -/
theorem loadOp_ne_genIdx : loadOp kind ≠ genIdx kind := by
  obtain rfl | rfl : kind = 0 ∨ kind = 1 := by omega
  · decide
  · decide

theorem forceIdx_not_mem : forceIdx kind ∉ [loadOp kind, genIdx kind] := by
  obtain rfl | rfl : kind = 0 ∨ kind = 1 := by omega
  · decide
  · decide

theorem forceIdx_above : 0x0310 ≤ forceIdx kind := by
  obtain rfl | rfl : kind = 0 ∨ kind = 1 := by omega
  · decide
  · decide

/-- Which generation is in force, and so which is not, is kept by what leaves its index. -/
theorem Body.inForce_congr {b c : Body} (h : RegsAgree (FrameKey [loadOp kind, genIdx kind]) b c) : c.inForce kind = b.inForce kind :=
  h.regN (frameKey_key (forceIdx_not_mem hkind) (.inr (forceIdx_above hkind)) (by decide))

theorem Body.nonActive_congr {b c : Body} (h : RegsAgree (FrameKey [loadOp kind, genIdx kind]) b c) : c.nonActive kind = b.nonActive kind := by
  unfold Body.nonActive
  rw [Body.inForce_congr hkind h]

end

theorem Body.nonActive_lt (b : Body) (kind : Nat) : b.nonActive kind < 2 := by
  unfold Body.nonActive
  split <;> decide

theorem Body.gen_setGen_same (b : Body) (kind g st : Nat) : (b.setGen kind g st).gen kind g = st := Body.regN_setReg_same ..

/-- The state of a generation lies apart from the operation that writes it. -/
theorem Body.regN_setGen_op {kind : Nat} (hkind : kind < 2) (b : Body) (st : Nat) {j : Nat} (hj : j < 256) :
    (b.setGen kind (b.nonActive kind) st).regN (loadOp kind) j = b.regN (loadOp kind) j := by
  refine Body.regN_setReg_ne _ _ fun h => loadOp_ne_genIdx hkind ?_
  have hg := b.nonActive_lt kind
  unfold key at h
  omega

/-! ## A load starts (R170, R171, R427) -/

/-- Load `kind` begun by session `slot`. -/
def Body.loadBegun (b : Body) (e : Env) (kind slot : Nat) : Body :=
  ((b.opBegin e (loadOp kind) slot []).beginGen kind).setLoad kind ⟨[], false⟩

theorem loadStart_begins {e : Env} {kind slot : Nat} {b : Body} (hbusy : b.opBusy (loadOp kind) = false) (hlive : b.devState ≠ devFrozen)
    (hfree : b.genFree kind = true) : loadStart e kind slot b = (b.loadBegun e kind slot, wrote stOK) := by
  simp [loadStart, hbusy, hlive, hfree, Body.loadBegun]

theorem loadStart_notFree {e : Env} {kind slot : Nat} {b : Body} (hbusy : b.opBusy (loadOp kind) = false) (hlive : b.devState ≠ devFrozen)
    (hfree : b.genFree kind = false) : loadStart e kind slot b = (b.opRefuse e (loadOp kind) stBusy 0, wrote stBusy) := by
  simp [loadStart, hbusy, hlive, hfree]

theorem Body.beginGen_num (b : Body) (kind : Nat) : (b.beginGen kind).num = (b.setGen kind (b.nonActive kind) 1).num := by
  unfold Body.beginGen
  split <;> rfl

theorem Body.beginGen_mem (b : Body) (kind : Nat) : (b.beginGen kind).mem = b.mem := by
  unfold Body.beginGen
  split <;> rfl

theorem Body.beginGen_dict (b : Body) (kind : Nat) : (b.beginGen kind).dict = b.dict := by
  unfold Body.beginGen
  split <;> rfl

theorem Body.loadBegun_mem (b : Body) (e : Env) (kind slot : Nat) : (b.loadBegun e kind slot).mem = b.mem :=
  Body.beginGen_mem ..

theorem Body.loadBegun_dict (b : Body) (e : Env) (kind slot : Nat) : (b.loadBegun e kind slot).dict = b.dict :=
  Body.beginGen_dict ..

section
variable {kind : Nat} (hkind : kind < 2) (b : Body) (e : Env) (slot : Nat)
include hkind

theorem Body.nonActive_opBegin : (b.opBegin e (loadOp kind) slot []).nonActive kind = b.nonActive kind :=
  Body.nonActive_congr hkind ((RegsAgree.refl _ b).opBegin e _ slot [] fun j hj => not_frameKey_key (by simp) (by omega))

theorem Body.loadBegun_num :
    (b.loadBegun e kind slot).num = ((b.opBegin e (loadOp kind) slot []).setGen kind (b.nonActive kind) 1).num := by
  rw [← Body.nonActive_opBegin hkind b e slot]
  exact Body.beginGen_num ..

/-- A load begun has written its operation and the state of its generation. -/
theorem RegsAgree.loadBegun {c : Body} (h : RegsAgree (FrameKey [loadOp kind, genIdx kind]) c b) :
    RegsAgree (FrameKey [loadOp kind, genIdx kind]) c (b.loadBegun e kind slot) := by
  have hg := b.nonActive_lt kind
  have hop := h.opBegin e (loadOp kind) slot [] fun j hj => not_frameKey_key (by simp) (by omega)
  exact RegsAgree.of_num (hop.setReg (genIdx kind) (b.nonActive kind + 1) (not_frameKey_key (by simp) (by omega)))
    (Body.loadBegun_num hkind b e slot)

theorem Body.gen_loadBegun : (b.loadBegun e kind slot).gen kind (b.nonActive kind) = 1 :=
  (Body.regN_congr (Body.loadBegun_num hkind b e slot) _ _).trans (Body.gen_setGen_same _ kind _ 1)

theorem Body.regN_loadBegun_op {j : Nat} (hj : j < 256) :
    (b.loadBegun e kind slot).regN (loadOp kind) j = (b.opBegin e (loadOp kind) slot []).regN (loadOp kind) j := by
  refine (Body.regN_congr (Body.loadBegun_num hkind b e slot) _ _).trans ?_
  rw [← Body.nonActive_opBegin hkind b e slot]
  exact Body.regN_setGen_op hkind _ 1 hj

theorem Body.opState_loadBegun : (b.loadBegun e kind slot).opState (loadOp kind) = 1 :=
  (Body.regN_loadBegun_op hkind b e slot (by decide)).trans (b.opState_opBegin e _ slot [])

theorem Body.regN_loadBegun_slot : (b.loadBegun e kind slot).regN (loadOp kind) 8 = slot :=
  (Body.regN_loadBegun_op hkind b e slot (by decide)).trans (b.regN_opBegin_slot e _ slot [])

end

/-- A map load begun has dropped the map of its generation. -/
theorem Body.maps_loadBegun (b : Body) (e : Env) (slot : Nat) : mfind (b.nonActive 1) (b.loadBegun e 1 slot).cor.maps = none := by
  rw [← Body.nonActive_opBegin (by decide) b e slot]
  exact mfind_merase_same _ _

/-! ## The answer to a load's start -/

/-- The answer to a write leaves what corrections hold. -/
theorem serveWrite_cor {s : State} {r : Req} {idx sub : Nat} {v : WireVal} {x : Session} {h : Nat → Body → Body × Rsp} {c : Body}
    {st : Nat} (hg : Grants s r idx sub v x) (hh : h (r.sid % 8) (s.accepting r x) = (c, wrote st)) :
    (serveWrite s.env r idx sub v h s.b).cor = c.cor := by
  obtain ⟨htakes, hcheck⟩ := hg
  rw [serveWrite_granted s.env h htakes hcheck]
  unfold State.accepting at hh
  simp only [hh]
  cases st with
  | zero => simp [wrote]
  | succ st => simp [wrote]

section
variable {s : State} {r : Req} {x : Session} {kind idx : Nat} (hkind : kind < 2) (hidx : idx = loadOp kind)
  (hlive : s.b.devState ≠ devFrozen) (hg : Grants s r idx 1 (.n 1) x) (hbusy : s.b.opBusy idx = false)
include hkind hidx hlive hg hbusy

/-- A start that is granted leaves its load begun by the session that asked. -/
theorem loadStartWrite_begins (hfree : s.b.genFree kind = true) : ∃ t, s.act (serveWrite s.env r idx 1 (.n 1)
      (fun slot => loadStart s.env kind slot)) = .next t ∧ Answered t r (wrote stOK) ∧ t.b.opState idx = 1 ∧
      t.b.gen kind (s.b.nonActive kind) = 1 ∧ t.b.regN idx 8 = r.sid % 8 ∧ t.b.inForce kind = s.b.inForce kind ∧
      t.b.cor = ((s.accepting r x).loadBegun s.env kind (r.sid % 8)).cor ∧ Frame s t [idx, genIdx kind] := by
  subst hidx
  have hbegun : loadStart s.env kind (r.sid % 8) (s.accepting r x) = ((s.accepting r x).loadBegun s.env kind (r.sid % 8), wrote stOK) :=
    loadStart_begins hbusy hlive hfree
  have hr := serveWrite_replies hg hbegun (Body.isSome_sess_congr (s.sess_accepting r x) (Body.loadBegun_dict ..))
  have hframe := RegsAgree.loadBegun hkind (s.accepting r x) s.env (r.sid % 8) (RegsAgree.accepting _ s r x)
  have hgen : s.b.nonActive kind = (s.accepting r x).nonActive kind := rfl
  have hop (j : Nat) := hr.regN (i := loadOp kind) (j := j) (.inr (by have := loadOp_above kind; unfold key; omega))
  refine ⟨_, rfl, hr.answered, ?_, ?_, ?_, ?_, serveWrite_cor hg hbegun, hr.frame hframe (Body.loadBegun_mem ..)⟩
  · exact (hop 2).trans (Body.opState_loadBegun hkind ..)
  · rw [hgen]
    exact (hr.regN (.inr (by have := genIdx_above kind; unfold key; omega))).trans (Body.gen_loadBegun hkind ..)
  · exact (hop 8).trans (Body.regN_loadBegun_slot hkind ..)
  · exact (hr.regN (.inr (by have := forceIdx_above hkind; unfold key; omega))).trans (Body.inForce_congr hkind hframe)

omit hkind in
/-- A start while the generation may not be written is refused as BUSY. -/
theorem loadStartWrite_notFree (hfree : s.b.genFree kind = false) : ∃ t, s.act (serveWrite s.env r idx 1 (.n 1)
      (fun slot => loadStart s.env kind slot)) = .next t ∧ Answered t r (wrote stBusy) ∧ t.b.opState idx = 5 ∧
      t.b.regN idx 4 = stBusy ∧ Raised s t 42 ∧ Frame s t [idx] := by
  subst hidx
  have hrefused : loadStart s.env kind (r.sid % 8) (s.accepting r x) = ((s.accepting r x).opRefuse s.env (loadOp kind) stBusy 0, wrote stBusy) :=
    loadStart_notFree hbusy hlive hfree
  have habove := loadOp_above kind
  have hr := serveWrite_replies hg hrefused (Body.isSome_sess_raise (s.sess_accepting r x) (Body.refusalRecord_dict ..) _ _ _)
  have hop (j : Nat) := (hr.regN (i := loadOp kind) (j := j) (.inr (by unfold key; omega))).trans
    (Body.regN_raise _ _ _ _ (.inr (by unfold key; omega)))
  have haccept (K : Nat → Prop) := RegsAgree.accepting K s r x
  refine ⟨_, rfl, hr.answered, (hop 2).trans (Body.regN_refusalRecord_state ..), (hop 4).trans (Body.regN_refusalRecord_code ..),
    hr.raised ?_, hr.frame ?_ (Body.opRefuse_mem ..)⟩
  · exact ((haccept _).refusalRecord s.env _ _ _ fun j _ => not_sourceKey_above (by decide) habove).raised s.env _
  · exact ((haccept _).refusalRecord s.env _ _ _ fun j _ => not_frameKey_key (by simp) (by omega)).raise _ _ _ fun k hk => hk.not_status

end

/-- Settles O30: a start that is granted leaves its load begun, and one on a generation in use is refused as any operation is. -/
theorem loadsBegin : Obligations.LoadsBegin := by
  unfold Obligations.LoadsBegin
  intro s r x hlive
  refine ⟨fun hg hbusy hfree => ?_, fun hg hbusy hfree => ?_, fun hg hbusy hfree => ?_⟩
  · obtain ⟨t, hexec, hanswer, hstate, hgen, hslot, hforce, -, hframe⟩ :=
      loadStartWrite_begins (kind := 0) (by decide) rfl hlive hg hbusy hfree
    exact ⟨t, hexec, hanswer, hstate, hgen, hslot, hforce, hframe⟩
  · obtain ⟨t, hexec, hanswer, hstate, hgen, -, hforce, hcor, hframe⟩ :=
      loadStartWrite_begins (kind := 1) (by decide) rfl hlive hg hbusy hfree
    refine ⟨t, hexec, hanswer, hstate, hgen, ?_, hforce, hframe⟩
    rw [hcor]
    exact (s.accepting r x).maps_loadBegun s.env (r.sid % 8)
  · exact loadStartWrite_notFree (kind := 0) rfl hlive hg hbusy hfree

end Sys2Proof.Machine

namespace Sys2Proof.Machine

/-! ## A source behind the raise of another (R429) -/

/-- Source n counts in c as in b: its configuration and its status are as before. -/
def KeepsSource (n : Nat) (b c : Body) : Prop := c.evCfg n = b.evCfg n ∧ c.evStatus n = b.evStatus n

section
variable {n : Nat} {b c d : Body}

theorem RegsAgree.keepsSource (h : RegsAgree (SourceKey n) b c) : KeepsSource n b c := ⟨h.regN (.inl rfl), h.regN (.inr rfl)⟩

theorem KeepsSource.trans (h : KeepsSource n b c) (k : KeepsSource n c d) : KeepsSource n b d := ⟨k.1.trans h.1, k.2.trans h.2⟩

theorem KeepsSource.raise_ne (h : KeepsSource n b c) (e : Env) {s : Nat} (det : Nat) (hs : n ≠ s) (hn : n < 1024 := by omega)
    (h38 : n ≠ 38 := by omega) (h39 : n ≠ 39 := by omega) : KeepsSource n b (c.raise e s det) :=
  ⟨(c.regN_raise e s det (.inl (by unfold key; omega))).trans h.1, (c.evStatus_raise_ne e det hs h38 h39).trans h.2⟩

theorem KeepsSource.raised (h : KeepsSource n b c) (e : Env) (det : Nat) (hn : n < 1024 := by omega) (h38 : n ≠ 38 := by omega)
    (h39 : n ≠ 39 := by omega) (hc : bit (b.evCfg n) 31 = true) : (c.raise e n det).evStatus n = raisedStatus (b.evStatus n) := by
  obtain ⟨hcfg, hstatus⟩ := h
  rw [← hcfg] at hc
  rw [← hstatus]
  exact c.evStatus_raise_same e det hc hn h38 h39

end

/-! ## An operation that is not being cancelled ends (R427) -/

/-- The result of operation idx, as its end writes it. -/
def Body.endResult (b : Body) (e : Env) (idx : Nat) (ok : Bool) (code det : Nat) : Body :=
  (((b.setReg idx 2 (if ok then 4 else 5)).setReg idx 4 (code : Nat)).setReg idx 5 (det : Nat)).setReg idx 7 (e.wt : Nat)

/-- What the end of operation idx writes before it raises event 41 or 42: a success has come all the way, how far a failure came is free. -/
def Body.endRecord (b : Body) (e : Env) (idx : Nat) (ok : Bool) (code det : Nat) : Body :=
  let b1 := b.endResult e idx ok code det
  { (if ok then b1.setReg idx 3 1000 else (b1.setReg idx 3 (b1.freeNat % 1001 : Nat)).tookFree 1) with ops := merase idx b1.ops }

section
variable {b : Body} {idx : Nat} (e : Env) (ok : Bool) (code det : Nat)

theorem Body.opEnd_eq (h : b.opState idx ≠ 3) :
    b.opEnd e idx ok code det = (b.endRecord e idx ok code det).raise e (if ok then 41 else 42) idx := by
  rw [Body.opEnd, if_neg h]
  rfl

/-- The end writes its result, and how far the operation came. -/
theorem Body.endRecord_num : ∃ v, (b.endRecord e idx ok code det).num = ((b.endResult e idx ok code det).setReg idx 3 v).num := by
  unfold Body.endRecord
  dsimp only
  split
  · exact ⟨_, rfl⟩
  · exact ⟨_, Body.tookFree_num ..⟩

theorem RegsAgree.endRecord {K : Nat → Prop} (hk : ∀ j, j < 8 → ¬ K (key idx j)) : RegsAgree K b (b.endRecord e idx ok code det) := by
  obtain ⟨v, hv⟩ := b.endRecord_num (idx := idx) e ok code det
  have hstate := ((RegsAgree.refl K b).setReg idx 2 (v := if ok then 4 else 5) (hk 2 (by decide))).setReg idx 4 (v := code) (hk 4 (by decide))
  exact (((hstate.setReg idx 5 (v := det) (hk 5 (by decide))).setReg idx 7 (v := e.wt) (hk 7 (by decide))).setReg idx 3
    (hk 3 (by decide))).of_num hv

section
variable (h : b.opState idx ≠ 3) (hi : 0x0310 ≤ idx)
include h hi

theorem Body.reg_opEnd (j : Nat) : (b.opEnd e idx ok code det).reg idx j = (b.endRecord e idx ok code det).reg idx j := by
  rw [Body.opEnd_eq e ok code det h]
  exact Body.reg_raise _ _ _ _ (.inr (by unfold key; omega))

theorem Body.opState_opEnd : (b.opEnd e idx ok code det).opState idx = if ok then 4 else 5 := by
  obtain ⟨v, hv⟩ := b.endRecord_num (idx := idx) e ok code det
  rw [Body.opState, Body.regN, Body.reg_opEnd e ok code det h hi, Body.reg_congr hv]
  unfold Body.endResult
  repeat rw [Body.reg_setReg_sub _ _ _ (by decide)]
  rw [Body.reg_setReg_same]
  split <;> rfl

theorem Body.reg_opEnd_code : (b.opEnd e idx ok code det).reg idx 4 = code := by
  obtain ⟨v, hv⟩ := b.endRecord_num (idx := idx) e ok code det
  rw [Body.reg_opEnd e ok code det h hi, Body.reg_congr hv, Body.endResult]
  repeat rw [Body.reg_setReg_sub _ _ _ (by decide)]
  exact Body.reg_setReg_same ..

theorem Body.reg_opEnd_detail : (b.opEnd e idx ok code det).reg idx 5 = det := by
  obtain ⟨v, hv⟩ := b.endRecord_num (idx := idx) e ok code det
  rw [Body.reg_opEnd e ok code det h hi, Body.reg_congr hv, Body.endResult]
  repeat rw [Body.reg_setReg_sub _ _ _ (by decide)]
  exact Body.reg_setReg_same ..

omit h in
theorem KeepsSource.endRecord {n : Nat} {c : Body} (hn : n < 1024) (hc : KeepsSource n c b) :
    KeepsSource n c (b.endRecord e idx ok code det) :=
  hc.trans (RegsAgree.endRecord e ok code det fun _ _ => not_sourceKey_above hn hi).keepsSource

/-- The end raises event 41 or 42. -/
theorem KeepsSource.raised_opEnd {n : Nat} {c : Body} (hc : KeepsSource n c b) (hn : n = if ok then 41 else 42)
    (hon : bit (c.evCfg n) 31 = true) : (b.opEnd e idx ok code det).evStatus n = raisedStatus (c.evStatus n) := by
  have hsmall : n = 41 ∨ n = 42 := by cases ok <;> simp_all
  rw [Body.opEnd_eq e ok code det h, ← hn]
  exact (hc.endRecord e ok code det hi (by omega)).raised e idx (hc := hon)

/-- The end leaves the status of another source. -/
theorem Body.evStatus_opEnd_ne {n : Nat} (hn : 42 < n ∧ n < 1024) : (b.opEnd e idx ok code det).evStatus n = b.evStatus n := by
  have hne : n ≠ if ok then 41 else 42 := by cases ok <;> simp <;> omega
  rw [Body.opEnd_eq e ok code det h, Body.evStatus_raise_ne _ e idx hne]
  exact (RegsAgree.endRecord e ok code det fun _ _ => not_sourceKey_above hn.2 hi).keepsSource.2

end

end

/-! ## A load fails (R167, R169, R170) -/

/-- The generation of load `kind` made INVALID, and what was received forgotten. -/
def Body.loadVoided (b : Body) (kind : Nat) : Body := (b.setGen kind (b.nonActive kind) 6).setLoad kind ⟨[], false⟩

theorem Body.loadFail_eq {b : Body} {kind : Nat} (e : Env) (code det : Nat) (hgen : b.gen kind (b.nonActive kind) = 1) :
    b.loadFail e kind code det = ((b.loadVoided kind).raise e (336 + 2 * kind) 0).opEnd e (loadOp kind) false code det := by
  simp only [Body.loadFail, Body.voidGen, if_pos hgen]
  rfl

theorem Body.loadVoided_mem (b : Body) (kind : Nat) : (b.loadVoided kind).mem = b.mem := rfl

theorem Body.gen_loadVoided (b : Body) (kind : Nat) : (b.loadVoided kind).gen kind (b.nonActive kind) = 6 :=
  b.gen_setGen_same kind _ 6

theorem RegsAgree.loadVoided {K : Nat → Prop} (b : Body) (kind : Nat) (hk : ∀ j, j < 256 → ¬ K (key (genIdx kind) j)) :
    RegsAgree K b (b.loadVoided kind) :=
  have hg := b.nonActive_lt kind
  RegsAgree.of_num ((RegsAgree.refl K b).setReg (genIdx kind) (b.nonActive kind + 1) (v := (6 : Nat)) (hk _ (by omega))) rfl

/-- A load that fails leaves its generation INVALID and its operation FAILED, with the events of both. -/
theorem loadFail_ends {s : State} {kind : Nat} (hkind : kind < 2) (code det : Nat) (hrun : s.b.opState (loadOp kind) = 1)
    (hgen : s.b.gen kind (s.b.nonActive kind) = 1) {t : State} (ht : t = { s with b := s.b.loadFail s.env kind code det }) :
    t.b.opState (loadOp kind) = 5 ∧ t.b.gen kind (s.b.nonActive kind) = 6 ∧ t.b.reg (loadOp kind) 4 = code ∧
      t.b.reg (loadOp kind) 5 = det ∧ Raised s t (336 + 2 * kind) ∧ Raised s t 42 ∧ Frame s t [loadOp kind, genIdx kind] := by
  subst ht
  have hop := loadOp_above kind
  have hidx := genIdx_above kind
  have hne := loadOp_ne_genIdx hkind
  have hsources {n : Nat} (hn : n < 1024) : KeepsSource n s.b (s.b.loadVoided kind) :=
    (RegsAgree.loadVoided s.b kind fun _ _ => not_sourceKey_above hn hidx).keepsSource
  have hgoes : ((s.b.loadVoided kind).raise s.env (336 + 2 * kind) 0).opState (loadOp kind) ≠ 3 := by
    have hvoided : (s.b.loadVoided kind).opState (loadOp kind) = 1 := (Body.regN_setGen_op hkind s.b 6 (by decide)).trans hrun
    rw [Body.opState, Body.regN_raise _ _ _ _ (.inr (by unfold key; omega)), ← Body.opState, hvoided]
    decide
  rw [Body.loadFail_eq s.env code det hgen]
  refine ⟨Body.opState_opEnd _ _ _ _ hgoes hop, ?_, Body.reg_opEnd_code _ _ _ _ hgoes hop, Body.reg_opEnd_detail _ _ _ _ hgoes hop,
    fun hon => ?_, fun hon => ?_, frame_of_regsAgree ?_ ?_⟩
  · have hkept : RegsAgree (fun k => k / 256 = genIdx kind) (s.b.loadVoided kind)
        (((s.b.loadVoided kind).raise s.env (336 + 2 * kind) 0).opEnd s.env (loadOp kind) false code det) :=
      ((RegsAgree.refl _ _).raise _ _ _ (by omega)).opEnd _ _ _ _ _ (by unfold key; omega) (by omega)
    have hg := s.b.nonActive_lt kind
    exact (hkept.regN (by unfold key; omega)).trans (s.b.gen_loadVoided kind)
  · refine (Body.evStatus_opEnd_ne _ _ _ _ hgoes hop (by omega)).trans ?_
    exact (hsources (by omega)).raised s.env 0 (hc := hon)
  · exact ((hsources (by decide)).raise_ne s.env 0 (by omega)).raised_opEnd s.env false code det hgoes hop rfl hon
  · exact ((RegsAgree.loadVoided s.b kind fun _ _ => not_frameKey_key (by simp) (by omega)).raise _ _ _ fun _ hk => hk.not_status).opEnd
      _ _ _ _ _ (fun _ _ => not_frameKey_key (by simp) (by omega)) fun _ hk => hk.not_status
  · rw [Body.opEnd_mem, Body.raise_mem, Body.loadVoided_mem]

/-! ## The entries of an image go to memory (R158, R172) -/

/-- The body c differs from b in memory alone, and there in the 32 bytes that generation g has for each lamp of map m. -/
def OnlyEntries (g : Nat) (m : RodMap) (b c : Body) : Prop :=
  ∃ mem, c = { b with mem := mem } ∧
    ∀ a, (∀ i ∈ m.lampIds, a < b.entryAddr g i ∨ b.entryAddr g i + 32 ≤ a) → mgetD 0 a mem = b.byte a

theorem Body.writeEntries_only (b : Body) (g : Nat) (m : RodMap) (ents : List Bytes) (fold : List Override) :
    OnlyEntries g m b (b.writeEntries g m ents fold) := by
  refine List.foldlRecOn _ _ ⟨b.mem, rfl, fun _ _ => rfl⟩ ?_
  rintro x ⟨mem, rfl, hmem⟩ p hp
  refine ⟨_, rfl, fun a ha => (Body.byte_store_out _ _ _ _ ?_).trans (hmem a ha)⟩
  have haddr : Body.entryAddr { b with mem := mem } g p.1 = b.entryAddr g p.1 := rfl
  have hout := ha p.1 (List.of_mem_zip hp).1
  simp only [haddr, slice, List.length_append, List.length_take, List.length_drop, List.length_singleton]
  omega

/-! ## A table load ends well (R169, R170) -/

/-- The body of a table load whose image `bs` passed, before its operation ends: the entries written with overrides `fold`, the
generation IDLE with the image's identity, tag and unit. -/
def Body.tableLoaded (b : Body) (m : RodMap) (bs : Bytes) (fold : List Override) : Body :=
  let g := b.nonActive 0
  let b1 := (b.writeEntries g m (imageEntries bs) fold).setLoad 0 ⟨[], false⟩
  let b2 := { b1 with cor := { b1.cor with folded := b.toFold, genMaps := minsert g m b1.cor.genMaps } }
  (((b2.setGen 0 g 2).setReg 0x1001 (g + 1) (leAt bs 12 4 : Nat)).setReg 0x1002 (g + 1) (leAt bs 16 4 : Nat)).setReg 0x1003 (g + 1)
    (leAt bs 20 2 : Nat)

theorem corrLoadComplete_passes {e : Env} {b : Body} {m : RodMap} (hrun : b.opState 0x0410 = 1) (hgen : b.gen 0 (b.nonActive 0) = 1)
    (hgood : b.imageFault (b.loadData 0).1 = none) (hwhole : (b.loadData 0).2 = true)
    (hm : b.mapOfTag (leAt (b.loadData 0).1 16 4) = some m) (harm : bit (b.opArg 0x0410 0x13).toNat 0 = false) :
    ∃ fold, corrLoadComplete e b = (b.tableLoaded m (b.loadData 0).1 fold).opEnd e 0x0410 true 0 0 := by
  simp only [corrLoadComplete, hrun, hgen, hgood, hwhole, hm, Body.loadDone, harm]
  exact ⟨_, rfl⟩

theorem corrLoadComplete_fails {e : Env} {b : Body} {c d : Nat} (hrun : b.opState 0x0410 = 1) (hgen : b.gen 0 (b.nonActive 0) = 1)
    (hbad : b.imageFault (b.loadData 0).1 = some (c, d)) (hends : c ≠ stSource ∨ (b.loadData 0).2 = true) :
    corrLoadComplete e b = b.loadFail e 0 c d := by
  have hover : ¬ (c = stSource ∧ (!(b.loadData 0).2) = true) := by
    rintro ⟨hc, hmore⟩
    rcases hends with hne | hwhole
    · exact hne hc
    · simp [hwhole] at hmore
  simp only [corrLoadComplete, hrun, hgen, hbad, if_neg hover]
  rfl

section
variable (b : Body) (m : RodMap) (bs : Bytes) (fold : List Override)

theorem Body.tableLoaded_num : (b.tableLoaded m bs fold).num = ((((b.setGen 0 (b.nonActive 0) 2).setReg 0x1001 (b.nonActive 0 + 1)
    (leAt bs 12 4 : Nat)).setReg 0x1002 (b.nonActive 0 + 1) (leAt bs 16 4 : Nat)).setReg 0x1003 (b.nonActive 0 + 1)
    (leAt bs 20 2 : Nat)).num := by
  obtain ⟨mem, hmem, -⟩ := b.writeEntries_only (b.nonActive 0) m (imageEntries bs) fold
  simp only [Body.tableLoaded, hmem]
  rfl

theorem RegsAgree.tableLoaded {K : Nat → Prop} (hk : ∀ i ∈ [0x1000, 0x1001, 0x1002, 0x1003], ∀ j, j < 256 → ¬ K (key i j)) :
    RegsAgree K b (b.tableLoaded m bs fold) := by
  have hg : b.nonActive 0 + 1 < 256 := by have := b.nonActive_lt 0; omega
  have hgen : RegsAgree K b (b.setGen 0 (b.nonActive 0) 2) := (RegsAgree.refl K b).setReg _ _ (hk 0x1000 (by decide) _ hg)
  exact (((hgen.setReg 0x1001 _ (hk _ (by decide) _ hg)).setReg 0x1002 _ (hk _ (by decide) _ hg)).setReg 0x1003 _
    (hk _ (by decide) _ hg)).of_num (b.tableLoaded_num m bs fold)

theorem Body.gen_tableLoaded : (b.tableLoaded m bs fold).gen 0 (b.nonActive 0) = 2 := by
  rw [Body.gen, Body.regN_congr (b.tableLoaded_num m bs fold)]
  repeat rw [Body.regN_setReg_ne _ _ (by simp only [genIdx, key, if_pos]; omega)]
  exact b.gen_setGen_same 0 _ 2

theorem Body.tag_tableLoaded : (b.tableLoaded m bs fold).regN 0x1002 (b.nonActive 0 + 1) = leAt bs 16 4 := by
  rw [Body.regN_congr (b.tableLoaded_num m bs fold), Body.regN_setReg_ne _ _ (by unfold key; omega)]
  exact Body.regN_setReg_same ..

theorem Body.byte_tableLoaded {a : Nat}
    (ha : ∀ i ∈ m.lampIds, a < b.entryAddr (b.nonActive 0) i ∨ b.entryAddr (b.nonActive 0) i + 32 ≤ a) :
    (b.tableLoaded m bs fold).byte a = b.byte a := by
  obtain ⟨mem, hmem, hbyte⟩ := b.writeEntries_only (b.nonActive 0) m (imageEntries bs) fold
  refine Eq.trans ?_ (hbyte a ha)
  simp only [Body.tableLoaded, hmem]
  rfl

end

/-! ## A rod-map load ends well (R167, R170) -/

/-- The body of a map load whose image read as m, before its operation ends. -/
def Body.mapLoaded (b : Body) (m : RodMap) : Body :=
  let g := b.nonActive 1
  let b1 := b.setLoad 1 ⟨[], false⟩
  let b2 := { b1 with cor := { b1.cor with maps := minsert g m b1.cor.maps } }
  (b2.setGen 1 g 2).setReg 0x1013 (g + 1) (m.tag : Nat)

section
variable {e : Env} {b : Body} {m : RodMap} (hrun : b.opState 0x0411 = 1) (hgen : b.gen 1 (b.nonActive 1) = 1)
  (hwhole : (b.loadData 1).2 = true) (hdata : (b.loadData 1).1 ≠ [])
include hrun hgen hwhole hdata

theorem mapLoadComplete_passes (hm : parseMap (b.loadData 1).1 = .inr m) (harm : bit (b.opArg 0x0411 0x13).toNat 0 = false) :
    mapLoadComplete e b = (b.mapLoaded m).opEnd e 0x0411 true 0 0 := by
  have hsame : Body.opArg { b.setLoad 1 ⟨[], false⟩ with cor := { (b.setLoad 1 ⟨[], false⟩).cor with
      maps := minsert (b.nonActive 1) m (b.setLoad 1 ⟨[], false⟩).cor.maps } } 0x0411 0x13 = b.opArg 0x0411 0x13 := rfl
  simp only [mapLoadComplete, hrun, hgen, hwhole, hm, Body.loadDone, hsame, harm, List.isEmpty_eq_false_iff.mpr hdata]
  rfl

theorem mapLoadComplete_fails {c : Nat} (hm : parseMap (b.loadData 1).1 = .inl c) : mapLoadComplete e b = b.loadFail e 1 c 0 := by
  simp only [mapLoadComplete, hrun, hgen, hwhole, hm, List.isEmpty_eq_false_iff.mpr hdata]
  rfl

end

theorem Body.mapLoaded_mem (b : Body) (m : RodMap) : (b.mapLoaded m).mem = b.mem := rfl

theorem Body.maps_mapLoaded (b : Body) (m : RodMap) : mfind (b.nonActive 1) (b.mapLoaded m).cor.maps = some m := mfind_minsert_same ..

theorem Body.tag_mapLoaded (b : Body) (m : RodMap) : (b.mapLoaded m).reg 0x1013 (b.nonActive 1 + 1) = m.tag := Body.reg_setReg_same ..

theorem Body.gen_mapLoaded (b : Body) (m : RodMap) : (b.mapLoaded m).gen 1 (b.nonActive 1) = 2 :=
  (Body.regN_setReg_ne _ _ (show key 0x1012 _ ≠ key 0x1013 _ by unfold key; omega)).trans (Body.gen_setGen_same _ 1 _ 2)

theorem RegsAgree.mapLoaded {K : Nat → Prop} (b : Body) (m : RodMap) (hk : ∀ i ∈ [0x1012, 0x1013], ∀ j, j < 256 → ¬ K (key i j)) :
    RegsAgree K b (b.mapLoaded m) := by
  have hg : b.nonActive 1 + 1 < 256 := by have := b.nonActive_lt 1; omega
  have hgen : RegsAgree K b (b.setGen 1 (b.nonActive 1) 2) := (RegsAgree.refl K b).setReg _ _ (hk 0x1012 (by decide) _ hg)
  exact (hgen.setReg 0x1013 (b.nonActive 1 + 1) (v := (m.tag : Nat)) (hk _ (by decide) _ hg)).of_num rfl

/-! ## The ends of the loads, as steps -/

/-- The keys of the generations, tags and maps of both kinds. -/
def GenKey (k : Nat) : Prop := 0x100000 ≤ k ∧ k < 0x101400

theorem genKey_gen (b : Body) (kind : Nat) : GenKey (key (genIdx kind) (b.nonActive kind + 1)) := by
  have hg := b.nonActive_lt kind
  unfold GenKey genIdx key
  split <;> omega

theorem RegsAgree.opEnd_gen (b : Body) (e : Env) {idx : Nat} (hi : idx < 0x1000) (ok : Bool) (code det : Nat) :
    RegsAgree GenKey b (b.opEnd e idx ok code det) :=
  (RegsAgree.refl GenKey b).opEnd e idx ok code det (by unfold GenKey key; omega) (by unfold GenKey; omega)

/-- A table load whose image passes ends DONE. -/
theorem corrLoadComplete_done {s : State} {m : RodMap} (hrun : s.b.opState 0x0410 = 1) (hgen : s.b.gen 0 (s.b.nonActive 0) = 1)
    (hgood : s.b.imageFault (s.b.loadData 0).1 = none) (hwhole : (s.b.loadData 0).2 = true)
    (hm : s.b.mapOfTag (leAt (s.b.loadData 0).1 16 4) = some m) (harm : bit (s.b.opArg 0x0410 0x13).toNat 0 = false) :
    ∃ t, exec .corrLoadComplete s = .next t ∧ t.b.opState 0x0410 = 4 ∧ t.b.gen 0 (s.b.nonActive 0) = 2 ∧
      t.b.regN 0x1002 (s.b.nonActive 0 + 1) = leAt (s.b.loadData 0).1 16 4 ∧ Raised s t 41 ∧
      KeepsRegs s.b t.b [0x0410, 0x1000, 0x1001, 0x1002, 0x1003] ∧ t.clk = s.clk ∧
      (∀ a, (∀ i ∈ m.lampIds, a < s.b.entryAddr (s.b.nonActive 0) i ∨ s.b.entryAddr (s.b.nonActive 0) i + 32 ≤ a) →
        t.b.byte a = s.b.byte a) := by
  obtain ⟨fold, hend⟩ := corrLoadComplete_passes (e := s.env) hrun hgen hgood hwhole hm harm
  have hgoes : (s.b.tableLoaded m (s.b.loadData 0).1 fold).opState 0x0410 ≠ 3 := by
    have hkept := (RegsAgree.tableLoaded s.b m (s.b.loadData 0).1 fold (K := (· < 0x100000)) fun i hi j _ => by simp at hi; unfold key; omega).regN
      (i := 0x0410) (j := 2) (by decide)
    rw [Body.opState, hkept, ← Body.opState, hrun]
    decide
  have hg := s.b.nonActive_lt 0
  have hkept := RegsAgree.opEnd_gen (s.b.tableLoaded m (s.b.loadData 0).1 fold) s.env (idx := 0x0410) (by decide) true 0 0
  refine ⟨_, s.act_eq hend, Body.opState_opEnd _ _ _ _ hgoes (by decide), ?_, ?_, fun hon => ?_, RegsAgree.keepsRegs ?_, rfl, fun a ha => ?_⟩
  · exact (hkept.regN (genKey_gen s.b _)).trans (s.b.gen_tableLoaded ..)
  · exact (hkept.regN (by unfold GenKey key; omega)).trans (s.b.tag_tableLoaded ..)
  · have hsource := (RegsAgree.tableLoaded s.b m (s.b.loadData 0).1 fold (K := SourceKey 41) fun i hi j _ =>
      not_sourceKey_above (by decide) (by simp at hi; omega)).keepsSource
    exact hsource.raised_opEnd s.env true 0 0 hgoes (by decide) rfl hon
  · exact (RegsAgree.tableLoaded s.b m _ fold fun i hi j hj => not_frameKey_key (List.mem_cons_of_mem _ hi) hj).opEnd _ _ _ _ _
      (fun j _ => not_frameKey_key (by decide) (by omega)) fun _ hk => hk.not_status
  · exact (congrArg (mgetD 0 a) (Body.opEnd_mem ..)).trans (s.b.byte_tableLoaded m _ fold ha)

/-- A rod-map load whose image passes ends DONE. -/
theorem mapLoadComplete_done {s : State} {m : RodMap} (hrun : s.b.opState 0x0411 = 1) (hgen : s.b.gen 1 (s.b.nonActive 1) = 1)
    (hwhole : (s.b.loadData 1).2 = true) (hdata : (s.b.loadData 1).1 ≠ []) (hm : parseMap (s.b.loadData 1).1 = .inr m)
    (harm : bit (s.b.opArg 0x0411 0x13).toNat 0 = false) :
    ∃ t, exec .mapLoadComplete s = .next t ∧ t.b.opState 0x0411 = 4 ∧ t.b.gen 1 (s.b.nonActive 1) = 2 ∧
      mfind (s.b.nonActive 1) t.b.cor.maps = some m ∧ t.b.reg 0x1013 (s.b.nonActive 1 + 1) = (m.tag : Nat) ∧
      Frame s t [0x0411, 0x1012, 0x1013] := by
  have hgoes : (s.b.mapLoaded m).opState 0x0411 ≠ 3 := by
    have hkept := (RegsAgree.mapLoaded s.b m (K := (· < 0x100000)) fun i hi j _ => by simp at hi; unfold key; omega).regN
      (i := 0x0411) (j := 2) (by decide)
    rw [Body.opState, hkept, ← Body.opState, hrun]
    decide
  have hg := s.b.nonActive_lt 1
  have hkept := RegsAgree.opEnd_gen (s.b.mapLoaded m) s.env (idx := 0x0411) (by decide) true 0 0
  refine ⟨_, s.act_eq (mapLoadComplete_passes hrun hgen hwhole hdata hm harm), Body.opState_opEnd _ _ _ _ hgoes (by decide), ?_, ?_, ?_,
    frame_of_regsAgree ?_ ?_⟩
  · exact (hkept.regN (genKey_gen s.b _)).trans (s.b.gen_mapLoaded m)
  · rw [Body.opEnd_cor]
    exact s.b.maps_mapLoaded m
  · exact (hkept _ _ (by unfold GenKey key; omega)).trans (s.b.tag_mapLoaded m)
  · exact (RegsAgree.mapLoaded s.b m fun i hi j hj => not_frameKey_key (List.mem_cons_of_mem _ hi) hj).opEnd _ _ _ _ _
      (fun j _ => not_frameKey_key (by decide) (by omega)) fun _ hk => hk.not_status
  · rw [Body.opEnd_mem, Body.mapLoaded_mem]

/-- Settles O31: a load that passes ends its operation on the body it has loaded, and one that fails ends as every failed load does. -/
theorem loadsEnd : Obligations.LoadsEnd := by
  unfold Obligations.LoadsEnd
  intro s
  refine ⟨fun m => corrLoadComplete_done, fun c d hrun hgen hbad hends => ?_, fun m => mapLoadComplete_done,
    fun c hrun hgen hwhole hdata hbad => ?_⟩
  · exact ⟨_, s.act_eq (corrLoadComplete_fails hrun hgen hbad hends), loadFail_ends (kind := 0) (by decide) c d hrun hgen rfl⟩
  · obtain ⟨hstate, hinvalid, hcode, -, hload, hfailed, hframe⟩ := loadFail_ends (kind := 1) (by decide) c 0 hrun hgen rfl
    exact ⟨_, s.act_eq (mapLoadComplete_fails hrun hgen hwhole hdata hbad), hstate, hinvalid, hcode, hload, hfailed, hframe⟩

end Sys2Proof.Machine

namespace Sys2Proof.Machine

/-! ## The end of an operation, whatever its state (R427)

One that is being cancelled ends with a result of its own, and writes the same entries. -/

theorem Body.opEnd_ends (b : Body) (e : Env) (idx : Nat) (ok : Bool) (code det : Nat) : ∃ ok' code' det',
    b.opEnd e idx ok code det = (b.endRecord e idx ok' code' det').raise e (if ok' then 41 else 42) idx := by
  unfold Body.opEnd
  split
  · exact ⟨false, 2, 0, rfl⟩
  · exact ⟨ok, code, det, rfl⟩

theorem Body.endRecord_dict (b : Body) (e : Env) (idx : Nat) (ok : Bool) (code det : Nat) : (b.endRecord e idx ok code det).dict = b.dict := by
  cases ok <;> rfl

theorem Body.isSome_sess_opEnd {b c : Body} {n : Nat} (h : (b.sess? n).isSome = true) (hd : c.dict = b.dict) (e : Env) (idx : Nat) (ok : Bool)
    (code det : Nat) : ((c.opEnd e idx ok code det).sess? n).isSome = true := by
  obtain ⟨ok', code', det', heq⟩ := c.opEnd_ends e idx ok code det
  rw [heq]
  exact Body.isSome_sess_raise h ((c.endRecord_dict ..).trans hd) _ _ _

/-- What an operation reports beside its result stands from sub-index 0x10 on, and its end leaves that. -/
theorem Body.reg_opEnd_report (b : Body) (e : Env) {idx j : Nat} (ok : Bool) (code det : Nat) (hi : 0x0310 ≤ idx) (hj : 8 ≤ j) (hj' : j < 256) :
    (b.opEnd e idx ok code det).reg idx j = b.reg idx j :=
  (RegsAgree.refl (· = key idx j) b).opEnd e idx ok code det (by unfold key; omega) (by unfold key; omega) _ _ rfl

/-- The events of sources above 42 are none of those an operation's end raises, whatever its state. -/
theorem Body.evStatus_opEnd_above (b : Body) (e : Env) {idx n : Nat} (ok : Bool) (code det : Nat) (hi : 0x0310 ≤ idx)
    (hn : 42 < n ∧ n < 1024) : (b.opEnd e idx ok code det).evStatus n = b.evStatus n := by
  obtain ⟨ok', code', det', heq⟩ := b.opEnd_ends e idx ok code det
  have hne : n ≠ if ok' then 41 else 42 := by cases ok' <;> simp <;> omega
  rw [heq, Body.evStatus_raise_ne _ e idx hne]
  exact (RegsAgree.endRecord e ok' code' det' fun _ _ => not_sourceKey_above hn.2 hi).keepsSource.2

/-! ## The mode entries (R198, R213) -/

/-- The indices of the entries that hold a mode. -/
def modeIndices : List Nat := [0x0900, 0x0901, 0x0902, 0x0903, 0x0904, 0x0905, 0x0906, 0x0980]

theorem modeIndices_above {i : Nat} (hi : i ∈ modeIndices) : 0x0900 ≤ i := by
  simp only [modeIndices, List.mem_cons, List.not_mem_nil, or_false] at hi
  omega

/-- The entries of a mode that it has once. -/
def Body.setScalarEntries (b : Body) (m : Mode) : Body :=
  (((((b.setReg 0x0900 0 (m.rate : Nat)).setReg 0x0901 0 (m.phases : Nat)).setReg 0x0904 0 (m.unit : Nat)).setReg 0x0905 0
    (m.gap : Nat)).setReg 0x0906 0 (m.order : Nat)).setReg 0x0980 0 (m.ra : Nat)

/-- The shift and the window of phase p. -/
def Body.setPhaseEntry (m : Mode) (b : Body) (p : Nat) : Body :=
  (b.setReg 0x0902 (p + 1) (m.shift.getD p 0)).setReg 0x0903 (p + 1) ((m.window.getD p 0 : Nat))

theorem Body.setEntryMode_eq (b : Body) (m : Mode) :
    b.setEntryMode m = (upFrom 0 8).foldl (Body.setPhaseEntry m) (b.setScalarEntries m) := rfl

/-- What no register's write changes, a mode stored does not change. -/
theorem Body.setEntryMode_keeps {α : Type} (f : Body → α) (hf : ∀ (b : Body) i j v, f (b.setReg i j v) = f b) (b : Body) (m : Mode) :
    f (b.setEntryMode m) = f b := by
  rw [Body.setEntryMode_eq, foldl_keeps f (fun x p => by rw [Body.setPhaseEntry, hf, hf]), Body.setScalarEntries]
  repeat rw [hf]

section
variable {K : Nat → Prop} {b c : Body}

theorem RegsAgree.setPhaseEntries (h : RegsAgree K b c) (m : Mode) (hk : ∀ i ∈ [0x0902, 0x0903], ∀ j, j < 256 → ¬ K (key i j)) :
    RegsAgree K b ((upFrom 0 8).foldl (Body.setPhaseEntry m) c) :=
  h.foldl _ fun _ hx p hp => by
    have := mem_upFrom hp
    exact (hx.setReg 0x0902 (p + 1) (hk _ (by decide) _ (by omega))).setReg 0x0903 (p + 1) (hk _ (by decide) _ (by omega))

theorem RegsAgree.setEntryMode (h : RegsAgree K b c) (m : Mode) (hk : ∀ i ∈ modeIndices, ∀ j, j < 256 → ¬ K (key i j)) :
    RegsAgree K b (c.setEntryMode m) := by
  have hrate := (h.setReg 0x0900 0 (v := m.rate) (hk _ (by decide) _ (by decide))).setReg 0x0901 0 (v := m.phases)
    (hk _ (by decide) _ (by decide))
  have hunit := (hrate.setReg 0x0904 0 (v := m.unit) (hk _ (by decide) _ (by decide))).setReg 0x0905 0 (v := m.gap)
    (hk _ (by decide) _ (by decide))
  have hra := (hunit.setReg 0x0906 0 (v := m.order) (hk _ (by decide) _ (by decide))).setReg 0x0980 0 (v := m.ra)
    (hk _ (by decide) _ (by decide))
  exact hra.setPhaseEntries m fun i hi => hk i (by simp only [List.mem_cons, List.not_mem_nil, or_false] at hi; rcases hi with rfl | rfl <;> decide)

end

theorem Body.reg_setEntryMode (b : Body) (m : Mode) :
    (b.setEntryMode m).reg 0x0900 0 = m.rate ∧ (b.setEntryMode m).reg 0x0901 0 = m.phases ∧
      (b.setEntryMode m).reg 0x0904 0 = m.unit ∧ (b.setEntryMode m).reg 0x0980 0 = m.ra := by
  have hkeep := (RegsAgree.refl (fun k => k / 256 ≠ 0x0902 ∧ k / 256 ≠ 0x0903) (b.setScalarEntries m)).setPhaseEntries m
    (by simp only [List.mem_cons, List.not_mem_nil, or_false, key]; omega)
  rw [Body.setEntryMode_eq, hkeep 0x0900 0 (by decide), hkeep 0x0901 0 (by decide), hkeep 0x0904 0 (by decide), hkeep 0x0980 0 (by decide)]
  simp (disch := decide) only [Body.setScalarEntries, Body.reg_setReg_ne, Body.reg_setReg_same, and_self]

/-- A register that one item's update writes, and no other item's, reads as that item left it. -/
theorem Body.reg_foldl_of_mem {f : Body → Nat → Body} {i j p : Nat} {v : Int} (hset : ∀ x, (f x p).reg i j = v)
    (hne : ∀ x q, q ≠ p → (f x q).reg i j = x.reg i j) (l : List Nat) (b : Body) (h : p ∈ l ∨ b.reg i j = v) :
    (l.foldl f b).reg i j = v := by
  induction l generalizing b with
  | nil => exact h.resolve_left List.not_mem_nil
  | cons q l ih =>
    refine ih (f b q) ?_
    by_cases hq : q = p
    · exact .inr (hq ▸ hset b)
    · rcases h with hmem | hv
      · exact .inl ((List.mem_cons.mp hmem).resolve_left (Ne.symm hq))
      · exact .inr ((hne b q hq).trans hv)

theorem Body.reg_setEntryMode_shift (b : Body) (m : Mode) {p : Nat} (hp : p < 8) :
    (b.setEntryMode m).reg 0x0902 (p + 1) = m.shift.getD p 0 := by
  refine Body.reg_foldl_of_mem (f := Body.setPhaseEntry m) (p := p) (fun x => ?_) (fun x q hq => ?_) _ _ (.inl ?_)
  · rw [Body.setPhaseEntry, Body.reg_setReg_ne _ _ (by unfold key; omega), Body.reg_setReg_same]
  · rw [Body.setPhaseEntry, Body.reg_setReg_ne _ _ (by unfold key; omega), Body.reg_setReg_ne _ _ (by unfold key; omega)]
  · simp [upFrom_eq_range', hp]

theorem Body.shift_argMode (b : Body) {p : Nat} (hp : p < 8) : b.argMode.shift.getD p 0 = b.reg 0x0412 (0x12 + p) := by
  simp [Body.argMode, upFrom_eq_range', List.getD_eq_getElem?_getD, hp]

theorem Body.opBegin_dict (b : Body) (e : Env) (idx slot : Nat) (rods : List Nat) : (b.opBegin e idx slot rods).dict = b.dict := rfl

/-! ## An operation told to the twin (R454) -/

theorem Body.forwardOp_keeps {α : Type} (f : Body → α) (hf : ∀ (b : Body) (e : Env) (m : PairMsg), f (b.pairSend e m) = f b) (b : Body)
    (e : Env) (idx cmd : Nat) : f (b.forwardOp e idx cmd) = f b := by
  unfold Body.forwardOp
  split
  · exact hf ..
  · rfl

@[simp] theorem Body.forwardOp_num (b : Body) (e : Env) (idx cmd : Nat) : (b.forwardOp e idx cmd).num = b.num :=
  b.forwardOp_keeps Body.num Body.pairSend_num e idx cmd
@[simp] theorem Body.forwardOp_mem (b : Body) (e : Env) (idx cmd : Nat) : (b.forwardOp e idx cmd).mem = b.mem :=
  b.forwardOp_keeps Body.mem Body.pairSend_mem e idx cmd
@[simp] theorem Body.forwardOp_dict (b : Body) (e : Env) (idx cmd : Nat) : (b.forwardOp e idx cmd).dict = b.dict :=
  b.forwardOp_keeps Body.dict Body.pairSend_dict e idx cmd
@[simp] theorem Body.forwardOp_seq (b : Body) (e : Env) (idx cmd : Nat) : (b.forwardOp e idx cmd).seq = b.seq :=
  b.forwardOp_keeps Body.seq Body.pairSend_seq e idx cmd

theorem RegsAgree.forwardOp {K : Nat → Prop} {b c : Body} (h : RegsAgree K b c) (e : Env) (idx cmd : Nat) :
    RegsAgree K b (c.forwardOp e idx cmd) := h.of_num (c.forwardOp_num e idx cmd)

end Sys2Proof.Machine

namespace Sys2Proof.Machine

section
variable (s : State) (r : Req) (x : Session)

/-! What is read of the body before a handler runs is read of it when the handler runs: accepting a request changes its session alone. -/

theorem State.follows_accepting : (s.accepting r x).follows = s.b.follows := rfl
theorem State.live_accepting : (s.accepting r x).live = s.b.live := rfl
theorem State.opBusy_accepting (idx : Nat) : (s.accepting r x).opBusy idx = s.b.opBusy idx := rfl
theorem State.mapPending_accepting : (s.accepting r x).mapPending = s.b.mapPending := rfl
theorem State.modeBad_accepting (m : Mode) (ra : Nat) : (s.accepting r x).modeBad m ra = s.b.modeBad m ra := rfl

theorem Body.argMode_congr {b c : Body} (h : c.num = b.num) : c.argMode = b.argMode := by
  simp only [Body.argMode, Body.reg_congr h, Body.regN_congr h]

end

/-- What MODE_SWITCH_START does with a request that is granted. -/
def State.modeStart (s : State) (slot : Nat) (b : Body) : Body × Rsp :=
  if b.follows then (b, wrote stTwin) else modeSwitch s.env s.env.wt (b.regN 0x0981 0) slot b

theorem exec_modeSwitchStart (s : State) (r : Req) :
    exec (.modeSwitchStart r) s = .next { s with b := serveWrite s.env r 0x0412 1 (.n 1) s.modeStart s.b } := rfl

theorem State.modeStart_active {s : State} {slot : Nat} {b : Body} (hf : b.follows = false) :
    s.modeStart slot b = modeSwitch s.env s.env.wt (b.regN 0x0981 0) slot b := by
  rw [State.modeStart, hf]
  rfl

/-! ## `op.mode_switch` outside LIVE (R199)

The arguments become the mode entries at once, and the operation is DONE. -/

/-- The operation begun, the mode of its arguments in the entries. -/
def Body.modeStored (b : Body) (e : Env) (slot : Nat) : Body :=
  ((b.opBegin e 0x0412 slot []).setEntryMode b.argMode).forwardOp e 0x0412 1

/-- What the operation then reports: kind 1, and no first sub-frame, instant or dark interval. -/
def Body.modeReported (b : Body) : Body := (((b.setReg 0x0412 0x27 1).setReg 0x0412 0x28 0).setReg 0x0412 0x29 0).setReg 0x0412 0x2A 0

section
variable {e : Env} {now : Int} {newest slot : Nat} {b : Body}

theorem modeSwitch_idle (hbusy : b.opBusy 0x0412 = false) (hlive : b.live = false) :
    modeSwitch e now newest slot b = ((b.modeStored e slot).modeReported.opEnd e 0x0412 true 0 0, wrote stOK) := by
  simp only [modeSwitch, hbusy, hlive]
  rfl

theorem RegsAgree.modeStored {K : Nat → Prop} (h : ∀ i ∈ 0x0412 :: modeIndices, ∀ j, j < 256 → ¬ K (key i j)) :
    RegsAgree K b (b.modeStored e slot) :=
  (((RegsAgree.refl K b).opBegin e 0x0412 slot [] fun j hj => h _ List.mem_cons_self j (by omega)).setEntryMode _
    fun i hi => h i (List.mem_cons_of_mem _ hi)).forwardOp _ _ _

theorem RegsAgree.modeReported {K : Nat → Prop} {c : Body} (h : RegsAgree K b c) (hk : ∀ j, 0x10 ≤ j → j < 256 → ¬ K (key 0x0412 j)) :
    RegsAgree K b c.modeReported :=
  (((h.setReg 0x0412 0x27 (hk _ (by decide) (by decide))).setReg 0x0412 0x28 (hk _ (by decide) (by decide))).setReg 0x0412 0x29
    (hk _ (by decide) (by decide))).setReg 0x0412 0x2A (hk _ (by decide) (by decide))

theorem Body.modeReported_dict (b : Body) : b.modeReported.dict = b.dict := rfl
theorem Body.modeReported_mem (b : Body) : b.modeReported.mem = b.mem := rfl

theorem Body.reg_modeReported_kind (b : Body) : b.modeReported.reg 0x0412 0x27 = 1 := by
  simp (disch := decide) only [Body.modeReported, Body.reg_setReg_ne, Body.reg_setReg_same]

theorem Body.modeStored_mem : (b.modeStored e slot).mem = b.mem :=
  (Body.forwardOp_mem ..).trans (Body.setEntryMode_keeps Body.mem (fun _ _ _ _ => rfl) _ _)

theorem Body.modeStored_dict : (b.modeStored e slot).dict = b.dict :=
  (Body.forwardOp_dict ..).trans (Body.setEntryMode_keeps Body.dict (fun _ _ _ _ => rfl) _ _)

/-- The operation still runs when its report is written. -/
theorem Body.opState_modeReported : (b.modeStored e slot).modeReported.opState 0x0412 = 1 := by
  have hstored : RegsAgree (· = key 0x0412 2) (b.opBegin e 0x0412 slot []) (b.modeStored e slot) :=
    ((RegsAgree.refl _ _).setEntryMode _ fun i hi j _ => by
      have := modeIndices_above hi
      unfold key
      omega).forwardOp _ _ _
  have hreported := hstored.modeReported (by unfold key; omega)
  exact (hreported.regN rfl).trans (Body.opState_opBegin ..)

/-- The end of the operation leaves the mode entries as they were stored. -/
theorem Body.reg_modeDone {i j : Nat} (hi : i ∈ modeIndices) (hj : j < 256) :
    ((b.modeStored e slot).modeReported.opEnd e 0x0412 true 0 0).reg i j = ((b.opBegin e 0x0412 slot []).setEntryMode b.argMode).reg i j := by
  have habove := modeIndices_above hi
  exact (((RegsAgree.refl (· = key i j) _).forwardOp e 0x0412 1).modeReported (by unfold key; omega)).opEnd e 0x0412 true 0 0
    (by unfold key; omega) (by unfold key; omega) i j rfl

end

/-- A start outside LIVE, as a step. -/
theorem modeSwitchStart_idle {s : State} {r : Req} {x : Session} (hg : Grants s r 0x0412 1 (.n 1) x) (hf : s.b.follows = false)
    (hbusy : s.b.opBusy 0x0412 = false) (hlive : s.b.live = false) :
    ∃ t, exec (.modeSwitchStart r) s = .next t ∧ Answered t r (wrote stOK) ∧ t.b.opState 0x0412 = 4 ∧ t.b.reg 0x0412 0x27 = 1 ∧
      t.b.reg 0x0900 0 = s.b.regN 0x0412 0x10 ∧ t.b.reg 0x0901 0 = s.b.regN 0x0412 0x11 ∧ t.b.reg 0x0904 0 = s.b.regN 0x0412 0x22 ∧
      t.b.reg 0x0980 0 = s.b.regN 0x0412 0x25 ∧ (∀ p, p < 8 → t.b.reg 0x0902 (p + 1) = s.b.reg 0x0412 (0x12 + p)) ∧
      Frame s t [0x0412, 0x0900, 0x0901, 0x0902, 0x0903, 0x0904, 0x0905, 0x0906, 0x0980] := by
  have hstart : s.modeStart (r.sid % 8) (s.accepting r x) =
      (((s.accepting r x).modeStored s.env (r.sid % 8)).modeReported.opEnd s.env 0x0412 true 0 0, wrote stOK) :=
    (State.modeStart_active ((s.follows_accepting r x).trans hf)).trans
      (modeSwitch_idle ((s.opBusy_accepting r x _).trans hbusy) ((s.live_accepting r x).trans hlive))
  have hr := serveWrite_replies hg hstart (Body.isSome_sess_opEnd (s.sess_accepting r x)
    ((Body.modeReported_dict _).trans Body.modeStored_dict) _ _ _ _ _)
  have hentry {i j : Nat} (hi : i ∈ modeIndices) (hj : j < 256) (hk : 0x031000 ≤ key i j) :=
    (hr.reg i j (.inr hk)).trans (Body.reg_modeDone hi hj)
  obtain ⟨hrate, hphases, hunit, hra⟩ := ((s.accepting r x).opBegin s.env 0x0412 (r.sid % 8) []).reg_setEntryMode (s.accepting r x).argMode
  refine ⟨_, exec_modeSwitchStart s r, hr.answered, ?_, ?_, ?_, ?_, ?_, ?_, fun p hp => ?_, hr.frame ?_ ?_⟩
  · exact (hr.regN (.inr (by decide))).trans (Body.opState_opEnd _ _ _ _ (by rw [Body.opState_modeReported]; decide) (by decide))
  · exact (hr.reg _ _ (.inr (by decide))).trans ((Body.reg_opEnd_report _ _ _ _ _ (by decide) (by decide) (by decide)).trans
      (Body.reg_modeReported_kind _))
  · exact (hentry (by decide) (by decide) (by decide)).trans hrate
  · exact (hentry (by decide) (by decide) (by decide)).trans hphases
  · exact (hentry (by decide) (by decide) (by decide)).trans hunit
  · exact (hentry (by decide) (by decide) (by decide)).trans hra
  · exact (hentry (by decide) (by omega) (by unfold key; omega)).trans
      ((Body.reg_setEntryMode_shift _ _ hp).trans ((s.accepting r x).shift_argMode hp))
  · have hstored := (RegsAgree.accepting _ s r x).trans (RegsAgree.modeStored (b := s.accepting r x) (e := s.env) (slot := r.sid % 8)
      fun i hi j hj => not_frameKey_key hi hj)
    exact (hstored.modeReported fun j _ hj => not_frameKey_key (by decide) hj).opEnd _ _ _ _ _
      (fun j hj => not_frameKey_key (by decide) (by omega)) fun _ hk => hk.not_status
  · rw [Body.opEnd_mem, Body.modeReported_mem, Body.modeStored_mem, State.accepting_mem]

/-! ## `op.mode_switch` in LIVE (R199 to R203) -/

/-- A switch in progress, as `mode.state` and the operation report it: seamless or dark, its first sub-frame and that one's emission. -/
def Body.switchBegun (b : Body) (w : Switch) : Body :=
  (((({ b with seq := { b.seq with sw := some w } }.setReg 0x0909 0 (if w.seamless then 1 else 2)).setReg 0x0412 0x27
    (if w.seamless then 2 else 3)).setReg 0x0412 0x28 (w.first.getD 0 : Nat)).setReg 0x0412 0x29 w.newE).setReg 0x0412 0x2A 0

section
variable {b c : Body} (w : Switch)

theorem Body.switchBegun_seq : (b.switchBegun w).seq = { b.seq with sw := some w } := rfl
theorem Body.switchBegun_dict : (b.switchBegun w).dict = b.dict := rfl
theorem Body.switchBegun_mem : (b.switchBegun w).mem = b.mem := rfl

theorem RegsAgree.switchBegun {K : Nat → Prop} (h : RegsAgree K b c) (h0 : ¬ K (key 0x0909 0))
    (hk : ∀ j, 0x10 ≤ j → j < 256 → ¬ K (key 0x0412 j)) : RegsAgree K b (c.switchBegun w) :=
  (((((h.withSeq _).setReg 0x0909 0 h0).setReg 0x0412 0x27 (hk _ (by decide) (by decide))).setReg 0x0412 0x28
    (hk _ (by decide) (by decide))).setReg 0x0412 0x29 (hk _ (by decide) (by decide))).setReg 0x0412 0x2A (hk _ (by decide) (by decide))

theorem Body.reg_switchBegun_state : (b.switchBegun w).reg 0x0909 0 = if w.seamless then 1 else 2 := by
  simp (disch := decide) only [Body.switchBegun, Body.reg_setReg_ne, Body.reg_setReg_same]

end

section
variable {e : Env} {now : Int} {newest slot : Nat} {b : Body}

/-- A mode that passes begins its switch, on the seamless path or on the dark one. -/
theorem modeSwitch_begins (hbusy : b.opBusy 0x0412 = false) (hlive : b.live = true) (hstate : b.regN 0x0909 0 = 0) (hsw : b.seq.sw = none)
    (hmap : b.mapPending = false) (hok : b.modeBad b.argMode (Nat.max b.argMode.ra b.seq.mode.ra) = stOK) :
    ∃ w, modeSwitch e now newest slot b = (((b.forwardOp e 0x0412 1).opBegin e 0x0412 slot []).switchBegun w, wrote stOK) ∧
      w.mode = b.argMode ∧ w.latched = false := by
  have hfree : ¬ (b.regN 0x0909 0 ≠ 0 ∨ b.seq.sw.isSome = true ∨ b.mapPending = true) := by simp [hstate, hsw, hmap]
  simp only [modeSwitch, hbusy, hlive, if_neg hfree, hok]
  by_cases hseamless : ((b.forwardOp e 0x0412 1).opBegin e 0x0412 slot []).isSeamless b.argMode
      (((b.forwardOp e 0x0412 1).opBegin e 0x0412 slot []).boundary b.argMode now) newest = true
  · simp only [hseamless]
    exact ⟨⟨_, _, true, _, _, _, _, _, some _, _, _, _, _⟩, rfl, rfl, rfl⟩
  · simp only [hseamless]
    exact ⟨⟨_, _, false, _, _, _, _, _, some _, _, _, _, _⟩, rfl, rfl, rfl⟩

end

/-- A start in LIVE with a mode that passes, as a step. -/
theorem modeSwitchStart_live {s : State} {r : Req} {x : Session} (hg : Grants s r 0x0412 1 (.n 1) x) (hf : s.b.follows = false)
    (hbusy : s.b.opBusy 0x0412 = false) (hlive : s.b.live = true) (hstate : s.b.regN 0x0909 0 = 0) (hsw : s.b.seq.sw = none)
    (hmap : s.b.mapPending = false) (hok : s.b.modeBad s.b.argMode (Nat.max s.b.argMode.ra s.b.seq.mode.ra) = stOK) :
    ∃ t w, exec (.modeSwitchStart r) s = .next t ∧ Answered t r (wrote stOK) ∧ t.b.opState 0x0412 = 1 ∧ t.b.seq.sw = some w ∧
      w.mode = s.b.argMode ∧ w.latched = false ∧ t.b.reg 0x0909 0 = (if w.seamless then 1 else 2) ∧ t.b.seq.mode = s.b.seq.mode ∧
      Frame s t [0x0412, 0x0909] := by
  have harg : (s.accepting r x).argMode = s.b.argMode := Body.argMode_congr rfl
  obtain ⟨w, hbegins, hmode, hlatched⟩ := modeSwitch_begins (e := s.env) (now := s.env.wt) (newest := (s.accepting r x).regN 0x0981 0)
    (slot := r.sid % 8) (b := s.accepting r x) ((s.opBusy_accepting r x _).trans hbusy) ((s.live_accepting r x).trans hlive)
    ((Body.regN_congr rfl _ _).trans hstate) hsw ((s.mapPending_accepting r x).trans hmap)
    (by rw [harg, State.modeBad_accepting]; exact hok)
  have hstart : s.modeStart (r.sid % 8) (s.accepting r x) =
      ((((s.accepting r x).forwardOp s.env 0x0412 1).opBegin s.env 0x0412 (r.sid % 8) []).switchBegun w, wrote stOK) :=
    (State.modeStart_active ((s.follows_accepting r x).trans hf)).trans hbegins
  have hr := serveWrite_replies hg hstart (Body.isSome_sess_congr (s.sess_accepting r x)
    (by rw [Body.switchBegun_dict, Body.opBegin_dict, Body.forwardOp_dict]))
  have hbegun {K : Nat → Prop} (b : Body) (h0 : ¬ K (key 0x0909 0)) (hk : ∀ j, 0x10 ≤ j → j < 256 → ¬ K (key 0x0412 j)) :=
    (RegsAgree.refl K b).switchBegun w h0 hk
  have hseq := hr.seq
  rw [Body.switchBegun_seq, Body.opBegin_seq, Body.forwardOp_seq] at hseq
  refine ⟨_, w, exec_modeSwitchStart s r, hr.answered, ?_, congrArg Seq.sw hseq, hmode.trans harg, hlatched, ?_,
    (congrArg Seq.mode hseq :), hr.frame ?_ ?_⟩
  · refine (hr.regN (.inr (by decide))).trans (((hbegun (K := (· = key 0x0412 2)) _ (by decide) (by unfold key; omega)).regN rfl).trans ?_)
    exact Body.opState_opBegin ..
  · exact (hr.reg _ _ (.inr (by decide))).trans (Body.reg_switchBegun_state w)
  · exact (((RegsAgree.accepting _ s r x).forwardOp s.env 0x0412 1).opBegin _ _ _ _
      fun j hj => not_frameKey_key (by decide) (by omega)).switchBegun w (not_frameKey_key (by decide) (by decide))
      fun j _ hj => not_frameKey_key (by decide) hj
  · rw [Body.switchBegun_mem, Body.opBegin_mem, Body.forwardOp_mem, State.accepting_mem]

/-! ## A Mode-class entry outside LIVE (R198) -/

theorem modeEntryWrite_stored {s : State} {r : Req} {x : Session} {idx sub : Nat} {v : Int} (hg : Grants s r idx sub (.n v) x)
    (hidx : 0x0900 ≤ idx ∧ idx < 0x0A00 ∨ idx = 0x1400) :
    ∃ t, exec (.modeEntryWrite r idx sub v) s = .next t ∧ Answered t r (wrote stOK) ∧ t.b.reg idx sub = v ∧ Frame s t [idx] := by
  obtain ⟨_, hl⟩ := lookup_of_grants hg
  have hr := serveWrite_replies (h := fun _ => modeEntry idx sub v) (c := (s.accepting r x).setReg idx sub v) hg rfl (s.sess_accepting r x)
  refine ⟨_, rfl, hr.answered, ?_, hr.frame ?_ rfl⟩
  · exact (hr.reg _ _ (.inr (by unfold key; omega))).trans (Body.reg_setReg_same ..)
  · exact (RegsAgree.accepting _ s r x).setReg idx sub (not_frameKey_key List.mem_cons_self (sub_lt_of_lookup hl))

/-- Settles O23: outside LIVE the arguments are stored and the operation ends, in LIVE the switch begins, and an entry's write stores it. -/
theorem modesSwitch : Obligations.ModesSwitch := by
  unfold Obligations.ModesSwitch
  intro s r x
  exact ⟨modeSwitchStart_idle, modeSwitchStart_live, fun idx sub v hg hidx => modeEntryWrite_stored hg hidx⟩

end Sys2Proof.Machine

namespace Sys2Proof.Machine

/-! ## What leaves the sequencer, the device state and an event source (R203, R512)

A dark path sends frames, runs enumerations and raises events; a set in force judges sources and frees overrides. None of it touches the
switch in progress, `dev.state` or `mode.state`, and each raises events of its own alone. -/

/-- `dev.state` and `mode.state`. -/
def SwitchKey (k : Nat) : Prop := k = key 0x010A 0 ∨ k = key 0x0909 0

/-- The sequencer, the two states and source n are in c as in b. -/
structure SparesSwitch (n : Nat) (b c : Body) : Prop where
  seq : c.seq = b.seq
  regs : RegsAgree SwitchKey b c
  source : KeepsSource n b c

theorem SparesSwitch.refl (n : Nat) (b : Body) : SparesSwitch n b b := ⟨rfl, .refl _ b, rfl, rfl⟩

theorem KeepsSource.of_num {n : Nat} {b c : Body} (h : c.num = b.num) : KeepsSource n b c := ⟨Body.regN_congr h _ _, Body.regN_congr h _ _⟩

theorem not_switchKey_above {i j : Nat} (hi : 0x0A00 ≤ i) : ¬ SwitchKey (key i j) := by
  unfold SwitchKey key
  omega

section
variable {n : Nat} {b c d : Body}

/-- An update that writes no register and leaves the sequencer. -/
theorem SparesSwitch.same (h : SparesSwitch n b c) (hnum : d.num = c.num := by rfl) (hseq : d.seq = c.seq := by rfl) : SparesSwitch n b d :=
  ⟨hseq.trans h.seq, h.regs.of_num hnum, h.source.trans (.of_num hnum)⟩

theorem SparesSwitch.ite {p : Prop} [Decidable p] (hc : SparesSwitch n b c) (hd : SparesSwitch n b d) :
    SparesSwitch n b (if p then c else d) := by
  split <;> assumption

theorem SparesSwitch.foldl {α : Type} {f : Body → α → Body} (h : SparesSwitch n b c) (l : List α)
    (hf : ∀ x, SparesSwitch n b x → ∀ a ∈ l, SparesSwitch n b (f x a)) : SparesSwitch n b (l.foldl f c) := List.foldlRecOn l f h hf

theorem SparesSwitch.setReg (h : SparesSwitch n b c) (i j : Nat) {v : Int} (hi : 0x0A00 ≤ i := by decide) (hn : n < 1024 := by decide) :
    SparesSwitch n b (c.setReg i j v) :=
  ⟨h.seq, h.regs.setReg i j (not_switchKey_above hi),
    h.source.trans ((RegsAgree.refl _ c).setReg i j (not_sourceKey_above hn (by omega))).keepsSource⟩

theorem SparesSwitch.raise (h : SparesSwitch n b c) (e : Env) (s det : Nat) (hs : n ≠ s := by omega) (hn : n < 1024 := by decide)
    (h38 : n ≠ 38 := by decide) (h39 : n ≠ 39 := by decide) : SparesSwitch n b (c.raise e s det) :=
  ⟨(Body.raise_seq ..).trans h.seq, h.regs.raise e s det (by unfold SwitchKey key; omega), h.source.raise_ne e det hs hn h38 h39⟩

theorem SparesSwitch.setCause (h : SparesSwitch n b c) (e : Env) (i j bits ev : Nat) (hev : n ≠ ev := by omega) (hi : 0x0A00 ≤ i := by decide)
    (hn : n < 1024 := by decide) (h38 : n ≠ 38 := by decide) (h39 : n ≠ 39 := by decide) : SparesSwitch n b (c.setCause e i j bits ev) := by
  unfold Body.setCause
  exact h.ite ((h.setReg i j hi hn).raise e ev _ hev hn h38 h39)

end

/-! ### DARK and the enumerations of a dark path (R203, R244) -/

section
variable {b c : Body}

theorem SparesSwitch.sendDark (h : SparesSwitch 353 b c) (rod n : Nat) (ed : Int) (tiles : Nat) :
    SparesSwitch 353 b (c.sendDark rod n ed tiles) := SparesSwitch.setReg (h.same (d := (c.send rod _).forgetSets rod)) 0x1104 (rod + 1)

theorem SparesSwitch.startEnum (h : SparesSwitch 353 b c) (e : Env) (n : Nat) (why : EnumWhy) (mode phases : Nat) :
    SparesSwitch 353 b (c.startEnum e n why mode phases) := h.same

theorem SparesSwitch.runEnum (h : SparesSwitch 353 b c) (e : Env) (n : Nat) (why : EnumWhy) (mode phases : Nat) :
    SparesSwitch 353 b (c.runEnum e n why mode phases) := by
  unfold Body.runEnum
  exact h.same.ite ((h.startEnum ..).ite ((h.setReg 0x1202 (n + 1)).setCause e 0x1209 (n + 1) _ (384 + n)))

end

/-! ### Overrides and judged sources, as a device that leaves LIVE meets them (R119, R128, R161, R309) -/

section
variable {b c : Body}

theorem SparesSwitch.addOverride (h : SparesSwitch 0 b c) (e : Env) (lamp flags S : Nat) :
    SparesSwitch 0 b (c.addOverride e lamp flags S) := by
  unfold Body.addOverride
  dsimp only
  split
  · exact SparesSwitch.raise h.same e 341 0
  · exact h.same

theorem SparesSwitch.override (h : SparesSwitch 0 b c) (e : Env) (lamp flags : Nat) : SparesSwitch 0 b (c.override e lamp flags).1 := by
  have hfreed : SparesSwitch 0 b c.freeOverrides := h.same
  unfold Body.override
  dsimp only
  split
  · exact hfreed.raise e 342 0
  · exact hfreed.addOverride e lamp flags _

theorem SparesSwitch.overrideTold (h : SparesSwitch 0 b c) (e : Env) (lamp flags : Nat) :
    SparesSwitch 0 b (c.overrideTold e lamp flags).1 := by
  have hmade := h.override e lamp flags
  unfold Body.overrideTold
  dsimp only
  split
  · exact (hmade.same (by simp) (by simp)).ite hmade
  · exact hmade

theorem faultEvent_ne_zero (short : Bool) : 0 ≠ faultEvent short := by cases short <;> decide

theorem SparesSwitch.retryFaults (h : SparesSwitch 0 b c) (e : Env) : SparesSwitch 0 b (c.retryFaults e) := by
  have hfreed : SparesSwitch 0 b c.freeOverrides := h.same
  have hretried (x : Body) (hx : SparesSwitch 0 b x) (f : PendFault) : SparesSwitch 0 b
      ((Body.overrideTold { x with cor := { x.cor with faults := x.cor.faults.drop 1 } } e f.lamp f.flags).1.raise e (faultEvent f.short) 0) :=
    (hx.same.overrideTold e f.lamp f.flags).raise e _ 0 (faultEvent_ne_zero f.short)
  unfold Body.retryFaults
  exact (hfreed.foldl _ fun x hx f _ => hretried x hx f).ite hfreed

theorem SparesSwitch.judgeSource (h : SparesSwitch 0 b c) (e : Env) (x : Cfg) (named : Bool) (l : Nat) (q : Nat × Nat) :
    SparesSwitch 0 b (c.judgeSource e x named l q) := by
  unfold Body.judgeSource
  extract_lets r old now v b1
  have hmarked : SparesSwitch 0 b b1 := h.same
  exact (hmarked.setCause e 0x0C1B (l + 1) _ (256 + l)).ite ((hmarked.setCause e 0x0C1B (l + 1) _ (256 + l)).ite hmarked)

theorem SparesSwitch.judgeLayer (h : SparesSwitch 0 b c) (e : Env) (set x : Cfg) (l : Nat) : SparesSwitch 0 b (c.judgeLayer e set x l) := by
  unfold Body.judgeLayer
  extract_lets named b1
  have hjudged : SparesSwitch 0 b b1 := h.foldl _ fun _ hx q _ => hx.judgeSource e x named l q
  exact (hjudged.setCause e 0x0C1B (l + 1) _ (256 + l)).ite hjudged

/-- A set that names nothing has its sources judged again, and no more. -/
theorem SparesSwitch.applySet_empty (h : SparesSwitch 0 b c) (e : Env) (S : Nat) : SparesSwitch 0 b (c.applySet e S ⟨[], []⟩) := by
  unfold Body.applySet
  extract_lets c0 b1 b2 b3 x b4
  have hb3 : SparesSwitch 0 b b3 := h.same
  have hjudged : SparesSwitch 0 b b4 := hb3.foldl _ fun _ hx l _ => hx.judgeLayer e _ x l
  split
  · exact hjudged
  · exact hjudged

end

end Sys2Proof.Machine

namespace Sys2Proof.Machine

/-! ## A dark path goes dark (R203, R244, R512) -/

/-- Every rod in service has sent DARK. -/
def Body.darkFrames (b : Body) (w : Switch) : Body :=
  (upFrom 0 192).foldl (fun x n =>
    if x.inService n && x.sendsData w.nL then x.sendDark n (w.nL + 1) w.ed ((x.map?.map (fun m => (m.tilesOf n).length)).getD 0) else x) b

/-- The switch is dark, and event 353 tells of it. -/
def Body.wentDark (b : Body) (e : Env) (w : Switch) : Body :=
  Body.raise { b.darkFrames w with seq := { (b.darkFrames w).seq with sw := some { w with dark := true } } } e 353 0

/-- The rods that a dark path enumerates. -/
def Body.darkRods (b : Body) : List Nat := (upFrom 0 192).filter fun n => b.rodsInUse.contains n || b.carries n

/-- Their enumerations run or wait, with the new mode's phases. -/
def Body.darkEnums (b : Body) (e : Env) (w : Switch) : Body := b.darkRods.foldl (fun x n => x.runEnum e n .dark 1 w.mode.phases) b

/-- The enumeration check of a dark path has begun, and `mode.state` tells of it. -/
def Body.darkChecked (b : Body) (e : Env) (w : Switch) : Body :=
  Body.setReg { b.darkEnums e w with dev := { (b.darkEnums e w).dev with darkRods := b.darkRods } } 0x0909 0 3

section
variable {e : Env} {b : Body} {w : Switch}

theorem darkPathDark_due (hidle : fireDue e 4 b = b) (hsw : b.seq.sw = some w) (hseamless : w.seamless = false) (hdark : w.dark = false)
    (hcd : e.reached w.cd = true) :
    darkPathDark e b = if w.leave then b.wentDark e w else (b.wentDark e w).darkChecked e w := by
  have hdue : ¬ (w.seamless = true ∨ w.dark = true ∨ (!(e.reached w.cd)) = true) := by simp [hseamless, hdark, hcd]
  simp only [darkPathDark, hidle, hsw, if_neg hdue, Body.darkChecked, Body.darkEnums, Body.darkRods, Body.wentDark, Body.darkFrames]

theorem darkPathDark_waits (hidle : fireDue e 4 b = b) (hsw : b.seq.sw = some w)
    (hwait : w.seamless = true ∨ w.dark = true ∨ e.reached w.cd = false) : darkPathDark e b = b := by
  have hnot : w.seamless = true ∨ w.dark = true ∨ (!(e.reached w.cd)) = true := by simpa using hwait
  simp only [darkPathDark, hidle, hsw, if_pos hnot]

variable (b e w)

theorem Body.darkFrames_spares : SparesSwitch 353 b (b.darkFrames w) :=
  (SparesSwitch.refl 353 b).foldl _ fun _ hx n _ => (hx.sendDark n ..).ite hx

theorem Body.darkEnums_spares : SparesSwitch 353 b (b.darkEnums e w) :=
  (SparesSwitch.refl 353 b).foldl _ fun _ hx n _ => hx.runEnum e n .dark 1 w.mode.phases

theorem Body.darkChecked_seq : (b.darkChecked e w).seq = b.seq := (b.darkEnums_spares e w).seq

theorem Body.darkChecked_source : KeepsSource 353 b (b.darkChecked e w) :=
  (b.darkEnums_spares e w).source.trans
    ((RegsAgree.withDev (.refl _ _) _).setReg 0x0909 0 (not_sourceKey_above (by decide) (by decide))).keepsSource

theorem Body.sw_wentDark : (b.wentDark e w).seq.sw = some { w with dark := true } := congrArg Seq.sw (Body.raise_seq ..)

theorem Body.regs_wentDark : RegsAgree SwitchKey b (b.wentDark e w) :=
  ((b.darkFrames_spares w).regs.withSeq _).raise e 353 0 (by unfold SwitchKey key; omega)

variable {b e w}

theorem Body.evStatus_wentDark (hon : bit (b.evCfg 353) 31 = true) : (b.wentDark e w).evStatus 353 = raisedStatus (b.evStatus 353) :=
  ((b.darkFrames_spares w).source.trans (RegsAgree.withSeq (.refl _ _) _).keepsSource).raised e 0 (hc := hon)

end

/-- The dark path at C(N_L + 1), as a step. -/
theorem darkPathDark_next {s : State} {w : Switch} (hidle : NothingDue s) (hsw : s.b.seq.sw = some w) (hseamless : w.seamless = false)
    (hdark : w.dark = false) (hcd : s.env.reached w.cd = true) :
    ∃ t, exec .darkPathDark s = .next t ∧ t.b.seq.sw = some { w with dark := true } ∧ Raised s t 353 ∧
      (w.leave = false → t.b.reg 0x0909 0 = 3) ∧ (w.leave = true → t.b.reg 0x0909 0 = s.b.reg 0x0909 0) ∧ t.clk = s.clk := by
  refine ⟨_, s.act_eq (darkPathDark_due (fireDue_of_nothingDue hidle) hsw hseamless hdark hcd), ?_⟩
  by_cases hleave : w.leave = true
  · simp only [if_pos hleave]
    exact ⟨s.b.sw_wentDark _ w, Body.evStatus_wentDark, fun h => absurd (hleave.symm.trans h) (by decide),
      fun _ => s.b.regs_wentDark _ w _ _ (.inr rfl), trivial⟩
  · simp only [if_neg hleave]
    exact ⟨(congrArg Seq.sw (Body.darkChecked_seq ..)).trans (s.b.sw_wentDark _ w),
      fun hon => (Body.darkChecked_source ..).2.trans (Body.evStatus_wentDark hon), fun _ => Body.reg_setReg_same .., fun h => absurd h hleave,
      trivial⟩

/-! ## Emission resumes (R203, R209) -/

/-- The switch is over, and event 354 tells of it. -/
def Body.resumed (b : Body) (e : Env) : Body := (Body.setReg { b with seq := { b.seq with sw := none } } 0x0909 0 0).raise e 354 0

section
variable {e : Env} {b : Body} {w : Switch}

theorem darkPathResume_due (hsw : b.seq.sw = some w) (hdark : w.dark = true) (hlatched : w.latched = true)
    (hnew : e.reached w.newE = true) : darkPathResume e b = if (b.resumed e).opBusy 0x0412
      then ((b.resumed e).setReg 0x0412 0x2A (w.newE - w.ed)).opEnd e 0x0412 true 0 0 else b.resumed e := by
  simp only [darkPathResume, hsw, if_pos (And.intro hdark (And.intro hlatched hnew))]
  rfl

theorem RegsAgree.resumed {K : Nat → Prop} (h0 : ¬ K (key 0x0909 0)) (hK : ∀ k, K k → k < 0x030800 ∨ 0x031000 ≤ k) :
    RegsAgree K b (b.resumed e) :=
  (((RegsAgree.refl K b).withSeq _).setReg 0x0909 0 h0).raise e 354 0 hK

theorem Body.reg_resumed_state : (b.resumed e).reg 0x0909 0 = 0 :=
  (Body.reg_raise _ _ _ _ (.inr (by decide))).trans (Body.reg_setReg_same ..)

theorem Body.evStatus_resumed (hon : bit (b.evCfg 354) 31 = true) : (b.resumed e).evStatus 354 = raisedStatus (b.evStatus 354) :=
  (((RegsAgree.refl _ b).withSeq _).setReg 0x0909 0 (not_sourceKey_above (by decide) (by decide))).raised e 0 (hc := hon)

theorem Body.opState_resumed : (b.resumed e).opState 0x0412 = b.opState 0x0412 :=
  (RegsAgree.resumed (K := (· = key 0x0412 2)) (by decide) (by unfold key; omega)).regN rfl

end

/-- The end of a dark path, as a step: with `op.mode_switch` running it ends DONE and its dark interval is recorded. -/
theorem darkPathResume_next {s : State} {w : Switch} (hsw : s.b.seq.sw = some w) (hdark : w.dark = true) (hlatched : w.latched = true)
    (hnew : s.env.reached w.newE = true) :
    ∃ t, exec .darkPathResume s = .next t ∧ t.b.seq.sw = none ∧ t.b.reg 0x0909 0 = 0 ∧ Raised s t 354 ∧
      (s.b.opState 0x0412 = 1 → t.b.reg 0x0412 0x2A = w.newE - w.ed ∧ t.b.opState 0x0412 = 4) ∧
      (s.b.opBusy 0x0412 = false → t.b.reg 0x0412 0x2A = s.b.reg 0x0412 0x2A) ∧ Frame s t [0x0909, 0x0412] := by
  have hkept := RegsAgree.resumed (b := s.b) (e := s.env) (not_frameKey_key (i := 0x0909) (j := 0) (changed := [0x0909, 0x0412])
    (by decide) (by decide)) fun _ hk => hk.not_status
  have hseq : (s.b.resumed s.env).seq.sw = none := congrArg Seq.sw (Body.raise_seq ..)
  have hbusy : (s.b.resumed s.env).opBusy 0x0412 = s.b.opBusy 0x0412 := by rw [Body.opBusy, Body.opState_resumed, Body.opBusy]
  refine ⟨_, s.act_eq (darkPathResume_due hsw hdark hlatched hnew), ?_⟩
  rw [hbusy]
  by_cases hrun : s.b.opBusy 0x0412 = true
  · simp only [if_pos hrun]
    refine ⟨?_, ?_, fun hon => ?_, fun hstate => ⟨?_, ?_⟩, fun h => absurd (hrun.symm.trans h) (by decide), frame_of_regsAgree ?_ ?_⟩
    · rw [Body.opEnd_seq, Body.setReg_seq, hseq]
    · refine Eq.trans ?_ (Body.reg_resumed_state (b := s.b) (e := s.env))
      exact ((RegsAgree.refl (· = key 0x0909 0) _).setReg 0x0412 0x2A (by decide)).opEnd _ _ _ _ _ (by unfold key; omega)
        (by unfold key; omega) _ _ rfl
    · refine (Body.evStatus_opEnd_above _ _ _ _ _ (by decide) (by decide)).trans (Eq.trans ?_ (Body.evStatus_resumed (e := s.env) hon))
      exact ((RegsAgree.refl (SourceKey 354) _).setReg 0x0412 0x2A (not_sourceKey_above (by decide) (by decide))).keepsSource.2
    · exact (Body.reg_opEnd_report _ _ _ _ _ (by decide) (by decide) (by decide)).trans (Body.reg_setReg_same ..)
    · refine Body.opState_opEnd _ _ _ _ ?_ (by decide)
      rw [Body.opState, Body.regN_setReg_sub _ _ _ (by decide), ← Body.opState, Body.opState_resumed, hstate]
      decide
    · exact (hkept.setReg 0x0412 0x2A (not_frameKey_key (by decide) (by decide))).opEnd _ _ _ _ _
        (fun j hj => not_frameKey_key (by decide) (by omega)) fun _ hk => hk.not_status
    · rw [Body.opEnd_mem, Body.setReg_mem]
      exact Body.raise_mem ..
  · simp only [if_neg hrun]
    refine ⟨hseq, Body.reg_resumed_state, Body.evStatus_resumed, fun hstate => ?_, fun _ => ?_, frame_of_regsAgree hkept (Body.raise_mem ..)⟩
    · exact absurd (by rw [Body.opBusy, hstate]; rfl) hrun
    · exact RegsAgree.resumed (K := (· = key 0x0412 0x2A)) (by decide) (by unfold key; omega) _ _ rfl

/-! ## The device leaves LIVE (R144, R512) -/

/-- WARM entered, with no switch, no latch to come and nothing armed. -/
def Body.leftLive (b : Body) (e : Env) : Body :=
  Body.enter { b with seq := { b.seq with sw := none, next := none, early := [] }, lay := { b.lay with armed := ⟨[], []⟩ } } e devWarm

section
variable {e : Env} {b : Body} {w : Switch}

theorem liveExitDark_due (hidle : fireDue e 4 b = b) (hsw : b.seq.sw = some w) (hleave : w.leave = true) (hdark : w.dark = true)
    (hed : e.reached w.ed = true) : liveExitDark e b = ((b.leftLive e).applySet e 0 b.lay.armed).retryFaults e := by
  simp only [liveExitDark, hidle, hsw, if_pos (And.intro hleave (And.intro hdark hed))]
  rfl

theorem Body.leftLive_seq : (b.leftLive e).seq = { b.seq with sw := none, next := none, early := [] } := Body.enter_seq ..

/-- A state entered raises event 0. -/
theorem Body.evStatus_enter (b : Body) (e : Env) (st : Nat) (hon : bit (b.evCfg 0) 31 = true) :
    (b.enter e st).evStatus 0 = raisedStatus (b.evStatus 0) :=
  (((RegsAgree.refl (SourceKey 0) b).setReg 0x010A 0 (by unfold SourceKey; decide)).setReg 0x010C 0 (by unfold SourceKey; decide)).raised e st
    (hc := hon)

end

theorem liveExitDark_next {s : State} {w : Switch} (hidle : NothingDue s) (hsw : s.b.seq.sw = some w) (hleave : w.leave = true)
    (hdark : w.dark = true) (hed : s.env.reached w.ed = true) (harmed : s.b.lay.armed = ⟨[], []⟩) :
    ∃ t, exec .liveExitDark s = .next t ∧ t.b.seq.sw = none ∧ t.b.seq.next = none ∧ t.b.devState = devWarm ∧ Raised s t 0 ∧
      t.clk = s.clk := by
  have hspares := ((SparesSwitch.refl 0 (s.b.leftLive s.env)).applySet_empty s.env 0).retryFaults s.env
  have hexit := liveExitDark_due (fireDue_of_nothingDue hidle) hsw hleave hdark hed
  rw [harmed] at hexit
  generalize ((s.b.leftLive s.env).applySet s.env 0 ⟨[], []⟩).retryFaults s.env = c at hexit hspares
  have hseq := hspares.seq.trans Body.leftLive_seq
  refine ⟨_, s.act_eq hexit, congrArg Seq.sw hseq, congrArg Seq.next hseq, ?_, fun hon => ?_, rfl⟩
  · exact (hspares.regs.regN (.inl rfl)).trans (Body.devState_enter ..)
  · exact hspares.source.2.trans (Body.evStatus_enter _ _ _ hon)

/-- Settles O24: a dark path goes dark, waits or resumes as its switch says, and one that leaves LIVE ends in WARM. -/
theorem darkPathsRun : Obligations.DarkPathsRun := by
  unfold Obligations.DarkPathsRun
  intro s w hidle hsw
  exact ⟨darkPathDark_next hidle hsw, fun hwait => s.act_eq (darkPathDark_waits (fireDue_of_nothingDue hidle) hsw hwait),
    darkPathResume_next hsw, liveExitDark_next hidle hsw⟩

end Sys2Proof.Machine

namespace Sys2Proof.Machine

/-! ## A frame that freezes its layer where a retire is due (R52, R194, R195, R315) -/

/-- The first byte of the dose record of lamp 0 of rod 0 (R313). -/
def firstDoseByte : Nat := Body.reset.doseAddr 0 0

/-- A line of two pixels in 4:2:2. -/
def twoPixels : List (List (List Nat)) := [[[64, 128, 128], [65]]]

/-- LIVE, with the confirm point of sub-frame 0 come: its map has one tile, of one lamp, whose dose is not zero and waits to be reset, and a
sampled sub-frame resets it as it retires. The freeze watch of layer 0 is on, with the action to hold; its source, number 0 of `kind`, has
brought two equal frames, and a third freezes it. -/
def freezingAtRetire (kind : Nat) : Body :=
  let sub : Sub :=
    { n := 0, mode := Mode.reset, e := 0, c := 0, i := 0, cfg := ⟨[], []⟩, crc := 0, gen := 0, corrGen := 0, mapGen := 0, decs := [],
      groups := [], use := [], epochs := [], charged := 0, recomps := 0, admitted := 0, picked := false, retired := false, votes := [],
      starved := false, held := [], decCount := 0, open1 := [], absent := [], slews := [], setSent := false, await := [] }
  let b := (((Body.reset.setReg 0x010A 0 6).setReg 0x0C14 1 1).setReg 0x1121 1 1).setReg 0x0C01 1 (kind : Nat)
  { b with
    mem := [(firstDoseByte, 1)]
    beads := { b.beads with subs := [sub] }
    cor := { b.cor with maps := [(0, ⟨0, 1, 1, 1, [(0, [⟨0, 0, 1, 1, 0, 12, 0, 1, 1, 1, 1, 0, [], 0⟩])]⟩)] }
    tiles := [(0, { Tile.reset with resetDose := true })]
    lay := { b.lay with freezeRun := [(0, ⟨2, kind, 0, frameSig twoPixels, 0⟩)] } }

/-- Flow 0 brings such frames on port 0. The third is in buffer 1, and lacks its last packet. -/
def awaitingLastPacket : State :=
  let b := (((((((freezingAtRetire 1).setReg 0x0A00 1 1).setReg 0x0A1E 1 1).setReg 0x0A10 1 1).setReg 0x0A11 1 0xF0).setReg 0x0A16 1
    (5000 * 65536)).setReg 0x0A17 1 96).setReg 0x0A18 1 (2 * 2 ^ 48 + 2 ^ 32 + 10 * 2 ^ 16)
  let buf : FrameBuf :=
    { kind := 1, num := 0, w := 2, h := 1, alpha := false, fmt := ⟨0, 10, 0, 0, 0, false⟩, px := [], count := 0, pt := 1, rank := 0,
      done := none, sig := 0, concealed := false, ofKind := 0, ofNum := 0, geom := [], dying := false, late := false }
  ⟨Clock.reset,
    { b.setStr 0x0A12 1 (ascii "239.1.1.1") with
      lay := { b.lay with bufs := [(1, buf)], bufCtr := 1 }
      media := { b.media with rx := [(0, ⟨[⟨2 ^ 32, 0, 100, false, false⟩], 0,
        [⟨100, 1, 0, 1, 2 ^ 32, 2 ^ 32, 0, none, none, [], 0, false⟩], [], [0], [false], none⟩)] } }, []⟩

/-- The last packet, with the pixels and the marker. -/
def lastPacket : RtpPacket :=
  ⟨[239, 1, 1, 1], [10, 0, 0, 2], 5000, 96, 1, 100, true, [(0, 0, [[64, 128, 128], [65]])], true, false, false, []⟩

/-- Refutes O48: the clause of a packet that its flow keeps asks nothing of what the packet completes. Here it completes a frame that freezes a
layer; the commit that carries out the action follows the retire that is due (R52), and the retire zeroes the dose record of a tile (R315). -/
theorem not_portsTakeFrames : ¬ Obligations.PortsTakeFrames := by
  unfold Obligations.PortsTakeFrames
  intro h
  obtain ⟨-, -, -, -, -, -, -, -, -, -, -, -, hkept⟩ := h awaitingLastPacket 0 .good (by decide)
  obtain ⟨t, y, ht, -, -, hmem, -⟩ := hkept lastPacket 0 0 0 _ (2 ^ 32 + 1) (by decide +kernel) (by decide) (by decide +kernel) rfl
    (by decide +kernel) (.inl (by decide +kernel)) (by decide +kernel) (by decide +kernel) (by decide +kernel)
  cases ht
  exact absurd (hmem firstDoseByte) (by decide +kernel)

/-- Stream 0 has an access unit complete: the third of its equal pictures, which is output as soon as it is decoded. -/
def awaitingPicture : State :=
  let b := (freezingAtRetire 2).setReg 0x0B04 1 2
  ⟨Clock.reset,
    { b with media := { b.media with streams :=
        [(0, ⟨0, 0, 0, 16, 8, 1, 0, 0, [⟨100, 1, 1, 1, true, 10, 0, none⟩], [], none, false, false, none⟩)] } }, []⟩

/-- That picture as decode engine 0 ends it. -/
def thirdPicture : Picture :=
  { stream := 0, poc := 0, irap := true, rasl := false, width := 2, height := 1, profile := 1, needDpb := 1, level := 30, fieldCoded := false,
    packed := false, vuiKnown := true, vui := 0, depth := 8, ctb := 16, missing := [], syntaxError := false, outFlag := true, fresh := false,
    noPrior := false, reorder := 0, latency := none, stShort := [], stLong := [], planes := [[64, 65], [128], [128]], chroma := 1, check := .good }

/-- Refutes O50: the clause of a picture that ends asks nothing of what its output brings about. Here it freezes a layer, and the commit that
carries out the action follows a retire that zeroes a dose record. -/
theorem not_streamsAndEncodersRun : ¬ Obligations.StreamsAndEncodersRun := by
  unfold Obligations.StreamsAndEncodersRun
  intro h
  obtain ⟨-, -, hdecoded, -⟩ := h awaitingPicture unusedRequest unusedSession 0
  obtain ⟨t, z, q, ht, -, -, -, -, -, -, hmem, -⟩ := hdecoded 0 thirdPicture _ _ _ (by decide +kernel) (by decide) rfl rfl rfl (by decide)
    (by decide +kernel) (by decide +kernel) (by decide)
  cases ht
  exact absurd (hmem firstDoseByte) (by decide +kernel)

end Sys2Proof.Machine

namespace Sys2Proof.Machine

/-! ## Cause bits (R360) -/

theorem bit_eq_testBit (v i : Nat) : bit v i = v.testBit i := by
  rw [Nat.testBit_eq_decide_div_mod_eq, bit]
  rfl

theorem bit_lor_two_pow (v i : Nat) : bit (Nat.lor v (2 ^ i)) i = true := by
  rw [bit_eq_testBit]
  exact (Nat.testBit_or ..).trans (by rw [Nat.testBit_two_pow_self, Bool.or_true])

theorem bit_lor_of_left {v i : Nat} (w : Nat) (h : bit v i = true) : bit (Nat.lor v w) i = true := by
  rw [bit_eq_testBit] at *
  exact (Nat.testBit_or ..).trans (by rw [h, Bool.true_or])

/-- A cause entry holds, once bits of it are set, those bits beside what it held. -/
theorem Body.regN_setCause_same (b : Body) (e : Env) {i j : Nat} (bits ev : Nat) (hi : 0x0310 ≤ i := by decide) :
    (b.setCause e i j bits ev).regN i j = Nat.lor (b.regN i j) bits := by
  simp only [Body.setCause]
  split
  · next h => exact h.symm
  · rw [Body.regN_raise _ _ _ _ (.inr (by unfold key; omega)), Body.regN_setReg_same]

/-! ## Updates beside memory (R404)

`Spares K b c` says that c has the memory of b, its registers with keys in K, its open sessions, and all that had left it. -/

structure Spares (K : Nat → Prop) (b c : Body) : Prop where
  regs : RegsAgree K b c
  mem : c.mem = b.mem
  sess : ∀ n, (b.sess? n).isSome = true → (c.sess? n).isSome = true
  out : b.out ⊆ c.out

section
variable {K : Nat → Prop} {b c d : Body}

theorem Spares.refl (K : Nat → Prop) (b : Body) : Spares K b b := ⟨RegsAgree.refl K b, rfl, fun _ h => h, List.Subset.refl _⟩

theorem Spares.trans (h : Spares K b c) (k : Spares K c d) : Spares K b d :=
  ⟨h.regs.trans k.regs, k.mem.trans h.mem, fun n hn => k.sess n (h.sess n hn), List.Subset.trans h.out k.out⟩

theorem Spares.ite {p : Prop} [Decidable p] (hc : Spares K b c) (hd : Spares K b d) : Spares K b (if p then c else d) := by
  split <;> assumption

theorem Spares.foldl {α : Type} {g : Body → α → Body} (h : Spares K b c) (l : List α)
    (hg : ∀ x, Spares K b x → ∀ a ∈ l, Spares K b (g x a)) : Spares K b (l.foldl g c) :=
  List.foldlRecOn l g h hg

/-- What an update does to other parts of the body does not matter. -/
theorem Spares.same (h : Spares K b c) (hnum : d.num = c.num) (hmem : d.mem = c.mem) (hdict : d.dict = c.dict) (hout : d.out = c.out) :
    Spares K b d :=
  ⟨h.regs.of_num hnum, hmem.trans h.mem, fun n hn => Body.isSome_sess_congr (h.sess n hn) hdict, fun _ ho => hout ▸ h.out ho⟩

theorem Spares.withMedia (h : Spares K b c) (m : Media) : Spares K b { c with media := m } := h.same rfl rfl rfl rfl

theorem Spares.setReg (h : Spares K b c) (i j : Nat) {v : Int} (hk : ¬ K (key i j)) : Spares K b (c.setReg i j v) :=
  ⟨h.regs.setReg i j hk, h.mem, h.sess, h.out⟩

theorem Spares.bump (h : Spares K b c) (i j n : Nat) (hk : ¬ K (key i j)) : Spares K b (c.bump i j n) := h.setReg i j hk

theorem Spares.raise (h : Spares K b c) (e : Env) (s det : Nat) (hK : ∀ k, K k → k < 0x030800 ∨ 0x031000 ≤ k) :
    Spares K b (c.raise e s det) where
  regs := h.regs.raise e s det hK
  mem := (c.raise_mem e s det).trans h.mem
  sess n hn := Body.isSome_sess_raise (h.sess n hn) rfl e s det
  out o ho := by
    obtain ⟨l, hl⟩ := (c.raise_quiet e s det).out
    rw [hl]
    exact List.mem_append_left l (h.out ho)

theorem Spares.setCause (h : Spares K b c) (e : Env) (i j bits ev : Nat) (hk : ¬ K (key i j))
    (hK : ∀ k, K k → k < 0x030800 ∨ 0x031000 ≤ k) : Spares K b (c.setCause e i j bits ev) := by
  unfold Body.setCause
  exact h.ite ((h.setReg i j hk).raise e ev _ hK)

/-- Buffers freed or marked for release: a premature request is counted, and told to the layers on them (R139). -/
theorem Spares.releaseAll (h : Spares K b c) (e : Env) (ids : List Nat) (hk : ∀ i ∈ [0x0C1B, 0x0C5B], ∀ j, j < 256 → ¬ K (key i j))
    (hK : ∀ k, K k → k < 0x030800 ∨ 0x031000 ≤ k) : Spares K b (c.releaseAll e ids) := by
  unfold Body.releaseAll
  extract_lets busy stay told left lay b1
  have hmarked : Spares K b b1 := h.same rfl rfl rfl rfl
  refine hmarked.ite ((hmarked.bump 0x0C5B 0 1 (hk _ (by decide) _ (by decide))).foldl told fun x hx l hl => ?_)
  have hl31 := mem_upFrom (List.mem_filter.mp hl).1
  exact hx.setCause e _ _ _ _ (hk _ (by decide) _ (by omega)) hK

theorem Body.releaseAll_media (b : Body) (e : Env) (ids : List Nat) : (b.releaseAll e ids).media = b.media := by
  unfold Body.releaseAll
  extract_lets busy stay told left lay b1
  split
  · rfl
  · exact List.foldlRecOn (motive := fun x : Body => x.media = b.media) told _ rfl fun x hx l _ => (Body.setCause_media ..).trans hx

/-- A command on the body alone that writes no entry but those of `changed`, and no memory. -/
theorem Spares.frame {s : State} {changed : List Nat} (h : Spares (FrameKey changed) s.b c) : Frame s { s with b := c } changed :=
  frame_of_regsAgree h.regs h.mem

end

/-! ## The media unit across the answer to a request (R410) -/

/-- A reply that leaves the media unit as it was, and sends what it sends behind what had left. -/
structure RepliesAfter (c t : Body) (r : Req) (rsp : Rsp) : Prop extends Replies c t r rsp where
  media : t.media = c.media
  out : c.out ⊆ t.out

theorem Body.answer_repliesAfter {c : Body} {r : Req} {y : Session} (e : Env) (m : Bytes) (rsp : Rsp) (hs : c.sess? (r.sid % 8) = some y) :
    RepliesAfter c (c.answer e (r.sid % 8) r.seq m rsp) r rsp :=
  { Body.answer_replies e m rsp hs with
    media := by simp
    out := by
      obtain ⟨mb, hquiet⟩ := Body.answer_quiet e r.seq m rsp hs
      obtain ⟨l, hl⟩ := hquiet.out
      rw [hl]
      exact List.subset_append_left c.out l }

theorem Body.pairSend_out_subset (b : Body) (e : Env) (m : PairMsg) : b.out ⊆ (b.pairSend e m).out := by
  unfold Body.pairSend
  split
  · exact List.subset_append_left b.out _
  · exact List.Subset.refl _

theorem Body.forwardWrite_out_subset (b : Body) (e : Env) (idx sub : Nat) (v : WireVal) : b.out ⊆ (b.forwardWrite e idx sub v).out := by
  unfold Body.forwardWrite
  split
  · exact List.Subset.refl _
  · split
    · exact List.foldlRecOn (motive := fun x : Body => b.out ⊆ x.out) _ _ (List.Subset.refl _) fun x hx m _ =>
        List.Subset.trans hx (x.pairSend_out_subset e _)
    · exact List.Subset.refl _

/-- A granted write served by a handler that answers OK. -/
theorem serveWrite_repliesAfter {s : State} {r : Req} {idx sub : Nat} {v : WireVal} {x : Session} {h : Nat → Body → Body × Rsp} {c : Body}
    (hg : Grants s r idx sub v x) (hh : h (r.sid % 8) (s.accepting r x) = (c, wrote stOK)) (hs : (c.sess? (r.sid % 8)).isSome = true) :
    RepliesAfter c (serveWrite s.env r idx sub v h s.b) r (wrote stOK) := by
  obtain ⟨y, hy⟩ := Option.isSome_iff_exists.mp hs
  have hforward : (c.forwardWrite s.env idx sub v).sess? (r.sid % 8) = some y := by
    rw [Body.sess?, Body.forwardWrite_dict]
    exact hy
  have hreplies := serveWrite_replies hg hh hs
  obtain ⟨htakes, hcheck⟩ := hg
  rw [serveWrite_granted s.env h htakes hcheck] at hreplies ⊢
  unfold State.accepting at hh
  simp only [hh] at hreplies ⊢
  have hafter := Body.answer_repliesAfter s.env (idpMsg 0x12 r.sid r.seq r.rsv (writeBody idx sub (tyOf idx sub) v)) (wrote stOK) hforward
  exact { hreplies with
    media := hafter.media.trans (Body.forwardWrite_media ..)
    out := List.Subset.trans (c.forwardWrite_out_subset s.env idx sub v) hafter.out }

/-- The frame of a granted write, by that of its handler. -/
theorem RepliesAfter.frame_of_spares {s : State} {r : Req} {x : Session} {c t : Body} {rsp : Rsp} {changed : List Nat}
    (h : RepliesAfter c t r rsp) (hc : Spares (FrameKey changed) (s.accepting r x) c) : Frame s { s with b := t } changed :=
  h.frame ((RegsAgree.accepting _ s r x).trans hc.regs) (hc.mem.trans (s.accepting_mem r x))

end Sys2Proof.Machine

namespace Sys2Proof.Machine

/-! ## Membership reports (R338)

A report leaves the body as it is but for what has left; a change of mode, as it is noticed, changes three parts of the media unit. -/

/-- c is b after it has sent. -/
def Sends (b c : Body) : Prop := ∃ o, b.out ⊆ o ∧ c = { b with out := o }

section
variable {b c d : Body} {e : Env}

theorem Sends.refl (b : Body) : Sends b b := ⟨_, List.Subset.refl _, rfl⟩

theorem Sends.trans (h : Sends b c) (k : Sends c d) : Sends b d := by
  obtain ⟨o, ho, rfl⟩ := h
  obtain ⟨q, hq, rfl⟩ := k
  exact ⟨q, List.Subset.trans ho hq, rfl⟩

theorem Sends.out (h : Sends b c) : b.out ⊆ c.out := by
  obtain ⟨o, ho, rfl⟩ := h
  exact ho

theorem Sends.media (h : Sends b c) : c.media = b.media := by
  obtain ⟨o, -, rfl⟩ := h
  rfl

theorem Sends.spares (h : Sends b c) (K : Nat → Prop) : Spares K b c := by
  obtain ⟨o, ho, rfl⟩ := h
  exact ⟨(RegsAgree.refl K b).of_num rfl, rfl, fun _ hn => hn, ho⟩

theorem Sends.version (h : Sends b c) (e : Env) (p : Nat) (v6 : Bool) : c.version e p v6 = b.version e p v6 := by
  obtain ⟨o, -, rfl⟩ := h
  rfl

theorem Sends.portUp (h : Sends b c) (p : Nat) : c.portUp p = b.portUp p := by
  obtain ⟨o, -, rfl⟩ := h
  rfl

theorem Sends.foldl {α : Type} {g : Body → α → Body} (hg : ∀ x a, Sends x (g x a)) (l : List α) (b : Body) : Sends b (l.foldl g b) :=
  List.foldlRecOn (motive := Sends b) l g (Sends.refl b) fun x hx a _ => hx.trans (hg x a)

/-- What one of a list of sends sends has left after them all. -/
theorem Sends.mem_foldl {α : Type} {g : Body → α → Body} (hg : ∀ x a, Sends x (g x a)) {l : List α} {a : α} (ha : a ∈ l) (b : Body) {o : Out}
    (ho : ∀ x, Sends b x → o ∈ (g x a).out) : o ∈ (l.foldl g b).out := by
  obtain ⟨l1, l2, rfl⟩ := List.append_of_mem ha
  rw [List.foldl_append, List.foldl_cons]
  exact (Sends.foldl hg l2 _).out (ho _ (Sends.foldl hg l1 b))

theorem Body.report_sends (b : Body) (e : Env) (p kind : Nat) (group : Bytes) (srcs : List Bytes) : Sends b (b.report e p kind group srcs) := by
  unfold Body.report
  dsimp only
  split
  · exact ⟨_, List.subset_append_left _ _, rfl⟩
  · exact Sends.refl b

/-- The sources a report on port p names: none but in the newest version. -/
def Body.namedSources (b : Body) (e : Env) (p : Nat) (v6 : Bool) (srcs : List Bytes) : List Bytes :=
  if b.version e p v6 = newestVersion v6 then srcs else []

/-- A report leaves an up port, but for a leave in IGMPv1, after other sends too. -/
theorem Sends.report_mem {p kind : Nat} {group : Bytes} (h : Sends b c) (srcs : List Bytes) (hup : b.portUp p = true)
    (hleave : kind ≠ 3 ∨ group.length = 16 ∨ b.version e p (group.length == 16) ≠ 1) :
    Out.report p (group.length == 16) (b.version e p (group.length == 16)) kind group (b.namedSources e p (group.length == 16) srcs) ∈
      (c.report e p kind group srcs).out := by
  have hsent : (b.portUp p && !(kind == 3 && b.version e p (group.length == 16) == 1 && !(group.length == 16))) = true := by
    rw [hup]
    rcases hleave with h | h | h <;> simp [h]
  unfold Body.report Body.namedSources
  dsimp only
  rw [h.portUp, h.version, if_pos hsent]
  exact List.mem_append_right _ (List.mem_singleton.mpr rfl)

theorem Body.reportLeg_sends (b : Body) (e : Env) (l : Leg) : Sends b (b.reportLeg e l) := by
  unfold Body.reportLeg
  split
  · exact b.report_sends ..
  · exact Sends.refl b

theorem Sends.reportLeg_mem {l : Leg} (h : Sends b c) (hgroup : isMulticast l.dst = true) (hup : b.portUp l.port = true) :
    Out.report l.port (l.dst.length == 16) (b.version e l.port (l.dst.length == 16)) (if l.src = [] then 2 else 1) l.dst
      (b.namedSources e l.port (l.dst.length == 16) (if l.src = [] then [] else [l.src])) ∈ (c.reportLeg e l).out := by
  unfold Body.reportLeg
  rw [if_pos hgroup]
  exact h.report_mem _ hup (.inl (by split <;> decide))

theorem Body.answerGroup_sends (b : Body) (e : Env) (p : Nat) (sources : List Bytes) (group : Bytes) :
    Sends b (b.answerGroup e p sources group) := by
  unfold Body.answerGroup
  dsimp only
  generalize (if b.compat e p (group.length == 16) then [] else sources) = asked
  split
  · exact b.report_sends ..
  · exact b.report_sends ..
  · exact Sends.refl b
  · exact b.report_sends ..
  · split
    · exact Sends.refl b
    · exact b.report_sends ..

end

/-- c is b after changes of mode were noticed: receivers stay, and all beside the media unit. -/
def NotesModes (b c : Body) : Prop := ∃ m : Media, m.rx = b.media.rx ∧ c = { b with media := m }

section
variable {b c d : Body}

theorem NotesModes.refl (b : Body) : NotesModes b b := ⟨b.media, rfl, rfl⟩

theorem NotesModes.trans (h : NotesModes b c) (k : NotesModes c d) : NotesModes b d := by
  obtain ⟨m, hm, rfl⟩ := h
  obtain ⟨n, hn, rfl⟩ := k
  exact ⟨n, hn.trans hm, rfl⟩

theorem NotesModes.rx (h : NotesModes b c) (f : Nat) : c.rx? f = b.rx? f := by
  obtain ⟨m, hm, rfl⟩ := h
  exact congrArg (mfind f) hm

theorem NotesModes.spares (h : NotesModes b c) (K : Nat → Prop) : Spares K b c := by
  obtain ⟨m, -, rfl⟩ := h
  exact (Spares.refl K b).same rfl rfl rfl rfl

theorem Body.noteMode_notesModes (b : Body) (e : Env) (p : Nat) (v6 : Bool) : NotesModes b (b.noteMode e p v6) := by
  unfold Body.noteMode
  dsimp only
  split
  · exact NotesModes.refl b
  · refine ⟨_, ?_, rfl⟩
    rfl

/-- Either no change of mode is noticed, or no answer is owed on the port any more. -/
theorem Body.noteMode_eq_or_query_none (b : Body) (e : Env) (p : Nat) (v6 : Bool) (group : Bytes) :
    b.noteMode e p v6 = b ∨ (b.noteMode e p v6).query? p v6 group = none := by
  unfold Body.noteMode
  dsimp only
  split
  · exact .inl rfl
  · refine .inr (List.find?_eq_none.mpr fun q hq hmatch => ?_)
    have hother := (List.mem_filter.mp hq).2
    simp_all

end

/-- Each leg of flow f acts on its port, which notices a change of mode there. -/
def Body.noteLegs (b : Body) (e : Env) (f : Nat) (c : Body) : Body :=
  (b.legs f).foldl (fun x l => x.noteMode e l.port (l.dst.length == 16)) c

theorem Body.noteLegs_notesModes (b : Body) (e : Env) (f : Nat) (c : Body) : NotesModes c (b.noteLegs e f c) :=
  List.foldlRecOn (motive := NotesModes c) _ _ (NotesModes.refl c) fun x hx _ _ => hx.trans (x.noteMode_notesModes e _ _)

theorem Body.noteLegs_of_unchanged {b : Body} {e : Env} {f : Nat} (h : ∀ l ∈ b.legs f, b.noteMode e l.port (l.dst.length == 16) = b) :
    b.noteLegs e f b = b :=
  List.foldlRecOn (motive := fun x => x = b) _ _ rfl fun x hx l hl => by rw [hx, h l hl]

/-! ## Admission (R336, R337) -/

theorem Body.setRates_keeps {α : Type} (g : Body → α) (hg : ∀ (b : Body) (i j : Nat) (v : Int), g (b.setReg i j v) = g b) (b : Body) :
    g b.setRates = g b :=
  (hg ..).trans (List.foldlRecOn (motive := fun x => g x = g b) _ _ rfl fun _ hx _ _ => (hg ..).trans hx)

section
variable {K : Nat → Prop} {b c : Body}

theorem Spares.setRates (h : Spares K b c) (hk : ∀ i ∈ [0x0A07, 0x0A32], ∀ j, j < 256 → ¬ K (key i j)) : Spares K b c.setRates :=
  Spares.setReg (h.foldl _ fun x hx p hp => by
    have := mem_upFrom hp
    exact hx.setReg _ _ (hk _ (by decide) _ (by omega))) _ _ (hk _ (by decide) _ (by decide))

theorem Spares.flowCause (h : Spares K b c) (e : Env) (f bitNo : Nat) (hk : ¬ K (key 0x0A24 (f + 1)))
    (hK : ∀ k, K k → k < 0x030800 ∨ 0x031000 ≤ k) : Spares K b (c.flowCause e f bitNo) := h.setCause e _ _ _ _ hk hK

theorem Body.flowCause_media (b : Body) (e : Env) (f bitNo : Nat) : (b.flowCause e f bitNo).media = b.media := Body.setCause_media ..

theorem Body.bit_flowCause (b : Body) (e : Env) (f bitNo : Nat) : bit ((b.flowCause e f bitNo).regN 0x0A24 (f + 1)) bitNo = true := by
  rw [Body.flowCause, Body.regN_setCause_same]
  exact bit_lor_two_pow ..

theorem Body.bit_flowCause_of_bit {b : Body} {f i : Nat} (h : bit (b.regN 0x0A24 (f + 1)) i = true) (e : Env) (bitNo : Nat) :
    bit ((b.flowCause e f bitNo).regN 0x0A24 (f + 1)) i = true := by
  rw [Body.flowCause, Body.regN_setCause_same]
  exact bit_lor_of_left _ h

end

/-- The wire rate of flow f in its entry, as the checks of its admission find it. -/
def Body.rated (b : Body) (f : Nat) : Body := b.setReg 0x0A20 (f + 1) (b.wireRate f : Nat)

/-- The entries of flow f as its admission leaves them. -/
def Body.admittedFlow (b : Body) (f : Nat) : Body := (((b.rated f).setReg 0x0A1F (f + 1) 0).setReg 0x0A1E (f + 1) 1).setRates

/-- The receiver of a flow admitted now. -/
def FlowRx.admitted (e : Env) (legs : List Leg) : FlowRx :=
  ⟨[], 0, [], [], legs.map (fun _ => e.tb), legs.map (fun _ => false), some e.tb⟩

/-- Flow f with its receiver, before it has sent a report: no join of it is cancelled any more. -/
def Body.joined (b : Body) (e : Env) (f : Nat) : Body :=
  let c := (b.rated f).noteLegs e f (b.admittedFlow f)
  { c with media := { c.media with unjoin := c.media.unjoin.filter (fun q => q.1 != f) } }.setRx f (FlowRx.admitted e ((b.rated f).legs f))

section
variable {e : Env} {f : Nat} {b : Body}

theorem flowAdmit_of_ok (hnew : b.regN 0x0A1E (f + 1) ≠ 1) (hok : (b.rated f).admitResult f = 0) :
    flowAdmit e f b = ((b.joined e f).reportFlow e f, wrote stOK) := by
  unfold Body.rated at hok
  unfold flowAdmit
  rw [if_neg hnew]
  simp only [hok]
  rfl

theorem flowAdmit_of_refused (hnew : b.regN 0x0A1E (f + 1) ≠ 1) {res : Nat} (hres : (b.rated f).admitResult f = res) (hbad : res ≠ 0) :
    flowAdmit e f b = (((b.rated f).setReg 0x0A1F (f + 1) (res : Nat)).flowCause e f 0, wrote stOK) := by
  unfold Body.rated at hres
  unfold flowAdmit
  rw [if_neg hnew]
  simp only [hres]
  rfl

theorem Body.reportFlow_sends (b : Body) (e : Env) (f : Nat) : Sends b (b.reportFlow e f) := Sends.foldl (fun x l => x.reportLeg_sends e l) _ _

theorem Body.joined_spares (K : Nat → Prop) (b : Body) (e : Env) (f : Nat) : Spares K (b.admittedFlow f) (b.joined e f) :=
  ((((b.rated f).noteLegs_notesModes e f (b.admittedFlow f)).spares K).withMedia _).withMedia _

theorem Body.rx_joined (b : Body) (e : Env) (f : Nat) : (b.joined e f).rx? f = some (FlowRx.admitted e ((b.rated f).legs f)) :=
  mfind_minsert_same ..

end

theorem State.admitResult_accepting (s : State) (r : Req) (x : Session) (f : Nat) :
    ((s.accepting r x).rated f).admitResult f = (s.b.rated f).admitResult f := rfl

end Sys2Proof.Machine

namespace Sys2Proof.Machine

/-! ## The deletion of a flow (R339) -/

/-- Every leg of flow f leaves its group. -/
def Body.leaveGroups (b : Body) (e : Env) (f : Nat) : Body :=
  (b.legs f).foldl (fun x l => if isMulticast l.dst then x.report e l.port 3 l.dst [] else x) b

/-- What is left of flow f without its receiver, its media unit being m. -/
def Body.deleted (b : Body) (e : Env) (f : Nat) (m : Media) : Body :=
  ((({ b.leaveGroups e f with media := m }.setReg 0x0A1E (f + 1) 0).setRates).releaseRing e 1 f)

section
variable {b : Body} {e : Env} {f : Nat}

theorem Body.leaveLeg_sends (b : Body) (e : Env) (l : Leg) :
    Sends b (if isMulticast l.dst then b.report e l.port 3 l.dst [] else b) := by
  split
  · exact b.report_sends ..
  · exact Sends.refl b

theorem Body.leaveGroups_sends (b : Body) (e : Env) (f : Nat) : Sends b (b.leaveGroups e f) :=
  Sends.foldl (fun x l => x.leaveLeg_sends e l) _ _

theorem Body.leaveGroups_mem {l : Leg} (hl : l ∈ b.legs f) (hgroup : isMulticast l.dst = true) (hup : b.portUp l.port = true)
    (hleave : l.dst.length = 16 ∨ b.version e l.port (l.dst.length == 16) ≠ 1) :
    Out.report l.port (l.dst.length == 16) (b.version e l.port (l.dst.length == 16)) 3 l.dst [] ∈ (b.leaveGroups e f).out := by
  refine Sends.mem_foldl (fun x l => x.leaveLeg_sends e l) hl b fun x hx => ?_
  rw [if_pos hgroup]
  have hsent := hx.report_mem (kind := 3) [] hup (.inr hleave)
  rwa [Body.namedSources, ite_self] at hsent

theorem flowDelete_of_isSome (h : (b.rx? f).isSome = true) :
    ∃ m, m.rx = merase f b.media.rx ∧ flowDelete e f b = (b.deleted e f m, wrote stOK) := by
  obtain ⟨y, hy⟩ := Option.isSome_iff_exists.mp h
  unfold flowDelete
  simp only [hy]
  exact ⟨_, congrArg (fun m : Media => merase f m.rx) (b.leaveGroups_sends e f).media, rfl⟩

/-- The entry of the flow's state as its deletion writes it; no other but the rates, the cause and tally of a premature release. -/
theorem Body.deleted_spares {K : Nat → Prop} (b : Body) (e : Env) (f : Nat) (m : Media)
    (hk : ∀ i ∈ [0x0A07, 0x0A32, 0x0C1B, 0x0C5B], ∀ j, j < 256 → ¬ K (key i j)) (hK : ∀ k, K k → k < 0x030800 ∨ 0x031000 ≤ k) :
    Spares K ({ b.leaveGroups e f with media := m }.setReg 0x0A1E (f + 1) 0) (b.deleted e f m) :=
  ((Spares.refl K _).setRates fun i hi => hk i (List.mem_append_left [0x0C1B, 0x0C5B] hi)).releaseAll e _
    (fun i hi => hk i (List.mem_append_right [0x0A07, 0x0A32] hi)) hK

theorem Body.deleted_media (b : Body) (e : Env) (f : Nat) (m : Media) : (b.deleted e f m).media = m :=
  (Body.releaseAll_media ..).trans (Body.setRates_keeps Body.media (fun _ _ _ _ => rfl) _)

end

/-! ## The second report (R338) -/

/-- The second join report of flow f, its receiver being y: of every leg whose join was not cancelled. -/
def Body.joinRepeated (b : Body) (e : Env) (f : Nat) (y : FlowRx) : Body :=
  (((b.legs f).zip [0, 1]).filter (fun q => !(b.media.unjoin.contains (f, q.2)))).foldl (fun z q => z.reportLeg e q.1)
    (b.setRx f { y with joinTb := none })

section
variable {b : Body} {e : Env} {f : Nat} {y : FlowRx}

theorem joinRepeat_of_due {k : Nat} (hy : b.rx? f = some y) (hk : y.joinTb = some k) (hdue : e.after k 1000000000 = true) :
    joinRepeat e f b = (b.noteLegs e f b).joinRepeated e f y := by
  have hnoted := ((b.noteLegs_notesModes e f b).rx f).trans hy
  unfold Body.noteLegs at hnoted
  unfold joinRepeat
  simp only [hnoted, hk, hdue, if_true]
  rfl

theorem Body.joinRepeated_sends (b : Body) (e : Env) (f : Nat) (y : FlowRx) :
    Sends (b.setRx f { y with joinTb := none }) (b.joinRepeated e f y) :=
  Sends.foldl (fun z (q : Leg × Nat) => z.reportLeg_sends e q.1) _ _

theorem Body.rx_joinRepeated (b : Body) (e : Env) (f : Nat) (y : FlowRx) : (b.joinRepeated e f y).rx? f = some { y with joinTb := none } := by
  rw [Body.rx?, (b.joinRepeated_sends e f y).media]
  exact mfind_minsert_same ..

theorem Body.length_legs_le (b : Body) (f : Nat) : (b.legs f).length ≤ 2 := by
  unfold Body.legs
  dsimp only
  split
  · exact Nat.le_succ 1
  · exact Nat.le_refl 2

theorem Body.joinRepeated_mem {l : Leg} (hl : l ∈ b.legs f) (hkeep : ∀ k, (f, k) ∉ b.media.unjoin) (hgroup : isMulticast l.dst = true)
    (hup : b.portUp l.port = true) :
    ∃ srcs, Out.report l.port (l.dst.length == 16) (b.version e l.port (l.dst.length == 16)) (if l.src = [] then 2 else 1) l.dst srcs ∈
      (b.joinRepeated e f y).out := by
  rw [← List.map_fst_zip (l₁ := b.legs f) (l₂ := [0, 1]) (b.length_legs_le f)] at hl
  obtain ⟨q, hq, rfl⟩ := List.mem_map.mp hl
  have hrepeats : q ∈ ((b.legs f).zip [0, 1]).filter (fun q => !(b.media.unjoin.contains (f, q.2))) :=
    List.mem_filter.mpr ⟨hq, by simpa using hkeep q.2⟩
  exact ⟨_, Sends.mem_foldl (fun z q => z.reportLeg_sends e q.1) hrepeats _ fun x hx =>
    Sends.reportLeg_mem (b := b.setRx f { y with joinTb := none }) hx hgroup hup⟩

end

/-! ## The answer to a query (R338) -/

/-- An answer is no longer owed. -/
def Body.withoutQuery (b : Body) (q : Query) : Body :=
  { b with media := { b.media with queries := b.media.queries.filter (fun (y : Query) => y != q) } }

section
variable {b : Body} {e : Env} {p : Nat} {v6 : Bool} {g : Bytes} {q : Query}

theorem Body.not_mem_queries_of_none (hq : b.query? p v6 g = some q) {c : Body} (hc : c.query? p v6 g = none) : q ∉ c.media.queries := by
  have hmatch := List.find?_some hq
  exact fun hmem => List.find?_eq_none.mp hc q hmem hmatch

theorem Body.not_mem_withoutQuery (b : Body) (q : Query) : q ∉ (b.withoutQuery q).media.queries :=
  fun hmem => absurd (List.mem_filter.mp hmem).2 (by simp)

theorem queryTimer_of_cancelled (h : (b.noteMode e p v6).query? p v6 g = none) : queryTimer e p v6 g b = b.noteMode e p v6 := by
  unfold queryTimer
  simp only [h]

theorem queryTimer_of_early (hn : b.noteMode e p v6 = b) (hq : b.query? p v6 g = some q) (hdue : e.tb < q.due) : queryTimer e p v6 g b = b := by
  unfold queryTimer
  simp only [hn, hq, if_pos hdue]

theorem queryTimer_of_due (hn : b.noteMode e p v6 = b) (hq : b.query? p v6 g = some q) (hdue : q.due ≤ e.tb) :
    queryTimer e p v6 g b = if g = [] then
      (((b.withoutQuery q).groups p v6).filter (fun g => !(q.muted.contains g))).foldl (fun x g => x.answerGroup e p [] g) (b.withoutQuery q)
      else (b.withoutQuery q).answerGroup e p q.sources g := by
  unfold queryTimer
  simp only [hn, hq, if_neg (Nat.not_lt.mpr hdue)]
  rfl

theorem queryTimer_sends (hn : b.noteMode e p v6 = b) (hq : b.query? p v6 g = some q) (hdue : q.due ≤ e.tb) :
    Sends (b.withoutQuery q) (queryTimer e p v6 g b) := by
  rw [queryTimer_of_due hn hq hdue]
  split
  · exact Sends.foldl (fun x g => x.answerGroup_sends e p [] g) _ _
  · exact Body.answerGroup_sends ..

theorem Body.answerGroup_of_whole (h : b.groupSources p g = none) : b.answerGroup e p [] g = b.report e p 2 g [] := by
  unfold Body.answerGroup
  dsimp only
  rw [h, ite_self]

end

/-! ## A silent leg (R332) -/

theorem getElem?_setAt_same {α : Type} (v : α) : ∀ (l : List α) (i : Nat), i < l.length → (setAt l i v)[i]? = some v
  | [], _, h => absurd h (Nat.not_lt_zero _)
  | _ :: _, 0, _ => rfl
  | _ :: xs, i + 1, h => getElem?_setAt_same v xs i (Nat.lt_of_succ_lt_succ h)

/-- Leg l of flow f has fallen silent, its receiver having been y. -/
def Body.legSilent (b : Body) (e : Env) (f l : Nat) (y : FlowRx) : Body :=
  (b.setRx f { y with silent := setAt y.silent l true }).flowCause e f 1

section
variable {b : Body} {e : Env} {f l : Nat} {y : FlowRx}

theorem Body.rx_legSilent (b : Body) (e : Env) (f l : Nat) (y : FlowRx) :
    (b.legSilent e f l y).rx? f = some { y with silent := setAt y.silent l true } := by
  rw [Body.rx?, Body.legSilent, Body.flowCause_media]
  exact mfind_minsert_same ..

theorem legTimeout_of_after {k : Nat} (hy : b.rx? f = some y) (htb : y.legTb[l]? = some k) (hheard : y.silent[l]? = some false)
    (hdue : e.after k b.silenceNs = true) :
    legTimeout e f l b = if (setAt y.silent l true).all id then (b.legSilent e f l y).flowCause e f 2 else b.legSilent e f l y := by
  unfold legTimeout
  simp only [hy, htb, hheard, hdue, if_true]
  rfl

end

/-! ## Frames past their limits (R333) -/

section
variable {b : Body} {e : Env} {f : Nat}

theorem Body.rx_discardFrame {x : FlowRx} (h : b.rx? f = some x) (e : Env) (r : RxFrame) :
    (b.discardFrame e f r false).rx? f = some (x.end r.ts) := by
  unfold Body.discardFrame
  simp only [h]
  split
  · rw [if_neg Bool.false_ne_true, Body.rx?, Body.flowCause_media]
    exact mfind_minsert_same ..
  · exact mfind_minsert_same ..

/-- Of the frames in progress those discarded are gone, and no other has come. -/
theorem Body.rx_foldl_discardFrame (e : Env) (f : Nat) (l : List RxFrame) : ∀ {b : Body} {x : FlowRx}, b.rx? f = some x →
    ∃ z, (l.foldl (fun y r => y.discardFrame e f r false) b).rx? f = some z ∧ ∀ q ∈ z.frames, q ∈ x.frames ∧ q ∉ l := by
  induction l with
  | nil => exact fun h => ⟨_, h, fun q hq => ⟨hq, List.not_mem_nil⟩⟩
  | cons r l ih =>
    intro b x h
    obtain ⟨z, hz, hframes⟩ := ih (Body.rx_discardFrame h e r)
    refine ⟨z, hz, fun q hq => ?_⟩
    obtain ⟨hkept, hother⟩ := hframes q hq
    obtain ⟨hmem, hts⟩ := List.mem_filter.mp hkept
    refine ⟨hmem, fun hgone => ?_⟩
    rcases List.mem_cons.mp hgone with rfl | hlater
    · simp at hts
    · exact hother hlater

theorem Spares.discardFrame {K : Nat → Prop} {c : Body} (h : Spares K b c) (e : Env) (f : Nat) (r : RxFrame)
    (hk : ∀ i ∈ [0x0A22, 0x0A24], ¬ K (key i (f + 1))) (hK : ∀ k, K k → k < 0x030800 ∨ 0x031000 ≤ k) :
    Spares K b (c.discardFrame e f r false) := by
  unfold Body.discardFrame
  split
  · exact h
  · next x _ =>
    have hended : Spares K b { c.setRx f (x.end r.ts) with lay := { c.lay with bufs := merase r.buf c.lay.bufs } } := h.same rfl rfl rfl rfl
    exact Spares.ite ((hended.bump _ _ _ (hk _ (by decide))).flowCause e f 3 (hk _ (by decide)) hK) hended

theorem Spares.countRepaired {K : Nat → Prop} (b : Body) (e : Env) (f : Nat) (x : FlowRx) (hk : ¬ K (key 0x0A23 (f + 1))) :
    Spares K b (b.countRepaired e f x).1 := by
  unfold Body.countRepaired
  dsimp only
  split
  · exact Spares.refl K b
  · exact (Spares.refl K b).bump _ _ _ hk

theorem Body.overdue_countRepaired (hf : f < 16) (b : Body) (e : Env) (x : FlowRx) : (b.countRepaired e f x).1.overdue e = b.overdue e := by
  have hlimits := (Spares.countRepaired (K := fun k => 0x0A3000 ≤ k) b e f x (by unfold key; omega)).regs
  funext r
  unfold Body.overdue Body.silenceNs Body.skewNs
  rw [hlimits.regN (i := 0x0A30) (j := 0) (by unfold key; omega), hlimits.regN (i := 0x0A31) (j := 0) (by unfold key; omega)]

/-- The frames past a limit are discarded, and those alone stay that are past none. -/
theorem incompleteDiscard_rx (hf : f < 16) (h : (b.rx? f).isSome = true) (e : Env) :
    ∃ z, (incompleteDiscard e f b).rx? f = some z ∧ ∀ q ∈ z.frames, b.overdue e q = false := by
  obtain ⟨x, hx⟩ := Option.isSome_iff_exists.mp h
  obtain ⟨z, hz, hframes⟩ := Body.rx_foldl_discardFrame e f (((b.countRepaired e f x).2.frames.filter ((b.countRepaired e f x).1.overdue e)))
    (b := (b.countRepaired e f x).1.setRx f (b.countRepaired e f x).2) (mfind_minsert_same ..)
  refine ⟨z, by simp only [incompleteDiscard, hx]; exact hz, fun q hq => ?_⟩
  obtain ⟨hmem, hstays⟩ := hframes q hq
  rw [Body.overdue_countRepaired hf, List.mem_filter] at hstays
  exact Bool.eq_false_iff.mpr fun hlate => hstays ⟨hmem, hlate⟩

theorem Spares.incompleteDiscard {K : Nat → Prop} (b : Body) (e : Env) (f : Nat)
    (hk : ∀ i ∈ [0x0A22, 0x0A23, 0x0A24], ¬ K (key i (f + 1))) (hK : ∀ k, K k → k < 0x030800 ∨ 0x031000 ≤ k) :
    Spares K b (Machine.incompleteDiscard e f b) := by
  unfold Machine.incompleteDiscard
  split
  · exact Spares.refl K b
  · next x _ =>
    have hcounted := (Spares.countRepaired b e f x (hk _ (by decide))).withMedia
      { (b.countRepaired e f x).1.media with rx := minsert f (b.countRepaired e f x).2 (b.countRepaired e f x).1.media.rx }
    exact hcounted.foldl _ fun y hy r _ => hy.discardFrame e f r (fun i hi => hk i (by simp at hi ⊢; omega)) hK

end

end Sys2Proof.Machine

namespace Sys2Proof.Machine

/-! ## Flows are admitted, deleted and watched (R332, R333, R336 to R339) -/

section
variable {s : State} {r : Req} {x : Session} {f : Nat}

theorem Body.reg_admittedFlow (b : Body) {f i : Nat} (h07 : i ≠ 0x0A07) (h32 : i ≠ 0x0A32) (hf : f < 16) :
    (b.admittedFlow f).reg i (f + 1) = (((b.rated f).setReg 0x0A1F (f + 1) 0).setReg 0x0A1E (f + 1) 1).reg i (f + 1) := by
  have hkeeps := ((Spares.refl (· = key i (f + 1)) (((b.rated f).setReg 0x0A1F (f + 1) 0).setReg 0x0A1E (f + 1) 1)).setRates
    fun j hj k hk => by simp at hj; unfold key; omega).regs
  exact hkeeps _ _ rfl

theorem Spares.admittedFlow {b : Body} (hf : f < 16) : Spares (FrameKey [0x0A07, 0x0A1E, 0x0A1F, 0x0A20, 0x0A32]) b (b.admittedFlow f) := by
  have hkey : ∀ i ∈ [0x0A07, 0x0A1E, 0x0A1F, 0x0A20, 0x0A32], ∀ j, j < 256 → ¬ FrameKey [0x0A07, 0x0A1E, 0x0A1F, 0x0A20, 0x0A32] (key i j) :=
    fun i hi j hj => not_frameKey_key hi hj
  refine Spares.setRates ((((Spares.refl _ b).setReg _ _ ?_).setReg _ _ ?_).setReg _ _ ?_) fun i hi => hkey i (by simp at hi ⊢; omega)
  · exact hkey _ (by decide) _ (by omega)
  · exact hkey _ (by decide) _ (by omega)
  · exact hkey _ (by decide) _ (by omega)

theorem flowAdmit_admits (hf : f < 16) (hg : Grants s r 0x0A1E (f + 1) (.n 1) x) (hnew : s.b.regN 0x0A1E (f + 1) ≠ 1)
    (hok : (s.b.rated f).admitResult f = 0) :
    ∃ t, exec (.flowAdmit r f) s = .next t ∧ Answered t r (wrote stOK) ∧ t.b.reg 0x0A1E (f + 1) = 1 ∧ t.b.reg 0x0A1F (f + 1) = 0 ∧
      t.b.regN 0x0A20 (f + 1) = s.b.wireRate f ∧ (∃ y, t.b.rx? f = some y ∧ y.kept = [] ∧ y.frames = [] ∧ y.joinTb = some s.clk.tb) ∧
      Frame s t [0x0A07, 0x0A1E, 0x0A1F, 0x0A20, 0x0A32] := by
  have hsends := ((s.accepting r x).joined s.env f).reportFlow_sends s.env f
  have hafter (K : Nat → Prop) := ((s.accepting r x).joined_spares K s.env f).trans (hsends.spares K)
  have hreply := serveWrite_repliesAfter (h := fun _ => flowAdmit s.env f) hg
    (flowAdmit_of_ok (b := s.accepting r x) hnew ((s.admitResult_accepting r x f).trans hok))
    (((Spares.admittedFlow hf).trans (hafter _)).sess _ (s.sess_accepting r x))
  have hentry {i : Nat} (h07 : i ≠ 0x0A07) (h32 : i ≠ 0x0A32) (hi : 0x0310 ≤ i) := calc
    (serveWrite s.env r 0x0A1E (f + 1) (.n 1) (fun _ => flowAdmit s.env f) s.b).reg i (f + 1)
      = _ := hreply.reg i (f + 1) (.inr (by unfold key; omega))
    _ = ((s.accepting r x).admittedFlow f).reg i (f + 1) := (hafter (· = key i (f + 1))).regs i (f + 1) rfl
    _ = _ := Body.reg_admittedFlow _ h07 h32 hf
  refine ⟨{ s with b := serveWrite s.env r 0x0A1E (f + 1) (.n 1) (fun _ => flowAdmit s.env f) s.b }, rfl, hreply.answered, ?_, ?_, ?_,
    ⟨FlowRx.admitted s.env ((s.b.rated f).legs f), ?_, rfl, rfl, rfl⟩, hreply.frame_of_spares ((Spares.admittedFlow hf).trans (hafter _))⟩
  · rw [hentry (by decide) (by decide) (by decide)]
    exact Body.reg_setReg_same ..
  · rw [hentry (by decide) (by decide) (by decide), Body.reg_setReg_ne _ _ (by unfold key; omega)]
    exact Body.reg_setReg_same ..
  · rw [Body.regN, hentry (by decide) (by decide) (by decide), Body.reg_setReg_ne _ _ (by unfold key; omega),
      Body.reg_setReg_ne _ _ (by unfold key; omega)]
    exact Body.regN_setReg_same ..
  · rw [Body.rx?, hreply.media, hsends.media]
    exact Body.rx_joined ..

theorem Spares.refused (hf : f < 16) (b : Body) (e : Env) (res : Nat) :
    Spares (FrameKey [0x0A1F, 0x0A20, 0x0A24]) b (((b.rated f).setReg 0x0A1F (f + 1) (res : Nat)).flowCause e f 0) := by
  have hkey : ∀ i ∈ [0x0A1F, 0x0A20, 0x0A24], ¬ FrameKey [0x0A1F, 0x0A20, 0x0A24] (key i (f + 1)) :=
    fun i hi => not_frameKey_key hi (by omega)
  have hresult := ((Spares.refl _ b).setReg 0x0A20 (f + 1) (v := (b.wireRate f : Nat)) (hkey _ (by decide))).setReg 0x0A1F (f + 1)
    (v := (res : Nat)) (hkey _ (by decide))
  exact hresult.flowCause e f 0 (hkey _ (by decide)) fun _ => FrameKey.not_status

theorem Body.regN_refused (b : Body) (e : Env) (f res : Nat) :
    ((b.setReg 0x0A1F (f + 1) (res : Nat)).flowCause e f 0).regN 0x0A1F (f + 1) = res := by
  have hkept := ((Spares.refl (· = key 0x0A1F (f + 1)) (b.setReg 0x0A1F (f + 1) (res : Nat))).flowCause e f 0 (by unfold key; omega)
    (by unfold key; omega)).regs
  exact (hkept.regN rfl).trans (Body.regN_setReg_same ..)

theorem flowAdmit_refuses (hf : f < 16) {res : Nat} (hg : Grants s r 0x0A1E (f + 1) (.n 1) x) (hnew : s.b.regN 0x0A1E (f + 1) ≠ 1)
    (hres : (s.b.rated f).admitResult f = res) (hbad : res ≠ 0) :
    ∃ t, exec (.flowAdmit r f) s = .next t ∧ Answered t r (wrote stOK) ∧ t.b.regN 0x0A1F (f + 1) = res ∧
      bit (t.b.regN 0x0A24 (f + 1)) 0 = true ∧ t.b.media = s.b.media ∧ Frame s t [0x0A1F, 0x0A20, 0x0A24] := by
  have hrefused := Spares.refused hf (s.accepting r x) s.env res
  have hreply := serveWrite_repliesAfter (h := fun _ => flowAdmit s.env f) hg
    (flowAdmit_of_refused (b := s.accepting r x) hnew ((s.admitResult_accepting r x f).trans hres) hbad) (hrefused.sess _ (s.sess_accepting r x))
  refine ⟨{ s with b := serveWrite s.env r 0x0A1E (f + 1) (.n 1) (fun _ => flowAdmit s.env f) s.b }, rfl, hreply.answered, ?_, ?_,
    hreply.media.trans (Body.flowCause_media ..), hreply.frame_of_spares hrefused⟩
  · rw [hreply.regN (.inr (by unfold key; omega))]
    exact Body.regN_refused ..
  · rw [hreply.regN (.inr (by unfold key; omega))]
    exact Body.bit_flowCause ..

theorem flowDelete_deletes (hf : f < 16) (hg : Grants s r 0x0A1E (f + 1) (.n 0) x) (hrx : (s.b.rx? f).isSome = true) :
    ∃ t, exec (.flowDelete r f) s = .next t ∧ Answered t r (wrote stOK) ∧ t.b.reg 0x0A1E (f + 1) = 0 ∧ t.b.rx? f = none ∧
      (∀ l ∈ s.b.legs f, isMulticast l.dst = true → s.b.portUp l.port = true → l.dst.length = 16 ∨ s.b.version s.env l.port (l.dst.length == 16) ≠ 1 →
        Out.report l.port (l.dst.length == 16) (s.b.version s.env l.port (l.dst.length == 16)) 3 l.dst [] ∈ t.b.out) ∧ KeepsMemory s t := by
  obtain ⟨m, hm, hdelete⟩ := flowDelete_of_isSome (b := s.accepting r x) (e := s.env) hrx
  have hleft := (((s.accepting r x).leaveGroups_sends s.env f).spares (· = key 0x0A1E (f + 1))).withMedia m
  have hafter := (s.accepting r x).deleted_spares s.env f m (K := (· = key 0x0A1E (f + 1)))
    (fun i hi j hj => by simp at hi; unfold key; omega) (by unfold key; omega)
  have hreply := serveWrite_repliesAfter (h := fun _ => flowDelete s.env f) hg hdelete
    (hafter.sess _ (hleft.sess _ (s.sess_accepting r x)))
  refine ⟨{ s with b := serveWrite s.env r 0x0A1E (f + 1) (.n 0) (fun _ => flowDelete s.env f) s.b }, rfl, hreply.answered, ?_, ?_,
    fun l hl hgroup hup hversion => ?_, fun a => congrArg (mgetD 0 a) ?_, rfl, rfl⟩
  · rw [hreply.reg _ _ (.inr (by unfold key; omega)), hafter.regs _ _ rfl]
    exact Body.reg_setReg_same ..
  · rw [Body.rx?, hreply.media, Body.deleted_media, hm]
    exact mfind_merase_same ..
  · exact hreply.out (hafter.out (Body.leaveGroups_mem (b := s.accepting r x) hl hgroup hup hversion))
  · exact hreply.mem.trans (hafter.mem.trans hleft.mem)

theorem joinRepeat_repeats {y : FlowRx} {k : Nat} (hy : s.b.rx? f = some y) (hk : y.joinTb = some k) (hdue : s.env.after k 1000000000 = true) :
    ∃ t z, exec (.joinReportRepeat f) s = .next t ∧ t.b.rx? f = some z ∧ z.joinTb = none ∧
      ((∀ l ∈ s.b.legs f, s.b.noteMode s.env l.port (l.dst.length == 16) = s.b) → (∀ k, (f, k) ∉ s.b.media.unjoin) →
        ∀ l ∈ s.b.legs f, isMulticast l.dst = true → s.b.portUp l.port = true →
        ∃ srcs, Out.report l.port (l.dst.length == 16) (s.b.version s.env l.port (l.dst.length == 16)) (if l.src = [] then 2 else 1) l.dst srcs ∈ t.b.out) ∧
      Frame s t [] := by
  refine ⟨_, _, State.act_eq s (joinRepeat_of_due hy hk hdue), Body.rx_joinRepeated .., rfl, fun hmodes hkeep l hl hgroup hup => ?_, ?_⟩
  · rw [Body.noteLegs_of_unchanged hmodes]
    exact Body.joinRepeated_mem hl hkeep hgroup hup
  · exact ((((s.b.noteLegs_notesModes s.env f s.b).spares _).withMedia _).trans ((Body.joinRepeated_sends ..).spares _)).frame

theorem queryTimer_answers {p : Nat} {v6 : Bool} {g : Bytes} {q : Query} (hq : s.b.query? p v6 g = some q) (hdue : q.due ≤ s.clk.tb) :
    ∃ t, exec (.queryResponseTimer p v6 g) s = .next t ∧ q ∉ t.b.media.queries ∧
      (s.b.noteMode s.env p v6 = s.b → g ≠ [] → q.sources = [] → s.b.groupSources p g = none → s.b.portUp p = true →
        Out.report p (g.length == 16) (s.b.version s.env p (g.length == 16)) 2 g [] ∈ t.b.out) ∧ Frame s t [] := by
  refine ⟨{ s with b := queryTimer s.env p v6 g s.b }, rfl, ?_⟩
  rcases s.b.noteMode_eq_or_query_none s.env p v6 g with hn | hcancelled
  · have hsends := queryTimer_sends hn hq hdue
    refine ⟨?_, fun _ hgroup hwhole hany hup => ?_, (((Spares.refl _ s.b).withMedia _).trans (hsends.spares _)).frame⟩
    · rw [hsends.media]
      exact s.b.not_mem_withoutQuery q
    · have hsent := Sends.report_mem (e := s.env) (p := p) (kind := 2) (group := g) (Sends.refl (s.b.withoutQuery q)) [] hup (.inl (by decide))
      rw [Body.namedSources, ite_self, ← Body.answerGroup_of_whole (b := s.b.withoutQuery q) hany] at hsent
      rw [queryTimer_of_due hn hq hdue, if_neg hgroup, hwhole]
      exact hsent
  · rw [queryTimer_of_cancelled hcancelled]
    refine ⟨Body.not_mem_queries_of_none hq hcancelled, fun hn => ?_, ((s.b.noteMode_notesModes s.env p v6).spares _).frame⟩
    rw [hn, hq] at hcancelled
    exact nomatch hcancelled

theorem legTimeout_tells (hf : f < 16) {y : FlowRx} {l k : Nat} (hy : s.b.rx? f = some y) (htb : y.legTb[l]? = some k)
    (hheard : y.silent[l]? = some false) (hdue : s.env.after k s.b.silenceNs = true) :
    ∃ t z, exec (.legTimeout f l) s = .next t ∧ t.b.rx? f = some z ∧ z.silent[l]? = some true ∧ bit (t.b.regN 0x0A24 (f + 1)) 1 = true ∧
      Frame s t [0x0A24] := by
  have hkey : ¬ FrameKey [0x0A24] (key 0x0A24 (f + 1)) := not_frameKey_key (by decide) (by omega)
  obtain ⟨hl, -⟩ := List.getElem?_eq_some_iff.mp hheard
  have hsilent : Spares (FrameKey [0x0A24]) s.b (s.b.legSilent s.env f l y) :=
    ((Spares.refl _ s.b).withMedia _).flowCause s.env f 1 hkey fun _ => FrameKey.not_status
  refine ⟨_, { y with silent := setAt y.silent l true }, State.act_eq s (legTimeout_of_after hy htb hheard hdue), ?_,
    getElem?_setAt_same true _ _ hl, ?_, (hsilent.flowCause s.env f 2 hkey fun _ => FrameKey.not_status).ite hsilent |>.frame⟩
  · dsimp only
    split
    · rw [Body.rx?, Body.flowCause_media]
      exact Body.rx_legSilent ..
    · exact Body.rx_legSilent ..
  · dsimp only
    split
    · exact Body.bit_flowCause_of_bit (Body.bit_flowCause ..) ..
    · exact Body.bit_flowCause ..

theorem incompleteDiscard_discards (hf : f < 16) (hrx : (s.b.rx? f).isSome = true) :
    ∃ t z, exec (.incompleteFrameDiscard f) s = .next t ∧ t.b.rx? f = some z ∧ (∀ q ∈ z.frames, s.b.overdue s.env q = false) ∧
      Frame s t [0x0A22, 0x0A23, 0x0A24] := by
  obtain ⟨z, hz, hframes⟩ := incompleteDiscard_rx hf hrx s.env
  exact ⟨{ s with b := incompleteDiscard s.env f s.b }, z, rfl, hz, hframes,
    (Spares.incompleteDiscard s.b s.env f (fun i hi => not_frameKey_key hi (by omega)) fun _ => FrameKey.not_status).frame⟩

end

/-- Settles O49: each command by what it makes of the body, a reply, a report and a notice of a change of mode touching no entry and no memory. -/
theorem flowsAreAdmittedAndWatched : Obligations.FlowsAreAdmittedAndWatched := by
  unfold Obligations.FlowsAreAdmittedAndWatched
  rintro s r x f res hf hres
  exact ⟨fun hg hnew hok => flowAdmit_admits hf hg hnew (hres.symm.trans hok), fun hg hnew hbad => flowAdmit_refuses hf hg hnew hres.symm hbad,
    flowDelete_deletes hf, fun _ _ => joinRepeat_repeats, fun _ _ _ _ => queryTimer_answers,
    fun _ _ _ _ hn hq hearly => State.act_eq s (queryTimer_of_early hn hq hearly), fun _ _ _ => legTimeout_tells hf,
    incompleteDiscard_discards hf⟩

end Sys2Proof.Machine
